-- ==== Sys2Proof/Word.lean ====
section
/-! DEFINITION. The word types of the module and the plainest arithmetic over them. -/

namespace Sys2Proof

/-- A byte of memory, of a packet or of a record. -/
abbrev Byte := BitVec 8

/-- A string of bytes, the lowest address first (R8: multi-byte fields are little-endian). -/
abbrev Bytes := List (BitVec 8)

/-- A lane of a vector register, a completion counter, an element of an accumulator tile (R114). -/
abbrev Word32 := BitVec 32

/-- A scalar register s0 to s31 (R114). -/
abbrev Word64 := BitVec 64

/-- A vector register: 1,024 lanes of 32 bits, lane 0 least significant (R114, R135). -/
abbrev VReg := BitVec 32768

/-- A predicate register: one bit per lane (R114). -/
abbrev PReg := BitVec 1024

end Sys2Proof
end

