-- ==== Sys2Proof/Syntax.lean ====
section
/-! DEFINITION. The commands of the module: one constructor of `Instr` per row of spec/opcode_table.json, with the
row's operands.  Where a step depends on what the world outside the model does (bytes that arrive, a physical fault of an
array, a reading of a sensor), that is an operand of the command. -/

namespace Sys2Proof

/-- Who makes a register access (R9, R319): the host, the management cores, CT, SC, DB, or a tile's own program. -/
inductive Master where
  | host | mg | ct | sc | db | tile
  deriving DecidableEq, Repr

/-- Where in the matrix array a physical fault acts (R99, R101): on a column's exact chunk sum (a product or an adder), on
the checksum lane's own sum, on one of the two rounding and accumulate paths, or on a path's addend step. -/
inductive ArrayStage where
  | product | lane | path1 | path2 | addend1 | addend2
  deriving DecidableEq, Repr

/-- One physical fault of a tile's array during one operation: at row, chunk and column, changing the exact sum by
`delta` units of 2^-298, or of 1 in an integer class (product and lane stages), or the binary32 result by the exclusive or with `flip` (path stages). -/
structure ArrayFault where
  stage : ArrayStage
  row : Nat
  chunk : Nat
  col : Nat
  delta : Int
  flip : Word32
  deriving DecidableEq, Repr

/-- What reading the power-good of a rail, a training run or another physical process gave. -/
inductive Result where
  | pass | fail
  deriving DecidableEq, Repr

/-- The fields of a PTP message that the slave of R381 uses. -/
structure PtpMsg where
  source : Nat
  domain : Nat
  /-- It came over Annex E (R381), not Annex C. -/
  ethernet : Bool
  seq : Nat
  twoStep : Bool
  origin : Nat
  correction : Int
  logInterval : Int
  deriving DecidableEq, Repr

/-- The data set of a PTP Announce message, in the order in which IEEE 1588 compares it (R381). -/
structure PtpAnn where
  source : Nat
  domain : Nat
  /-- It came over Annex E (R381), not Annex C. -/
  ethernet : Bool
  priority1 : Nat
  clockClass : Nat
  accuracy : Nat
  variance : Nat
  priority2 : Nat
  grandmaster : Nat
  steps : Nat
  utcOffset : Int
  /-- logMessageInterval: the Announce interval is 2^logInterval s. -/
  logInterval : Int
  deriving DecidableEq, Repr

/-- The report of R291 type 0x11: the module, its key digest, the far end of each link and the in-service mask. -/
structure ReportMsg where
  place : Nat
  keyDigest : Nat
  farEnds : List Nat
  inService : Nat
  deriving DecidableEq, Repr

/-- The CONS sums of one slice that a module sends once per second (R291 type 0x1D). -/
structure ConsSum where
  tag : Nat
  epoch : Nat
  sent : Nat
  accepted : Nat
  duplicates : Nat
  fenced : Nat
  voided : Nat
  inDoubt : Nat
  deriving DecidableEq, Repr

/-- A fault report on the fault tree (R315, R319): the source id, and what the capture registers hold of it. -/
structure Occurrence where
  source : Nat
  addr : Nat
  master : Nat
  reqType : Nat
  access : Nat
  /-- The unit within its island, where the source does not say it: link, tile slot or junction port (R388). -/
  unit : Nat := 0
  deriving DecidableEq, Repr

/-- A copy of a shard as the restore controller of R352 sees it: where it lies, and what its valid manifest says. -/
structure CopyInfo where
  /-- 0 the module's own harbour half, 1 a buddy half, 2 drained storage. -/
  kind : Nat
  step : Nat
  shard : Nat
  count : Nat
  epoch : Nat
  serial : Nat
  valid : Bool
  deriving DecidableEq, Repr

/-- An edge of a rail's power-good input (R404): it rises, with whether PMBUS_REVISION then reads 1.4 and what the PMBus transactions
of a VCORE request come to (R407), or it falls. -/
inductive GoodEdge where
  | rises (rev14 : Bool) (txn : Result)
  | falls
  deriving DecidableEq, Repr

/-- The rails of R404, in the order of SB.RAIL_STATUS.GOOD. -/
inductive Rail where
  | vaon | vaux | vcore | vdram1 | vdram2 | vdramq | vopt
  deriving DecidableEq, Repr

/-- What the secure serial flash holds (R393, R424, R443 to R448): the root key (modulus, then 4-byte exponent), the
firmware images of kinds 0–4 by key 2 × kind + slot, the active slot of each kind as bit i, the two copies of the trust list and of the configuration block, the serial of the
calibration block, the identity's public key and certificate, whether the private key unwraps, and the 16 anti-rollback
counters. -/
structure FlashContent where
  rootKey : Bytes
  slots : List (Nat × Bytes)
  active : Nat
  trustA : Bytes
  trustB : Bytes
  configA : Bytes
  configB : Bytes
  calSerial : Nat
  identity : Bytes
  certificate : Bytes
  unwrapOk : Bool
  counters : List Nat
  deriving DecidableEq, Repr

/-- How a signed command or an attestation request reaches SC (R442, R450): over the management port with its bytes, or by
a write of `SC.CMD` or `SC.ATTEST` from a master with an address. -/
inductive ScSource where
  | port (bytes : Bytes)
  | reg (m : Master) (addr : BitVec 42)
  deriving DecidableEq, Repr

/-- The commands of the module, in the order of the table. -/
inductive Instr where
  /-- `REGISTER_WRITE` (R9): A write to a register field that has no row of its own updates the field under its access code,
  or is refused and recorded as a configuration event. -/
  | registerWrite (m : Master) (i : BitVec 7) (off : BitVec 16) (v : BitVec 512)
  /-- `DROOP_STRETCH` (R21): An island's droop detector sees a supply droop and stretches the island clock within two
  cycles. -/
  | droopStretch (i : Fin 100)
  /-- `DEPARTURE` (R25): The distributed pod-time count reaches a departure instant and every in-service island acts on the
  new period. -/
  | departure
  /-- `VERDICT_FAULT_DECIDE` (R42): At t0 + 0.1 µs CT decides seal cause [3] from the fault occurrences raised in the
  period. -/
  | verdictFaultDecide
  /-- `CONSERVATION_CLOSE` (R278): At t0 + 0.2 µs CT closes the period's counts, checks the local token and arrival balances
  and sets cause [7] on imbalance. -/
  | conservationClose
  /-- `SEAL_SEND` (R40): At t0 + 0.5 µs CT hands both copies of the seal to the lowest in-service junction, which injects
  them on both rails. -/
  | sealSend
  /-- `SEAL_RECEIVE` (R43): A consumer's CT receives a seal and adds to the gate and void counters, holds it, or discards it
  as duplicate, mismatched, late or without edge. -/
  | sealReceive (source : BitVec 32) (pl : Bytes)
  /-- `SEAL_WINDOW_EXPIRY` (R44): At the consumer's departure plus W, CT resolves every producer still unsealed as missing
  and moves their accepted writes into the voided count. -/
  | sealWindowExpiry
  /-- `TILE_RESTORE_COMPLETE` (R122): A late tile's restore from the ending period's image half completes and the entry
  registers are written. -/
  | tileRestoreComplete (t : Fin 68) (r : Result)
  /-- `DEPARTURE_IMAGE_CAPTURE` (R124): The tile's capture of its departure image into the half of the new period's parity
  completes and the valid mark is written. -/
  | departureImageCapture (t : Fin 68) (r : Result)
  /-- `TILE_PERIOD_START` (R122): The tile issues the first bundle at the new period's entry once capture is complete. -/
  | tilePeriodStart (t : Fin 68)
  /-- `JOB_DEPART` (R35): A write of TM.JOB_DEPART with GO departs the job at the given origin, or is refused and recorded. -/
  | jobDepart (m : Master) (origin : BitVec 63)
  /-- `TM_STOP` (R304): A write of TM.STOP ends the job at the next departure, after which tiles idle and no further seals
  are sent. -/
  | tmStop (m : Master)
  /-- `LOAD` (R64): TM.LOAD_CTRL.LOAD checks the whole image and loads it, or records the first failure in TM.LOAD_STATUS. -/
  | load (m : Master)
  /-- `UNLOAD` (R64): TM.LOAD_CTRL.UNLOAD drops the loaded timetable unless a job runs. -/
  | unload (m : Master)
  /-- `VERDICT_LEAF_SEND` (R52): At t_v + W + 0.5 µs a verdict-tree leaf sends its step verdict to its parent. -/
  | verdictLeafSend
  /-- `VERDICT_CHILD_RECEIVE` (R52): A verdict-tree node receives a child's verdict and sends the AND to its parent once all
  children have reported. -/
  | verdictChildReceive (child : BitVec 32) (good : Bool)
  /-- `VERDICT_NODE_TIMEOUT` (R52): A node of height h sends at t_v + W + (h + 1) × W, counting unreported children as void. -/
  | verdictNodeTimeout
  /-- `COMBINED_VERDICT_RECEIVE` (R52): A module receives the combined verdict from the root side and relays it to its
  children. -/
  | combinedVerdictReceive (good : Bool)
  /-- `STAGE` (R65): On a STAGE message MG writes TM.LOAD_CTRL.STAGE, TM checks the image, copies it into the free bank and
  the module sends ACK. -/
  | stage (source serial : BitVec 32) (addr : BitVec 48) (digest : Bytes) (d : BitVec 64)
  /-- `ACK` (R65): The chief receives a module's ACK with its load status and sends ANNOUNCE once all slice modules have
  acknowledged with 0x01. -/
  | ack (source serial : BitVec 32) (code : BitVec 8)
  /-- `ACK_DEADLINE` (R66): At departure D with any ACK missing or failed, the chief sends CANCEL. -/
  | ackDeadline
  /-- `ANNOUNCE` (R66): A module accepts ANNOUNCE if it arrives before its departure of N − 1, otherwise ignores and records
  it. -/
  | announce (source serial : BitVec 32) (n : BitVec 64)
  /-- `CANCEL` (R66): A module receiving CANCEL discards its staged image. -/
  | cancel (source serial : BitVec 32)
  /-- `STAGE_EXPIRY` (R66): A module that has received neither ANNOUNCE nor CANCEL by departure D + 64 discards its staged
  image. -/
  | stageExpiry
  /-- `BUNDLE_ISSUE` (R110): The tile issues one bundle, checking it against the hazard conditions and issuing all eight
  slots in the same cycle. -/
  | bundleIssue (t : Fin 68) (faults : List ArrayFault) (peers : List (Option Bytes))
  /-- `ADD` (R138): Scalar add of RA and RB into RD. -/
  | add (t : Fin 68) (rd ra rb : BitVec 5)
  /-- `SUB` (R138): Scalar subtract of RB from RA into RD. -/
  | sub (t : Fin 68) (rd ra rb : BitVec 5)
  /-- `AND` (R138): Scalar bitwise AND. -/
  | and (t : Fin 68) (rd ra rb : BitVec 5)
  /-- `OR` (R138): Scalar bitwise OR. -/
  | or (t : Fin 68) (rd ra rb : BitVec 5)
  /-- `XOR` (R138): Scalar bitwise XOR. -/
  | xor (t : Fin 68) (rd ra rb : BitVec 5)
  /-- `SHL` (R138): Scalar shift left by RB modulo 64. -/
  | shl (t : Fin 68) (rd ra rb : BitVec 5)
  /-- `SHR` (R138): Scalar logical shift right. -/
  | shr (t : Fin 68) (rd ra rb : BitVec 5)
  /-- `SRA` (R138): Scalar arithmetic shift right. -/
  | sra (t : Fin 68) (rd ra rb : BitVec 5)
  /-- `SLT` (R138): Scalar signed less-than compare. -/
  | slt (t : Fin 68) (rd ra rb : BitVec 5)
  /-- `SLTU` (R138): Scalar unsigned less-than compare. -/
  | sltu (t : Fin 68) (rd ra rb : BitVec 5)
  /-- `SEQ` (R138): Scalar equality compare. -/
  | seq (t : Fin 68) (rd ra rb : BitVec 5)
  /-- `MIN` (R138): Scalar signed minimum. -/
  | min (t : Fin 68) (rd ra rb : BitVec 5)
  /-- `MAX` (R138): Scalar signed maximum. -/
  | max (t : Fin 68) (rd ra rb : BitVec 5)
  /-- `MINU` (R138): Scalar unsigned minimum. -/
  | minu (t : Fin 68) (rd ra rb : BitVec 5)
  /-- `MAXU` (R138): Scalar unsigned maximum. -/
  | maxu (t : Fin 68) (rd ra rb : BitVec 5)
  /-- `MUL` (R138): Scalar low 64-bit product. -/
  | mul (t : Fin 68) (rd ra rb : BitVec 5)
  /-- `MULH` (R138): Scalar high 64 bits of the signed product. -/
  | mulh (t : Fin 68) (rd ra rb : BitVec 5)
  /-- `MULHU` (R138): Scalar high 64 bits of the unsigned product. -/
  | mulhu (t : Fin 68) (rd ra rb : BitVec 5)
  /-- `DIV` (R139): Scalar signed division rounded toward zero, with the defined results for zero divisors and overflow. -/
  | div (t : Fin 68) (rd ra rb : BitVec 5)
  /-- `DIVU` (R139): Scalar unsigned division. -/
  | divu (t : Fin 68) (rd ra rb : BitVec 5)
  /-- `REM` (R139): Scalar signed remainder with the sign of RA. -/
  | rem (t : Fin 68) (rd ra rb : BitVec 5)
  /-- `REMU` (R139): Scalar unsigned remainder. -/
  | remu (t : Fin 68) (rd ra rb : BitVec 5)
  /-- `ADDI` (R138): Scalar add of a sign-extended immediate. -/
  | addi (t : Fin 68) (rd ra : BitVec 5) (imm : BitVec 16)
  /-- `ANDI` (R138): Scalar AND with a zero-extended immediate. -/
  | andi (t : Fin 68) (rd ra : BitVec 5) (imm : BitVec 16)
  /-- `ORI` (R138): Scalar OR with a zero-extended immediate. -/
  | ori (t : Fin 68) (rd ra : BitVec 5) (imm : BitVec 16)
  /-- `XORI` (R138): Scalar XOR with a zero-extended immediate. -/
  | xori (t : Fin 68) (rd ra : BitVec 5) (imm : BitVec 16)
  /-- `SHLI` (R138): Scalar shift left by an immediate. -/
  | shli (t : Fin 68) (rd ra : BitVec 5) (imm : BitVec 16)
  /-- `SHRI` (R138): Scalar logical shift right by an immediate. -/
  | shri (t : Fin 68) (rd ra : BitVec 5) (imm : BitVec 16)
  /-- `SRAI` (R138): Scalar arithmetic shift right by an immediate. -/
  | srai (t : Fin 68) (rd ra : BitVec 5) (imm : BitVec 16)
  /-- `LUI` (R138): Scalar load of a sign-extended immediate shifted left by 16. -/
  | lui (t : Fin 68) (rd ra : BitVec 5) (imm : BitVec 16)
  /-- `SGET` (R140): Reads the tile state that SEL names into RG. -/
  | sget (t : Fin 68) (rg : BitVec 5) (sel : BitVec 8)
  /-- `SPUT_FLAGS` (R140): sput with SEL 0x01 writes the sticky flags before the flags of the same cycle are ORed in. -/
  | sputFlags (t : Fin 68) (rg : BitVec 5)
  /-- `SPUT_BOUNDS` (R140): sput writes a T.MX_BOUNDS_k register under its refusal rules. -/
  | sputBounds (t : Fin 68) (rg : BitVec 5) (k : BitVec 3)
  /-- `SPUT_BOUNDS_CTRL` (R140): sput writes a T.MX_BOUNDS_CTRL_k register under its refusal rules. -/
  | sputBoundsCtrl (t : Fin 68) (rg : BitVec 5) (k : BitVec 3)
  /-- `QADV` (R141): Adds RG to a sequence slot's position, raising kind 6 outside commit-gated periods. -/
  | qadv (t : Fin 68) (rg : BitVec 5) (sel : BitVec 8)
  /-- `VADD` (R144): Vector IEEE addition per element. -/
  | vadd (t : Fin 68) (vd va vb : BitVec 5) (p fmt : BitVec 4) (rm : BitVec 3)
  /-- `VSUB` (R144): Vector IEEE subtraction per element. -/
  | vsub (t : Fin 68) (vd va vb : BitVec 5) (p fmt : BitVec 4) (rm : BitVec 3)
  /-- `VMUL` (R144): Vector IEEE multiplication, multiply class. -/
  | vmul (t : Fin 68) (vd va vb : BitVec 5) (p fmt : BitVec 4) (rm : BitVec 3)
  /-- `VFMA` (R144): Vector fused multiply-add with one rounding. -/
  | vfma (t : Fin 68) (vd va vb : BitVec 5) (p fmt : BitVec 4) (rm : BitVec 3)
  /-- `VFMS` (R144): Vector fused multiply-subtract with one rounding. -/
  | vfms (t : Fin 68) (vd va vb : BitVec 5) (p fmt : BitVec 4) (rm : BitVec 3)
  /-- `VDIV` (R144): Vector IEEE division. -/
  | vdiv (t : Fin 68) (vd va vb : BitVec 5) (p fmt : BitVec 4) (rm : BitVec 3)
  /-- `VSQRT` (R144): Vector IEEE square root. -/
  | vsqrt (t : Fin 68) (vd va vb : BitVec 5) (p fmt : BitVec 4) (rm : BitVec 3)
  /-- `VREM` (R144): Vector IEEE remainder, exact. -/
  | vrem (t : Fin 68) (vd va vb : BitVec 5) (p fmt : BitVec 4) (rm : BitVec 3)
  /-- `VMIN` (R144): Vector IEEE minimum. -/
  | vmin (t : Fin 68) (vd va vb : BitVec 5) (p fmt : BitVec 4) (rm : BitVec 3)
  /-- `VMAX` (R144): Vector IEEE maximum. -/
  | vmax (t : Fin 68) (vd va vb : BitVec 5) (p fmt : BitVec 4) (rm : BitVec 3)
  /-- `VMINN` (R144): Vector IEEE minimumNumber. -/
  | vminn (t : Fin 68) (vd va vb : BitVec 5) (p fmt : BitVec 4) (rm : BitVec 3)
  /-- `VMAXN` (R144): Vector IEEE maximumNumber. -/
  | vmaxn (t : Fin 68) (vd va vb : BitVec 5) (p fmt : BitVec 4) (rm : BitVec 3)
  /-- `VABS` (R144): Vector absolute value without flags. -/
  | vabs (t : Fin 68) (vd va vb : BitVec 5) (p fmt : BitVec 4) (rm : BitVec 3)
  /-- `VNEG` (R144): Vector negation without flags. -/
  | vneg (t : Fin 68) (vd va vb : BitVec 5) (p fmt : BitVec 4) (rm : BitVec 3)
  /-- `VCSGN` (R144): Vector copySign without flags. -/
  | vcsgn (t : Fin 68) (vd va vb : BitVec 5) (p fmt : BitVec 4) (rm : BitVec 3)
  /-- `VRINT` (R144): Vector roundToIntegral without inexact. -/
  | vrint (t : Fin 68) (vd va vb : BitVec 5) (p fmt : BitVec 4) (rm : BitVec 3)
  /-- `VRINTX` (R144): Vector roundToIntegralExact. -/
  | vrintx (t : Fin 68) (vd va vb : BitVec 5) (p fmt : BitVec 4) (rm : BitVec 3)
  /-- `VSCALEB` (R144): Vector scaleB by a signed integer from VB. -/
  | vscaleb (t : Fin 68) (vd va vb : BitVec 5) (p fmt : BitVec 4) (rm : BitVec 3)
  /-- `VLOGB` (R144): Vector logB as a signed integer, with defined values and invalid for NaN, infinity and zero. -/
  | vlogb (t : Fin 68) (vd va vb : BitVec 5) (p fmt : BitVec 4) (rm : BitVec 3)
  /-- `VCMP` (R145): Vector compare under COND writing predicate PD. -/
  | vcmp (t : Fin 68) (half : BitVec 1) (pd : BitVec 4) (va vb : BitVec 5) (p fmt : BitVec 4) (cond : BitVec 3)
  /-- `VCLASS` (R146): Vector class code per element. -/
  | vclass (t : Fin 68) (vd va vb : BitVec 5) (p fmt : BitVec 4) (rm : BitVec 3)
  /-- `VEXP2` (R147): Vector 2^x, correctly rounded. -/
  | vexp2 (t : Fin 68) (vd va vb : BitVec 5) (p fmt : BitVec 4) (rm : BitVec 3)
  /-- `VEXP` (R147): Vector e^x, correctly rounded. -/
  | vexp (t : Fin 68) (vd va vb : BitVec 5) (p fmt : BitVec 4) (rm : BitVec 3)
  /-- `VLOG2` (R147): Vector log2, correctly rounded. -/
  | vlog2 (t : Fin 68) (vd va vb : BitVec 5) (p fmt : BitVec 4) (rm : BitVec 3)
  /-- `VLOG` (R147): Vector natural logarithm, correctly rounded. -/
  | vlog (t : Fin 68) (vd va vb : BitVec 5) (p fmt : BitVec 4) (rm : BitVec 3)
  /-- `VSINPI` (R147): Vector sin(π x), correctly rounded. -/
  | vsinpi (t : Fin 68) (vd va vb : BitVec 5) (p fmt : BitVec 4) (rm : BitVec 3)
  /-- `VCOSPI` (R147): Vector cos(π x), correctly rounded. -/
  | vcospi (t : Fin 68) (vd va vb : BitVec 5) (p fmt : BitVec 4) (rm : BitVec 3)
  /-- `VTANH` (R147): Vector tanh, correctly rounded. -/
  | vtanh (t : Fin 68) (vd va vb : BitVec 5) (p fmt : BitVec 4) (rm : BitVec 3)
  /-- `VSIGM` (R147): Vector sigmoid with its defined special cases. -/
  | vsigm (t : Fin 68) (vd va vb : BitVec 5) (p fmt : BitVec 4) (rm : BitVec 3)
  /-- `VRSQRT` (R147): Vector reciprocal square root, correctly rounded. -/
  | vrsqrt (t : Fin 68) (vd va vb : BitVec 5) (p fmt : BitVec 4) (rm : BitVec 3)
  /-- `VRCPE` (R147): Vector reciprocal estimate to 9 significant bits. -/
  | vrcpe (t : Fin 68) (vd va vb : BitVec 5) (p fmt : BitVec 4) (rm : BitVec 3)
  /-- `VRADD` (R148): Vector tree sum of all governed elements broadcast to VD. -/
  | vradd (t : Fin 68) (vd va vb : BitVec 5) (p fmt : BitVec 4) (rm : BitVec 3)
  /-- `VRMAX` (R148): Vector tree maximumNumber broadcast to VD. -/
  | vrmax (t : Fin 68) (vd va vb : BitVec 5) (p fmt : BitVec 4) (rm : BitVec 3)
  /-- `VIADD` (R149): Lane-wise I32 addition modulo 2^32. -/
  | viadd (t : Fin 68) (vd va vb : BitVec 5) (p : BitVec 4) (rm : BitVec 3)
  /-- `VISUB` (R149): Lane-wise I32 subtraction modulo 2^32. -/
  | visub (t : Fin 68) (vd va vb : BitVec 5) (p : BitVec 4) (rm : BitVec 3)
  /-- `VIMUL` (R149): Lane-wise low 32 bits of the product, multiply class. -/
  | vimul (t : Fin 68) (vd va vb : BitVec 5) (p : BitVec 4) (rm : BitVec 3)
  /-- `VAND` (R149): Lane-wise bitwise AND. -/
  | vand (t : Fin 68) (vd va vb : BitVec 5) (p : BitVec 4) (rm : BitVec 3)
  /-- `VOR` (R149): Lane-wise bitwise OR. -/
  | vor (t : Fin 68) (vd va vb : BitVec 5) (p : BitVec 4) (rm : BitVec 3)
  /-- `VXOR` (R149): Lane-wise bitwise XOR. -/
  | vxor (t : Fin 68) (vd va vb : BitVec 5) (p : BitVec 4) (rm : BitVec 3)
  /-- `VANDN` (R149): Lane-wise VA AND NOT VB. -/
  | vandn (t : Fin 68) (vd va vb : BitVec 5) (p : BitVec 4) (rm : BitVec 3)
  /-- `VSHL` (R149): Lane-wise shift left by VB mod 32. -/
  | vshl (t : Fin 68) (vd va vb : BitVec 5) (p : BitVec 4) (rm : BitVec 3)
  /-- `VSHR` (R149): Lane-wise logical shift right. -/
  | vshr (t : Fin 68) (vd va vb : BitVec 5) (p : BitVec 4) (rm : BitVec 3)
  /-- `VSRA` (R149): Lane-wise arithmetic shift right. -/
  | vsra (t : Fin 68) (vd va vb : BitVec 5) (p : BitVec 4) (rm : BitVec 3)
  /-- `VIMIN` (R149): Lane-wise signed minimum. -/
  | vimin (t : Fin 68) (vd va vb : BitVec 5) (p : BitVec 4) (rm : BitVec 3)
  /-- `VIMAX` (R149): Lane-wise signed maximum. -/
  | vimax (t : Fin 68) (vd va vb : BitVec 5) (p : BitVec 4) (rm : BitVec 3)
  /-- `VIMINU` (R149): Lane-wise unsigned minimum. -/
  | viminu (t : Fin 68) (vd va vb : BitVec 5) (p : BitVec 4) (rm : BitVec 3)
  /-- `VIMAXU` (R149): Lane-wise unsigned maximum. -/
  | vimaxu (t : Fin 68) (vd va vb : BitVec 5) (p : BitVec 4) (rm : BitVec 3)
  /-- `VSEL` (R149): Selects VA or VB per lane by predicate P. -/
  | vsel (t : Fin 68) (vd va vb : BitVec 5) (p : BitVec 4) (rm : BitVec 3)
  /-- `VBC32` (R149): Broadcasts RB[31:0] to every lane. -/
  | vbc32 (t : Fin 68) (vd va vb : BitVec 5) (p : BitVec 4) (rm : BitVec 3)
  /-- `VBC64` (R149): Broadcasts RB to every lane pair. -/
  | vbc64 (t : Fin 68) (vd va vb : BitVec 5) (p : BitVec 4) (rm : BitVec 3)
  /-- `VROT` (R149): Rotates lanes by RB. -/
  | vrot (t : Fin 68) (vd va vb : BitVec 5) (p : BitVec 4) (rm : BitVec 3)
  /-- `VPERM` (R149): Permutes lanes by indices in VB. -/
  | vperm (t : Fin 68) (vd va vb : BitVec 5) (p : BitVec 4) (rm : BitVec 3)
  /-- `PK6` (R149): Packs 4,096 N6 containers into 3,072 bytes. -/
  | pk6 (t : Fin 68) (vd va vb : BitVec 5) (p : BitVec 4) (rm : BitVec 3)
  /-- `UP6` (R149): Unpacks 3,072 bytes into 4,096 N6 containers. -/
  | up6 (t : Fin 68) (vd va vb : BitVec 5) (p : BitVec 4) (rm : BitVec 3)
  /-- `VICMP` (R149): I32 compare writing a predicate. -/
  | vicmp (t : Fin 68) (half : BitVec 1) (pd : BitVec 4) (va vb : BitVec 5) (p fmt : BitVec 4) (cond : BitVec 3)
  /-- `PRED_AND` (R150): Predicate AND. -/
  | predAnd (t : Fin 68) (pd pa pb : BitVec 4)
  /-- `PRED_OR` (R150): Predicate OR. -/
  | predOr (t : Fin 68) (pd pa pb : BitVec 4)
  /-- `PRED_XOR` (R150): Predicate XOR. -/
  | predXor (t : Fin 68) (pd pa pb : BitVec 4)
  /-- `PRED_ANDN` (R150): Predicate PA AND NOT PB. -/
  | predAndn (t : Fin 68) (pd pa pb : BitVec 4)
  /-- `PRED_NOT` (R150): Predicate NOT PA. -/
  | predNot (t : Fin 68) (pd pa pb : BitVec 4)
  /-- `PRED_ZEROS` (R150): Predicate set to all zeros. -/
  | predZeros (t : Fin 68) (pd pa pb : BitVec 4)
  /-- `PRED_ONES` (R150): Predicate set to all ones. -/
  | predOnes (t : Fin 68) (pd pa pb : BitVec 4)
  /-- `PRED_LOWEST` (R150): Predicate keeps only the lowest set bit of PA. -/
  | predLowest (t : Fin 68) (pd pa pb : BitVec 4)
  /-- `VRDACC` (R151): Moves eight accumulator rows into a vector register. -/
  | vrdacc (t : Fin 68) (vd : BitVec 5) (acc : BitVec 2) (blk : BitVec 4)
  /-- `VWRACC` (R151): Moves a vector register into eight accumulator rows. -/
  | vwracc (t : Fin 68) (vd : BitVec 5) (acc : BitVec 2) (blk : BitVec 4)
  /-- `CONVERT_TO_BINARY32` (R152): Opcode 0x30 converts elements to binary32. -/
  | convertToBinary32 (t : Fin 68) (vd va : BitVec 5) (src : BitVec 4) (rm part : BitVec 3) (p : BitVec 4)
  /-- `CONVERT_TO_BINARY16` (R152): Opcode 0x31 converts elements to binary16. -/
  | convertToBinary16 (t : Fin 68) (vd va : BitVec 5) (src : BitVec 4) (rm part : BitVec 3) (p : BitVec 4)
  /-- `CONVERT_TO_BINARY64` (R152): Opcode 0x32 converts elements to binary64. -/
  | convertToBinary64 (t : Fin 68) (vd va : BitVec 5) (src : BitVec 4) (rm part : BitVec 3) (p : BitVec 4)
  /-- `CONVERT_TO_W16` (R152): Opcode 0x33 converts elements to W16. -/
  | convertToW16 (t : Fin 68) (vd va : BitVec 5) (src : BitVec 4) (rm part : BitVec 3) (p : BitVec 4)
  /-- `CONVERT_TO_N8` (R152): Opcode 0x34 converts elements to N8. -/
  | convertToN8 (t : Fin 68) (vd va : BitVec 5) (src : BitVec 4) (rm part : BitVec 3) (p : BitVec 4)
  /-- `CONVERT_TO_G8` (R152): Opcode 0x35 converts elements to G8. -/
  | convertToG8 (t : Fin 68) (vd va : BitVec 5) (src : BitVec 4) (rm part : BitVec 3) (p : BitVec 4)
  /-- `CONVERT_TO_N6` (R152): Opcode 0x36 converts elements to N6. -/
  | convertToN6 (t : Fin 68) (vd va : BitVec 5) (src : BitVec 4) (rm part : BitVec 3) (p : BitVec 4)
  /-- `CONVERT_TO_N4` (R152): Opcode 0x37 converts elements to N4. -/
  | convertToN4 (t : Fin 68) (vd va : BitVec 5) (src : BitVec 4) (rm part : BitVec 3) (p : BitVec 4)
  /-- `CONVERT_TO_I8` (R152): Opcode 0x38 converts elements to I8. -/
  | convertToI8 (t : Fin 68) (vd va : BitVec 5) (src : BitVec 4) (rm part : BitVec 3) (p : BitVec 4)
  /-- `CONVERT_TO_I4` (R152): Opcode 0x39 converts elements to I4. -/
  | convertToI4 (t : Fin 68) (vd va : BitVec 5) (src : BitVec 4) (rm part : BitVec 3) (p : BitVec 4)
  /-- `CONVERT_TO_U8` (R152): Opcode 0x3A converts elements to U8. -/
  | convertToU8 (t : Fin 68) (vd va : BitVec 5) (src : BitVec 4) (rm part : BitVec 3) (p : BitVec 4)
  /-- `CONVERT_TO_I32` (R152): Opcode 0x3C converts elements to I32. -/
  | convertToI32 (t : Fin 68) (vd va : BitVec 5) (src : BitVec 4) (rm part : BitVec 3) (p : BitVec 4)
  /-- `MX` (R91): The matrix array computes C = A × B + T into an accumulator tile by the chunked procedure, with checksum
  lane, accumulate comparison, plausibility and special-value checks. -/
  | mx (t : Fin 68) (acc : BitVec 2) (fa fb : BitVec 4) (rr : BitVec 5) (bnd : BitVec 3) (add : BitVec 1) (at_ : BitVec 2) (sa sb : BitVec 1) (faults : List ArrayFault)
  /-- `MXZ` (R158): Writes +0 to every element of an accumulator tile. -/
  | mxz (t : Fin 68) (acc : BitVec 2)
  /-- `MX_RELEASE` (R321): A write of T.MX_RELEASE.RELEASE from MG or CT clears the tile's capture. -/
  | mxRelease (t : Fin 68) (m : Master)
  /-- `LDS` (R159): Loads 2^W bytes from tile SRAM sign-extended. -/
  | lds (t : Fin 68) (rd ra : BitVec 5) (base w : BitVec 2) (imm : BitVec 12)
  /-- `LDU` (R159): Loads 2^W bytes from tile SRAM zero-extended. -/
  | ldu (t : Fin 68) (rd ra : BitVec 5) (base w : BitVec 2) (imm : BitVec 12)
  /-- `STS` (R160): Stores the low 2^W bytes of RD to tile SRAM. -/
  | sts (t : Fin 68) (rd ra : BitVec 5) (base w : BitVec 2) (imm : BitVec 12)
  /-- `LDV` (R159): Loads 4,096 bytes into a vector register. -/
  | ldv (t : Fin 68) (vd ra : BitVec 5) (base : BitVec 2) (p : BitVec 4) (imm : BitVec 10)
  /-- `STV` (R160): Stores a vector register, lanes enabled by P only. -/
  | stv (t : Fin 68) (vd ra : BitVec 5) (base : BitVec 2) (p : BitVec 4) (imm : BitVec 10)
  /-- `LDP` (R159): Loads 128 bytes into a predicate register. -/
  | ldp (t : Fin 68) (pd : BitVec 4) (ra : BitVec 5) (base : BitVec 2) (p : BitVec 4) (imm : BitVec 10)
  /-- `STP` (R160): Stores a predicate register. -/
  | stp (t : Fin 68) (pd : BitVec 4) (ra : BitVec 5) (base : BitVec 2) (p : BitVec 4) (imm : BitVec 10)
  /-- `LDA` (R161): Loads eight rows of an accumulator tile from memory. -/
  | lda (t : Fin 68) (acc : BitVec 2) (blk fmt : BitVec 4) (rm : BitVec 3) (rs : BitVec 5) (sc : BitVec 1) (str : BitVec 3) (srci : BitVec 1)
  /-- `STA` (R161): Converts and stores eight accumulator rows, optionally with block scales. -/
  | sta (t : Fin 68) (acc : BitVec 2) (blk fmt : BitVec 4) (rm : BitVec 3) (rs : BitVec 5) (sc : BitVec 1) (str : BitVec 3) (srci : BitVec 1)
  /-- `XFER_COPY` (R174): xfer with descriptor OP 0 issues a copy transfer after the issue checks. -/
  | xferCopy (t : Fin 68) (ra : BitVec 5) (q : BitVec 2) (imm : BitVec 16) (peer : Option Bytes)
  /-- `XFER_REDUCE_BINARY32` (R186): xfer with descriptor OP 1 issues a binary32 reduce-add transfer. -/
  | xferReduceBinary32 (t : Fin 68) (ra : BitVec 5) (q : BitVec 2) (imm : BitVec 16) (peer : Option Bytes)
  /-- `XFER_REDUCE_I32` (R186): xfer with descriptor OP 2 issues an I32 reduce-add transfer. -/
  | xferReduceI32 (t : Fin 68) (ra : BitVec 5) (q : BitVec 2) (imm : BitVec 16) (peer : Option Bytes)
  /-- `XSIG` (R163): Sends one zero-length write that increments a counter once. -/
  | xsig (t : Fin 68) (rp rc : BitVec 5) (cls : BitVec 4)
  /-- `BR` (R165): Unconditional branch. -/
  | br (t : Fin 68) (ra : BitVec 5) (off : BitVec 21)
  /-- `BZ` (R165): Branch if RA is zero. -/
  | bz (t : Fin 68) (ra : BitVec 5) (off : BitVec 21)
  /-- `BNZ` (R165): Branch if RA is nonzero. -/
  | bnz (t : Fin 68) (ra : BitVec 5) (off : BitVec 21)
  /-- `BPA` (R165): Branch if any bit of PA is set. -/
  | bpa (t : Fin 68) (pa : BitVec 4) (off : BitVec 21)
  /-- `BPN` (R165): Branch if every bit of PA is clear. -/
  | bpn (t : Fin 68) (pa : BitVec 4) (off : BitVec 21)
  /-- `JAL` (R165): Writes the return offset and branches. -/
  | jal (t : Fin 68) (ra : BitVec 5) (off : BitVec 21)
  /-- `JR` (R165): Branches to the offset in RA. -/
  | jr (t : Fin 68) (ra : BitVec 5) (off : BitVec 21)
  /-- `LP` (R164): Decrements RA and branches while it is nonzero. -/
  | lp (t : Fin 68) (ra : BitVec 5) (off : BitVec 21)
  /-- `WAIT` (R120): Stops issue until a counter reaches the value in RA. -/
  | wait (t : Fin 68) (cc : BitVec 6) (ra : BitVec 5)
  /-- `WAITI` (R120): Stops issue until a counter reaches an immediate. -/
  | waiti (t : Fin 68) (cc : BitVec 6) (imm : BitVec 20)
  /-- `WAIT_SATISFIED` (R166): The waited counter reaches its value and the next bundle issues in the following cycle. -/
  | waitSatisfied (t : Fin 68) (n : Nat)
  /-- `ARRIVE` (R121): Ends issue for the period. -/
  | arrive (t : Fin 68)
  /-- `ARRIVAL` (R121): All issued results are written and the array is free, so the tile has arrived and T.LAST_ARRIVE is
  recorded. -/
  | arrival (t : Fin 68)
  /-- `CCSET` (R167): Sets a completion counter. -/
  | ccset (t : Fin 68) (cc : BitVec 6) (rg : BitVec 5)
  /-- `CCADD` (R167): Adds to a completion counter modulo 2^32. -/
  | ccadd (t : Fin 68) (cc : BitVec 6) (rg : BitVec 5)
  /-- `CCGET` (R167): Reads a completion counter before the changes of its cycle. -/
  | ccget (t : Fin 68) (cc : BitVec 6) (rg : BitVec 5)
  /-- `GDRAW` (R168): Draws 256 generator blocks into a vector register. -/
  | gdraw (t : Fin 68) (rg : BitVec 5) (g : BitVec 3)
  /-- `GDRAWS` (R168): Draws one generator block into a scalar register. -/
  | gdraws (t : Fin 68) (rg : BitVec 5) (g : BitVec 3)
  /-- `GSET_KEY` (R168): Sets a stream's key. -/
  | gsetKey (t : Fin 68) (rg : BitVec 5) (g : BitVec 3) (rb : BitVec 5)
  /-- `GSET_COUNTER` (R168): Sets a stream's counter. -/
  | gsetCounter (t : Fin 68) (rg : BitVec 5) (g : BitVec 3) (rb : BitVec 5)
  /-- `GSET_ANCHOR` (R168): Sets a stream's anchor. -/
  | gsetAnchor (t : Fin 68) (rg : BitVec 5) (g : BitVec 3) (rb : BitVec 5)
  /-- `GGET` (R168): Reads a stream's key, counter or anchor. -/
  | gget (t : Fin 68) (rg : BitVec 5) (g sel : BitVec 3)
  /-- `RECOVER` (R125): An order from CT or MG through T.RECOVER stops issue and starts context recovery from the current
  period's image half. -/
  | recover (m : Master) (t : Fin 68)
  /-- `RECOVERY_COMPLETE` (R126): The restore ends and sets DONE, or fails and CT escalates to island reset. -/
  | recoveryComplete (t : Fin 68) (r : Result)
  /-- `RECOVERY_TIMEOUT` (R417): Recovery not complete 10 µs after the order makes SB reset the tile's island. -/
  | recoveryTimeout (t : Fin 68)
  /-- `TRANSFER_WRITE_ACCEPT` (R183): A write reaches its destination on this module, passes the acceptance tests, is
  written whole and increments its counter, or is fenced, voided or discarded. -/
  | transferWriteAccept (i : Nat)
  /-- `TRANSFER_LEAVES_FLIGHT` (R178): A transfer's source is read and all its writes are accepted, transmitted or dropped,
  so the in-flight count falls and the sent counter increments. -/
  | transferLeavesFlight (id : Nat)
  /-- `UE_LIST_START` (R189): At t0 + 1.5 µs of a UE-granted period UE reads the list-table entry and starts the command
  list. -/
  | ueListStart
  /-- `UE_GATE_SATISFIED` (R191): The gate counter of a waiting command reaches its value and UE admits the command. -/
  | ueGateSatisfied
  /-- `UE_NOTHING` (R190): A command with OP 0 does nothing and sends its completion. -/
  | ueNothing
  /-- `LAYER_UPDATE` (R197): A command with OP 1 runs the two-pass optimiser update, or is refused or skipped. -/
  | layerUpdate (stop : BitVec 32)
  /-- `CHART_BATCH` (R208): A command with OP 2 processes a batch of sensor points against the chart table and writes
  alarms. -/
  | chartBatch
  /-- `UE_COMMAND_COMPLETE` (R191): All data writes of a command are accepted and UE sends its one completion write. -/
  | ueCommandComplete
  /-- `MEMORY_READ` (R220): A memory read that is not clean is re-read, corrected, written back or sent to the line test
  before any data is delivered. -/
  | memoryRead (a : BitVec 42) (master : BitVec 13) (req : BitVec 4) (e1 e2 e3 : BitVec 288)
  /-- `LINE_TEST_COMPLETE` (R221): The line test finishes, marks failed lines and the held read is delivered corrected or as
  uncorrectable with a retirement request. -/
  | lineTestComplete (k : Fin 8) (j : Fin 128) (lines : BitVec 12) (ca : Result)
  /-- `RETIRE` (R225): A write of M.COPY_CTRL.RETIRE from MG requests retirement of sub-channel SC. -/
  | retire (m : Master) (k : Fin 8) (j : Fin 128)
  /-- `SPARE_FREED` (R225): A spare becomes free and the oldest held retirement request, or a waiting retraining, starts its
  copy. -/
  | spareFreed (k : Fin 8)
  /-- `COPY_UNIT` (R226): The copy moves one 256-byte unit to the target in an idle or floor slot and advances the pointer. -/
  | copyUnit (k : Fin 8) (es : List (BitVec 288))
  /-- `COPY_COMPLETE` (R227): The copy ends, the remap points to the target and the source is retired or, for a retraining,
  trained. -/
  | copyComplete (k : Fin 8)
  /-- `RETRAIN_INTERVAL` (R228): Every INTERVAL seconds an island starts one retraining of its longest-untrained or
  most-drifted sub-channel. -/
  | retrainInterval (k : Fin 8)
  /-- `RETRAIN_NOW` (R228): A write of M.RETRAIN_CTRL.NOW from MG retrains the named sub-channel. -/
  | retrainNow (m : Master) (k : Fin 8) (j : Fin 128)
  /-- `RETRAINING_DONE` (R229): Full training of the original ends and it becomes a spare, or it is retired with cause
  training failure. -/
  | retrainingDone (k : Fin 8) (j : Fin 128) (r : Result)
  /-- `REFRESH` (R230): The per-bank refresh interval expires and the controller refreshes the bank. -/
  | refresh (k : Fin 8) (j : Fin 128) (bank : Fin 16)
  /-- `TEMPERATURE_READOUT` (R212): Every 16 ms the controller reads each device's temperature and may raise over
  temperature. -/
  | temperatureReadout (p : Fin 64) (t : BitVec 16) (hot : Bool)
  /-- `MEMORY_INIT` (R231): At release after cold power-up the controller resets, initialises and trains every sub-channel. -/
  | memoryInit (k : Fin 8)
  /-- `MEMORY_TRAINING_COMPLETE` (R231): Power-up training ends, failed sub-channels are retired and the zero-fill starts. -/
  | memoryTrainingComplete (k : Fin 8) (failed : BitVec 128)
  /-- `ZERO_FILL_COMPLETE` (R231): The zero-fill of all active sub-channels ends and STATE reads 2. -/
  | zeroFillComplete (k : Fin 8)
  /-- `MEMORY_RESUME` (R233): A memory island leaves reset with its store intact, loads FSP1 settings and reports in
  service. -/
  | memoryResume (k : Fin 8) (store : Result)
  /-- `RECALIBRATION_DONE` (R233): Self-refresh exit and short recalibration end, STATE reads 2 and queued requests are
  served. -/
  | recalibrationDone (k : Fin 8) (failed : BitVec 128)
  /-- `LIGHT_DETECTED` (R245): Received light on all four lanes moves a link from state 1 to training. -/
  | lightDetected (link : Fin 64)
  /-- `TRAINING_COMPLETE` (R245): CDR lock, adaptation, deskew and frame lock complete and the link enters identity
  exchange. -/
  | trainingComplete (link : Fin 64)
  /-- `TRAINING_TIMEOUT` (R245): Training not complete within 50 ms fails the link. -/
  | trainingTimeout (link : Fin 64)
  /-- `IDENTITY_FRAME` (R254): An identity frame is received and verified by SC, and on mutual verification the link enters
  qualification. -/
  | identityFrame (link : Fin 64) (body : Bytes)
  /-- `IDENTITY_TIMEOUT` (R245): Identity exchange not complete within 5 ms fails the link. -/
  | identityTimeout (link : Fin 64)
  /-- `QUALIFICATION_COMPLETE` (R246): An error-free run of the qualification time completes and the link enters ready, with
  HOLD set or not under R247. -/
  | qualificationComplete (link : Fin 64)
  /-- `RETRAIN_DELAY_EXPIRY` (R245): RETRAIN_DELAY after failure the link returns to state 1. -/
  | retrainDelayExpiry (link : Fin 64)
  /-- `FRAME_RECEIVE` (R241): A frame is received, decoded and accepted in sequence with its packets delivered, or discarded
  with a NACK. -/
  | frameReceive (link : Fin 64) (syms : Vector (BitVec 10) 1088)
  /-- `NACK` (R242): A received NACK makes the sender resend every frame from the acknowledgement + 1, failing the link at
  the retry limit. -/
  | nack (link : Fin 64) (ack : BitVec 16)
  /-- `LINK_FAILURE` (R248): A link in service fails, drops its replay buffer as fenced and in doubt, and its rail continues
  on rail-mates. -/
  | linkFailure (link : Fin 64)
  /-- `TIME_EXCHANGE_START` (R255): Every INTERVAL µs a link in service sends a time request. -/
  | timeExchangeStart (link : Fin 64)
  /-- `TIME_REQUEST` (R255): A received time request is answered with stamps t2 and t3. -/
  | timeRequest (link : Fin 64) (seq : BitVec 24) (t1 : BitVec 96)
  /-- `TIME_RESPONSE` (R255): A received time response yields an offset and round trip handed to TM. -/
  | timeResponse (link : Fin 64) (seq : BitVec 24) (t1 t2 t3 : BitVec 96)
  /-- `TIME_EXCHANGE_ABANDONED` (R255): A response missing after 100 µs abandons the exchange. -/
  | timeExchangeAbandoned (link : Fin 64)
  /-- `LASER_LOSS` (R256): A laser wavelength below +12 dBm for 10 µs fails all four links of the engine. -/
  | laserLoss (e : Fin 16)
  /-- `DRAIN_ENGINE` (R257): A write of L.ENGINE_CTRL.DRAIN_En takes the engine's links out of service at the next departure
  into state 9. -/
  | drainEngine (m : Master) (e : Fin 16)
  /-- `ENABLE_ENGINE` (R257): Writing ENABLE_En with 1 powers the engine, ends a drain and lets its links leave state 0 or
  9. -/
  | enableEngine (m : Master) (e : Fin 16)
  /-- `DISABLE_ENGINE` (R257): Clearing ENABLE_En switches the engine's domain off and its links enter state 0. -/
  | disableEngine (m : Master) (e : Fin 16)
  /-- `LINK_DISABLE` (R245): Setting or clearing DISABLE of L.LINK_CTRL_j holds the link in state 9 or releases it to state
  1. -/
  | linkDisable (m : Master) (link : Fin 64) (on_ : Bool)
  /-- `LINK_RELEASE` (R247): A write of RELEASE from MG clears HOLD so the link rejoins. -/
  | linkRelease (m : Master) (link : Fin 64)
  /-- `LINK_RETRAIN` (R245): A write of RETRAIN from MG takes the link out of service at the next departure or at once to
  retrain with cause 10. -/
  | linkRetrain (m : Master) (link : Fin 64)
  /-- `RECALIBRATION_START` (R258): Every INTERVAL seconds, or after RECAL_NOW, a link island takes one link out of service
  at a departure to recalibrate, if its rail-mates allow. -/
  | recalibrationStart (k : Fin 8)
  /-- `RECALIBRATION_END` (R258): A link's equaliser re-adaptation ends and it enters qualification. -/
  | recalibrationEnd (link : Fin 64)
  /-- `PACKET_INGRESS` (R265): A packet entering a junction from a link passes the ingress tests and is accepted, routed
  onward or dropped under its cause. -/
  | packetIngress (link : Fin 64) (bs : Bytes)
  /-- `DUPLICATE_HOLD_EXPIRY` (R252): An entry unmatched after H is removed and counted as a single arrival. -/
  | duplicateHoldExpiry (k : Fin 4)
  /-- `PACKET_INJECT` (R275): A waiting local packet obtains its token and transit room and is injected, or is refused as
  undeliverable or fenced. -/
  | packetInject (k : Fin 4) (i : Nat)
  /-- `SLOT_TICK` (R270): At each 12 ns slot a junction grants free slot time by precedence, sends reserved planned packets
  and deflects blocked class 2 packets. -/
  | slotTick (k : Fin 4)
  /-- `TOKEN_RETURN` (R276): A received token return adds its count to the source's pool. -/
  | tokenReturn (k : Fin 4) (tag epoch : BitVec 16) (cls : BitVec 4) (count : BitVec 16)
  /-- `TOKEN_RETURN_FLUSH` (R276): When 64 returns are owed or 2 µs have passed since the first, the module sends a token
  return. -/
  | tokenReturnFlush (i : Nat)
  /-- `SLICE_ENTRY_WRITE` (R280): MG writes a J.SLICE_e entry as active or corridor, or a new GRANT, checked and possibly
  refused. -/
  | sliceEntryWrite (m : Master) (e : Fin 64) (v : BitVec 256)
  /-- `SLICE_DRAIN` (R281): MG writes state 2 and the entry becomes draining, stopping local injection for its tag. -/
  | sliceDrain (m : Master) (e : Fin 64)
  /-- `DRAIN_COMPLETE` (R281): HELD equals GRANT with no transit packets of the tag, so the entry becomes free and a drain
  event is recorded. -/
  | drainComplete (e : Fin 64)
  /-- `DRAIN_TIMEOUT` (R281): J.DRAIN_TIMEOUT runs out and the draining entry is freed with its outstanding tokens counted
  as fenced. -/
  | drainTimeout (e : Fin 64)
  /-- `ROUTE_ENTRY_WRITE` (R267): MG writes a routing entry, refused when it duplicates a valid prefix and length. -/
  | routeEntryWrite (m : Master) (e : Fin 2048) (v : BitVec 128)
  /-- `SATURATION_INTERVAL` (R283): A 1 µs interval ends and each saturated level increments J.SAT_CNT_n. -/
  | saturationInterval (k : Fin 4) (levels : BitVec 5)
  /-- `SATURATION_WINDOW` (R283): A 1 ms window ends and a saturation event is recorded when the share reaches THRESH. -/
  | saturationWindow (k : Fin 4)
  /-- `POD_CHARTER` (R285): A charter received over management is verified and put in force or refused. -/
  | podCharter (bytes : Bytes)
  /-- `DISCOVER` (R293): A module forwards the first copy of a candidate's DISCOVER and takes its parent link. -/
  | discover (link : Fin 64) (rank serial hops : BitVec 32)
  /-- `REPORT` (R293): A REPORT is forwarded up the parent link or collected by the discovering candidate. -/
  | report (link : Fin 64) (msg : ReportMsg)
  /-- `DISCOVERY_END` (R293): The candidate holds the expected reports or 20 ms pass without one, assigns coordinates and
  sends map epoch 1. -/
  | discoveryEnd
  /-- `MAP_HEAD` (R294): A module receives the map header and its chunks, verifies the map and installs routes. -/
  | mapHead (source : BitVec 32) (header : Bytes)
  /-- `MAP_CHUNK` (R294): A module receives one chunk of map entries. -/
  | mapChunk (source index : BitVec 32) (entries : Bytes)
  /-- `MAP_ACK` (R293): The chief receives a module's map acknowledgement with its route status. -/
  | mapAck (source epoch routes : BitVec 32)
  /-- `PULL` (R292): The chief receives a PULL and sends the full map or the ledger records requested. -/
  | pull (source : BitVec 32) (records : Option (BitVec 64))
  /-- `PORT_STATE` (R296): The chief receives a port-alive change and gathers it for the next map epoch. -/
  | portState (source : BitVec 32) (railA railB : BitVec 10)
  /-- `MAP_BATCH_EXPIRY` (R296): After MAP_BATCH the chief commits a map-epoch record and broadcasts the delta. -/
  | mapBatchExpiry
  /-- `HEARTBEAT_SEND` (R288): Every HEARTBEAT interval the chief sends HEARTBEAT to the roster. -/
  | heartbeatSend
  /-- `HEARTBEAT` (R288): A roster member receives a HEARTBEAT with term and committed sequence. -/
  | heartbeat (source term : BitVec 32) (seq : BitVec 64)
  /-- `CHIEF_TIMEOUT` (R288): No heartbeat for CHIEF_TIMEOUT plus rank delay makes a member request election for term + 1. -/
  | chiefTimeout
  /-- `CHIEF_REQUEST` (R288): A roster member receives a chief request vote and grants it at most once per term. -/
  | chiefRequest (v : Bytes)
  /-- `CHIEF_GRANT` (R288): A candidate receives a grant and becomes chief on holding M grants. -/
  | chiefGrant (v : Bytes)
  /-- `ELECTION_TIMEOUT` (R288): A candidate short of M grants after CHIEF_TIMEOUT gives up the term. -/
  | electionTimeout
  /-- `RECORD` (R301): A roster member writes a proposed ledger record and returns RECORD_ACK. -/
  | record (source : BitVec 32) (bytes : Bytes)
  /-- `RECORD_ACK` (R301): The chief counts an acknowledgement and on M holders sends COMMIT and proposes the next record. -/
  | recordAck (source : BitVec 32) (seq : BitVec 64)
  /-- `COMMIT` (R302): A module applies a committed ledger record, installing, draining or fencing as its type directs. -/
  | commit (source : BitVec 32) (bytes : Bytes)
  /-- `SLICE_ACK` (R303): The chief receives a module's install or drain outcome and reports readiness or commits teardown
  complete. -/
  | sliceAck (source : BitVec 32) (tag epoch : BitVec 16) (event fenced : BitVec 32)
  /-- `SUSPECT` (R308): A roster member receives a SUSPECT report and casts an expel vote when its conditions are met. -/
  | suspect (source subject : BitVec 32) (reason : BitVec 8) (periods : BitVec 32)
  /-- `CONS` (R312): The chief receives per-slice conservation sums and records a conservation event beyond the in-doubt
  allowance. -/
  | cons (source : BitVec 32) (sums : List ConsSum)
  /-- `CONS_SEND` (R291): Once per second a module sends its CONS sums to the chief. -/
  | consSend
  /-- `KEY` (R291): A module receives a chunk of a roster member's identity key and certificate. -/
  | key (place : BitVec 32) (off : Nat) (data : Bytes)
  /-- `VOTE` (R309): A vote is verified by SC and counted by CT, and M valid votes fence or readmit the subject. -/
  | vote (source : BitVec 32) (v : Bytes)
  /-- `SLICE_REQUEST` (R300): The chief receives a signed slice request and commits a create record or refuses it. -/
  | sliceRequest (src : ScSource)
  /-- `OPERATOR_VOTE_ORDER` (R308): A signed operator order makes a roster member cast an expel or readmit vote. -/
  | operatorVoteOrder (src : ScSource)
  /-- `FAULT_OCCURRENCE` (R315): A fault report reaches CT and the actions of its source's level are taken. -/
  | faultOccurrence (ext : Option Occurrence)
  /-- `RELEASE` (R321): A write of CT.RELEASE from MG releases the capture. -/
  | release (m : Master)
  /-- `DIAGNOSIS_COMPLETE` (R323): The recompute runs end and CT judges the fault transient or permanent, retiring the tile
  and starting substitution. -/
  | diagnosisComplete (t : Fin 68) (same sidingBad differ : Bool)
  /-- `SUBSTITUTION_COMPLETE` (R132): The SRAM copy to the siding ends, SUBSTITUTING clears and held counter increments are
  applied. -/
  | substitutionComplete (t : Fin 64)
  /-- `TILE_MAP_WRITE` (R325): MG writes CT.TILE_MAP_t while no job runs with an unretired unbound tile. -/
  | tileMapWrite (m : Master) (t : Fin 64) (phys : BitVec 7) (valid : BitVec 1)
  /-- `BEACON_SEND` (R327): Every INTERVAL µs a module sends a standalone beacon to each torus neighbour. -/
  | beaconSend
  /-- `BEACON` (R327): A beacon received resets the sender's miss count and ends any suspicion. -/
  | beacon (source : BitVec 32) (pl : Bytes)
  /-- `BEACON_WINDOW` (R328): An INTERVAL window without a watched neighbour's beacon adds a miss and may make it suspected. -/
  | beaconWindow
  /-- `WEAR_UPDATE` (R331): Once per second MG updates every wear score and raises the wear source at THRESH. -/
  | wearUpdate
  /-- `FSR_EMIT` (R332): MG emits a Failure Signature Record when the capture's outcome is known or 10 ms after capture. -/
  | fsrEmit
  /-- `FSR_ACKNOWLEDGEMENT` (R441): The collector's acknowledgement of a record sequence stops its resending. -/
  | fsrAcknowledgement (seq : BitVec 64)
  /-- `FSR_RESEND` (R441): Every 100 ms MG resends each unacknowledged record. -/
  | fsrResend
  /-- `SNAPSHOT_START` (R341): At t0 + 1.5 µs of a snapshot run SN clears the target half's mark and starts copying the
  shard. -/
  | snapshotStart
  /-- `SNAPSHOT_COPY_COMPLETE` (R341): The copy ends, SN writes the manifest and key block and SC starts signing. -/
  | snapshotCopyComplete
  /-- `SNAPSHOT_SIGNED` (R341): The manifest is signed, SN writes the valid mark and the target becomes current. -/
  | snapshotSigned
  /-- `MIRROR_START` (R348): After a flip, with no mirror outstanding, SN starts sending the current half to the buddy. -/
  | mirrorStart
  /-- `MIRROR_COMPLETE` (R348): The buddy's counter reaches E with all digests matching, the copy is marked valid and
  acknowledged. -/
  | mirrorComplete
  /-- `MIRROR_TIMEOUT` (R348): A mirror not complete TIMEOUT ms after it began clears the half's magic and is acknowledged
  as failed. -/
  | mirrorTimeout
  /-- `MIRROR_ACKNOWLEDGEMENT` (R348): The sender receives the outcome on counter 0x0FFF and counts the mirror done or
  failed. -/
  | mirrorAcknowledgement (outcome : BitVec 48)
  /-- `FERRY_START` (R350): A write of SN.FERRY_CTRL.START starts draining the named half. -/
  | ferryStart (m : Master) (half : Fin 2)
  /-- `FERRY_SLOT_FILL` (R350): With room in the staging window, the ferry fills the next slot, increments FILLED and raises
  the ferry vector. -/
  | ferrySlotFill
  /-- `FERRY_STALL` (R351): DONE unmoved for 10 s raises SN source 2. -/
  | ferryStall
  /-- `LOAD_RECEIVE` (R354): SN.LOAD_CTRL OP receive prepares a harbour half to receive a copy. -/
  | loadReceive (m : Master) (half : Fin 2)
  /-- `LOAD_SEND` (R354): SN.LOAD_CTRL OP send sends a harbour or buddy half to the named receiver. -/
  | loadSend (m : Master) (half region : Fin 2)
  /-- `UNPACK` (R355): SN.LOAD_CTRL OP unpack verifies the chosen half and copies it into live state. -/
  | unpack (m : Master) (half : Fin 2)
  /-- `LOAD_ABANDON` (R356): SN.LOAD_CTRL OP abandon ends a load with code 0x16. -/
  | loadAbandon (m : Master)
  /-- `RECEIVE_TIMEOUT` (R354): A receive not complete within TIMEOUT ends with code 0x15. -/
  | receiveTimeout
  /-- `UNPACK_COMPLETE` (R355): The unpack ends and sets code 0x01, or stops with a failure code. -/
  | unpackComplete
  /-- `RESTORE_DECISION` (R352): The restore controller chooses the newest complete step, or writes code 0x20 when none
  exists. -/
  | restoreDecision (copies : List CopyInfo)
  /-- `TB0_SAMPLE` (R378): When TB0's nanoseconds reach a multiple of 1,000,000 the servo forms a sample from gated parent
  offsets and applies it. -/
  | tb0Sample
  /-- `HOLDOVER` (R371): A set base with no accepted sample for LOST ms enters holdover and counts as unsynchronised. -/
  | holdover (i : Fin 2)
  /-- `TIME_ANNOUNCE_SEND` (R376): Every ANNOUNCE ms TM sends a time announce to each torus neighbour. -/
  | timeAnnounceSend
  /-- `TIME_ANNOUNCE` (R377): A received announce updates the parent choice and stratum, or is dropped for a reserved kind. -/
  | timeAnnounce (link : Fin 64) (pl : Bytes)
  /-- `RELOCK_SLEW` (R374): A relock in mode 0 clears REFUSED and lets the servo slew to any sample size. -/
  | relockSlew (m : Master) (base : Fin 2)
  /-- `RELOCK_STEP` (R374): A relock in mode 1 steps the base by the next sample, refused for TB0 while a job runs. -/
  | relockStep (m : Master) (base : Fin 2)
  /-- `TB3_SET` (R361): A write of TM.TB3_SET_NS sets TB3 to the written seconds and nanoseconds. -/
  | tb3Set (m : Master) (v : BitVec 32)
  /-- `SYNC` (R382): A received Sync message is stamped for the TB1 servo. -/
  | sync (m : PtpMsg)
  /-- `FOLLOW_UP` (R382): A received Follow_Up supplies the precise origin stamp of a two-step Sync. -/
  | followUp (m : PtpMsg)
  /-- `DELAY_REQ_SEND` (R381): At the master's Delay_Req interval the slave sends Delay_Req and stamps t3. -/
  | delayReqSend
  /-- `DELAY_RESP` (R382): A received Delay_Resp completes a pair and gives one sample to TB1's servo. -/
  | delayResp (m : PtpMsg)
  /-- `PTP_ANNOUNCE` (R381): A received Announce feeds the best master clock algorithm. -/
  | ptpAnnounce (a : PtpAnn)
  /-- `ANNOUNCE_RECEIPT_TIMEOUT` (R382): No Announce for ANN_TIMEOUT intervals drops the master. -/
  | announceReceiptTimeout
  /-- `THERMAL_SAMPLE` (R387): Every 100 µs PV samples the thermal sensors and raises warning, limit or shutdown sources. -/
  | thermalSample (temps : List (BitVec 16))
  /-- `SUPPLY_SAMPLE` (R387): Every 1 µs PV samples island supplies and raises source 3 after DWELL out of range. -/
  | supplySample (mv : List (BitVec 16))
  /-- `PROCESS_SAMPLE` (R386): Once per second PV reads each ring oscillator. -/
  | processSample (cycles : List (BitVec 16))
  /-- `SECOND_SUMMARY` (R384): At each TB2 seconds increment PV closes a per-second summary and MG sends it. -/
  | secondSummary (cycles : List (Nat × Nat × Nat × Nat)) (overlap : Bool)
  /-- `RING_FREEZE` (R391): An armed ring has written its post-trigger entries and freezes. -/
  | ringFreeze (i : Fin 100)
  /-- `RING_RELEASE` (R392): A write of DB.RING_RELEASE.GO unfreezes the named ring or every ring. -/
  | ringRelease (m : Master) (i : Fin 100) (all : Bool)
  /-- `EVENT_RECORD_WRITE` (R398): The writer takes a queued record and writes it to the flash log, erasing the oldest block
  when full. -/
  | eventRecordWrite
  /-- `EVR_SECOND_BOUNDARY` (R397): At each TB2 seconds boundary suppression summaries and lost-record records are written. -/
  | evrSecondBoundary
  /-- `EVR_READ` (R399): A write of DB.EVR_READ_SEQ_p requests a record through that master's port. -/
  | evrRead (m : Master) (p : Fin 2) (seq : BitVec 64)
  /-- `EVR_READ_COMPLETE` (R399): The requested record fills the read data with its status. -/
  | evrReadComplete (p : Fin 2) (flashError : Bool)
  /-- `EVENT_RECORD_READ` (R440): A management read request is answered with the event record through MG's port. -/
  | eventRecordRead (seq : BitVec 64) (flashError : Bool)
  /-- `EVR_CLEAR` (R400): DB.EVR_CLEAR_CTRL.GO verifies a signed clear command and erases the log, writing a clear record,
  or refuses it. -/
  | evrClear (m : Master)
  /-- `DUMP` (R401): DB.DUMP_CTRL.GO or a hang escalation starts a dump, or it is refused, skipped or ignored. -/
  | dump (m : Master)
  /-- `DUMP_COMPLETE` (R403): The dump ends and writes its valid mark, or fails. -/
  | dumpComplete (r : Result)
  /-- `DUMP_ACK` (R401): A write of DB.DUMP_CTRL.ACK clears HELD. -/
  | dumpAck (m : Master)
  /-- `POWER_UP` (R405): PWR_EN high with VAON and the reference stable starts power-up: SB and TM start and read the
  straps. -/
  | powerUp (z0 z1 : Fin 9) (flash : Option FlashContent)
  /-- `STRAP_RESAMPLE` (R458): Disagreeing slot strap samples hold power-up and SB resamples every 10 ms. -/
  | strapResample (z0 z1 : Fin 9)
  /-- `POWER_GOOD` (R405): A requested rail's power-good arrives and SB proceeds to the next power-up step. -/
  | powerGood (r : Rail) (rev14 : GoodEdge)
  /-- `RAIL_TIMEOUT` (R405): A rail without power-good 10 ms after its request stops the sequence and SB takes the rails
  off. -/
  | railTimeout (r : Rail)
  /-- `READINESS` (R436): Every island is in service, boot is verified and memory is ready, so HI sets READY and cause bit
  0. -/
  | readiness
  /-- `PWR_EN_FALL` (R454): PWR_EN falls and SB takes the rails off within 20 ms, abandoning any activity. -/
  | pwrEnFall
  /-- `POWER_GOOD_LOSS` (R408): An unrequested loss of VCORE power-good is handled as rail off. -/
  | powerGoodLoss
  /-- `RAIL_OFF` (R406): SB takes VOPT, the LPDDR rails, VCORE and VAUX off in order. -/
  | railOff
  /-- `SMBALERT` (R407): SMBALERT# raises SB source 4 and SB reads and clears the stage's status. -/
  | smbalert (word : Option (BitVec 16))
  /-- `PMBUS_POLL` (R407): Every 100 ms SB reads the stage's status and telemetry. -/
  | pmbusPoll (r : Result) (word : BitVec 16) (mv : BitVec 10)
  /-- `FORECAST` (R412): SB sends a FORECAST frame at each 10 µs window. -/
  | forecast
  /-- `HEARTBEAT_FRAME` (R412): SB sends a lane HEARTBEAT when 50 µs pass without a down frame. -/
  | heartbeatFrame
  /-- `TARGET` (R413): SB sends a TARGET frame to change VCORE while no job runs. -/
  | target (m : Master) (mv : BitVec 10)
  /-- `ACK_FRAME` (R411): An ACK from the stage ends the outstanding acknowledged frame. -/
  | ackFrame (f : BitVec 32)
  /-- `NACK_FRAME` (R411): A NACK makes SB raise source 5 and carry the request over PMBus. -/
  | nackFrame (f : BitVec 32)
  /-- `ACK_TIMEOUT` (R411): No ACK within 2 µs resends the frame, and after three sends SB falls back to PMBus. -/
  | ackTimeout
  /-- `TELEMETRY` (R410): A TELEMETRY frame updates SB.VCORE.IOUT. -/
  | telemetry (f : BitVec 32)
  /-- `ALERT` (R411): An ALERT frame raises SB source 4. -/
  | alert (f : BitVec 32)
  /-- `ISLAND_RESET` (R418): SB.ISL_CTRL OP 0 or CT closes the island's straits, asserts and releases reset. -/
  | islandReset (m : Master) (i : Fin 100)
  /-- `ISLAND_POWER_CYCLE` (R418): SB.ISL_CTRL OP 1 or escalation power-cycles an island after saving its ring. -/
  | islandPowerCycle (m : Master) (i : Fin 100)
  /-- `DOMAIN_OFF` (R415): SB.ISL_CTRL OP 2 switches a domain off in four steps, or is refused. -/
  | domainOff (m : Master) (d : BitVec 7)
  /-- `DOMAIN_ON` (R415): SB.ISL_CTRL OP 3 switches a domain on with a 200 µs ramp. -/
  | domainOn (m : Master) (d : BitVec 7)
  /-- `ISLAND_IN_SERVICE` (R418): The island reports in service and its straits reopen. -/
  | islandInService (i : Fin 100)
  /-- `ISLAND_RESET_TIMEOUT` (R417): An island reset exceeding 50 µs raises source 0 and escalates to a power cycle. -/
  | islandResetTimeout (i : Fin 100)
  /-- `POWER_CYCLE_TIMEOUT` (R417): A power cycle exceeding 2 ms raises source 1 and escalates to module full reset. -/
  | powerCycleTimeout (i : Fin 100)
  /-- `SUBSTITUTION_TIMEOUT` (R417): A substitution exceeding 50 µs resets both tiles and substitutes the next siding. -/
  | substitutionTimeout (t : Fin 64)
  /-- `MODULE_FULL_RESET` (R421): A full reset stops tiles, preserves memory in self-refresh, resets and restarts the
  module. -/
  | moduleFullReset
  /-- `MODULE_RESET` (R422): A write of HI.MODULE_RESET.GO with the key starts a module full reset. -/
  | moduleReset (m : Master) (key : BitVec 16)
  /-- `PERST_ASSERT` (R422): PERST# asserted starts a full reset held until deassertion. -/
  | perstAssert
  /-- `PERST_DEASSERT` (R422): PERST# deasserted releases the held full reset and restarts its bound. -/
  | perstDeassert
  /-- `HOT_RESET` (R422): A PCI Express hot reset starts a module full reset. -/
  | hotReset
  /-- `SECONDARY_BUS_RESET` (R422): A secondary bus reset starts a module full reset. -/
  | secondaryBusReset
  /-- `FULL_RESET_TIMEOUT` (R417): A full reset exceeding 250 ms raises source 2 and escalates to cold reset. -/
  | fullResetTimeout
  /-- `MODULE_COLD_RESET` (R417): A cold reset, from escalation or signed command, resets all cold state and powers up
  again. -/
  | moduleColdReset
  /-- `COLD_RESET_TIMEOUT` (R417): A cold reset not reaching readiness in 500 ms escalates to rail off. -/
  | coldResetTimeout
  /-- `PCIE_LINK_DOWN` (R437): A PCI Express link down without reset raises HI source 2. -/
  | pcieLinkDown
  /-- `KICK` (R427): A write of SB.WDOG.KICK from MG restarts the watchdog. -/
  | kick (m : Master)
  /-- `WATCHDOG_EXPIRY` (R427): No kick within TIMEOUT reverts a fresh MG switch or raises source 3. -/
  | watchdogExpiry
  /-- `FW_STAGE` (R425): SB.FW_STAGE.GO has SC verify an image and SB write it into the inactive slot. -/
  | fwStage (m : Master) (addr : BitVec 42) (kind : Fin 4) (flashError : Bool)
  /-- `FW_SWITCH` (R425): SB.FW_SWITCH.GO arms a switch of the named kinds at period N. -/
  | fwSwitch (m : Master) (kinds : BitVec 4) (n : BitVec 64)
  /-- `FW_SWITCH_CANCEL` (R425): SB.FW_SWITCH.CANCEL drops pending switches. -/
  | fwSwitchCancel (m : Master)
  /-- `CAL_RELOAD` (R428): SB.CAL_RELOAD.GO verifies a calibration block and PV applies the trims at the next departure. -/
  | calReload (m : Master) (addr : BitVec 42) (verified : Bool) (serial : BitVec 64)
  /-- `ROLLBACK_COUNTER_RAISE` (R445): An image active for 60 s without revert raises its anti-rollback counter. -/
  | rollbackCounterRaise (kind : Fin 5)
  /-- `BAR2_READ` (R434): A host read through the aperture returns LPDDR data, poisoned data or Unsupported Request. -/
  | bar2Read (off : BitVec 36) (n : BitVec 13)
  /-- `BAR2_WRITE` (R434): A host write through the aperture writes LPDDR or is dropped as Unsupported Request. -/
  | bar2Write (off : BitVec 36) (data : Bytes)
  /-- `ASSIGN_PLACE_ADDRESS` (R286): Signed command 0x01 writes the module's place address. -/
  | assignPlaceAddress (src : ScSource)
  /-- `TIME_RELOCK` (R374): Signed command 0x02 has MG write TM.RELOCK. -/
  | timeRelock (src : ScSource)
  /-- `COLD_RESET_COMMAND` (R417): Signed command 0x03 starts a module cold reset. -/
  | coldResetCommand (src : ScSource)
  /-- `ATTESTATION_REQUEST` (R450): A type 0x06 request or SC.ATTEST.GO makes SC write and sign an attestation report. -/
  | attestationRequest (src : ScSource)
  /-- `CONFIGURATION_BLOCK_STAGE` (R447): SC.UPDATE with KIND 0 verifies and stages a configuration block for the next full
  reset. -/
  | configurationBlockStage (m : Master) (addr : BitVec 42)
  /-- `TRUST_LIST_STAGE` (R446): SC.UPDATE with KIND 1 verifies and stages a trust list for the next full reset. -/
  | trustListStage (m : Master) (addr : BitVec 42)
  /-- `LASER_INPUT_RESTORED` (R256): The laser input of an engine comes back within range, so its links leave state 0 or
  return through state 1. -/
  | laserInputRestored (e : Fin 16)
  /-- `UE_GATE_OVERRUN` (R193): While UE waits on an unsatisfied gate, the instant at which the command's bound no longer
  fits before the departure ends the list and raises overrun. -/
  | ueGateOverrun
  /-- `FULL_TRAINING_COMPLETE` (R233): The 7 ms full training of a sub-channel that failed recalibration, or of every
  sub-channel after a failed store check, ends and the sub-channel becomes ready or is retired by copy. -/
  | fullTrainingComplete (k : Fin 8) (failed : BitVec 128)
  /-- `SELF_FENCE_WINDOW_EXPIRY` (R315): WINDOW after a self-fence request, CT.STATUS.SELF_FENCE clears and MG may send a
  further request. -/
  | selfFenceWindowExpiry
  /-- `MANAGEMENT_PORT_LINK_DOWN` (R439): The 10GBASE-KR management link goes down, clearing MG.PORT_STATUS.LINK and raising
  MG source 1. -/
  | managementPortLinkDown
  /-- `MANAGEMENT_PORT_LINK_UP` (R439): The 10GBASE-KR management link comes up after auto-negotiation, setting
  MG.PORT_STATUS.LINK and the FEC state. -/
  | managementPortLinkUp (fec : Bool)
  /-- `PCI_EXPRESS_LINK_UP` (R437): The PCI Express link trains to its negotiated width and rate, updating HI.STATUS WIDTH,
  SPEED and FLIT. -/
  | pciExpressLinkUp (lanes : BitVec 4) (speed : BitVec 3) (flit : Bool)
  /-- `PCI_EXPRESS_ERROR` (R314): A correctable or uncorrectable PCI Express error is detected and raises HI source 0 or 1,
  at level 4 resetting HI. -/
  | pciExpressError (uncorrectable : Bool)
  /-- `ARP_REQUEST` (R439): MG receives an ARP request on the management port and answers it. -/
  | arpRequest (target : BitVec 32) (mac : BitVec 48) (sender : BitVec 32)
  /-- `ICMP_ECHO_REQUEST` (R439): MG receives an ICMP echo request on the management port and answers it. -/
  | icmpEchoRequest (target sender : BitVec 32) (data : Bytes)
  /-- `TIME_BASE_SECONDS_READ` (R403): A read of TM.TBb_SEC latches the same instant's nanoseconds for the reading master's
  next read of NS. -/
  | timeBaseSecondsRead (m : Master) (i : Fin 4)
  /-- `DUMP_TIMEOUT` (R401): 5 ms after a hang dump started without completing, SB begins the module full reset. -/
  | dumpTimeout
  /-- `BOARD_PEER_READ` (R172): A board peer reads source bytes from this module over the board links for a transfer, with
  checks made against this module's state. -/
  | boardPeerRead (slot : Fin 4) (a : BitVec 48) (n : BitVec 25)
  deriving DecidableEq, Repr

end Sys2Proof
end

