-- ==== Sys2Proof/Decode.lean ====
section
/-! DEFINITION. The decoder of the table's words.  spec/opcode_table.json gives no row any bits: the module takes commands, and
the words of tile instructions are decoded in Machine/Spaovoto.lean. -/

namespace Sys2Proof

/-- The command that a word of the table spells: none, since no row has bits. -/
def decodeTableWord (_nbits _w : Nat) : Option Instr := none

end Sys2Proof
end

