-- ==== Sys2Proof/Config.lean ====
section
/-! DEFINITION. What the spec leaves to the part or to nobody: free values, and the outcome of the cryptography whose
padding and keys the spec does not give.  Every one is an opaque constant: no proof can use a value of it. -/

namespace Sys2Proof

/-- Free values: the value with index `n` at width `w`.  The index is the model's own counter `Body.free` (log 3). -/
opaque Config.freeValue (w n : Nat) : BitVec w

/-- Whether an RSA-3072 signature with SHA-256 verifies: modulus (384 bytes), exponent, message, signature.  The spec names
the scheme but not its padding (log 4). -/
opaque Config.sigValid (modulus : Bytes) (exponent : Nat) (message signature : Bytes) : Bool

/-- The signature that SC makes over a message with the identity key, 384 bytes (R448; log 4). -/
opaque Config.identitySign (message : Bytes) : Vector Byte 384

/-- Whether SC finds the signature and the certificate of an identity frame's body right (R254): the frame carries the
digest of the key, and the spec does not say where the key and its certificate come from (log 4). -/
opaque Config.identityValid (body : Bytes) : Bool

/-- The digest of Exain's root key held in SC's mask ROM (R444; log 4). -/
opaque Config.rootDigest : Vector Byte 32

/-- The 60 result bytes of training number `n` of sub-channel `s`, in the controller's own encoding (`M.TRAIN_STORE`;
log 5). -/
opaque Config.trainResult (s n : Nat) : Vector Byte 60

/-- The activations of a bank at which the device asks for refresh management (R212, R230; log 96). -/
opaque Config.refreshLimit : Nat

/-- The PCI Express vendor identifier (R432): the spec gives the configuration header's other identifiers and not this one
(log 72). -/
opaque Config.pciVendor : BitVec 16

/-- The size in MiB of the ledger region of the module at a place (R286): each module's own configuration block gives it, and no
message carries it (log 100). -/
opaque Config.ledgerMib (place : Nat) : BitVec 32

/-- The module at a place is a siding (R294, flag [3] of its map entry): no report names the sidings (log 108). -/
opaque Config.sidingModule (place : Nat) : Bool

end Sys2Proof
end

