-- ==== Sys2Proof/Machine/Bits.lean ====
section
/-! DEFINITION. Bit fields, byte strings and sparse maps: the helpers that every other file of the machine uses. -/

namespace Sys2Proof.Machine

/-- Bits `[lo + w - 1 : lo]` of `n`. -/
def bits (n lo w : Nat) : Nat := (n >>> lo) % 2 ^ w

/-- `n` with the bits `[lo + w - 1 : lo]` replaced by `v`. -/
def setBits (n lo w v : Nat) : Nat :=
  let hole := n - (bits n lo w <<< lo)
  hole + ((v % 2 ^ w) <<< lo)

/-- Bit `i` of `n`. -/
def bit (n i : Nat) : Bool := n.testBit i

/-- 1 for true, 0 for false. -/
def b2n (b : Bool) : Nat := if b then 1 else 0

/-- The signed value of the low `w` bits of `n`. -/
def signed (n w : Nat) : Int :=
  let m := n % 2 ^ w
  if m < 2 ^ (w - 1) then (m : Int) else (m : Int) - (2 ^ w : Nat)

/-- The low `w` bits of the two's complement of `i`. -/
def unsigned (i : Int) (w : Nat) : Nat := (i % ((2 ^ w : Nat) : Int)).toNat

/-- `i` limited to `lo … hi`. -/
def clampInt (i lo hi : Int) : Int := if i < lo then lo else if hi < i then hi else i

/-- `a + b`, at most the largest value of a `w`-bit field ("saturates"). -/
def satAdd (a b w : Nat) : Nat := if a + b < 2 ^ w then a + b else 2 ^ w - 1

/-- The quotient rounded up. -/
def ceilDiv (a b : Nat) : Nat := (a + b - 1) / b

/-- The little-endian bytes of `v`, `n` of them (R8). -/
def leBytes : Nat → Nat → Bytes
  | 0, _ => []
  | n + 1, v => BitVec.ofNat 8 v :: leBytes n (v / 256)

/-- The big-endian bytes of `v`, `n` of them. -/
def beBytes (n v : Nat) : Bytes := (leBytes n v).reverse

/-- The little-endian number a byte string spells (R8). -/
def leNat : Bytes → Nat
  | [] => 0
  | b :: bs => b.toNat + 256 * leNat bs

/-- The big-endian number a byte string spells. -/
def beNat (bs : Bytes) : Nat := leNat bs.reverse

/-- `n` bytes of `bs` from `off`; bytes that are not there read as 0. -/
def slice (bs : Bytes) (off n : Nat) : Bytes :=
  let t := (bs.drop off).take n
  t ++ List.replicate (n - t.length) 0

/-- The little-endian field of `n` bytes at `off` (R8). -/
def le (bs : Bytes) (off n : Nat) : Nat := leNat (slice bs off n)

/-- The big-endian field of `n` bytes at `off`. -/
def be (bs : Bytes) (off n : Nat) : Nat := beNat (slice bs off n)

/-- `bs` with the bytes `new` written over it from `off`. -/
def overlay (bs : Bytes) (off : Nat) (new : Bytes) : Bytes :=
  bs.take off ++ new ++ bs.drop (off + new.length)

/-- `n` zero bytes. -/
def zeros (n : Nat) : Bytes := List.replicate n 0

/-- The numbers `0 … n - 1`. -/
def upTo (n : Nat) : List Nat := List.range n

/-- The lowest number below `n` that satisfies `p`. -/
def lowest (n : Nat) (p : Nat → Bool) : Option Nat := (List.range n).find? p

/-- How many numbers below `n` satisfy `p`. -/
def countUpTo (n : Nat) (p : Nat → Bool) : Nat := ((List.range n).filter p).length

/-- `f` applied for every element of the list in turn. -/
def forEach {α σ : Type} (l : List α) (f : α → σ → σ) (s : σ) : σ := l.foldl (fun t a => f a t) s

/-- `f` applied `n` times. -/
def repeatN {σ : Type} : Nat → (σ → σ) → σ → σ
  | 0, _, s => s
  | n + 1, f, s => repeatN n f (f s)

/-- A sparse map with numbers as keys: the keys rise strictly. -/
abbrev SMap (α : Type) := List (Nat × α)

/-- The value at key `k`, if the map lists one. -/
def SMap.find {α : Type} : SMap α → Nat → Option α
  | [], _ => none
  | (k', v) :: t, k => if k' = k then some v else SMap.find t k

/-- The value at key `k`, or `d`. -/
def SMap.getD {α : Type} (m : SMap α) (k : Nat) (d : α) : α := (SMap.find m k).getD d

/-- The map with `v` at key `k`. -/
def SMap.insert {α : Type} : SMap α → Nat → α → SMap α
  | [], k, v => [(k, v)]
  | (k', v') :: t, k, v =>
    if k' = k then (k, v) :: t
    else if k < k' then (k, v) :: (k', v') :: t
    else (k', v') :: SMap.insert t k v

/-- The map without key `k`. -/
def SMap.erase {α : Type} (m : SMap α) (k : Nat) : SMap α := m.filter (fun e => e.1 != k)

/-- The map with `v` at key `k`, where an unlisted key reads as `d`: the entry is dropped when `v = d`, so that equal
contents are equal data. -/
def SMap.set {α : Type} [DecidableEq α] (m : SMap α) (k : Nat) (v d : α) : SMap α :=
  if v = d then SMap.erase m k else SMap.insert m k v

/-- The keys rise strictly. -/
def SMap.sorted {α : Type} : SMap α → Bool
  | [] => true
  | [_] => true
  | (k, _) :: (k', v') :: t => decide (k < k') && SMap.sorted ((k', v') :: t)

end Sys2Proof.Machine
end

