-- ==== Sys2Proof/Machine/Crc.lean ====
section
/-! DEFINITION. The checks of the module: CRC-8 of packet headers and CRC-32 (R263), SHA-256 (R55, R294, R344). -/

namespace Sys2Proof.Machine

/-- One bit of a CRC-32 (reflected, polynomial 0x04C11DB7). -/
def crc32Bit (c : Nat) : Nat := if c % 2 = 1 then (c / 2) ^^^ 0xEDB88320 else c / 2

/-- One byte of a CRC-32. -/
def crc32Byte (c : Nat) (x : Byte) : Nat := repeatN 8 crc32Bit (c ^^^ x.toNat)

/-- The CRC-32 of IEEE 802.3 (R263). -/
def crc32 (bs : Bytes) : Nat := (bs.foldl crc32Byte 0xFFFFFFFF) ^^^ 0xFFFFFFFF

/-- One bit of the CRC-8 of R263: polynomial x⁸ + x² + x + 1, not reflected. -/
def crc8Bit (c : Nat) : Nat := if 128 ≤ c then ((2 * c) % 256) ^^^ 0x07 else 2 * c

/-- The header CRC-8 (R263), initial value zero. -/
def crc8 (bs : Bytes) : Nat := bs.foldl (fun c x => repeatN 8 crc8Bit (c ^^^ x.toNat)) 0

/-! ## SHA-256 -/

/-- The 64 round constants, eight of 32 bits in each number, the first in its top bits: the fractions of the cube roots of
the first 64 primes. -/
def shaPacked : List Nat :=
  [ 0x428a2f9871374491b5c0fbcfe9b5dba53956c25b59f111f1923f82a4ab1c5ed5
  , 0xd807aa9812835b01243185be550c7dc372be5d7480deb1fe9bdc06a7c19bf174
  , 0xe49b69c1efbe47860fc19dc6240ca1cc2de92c6f4a7484aa5cb0a9dc76f988da
  , 0x983e5152a831c66db00327c8bf597fc7c6e00bf3d5a7914706ca635114292967
  , 0x27b70a852e1b21384d2c6dfc53380d13650a7354766a0abb81c2c92e92722c85
  , 0xa2bfe8a1a81a664bc24b8b70c76c51a3d192e819d6990624f40e3585106aa070
  , 0x19a4c1161e376c082748774c34b0bcb5391c0cb34ed8aa4a5b9cca4f682e6ff3
  , 0x748f82ee78a5636f84c878148cc7020890befffaa4506cebbef9a3f7c67178f2 ]

/-- The round constant of round `r`. -/
def shaConst (r : Nat) : Nat := (shaPacked[r / 8]?).getD 0 / 2 ^ (32 * (7 - r % 8)) % 2 ^ 32

/-- The eight words of a hash state. -/
structure Sha where
  a : Nat
  b : Nat
  c : Nat
  d : Nat
  e : Nat
  f : Nat
  g : Nat
  h : Nat
  deriving DecidableEq, Repr

def shaInit : Sha :=
  ⟨0x6a09e667, 0xbb67ae85, 0x3c6ef372, 0xa54ff53a, 0x510e527f, 0x9b05688c, 0x1f83d9ab, 0x5be0cd19⟩

/-- A 32-bit word rotated right. -/
def ror32 (x n : Nat) : Nat := (x / 2 ^ n) + (x % 2 ^ n) * 2 ^ (32 - n)

/-- The bitwise complement of a 32-bit word. -/
def not32 (x : Nat) : Nat := 2 ^ 32 - 1 - x

/-- One round with round constant `k` and message word `w`. -/
def shaRound (s : Sha) (k w : Nat) : Sha :=
  let s1 := ror32 s.e 6 ^^^ ror32 s.e 11 ^^^ ror32 s.e 25
  let ch := (s.e &&& s.f) ^^^ (not32 s.e &&& s.g)
  let t1 := s.h + s1 + ch + k + w
  let s0 := ror32 s.a 2 ^^^ ror32 s.a 13 ^^^ ror32 s.a 22
  let maj := (s.a &&& s.b) ^^^ (s.a &&& s.c) ^^^ (s.b &&& s.c)
  ⟨(t1 + s0 + maj) % 2 ^ 32, s.a, s.b, s.c, (s.d + t1) % 2 ^ 32, s.e, s.f, s.g⟩

/-- The last `left` of the 64 rounds; `win` holds the sixteen message words from the present one on. -/
def shaRounds : Nat → List Nat → Sha → Sha
  | 0, _, s => s
  | left + 1, win, s =>
    let g := fun i => win[i]?.getD 0
    let x0 := ror32 (g 1) 7 ^^^ ror32 (g 1) 18 ^^^ (g 1 / 8)
    let x1 := ror32 (g 14) 17 ^^^ ror32 (g 14) 19 ^^^ (g 14 / 1024)
    let nw := (g 0 + x0 + g 9 + x1) % 2 ^ 32
    shaRounds left (win.drop 1 ++ [nw]) (shaRound s (shaConst (63 - left)) (g 0))

/-- The big-endian words of a block. -/
def shaWords : Nat → Bytes → List Nat
  | 0, _ => []
  | n + 1, bs => beNat (bs.take 4) :: shaWords n (bs.drop 4)

/-- One 64-byte block. -/
def shaBlock (s : Sha) (blk : Bytes) : Sha :=
  let r := shaRounds 64 (shaWords 16 blk) s
  let p := fun x y => (x + y) % 2 ^ 32
  ⟨p s.a r.a, p s.b r.b, p s.c r.c, p s.d r.d, p s.e r.e, p s.f r.f, p s.g r.g, p s.h r.h⟩

/-- `n` blocks. -/
def shaBlocks : Nat → Bytes → Sha → Sha
  | 0, _, s => s
  | n + 1, bs, s => shaBlocks n (bs.drop 64) (shaBlock s (bs.take 64))

/-- SHA-256 (FIPS 180-4). -/
def sha256 (bs : Bytes) : Bytes :=
  let len := bs.length
  let pad := (119 - len % 64) % 64
  let msg := bs ++ [0x80] ++ List.replicate pad 0 ++ beBytes 8 (8 * len)
  let s := shaBlocks (msg.length / 64) msg shaInit
  ([s.a, s.b, s.c, s.d, s.e, s.f, s.g, s.h].map (beBytes 4)).flatten

end Sys2Proof.Machine
end

