-- ==== Sys2Proof/Machine/Fields.lean ====
section
/-! DEFINITION. The names of the register fields, one definition per field of the register tables of spec/ (R4, R5: an
island's registers stand at its index × 0x1_0000 plus the register's offset).  A register that exists once per instance
takes the instance numbers as arguments; a field `all` is the whole register. -/

namespace Sys2Proof.Machine

/-- A field of a register: the register's key (island index × 0x1_0000 + offset), the field's lowest bit and its width. -/
structure Field where
  key : Nat
  lo : Nat
  w : Nat
  deriving DecidableEq, Repr

/-- `TM.TT_STATUS`, offset 0x8000, 32 bits, full (spec/02_timetable.md). -/
def R.TM.TT_STATUS.all : Field := ⟨0x18000, 0, 32⟩
def R.TM.TT_STATUS.STATE : Field := ⟨0x18000, 0, 2⟩
def R.TM.TT_STATUS.STAGED : Field := ⟨0x18000, 2, 1⟩
def R.TM.TT_STATUS.ANNOUNCED : Field := ⟨0x18000, 3, 1⟩
def R.TM.TT_STATUS.REPLAYING : Field := ⟨0x18000, 4, 1⟩

/-- `TM.IMAGE_ADDR`, offset 0x8008, 64 bits, full (spec/02_timetable.md). -/
def R.TM.IMAGE_ADDR.all : Field := ⟨0x18008, 0, 64⟩
def R.TM.IMAGE_ADDR.ADDR : Field := ⟨0x18008, 6, 42⟩

/-- `TM.IMAGE_LEN`, offset 0x8010, 32 bits, full (spec/02_timetable.md). -/
def R.TM.IMAGE_LEN.all : Field := ⟨0x18010, 0, 32⟩
def R.TM.IMAGE_LEN.LEN : Field := ⟨0x18010, 0, 32⟩

/-- `TM.LOAD_CTRL`, offset 0x8014, 32 bits, full (spec/02_timetable.md). -/
def R.TM.LOAD_CTRL.all : Field := ⟨0x18014, 0, 32⟩
def R.TM.LOAD_CTRL.LOAD : Field := ⟨0x18014, 0, 1⟩
def R.TM.LOAD_CTRL.STAGE : Field := ⟨0x18014, 1, 1⟩
def R.TM.LOAD_CTRL.UNLOAD : Field := ⟨0x18014, 2, 1⟩

/-- `TM.LOAD_STATUS`, offset 0x8018, 32 bits, full (spec/02_timetable.md). -/
def R.TM.LOAD_STATUS.all : Field := ⟨0x18018, 0, 32⟩
def R.TM.LOAD_STATUS.CODE : Field := ⟨0x18018, 0, 8⟩
def R.TM.LOAD_STATUS.PTYPE : Field := ⟨0x18018, 8, 8⟩
def R.TM.LOAD_STATUS.INDEX : Field := ⟨0x18018, 16, 16⟩

/-- `TM.JOB_DEPART`, offset 0x8020, 64 bits, full (spec/02_timetable.md). -/
def R.TM.JOB_DEPART.all : Field := ⟨0x18020, 0, 64⟩
def R.TM.JOB_DEPART.ORIGIN : Field := ⟨0x18020, 0, 63⟩
def R.TM.JOB_DEPART.GO : Field := ⟨0x18020, 63, 1⟩

/-- `TM.DEPART_PERIOD`, offset 0x8028, 64 bits, full (spec/02_timetable.md). -/
def R.TM.DEPART_PERIOD.all : Field := ⟨0x18028, 0, 64⟩
def R.TM.DEPART_PERIOD.PERIOD : Field := ⟨0x18028, 0, 64⟩

/-- `TM.DEPART_SEQ`, offset 0x8030, 32 bits, full (spec/02_timetable.md). -/
def R.TM.DEPART_SEQ.all : Field := ⟨0x18030, 0, 32⟩
def R.TM.DEPART_SEQ.INDEX : Field := ⟨0x18030, 0, 12⟩
def R.TM.DEPART_SEQ.PTYPE : Field := ⟨0x18030, 12, 8⟩

/-- `TM.STEP_NUMBER`, offset 0x8038, 64 bits, full (spec/02_timetable.md). -/
def R.TM.STEP_NUMBER.all : Field := ⟨0x18038, 0, 64⟩
def R.TM.STEP_NUMBER.STEP : Field := ⟨0x18038, 0, 64⟩

/-- `TM.SEAL_WINDOW`, offset 0x8040, 32 bits, full (spec/02_timetable.md). -/
def R.TM.SEAL_WINDOW.all : Field := ⟨0x18040, 0, 32⟩
def R.TM.SEAL_WINDOW.WINDOW : Field := ⟨0x18040, 0, 13⟩

/-- `TM.SERIAL`, offset 0x8048, 64 bits, full (spec/02_timetable.md). -/
def R.TM.SERIAL.all : Field := ⟨0x18048, 0, 64⟩
def R.TM.SERIAL.ACTIVE : Field := ⟨0x18048, 0, 32⟩
def R.TM.SERIAL.STAGED : Field := ⟨0x18048, 32, 32⟩

/-- `TM.ANNOUNCED_PERIOD`, offset 0x8050, 64 bits, full (spec/02_timetable.md). -/
def R.TM.ANNOUNCED_PERIOD.all : Field := ⟨0x18050, 0, 64⟩
def R.TM.ANNOUNCED_PERIOD.N : Field := ⟨0x18050, 0, 64⟩

/-- `TM.STOP`, offset 0x8058, 32 bits, full (spec/02_timetable.md). -/
def R.TM.STOP.all : Field := ⟨0x18058, 0, 32⟩
def R.TM.STOP.STOP : Field := ⟨0x18058, 0, 1⟩

/-- `TM.VOID_COUNTS`, offset 0x8060, 64 bits, full (spec/02_timetable.md). -/
def R.TM.VOID_COUNTS.all : Field := ⟨0x18060, 0, 64⟩
def R.TM.VOID_COUNTS.VOID_SENT : Field := ⟨0x18060, 0, 16⟩
def R.TM.VOID_COUNTS.MISSING : Field := ⟨0x18060, 16, 16⟩
def R.TM.VOID_COUNTS.LATE_SEALS : Field := ⟨0x18060, 32, 16⟩
def R.TM.VOID_COUNTS.REPLAYS : Field := ⟨0x18060, 48, 16⟩

/-- `TM.CURSOR`, offset 0x8100, 64 bits, full (spec/02_timetable.md). -/
def R.TM.CURSOR.all (i : Nat) : Field := ⟨0x18100 + 0x8 * i, 0, 64⟩
def R.TM.CURSOR.POS (i : Nat) : Field := ⟨0x18100 + 0x8 * i, 0, 64⟩

/-- `T.MX_STATUS`, offset 0x2000, 32 bits, island (spec/04_dot_product.md). -/
def R.T.MX_STATUS.all (nn : Nat) : Field := ⟨0x202000 + 0x10000 * nn, 0, 32⟩
def R.T.MX_STATUS.MISMATCH (nn : Nat) : Field := ⟨0x202000 + 0x10000 * nn, 0, 1⟩
def R.T.MX_STATUS.ACC_MISMATCH (nn : Nat) : Field := ⟨0x202000 + 0x10000 * nn, 1, 1⟩
def R.T.MX_STATUS.PLAUS_FAIL (nn : Nat) : Field := ⟨0x202000 + 0x10000 * nn, 2, 1⟩
def R.T.MX_STATUS.SPECIAL (nn : Nat) : Field := ⟨0x202000 + 0x10000 * nn, 3, 1⟩
def R.T.MX_STATUS.CAPTURE_VALID (nn : Nat) : Field := ⟨0x202000 + 0x10000 * nn, 4, 1⟩
def R.T.MX_STATUS.MERGED (nn : Nat) : Field := ⟨0x202000 + 0x10000 * nn, 8, 8⟩

/-- `T.MX_RELEASE`, offset 0x2004, 32 bits, island (spec/04_dot_product.md). -/
def R.T.MX_RELEASE.all (nn : Nat) : Field := ⟨0x202004 + 0x10000 * nn, 0, 32⟩
def R.T.MX_RELEASE.RELEASE (nn : Nat) : Field := ⟨0x202004 + 0x10000 * nn, 0, 1⟩

/-- `T.MX_CAPTURE`, offset 0x2008, 64 bits, island (spec/04_dot_product.md). -/
def R.T.MX_CAPTURE.all (nn : Nat) : Field := ⟨0x202008 + 0x10000 * nn, 0, 64⟩
def R.T.MX_CAPTURE.OP (nn : Nat) : Field := ⟨0x202008 + 0x10000 * nn, 0, 16⟩
def R.T.MX_CAPTURE.ACC (nn : Nat) : Field := ⟨0x202008 + 0x10000 * nn, 16, 2⟩
def R.T.MX_CAPTURE.FMT_A (nn : Nat) : Field := ⟨0x202008 + 0x10000 * nn, 18, 4⟩
def R.T.MX_CAPTURE.FMT_B (nn : Nat) : Field := ⟨0x202008 + 0x10000 * nn, 22, 4⟩
def R.T.MX_CAPTURE.ROW (nn : Nat) : Field := ⟨0x202008 + 0x10000 * nn, 26, 7⟩
def R.T.MX_CAPTURE.CHUNK (nn : Nat) : Field := ⟨0x202008 + 0x10000 * nn, 33, 20⟩
def R.T.MX_CAPTURE.COL (nn : Nat) : Field := ⟨0x202008 + 0x10000 * nn, 53, 7⟩
def R.T.MX_CAPTURE.KIND (nn : Nat) : Field := ⟨0x202008 + 0x10000 * nn, 60, 1⟩
def R.T.MX_CAPTURE.ADDEND (nn : Nat) : Field := ⟨0x202008 + 0x10000 * nn, 61, 1⟩

/-- `T.MX_CAPTURE_PERIOD`, offset 0x2010, 64 bits, island (spec/04_dot_product.md). -/
def R.T.MX_CAPTURE_PERIOD.all (nn : Nat) : Field := ⟨0x202010 + 0x10000 * nn, 0, 64⟩
def R.T.MX_CAPTURE_PERIOD.PERIOD (nn : Nat) : Field := ⟨0x202010 + 0x10000 * nn, 0, 64⟩

/-- `T.MX_CAPTURE_PC`, offset 0x2018, 32 bits, island (spec/04_dot_product.md). -/
def R.T.MX_CAPTURE_PC.all (nn : Nat) : Field := ⟨0x202018 + 0x10000 * nn, 0, 32⟩
def R.T.MX_CAPTURE_PC.BUNDLE (nn : Nat) : Field := ⟨0x202018 + 0x10000 * nn, 5, 15⟩

/-- `T.MX_PLAUS_FIRST`, offset 0x201C, 32 bits, island (spec/04_dot_product.md). -/
def R.T.MX_PLAUS_FIRST.all (nn : Nat) : Field := ⟨0x20201C + 0x10000 * nn, 0, 32⟩
def R.T.MX_PLAUS_FIRST.OP (nn : Nat) : Field := ⟨0x20201C + 0x10000 * nn, 0, 16⟩
def R.T.MX_PLAUS_FIRST.ROW (nn : Nat) : Field := ⟨0x20201C + 0x10000 * nn, 16, 7⟩
def R.T.MX_PLAUS_FIRST.COL (nn : Nat) : Field := ⟨0x20201C + 0x10000 * nn, 23, 7⟩
def R.T.MX_PLAUS_FIRST.VALID (nn : Nat) : Field := ⟨0x20201C + 0x10000 * nn, 30, 1⟩

/-- `T.MX_SV`, offset 0x2020, 32 bits, island (spec/04_dot_product.md). -/
def R.T.MX_SV.all (nn i : Nat) : Field := ⟨0x202020 + 0x10000 * nn + 0x4 * i, 0, 32⟩
def R.T.MX_SV.FLAG (nn i : Nat) : Field := ⟨0x202020 + 0x10000 * nn + 0x4 * i, 0, 1⟩
def R.T.MX_SV.NAN (nn i : Nat) : Field := ⟨0x202020 + 0x10000 * nn + 0x4 * i, 1, 1⟩
def R.T.MX_SV.INF (nn i : Nat) : Field := ⟨0x202020 + 0x10000 * nn + 0x4 * i, 2, 1⟩
def R.T.MX_SV.ROW (nn i : Nat) : Field := ⟨0x202020 + 0x10000 * nn + 0x4 * i, 3, 7⟩
def R.T.MX_SV.COL (nn i : Nat) : Field := ⟨0x202020 + 0x10000 * nn + 0x4 * i, 10, 7⟩
def R.T.MX_SV.OP (nn i : Nat) : Field := ⟨0x202020 + 0x10000 * nn + 0x4 * i, 17, 15⟩

/-- `T.MX_OPS`, offset 0x2040, 64 bits, island (spec/04_dot_product.md). -/
def R.T.MX_OPS.all (nn : Nat) : Field := ⟨0x202040 + 0x10000 * nn, 0, 64⟩
def R.T.MX_OPS.COUNT (nn : Nat) : Field := ⟨0x202040 + 0x10000 * nn, 0, 64⟩

/-- `T.MX_LANE_SKIPS`, offset 0x2048, 32 bits, island (spec/04_dot_product.md). -/
def R.T.MX_LANE_SKIPS.all (nn : Nat) : Field := ⟨0x202048 + 0x10000 * nn, 0, 32⟩
def R.T.MX_LANE_SKIPS.COUNT (nn : Nat) : Field := ⟨0x202048 + 0x10000 * nn, 0, 32⟩

/-- `T.MX_BOUNDS`, offset 0x2100, 64 bits, island (spec/04_dot_product.md). -/
def R.T.MX_BOUNDS.all (nn i : Nat) : Field := ⟨0x202100 + 0x10000 * nn + 0x10 * i, 0, 64⟩
def R.T.MX_BOUNDS.LO (nn i : Nat) : Field := ⟨0x202100 + 0x10000 * nn + 0x10 * i, 0, 32⟩
def R.T.MX_BOUNDS.HI (nn i : Nat) : Field := ⟨0x202100 + 0x10000 * nn + 0x10 * i, 32, 32⟩

/-- `T.MX_BOUNDS_CTRL`, offset 0x2108, 32 bits, island (spec/04_dot_product.md). -/
def R.T.MX_BOUNDS_CTRL.all (nn i : Nat) : Field := ⟨0x202108 + 0x10000 * nn + 0x10 * i, 0, 32⟩
def R.T.MX_BOUNDS_CTRL.MAX_OUT (nn i : Nat) : Field := ⟨0x202108 + 0x10000 * nn + 0x10 * i, 0, 15⟩
def R.T.MX_BOUNDS_CTRL.ALLOW_NAN (nn i : Nat) : Field := ⟨0x202108 + 0x10000 * nn + 0x10 * i, 16, 1⟩
def R.T.MX_BOUNDS_CTRL.ALLOW_INF (nn i : Nat) : Field := ⟨0x202108 + 0x10000 * nn + 0x10 * i, 17, 1⟩
def R.T.MX_BOUNDS_CTRL.INT (nn i : Nat) : Field := ⟨0x202108 + 0x10000 * nn + 0x10 * i, 18, 1⟩

/-- `T.TILE_STATUS`, offset 0x0000, 32 bits, island (spec/05_spaovoto_model.md). -/
def R.T.TILE_STATUS.all (nn : Nat) : Field := ⟨0x200000 + 0x10000 * nn, 0, 32⟩
def R.T.TILE_STATUS.STATE (nn : Nat) : Field := ⟨0x200000 + 0x10000 * nn, 0, 3⟩
def R.T.TILE_STATUS.BANK (nn : Nat) : Field := ⟨0x200000 + 0x10000 * nn, 3, 1⟩
def R.T.TILE_STATUS.MAPPED (nn : Nat) : Field := ⟨0x200000 + 0x10000 * nn, 4, 1⟩
def R.T.TILE_STATUS.WIDE (nn : Nat) : Field := ⟨0x200000 + 0x10000 * nn, 5, 1⟩
def R.T.TILE_STATUS.LOGICAL (nn : Nat) : Field := ⟨0x200000 + 0x10000 * nn, 8, 6⟩
def R.T.TILE_STATUS.PHYSICAL (nn : Nat) : Field := ⟨0x200000 + 0x10000 * nn, 16, 7⟩

/-- `T.PC`, offset 0x0008, 32 bits, island (spec/05_spaovoto_model.md). -/
def R.T.PC.all (nn : Nat) : Field := ⟨0x200008 + 0x10000 * nn, 0, 32⟩
def R.T.PC.BUNDLE (nn : Nat) : Field := ⟨0x200008 + 0x10000 * nn, 5, 15⟩

/-- `T.FLAGS`, offset 0x0010, 32 bits, island (spec/05_spaovoto_model.md). -/
def R.T.FLAGS.all (nn : Nat) : Field := ⟨0x200010 + 0x10000 * nn, 0, 32⟩
def R.T.FLAGS.INVALID (nn : Nat) : Field := ⟨0x200010 + 0x10000 * nn, 0, 1⟩
def R.T.FLAGS.DIVZERO (nn : Nat) : Field := ⟨0x200010 + 0x10000 * nn, 1, 1⟩
def R.T.FLAGS.OVERFLOW (nn : Nat) : Field := ⟨0x200010 + 0x10000 * nn, 2, 1⟩
def R.T.FLAGS.UNDERFLOW (nn : Nat) : Field := ⟨0x200010 + 0x10000 * nn, 3, 1⟩
def R.T.FLAGS.INEXACT (nn : Nat) : Field := ⟨0x200010 + 0x10000 * nn, 4, 1⟩

/-- `T.STOP_CAUSE`, offset 0x0018, 64 bits, island (spec/05_spaovoto_model.md). -/
def R.T.STOP_CAUSE.all (nn : Nat) : Field := ⟨0x200018 + 0x10000 * nn, 0, 64⟩
def R.T.STOP_CAUSE.KIND (nn : Nat) : Field := ⟨0x200018 + 0x10000 * nn, 0, 3⟩
def R.T.STOP_CAUSE.SLOT (nn : Nat) : Field := ⟨0x200018 + 0x10000 * nn, 4, 3⟩
def R.T.STOP_CAUSE.FILE (nn : Nat) : Field := ⟨0x200018 + 0x10000 * nn, 8, 3⟩
def R.T.STOP_CAUSE.INDEX (nn : Nat) : Field := ⟨0x200018 + 0x10000 * nn, 11, 6⟩
def R.T.STOP_CAUSE.BUNDLE (nn : Nat) : Field := ⟨0x200018 + 0x10000 * nn, 32, 15⟩
def R.T.STOP_CAUSE.VALID (nn : Nat) : Field := ⟨0x200018 + 0x10000 * nn, 47, 1⟩

/-- `T.LAST_ARRIVE`, offset 0x0020, 32 bits, island (spec/05_spaovoto_model.md). -/
def R.T.LAST_ARRIVE.all (nn : Nat) : Field := ⟨0x200020 + 0x10000 * nn, 0, 32⟩
def R.T.LAST_ARRIVE.CYCLES (nn : Nat) : Field := ⟨0x200020 + 0x10000 * nn, 0, 31⟩
def R.T.LAST_ARRIVE.LATE (nn : Nat) : Field := ⟨0x200020 + 0x10000 * nn, 31, 1⟩

/-- `T.LATE_COUNT`, offset 0x0024, 32 bits, island (spec/05_spaovoto_model.md). -/
def R.T.LATE_COUNT.all (nn : Nat) : Field := ⟨0x200024 + 0x10000 * nn, 0, 32⟩
def R.T.LATE_COUNT.COUNT (nn : Nat) : Field := ⟨0x200024 + 0x10000 * nn, 0, 32⟩

/-- `T.RECOVER`, offset 0x0028, 32 bits, island (spec/05_spaovoto_model.md). -/
def R.T.RECOVER.all (nn : Nat) : Field := ⟨0x200028 + 0x10000 * nn, 0, 32⟩
def R.T.RECOVER.RECOVER (nn : Nat) : Field := ⟨0x200028 + 0x10000 * nn, 0, 1⟩
def R.T.RECOVER.DONE (nn : Nat) : Field := ⟨0x200028 + 0x10000 * nn, 1, 1⟩
def R.T.RECOVER.FAILED (nn : Nat) : Field := ⟨0x200028 + 0x10000 * nn, 2, 1⟩

/-- `T.IMAGE_A`, offset 0x0030, 64 bits, island (spec/05_spaovoto_model.md). -/
def R.T.IMAGE_A.all (nn : Nat) : Field := ⟨0x200030 + 0x10000 * nn, 0, 64⟩
def R.T.IMAGE_A.PERIOD (nn : Nat) : Field := ⟨0x200030 + 0x10000 * nn, 0, 63⟩
def R.T.IMAGE_A.VALID (nn : Nat) : Field := ⟨0x200030 + 0x10000 * nn, 63, 1⟩

/-- `T.IMAGE_B`, offset 0x0038, 64 bits, island (spec/05_spaovoto_model.md). -/
def R.T.IMAGE_B.all (nn : Nat) : Field := ⟨0x200038 + 0x10000 * nn, 0, 64⟩
def R.T.IMAGE_B.PERIOD (nn : Nat) : Field := ⟨0x200038 + 0x10000 * nn, 0, 63⟩
def R.T.IMAGE_B.VALID (nn : Nat) : Field := ⟨0x200038 + 0x10000 * nn, 63, 1⟩

/-- `T.GEN_KEY_LO`, offset 0x1000, 64 bits, island (spec/05_spaovoto_model.md). -/
def R.T.GEN_KEY_LO.all (nn i : Nat) : Field := ⟨0x201000 + 0x10000 * nn + 0x40 * i, 0, 64⟩
def R.T.GEN_KEY_LO.KEY (nn i : Nat) : Field := ⟨0x201000 + 0x10000 * nn + 0x40 * i, 0, 64⟩

/-- `T.GEN_KEY_HI`, offset 0x1008, 64 bits, island (spec/05_spaovoto_model.md). -/
def R.T.GEN_KEY_HI.all (nn i : Nat) : Field := ⟨0x201008 + 0x10000 * nn + 0x40 * i, 0, 64⟩
def R.T.GEN_KEY_HI.KEY (nn i : Nat) : Field := ⟨0x201008 + 0x10000 * nn + 0x40 * i, 0, 64⟩

/-- `T.GEN_CTR_LO`, offset 0x1010, 64 bits, island (spec/05_spaovoto_model.md). -/
def R.T.GEN_CTR_LO.all (nn i : Nat) : Field := ⟨0x201010 + 0x10000 * nn + 0x40 * i, 0, 64⟩
def R.T.GEN_CTR_LO.CTR (nn i : Nat) : Field := ⟨0x201010 + 0x10000 * nn + 0x40 * i, 0, 64⟩

/-- `T.GEN_CTR_HI`, offset 0x1018, 64 bits, island (spec/05_spaovoto_model.md). -/
def R.T.GEN_CTR_HI.all (nn i : Nat) : Field := ⟨0x201018 + 0x10000 * nn + 0x40 * i, 0, 64⟩
def R.T.GEN_CTR_HI.CTR (nn i : Nat) : Field := ⟨0x201018 + 0x10000 * nn + 0x40 * i, 0, 64⟩

/-- `T.GEN_ANCHOR_LO`, offset 0x1020, 64 bits, island (spec/05_spaovoto_model.md). -/
def R.T.GEN_ANCHOR_LO.all (nn i : Nat) : Field := ⟨0x201020 + 0x10000 * nn + 0x40 * i, 0, 64⟩
def R.T.GEN_ANCHOR_LO.ANCHOR (nn i : Nat) : Field := ⟨0x201020 + 0x10000 * nn + 0x40 * i, 0, 64⟩

/-- `T.GEN_ANCHOR_HI`, offset 0x1028, 64 bits, island (spec/05_spaovoto_model.md). -/
def R.T.GEN_ANCHOR_HI.all (nn i : Nat) : Field := ⟨0x201028 + 0x10000 * nn + 0x40 * i, 0, 64⟩
def R.T.GEN_ANCHOR_HI.ANCHOR (nn i : Nat) : Field := ⟨0x201028 + 0x10000 * nn + 0x40 * i, 0, 64⟩

/-- `T.SEQ_POS`, offset 0x1200, 64 bits, island (spec/05_spaovoto_model.md). -/
def R.T.SEQ_POS.all (nn i : Nat) : Field := ⟨0x201200 + 0x10000 * nn + 0x20 * i, 0, 64⟩
def R.T.SEQ_POS.POS (nn i : Nat) : Field := ⟨0x201200 + 0x10000 * nn + 0x20 * i, 0, 64⟩

/-- `T.SEQ_BASE`, offset 0x1208, 64 bits, island (spec/05_spaovoto_model.md). -/
def R.T.SEQ_BASE.all (nn i : Nat) : Field := ⟨0x201208 + 0x10000 * nn + 0x20 * i, 0, 64⟩
def R.T.SEQ_BASE.BASE (nn i : Nat) : Field := ⟨0x201208 + 0x10000 * nn + 0x20 * i, 5, 43⟩

/-- `T.SEQ_CTRL`, offset 0x1210, 32 bits, island (spec/05_spaovoto_model.md). -/
def R.T.SEQ_CTRL.all (nn i : Nat) : Field := ⟨0x201210 + 0x10000 * nn + 0x20 * i, 0, 32⟩
def R.T.SEQ_CTRL.ACTIVE (nn i : Nat) : Field := ⟨0x201210 + 0x10000 * nn + 0x20 * i, 0, 1⟩

/-- `UE.STATUS`, offset 0x0000, 32 bits, island (spec/08_update_engine.md). -/
def R.UE.STATUS.all : Field := ⟨0x80000, 0, 32⟩
def R.UE.STATUS.STATE : Field := ⟨0x80000, 0, 2⟩
def R.UE.STATUS.PASS : Field := ⟨0x80000, 2, 1⟩
def R.UE.STATUS.CMD : Field := ⟨0x80000, 16, 16⟩

/-- `UE.LAST_ERROR`, offset 0x0004, 32 bits, island (spec/08_update_engine.md). -/
def R.UE.LAST_ERROR.all : Field := ⟨0x80004, 0, 32⟩
def R.UE.LAST_ERROR.CAUSE : Field := ⟨0x80004, 0, 4⟩
def R.UE.LAST_ERROR.VALID : Field := ⟨0x80004, 4, 1⟩
def R.UE.LAST_ERROR.CMD : Field := ⟨0x80004, 16, 16⟩

/-- `UE.FLAGS`, offset 0x0008, 32 bits, island (spec/08_update_engine.md). -/
def R.UE.FLAGS.all : Field := ⟨0x80008, 0, 32⟩
def R.UE.FLAGS.FLAGS : Field := ⟨0x80008, 0, 5⟩

/-- `UE.LAYERS_DONE`, offset 0x0010, 64 bits, island (spec/08_update_engine.md). -/
def R.UE.LAYERS_DONE.all : Field := ⟨0x80010, 0, 64⟩
def R.UE.LAYERS_DONE.COUNT : Field := ⟨0x80010, 0, 64⟩

/-- `UE.POINTS_DONE`, offset 0x0018, 64 bits, island (spec/08_update_engine.md). -/
def R.UE.POINTS_DONE.all : Field := ⟨0x80018, 0, 64⟩
def R.UE.POINTS_DONE.COUNT : Field := ⟨0x80018, 0, 64⟩

/-- `UE.POINTS_SKIPPED`, offset 0x0020, 64 bits, island (spec/08_update_engine.md). -/
def R.UE.POINTS_SKIPPED.all : Field := ⟨0x80020, 0, 64⟩
def R.UE.POINTS_SKIPPED.COUNT : Field := ⟨0x80020, 0, 64⟩

/-- `UE.LIST_TABLE`, offset 0x0100, 64 bits, full (spec/08_update_engine.md). -/
def R.UE.LIST_TABLE.all : Field := ⟨0x80100, 0, 64⟩
def R.UE.LIST_TABLE.ADDR : Field := ⟨0x80100, 6, 42⟩

/-- `UE.T_BASE`, offset 0x0108, 64 bits, full (spec/08_update_engine.md). -/
def R.UE.T_BASE.all : Field := ⟨0x80108, 0, 64⟩
def R.UE.T_BASE.BASE : Field := ⟨0x80108, 0, 64⟩

/-- `UE.PRIV_BASE`, offset 0x0110, 64 bits, full (spec/08_update_engine.md). -/
def R.UE.PRIV_BASE.all : Field := ⟨0x80110, 0, 64⟩
def R.UE.PRIV_BASE.ADDR : Field := ⟨0x80110, 6, 42⟩

/-- `UE.ALARM_BASE`, offset 0x0120, 64 bits, full (spec/08_update_engine.md). -/
def R.UE.ALARM_BASE.all : Field := ⟨0x80120, 0, 64⟩
def R.UE.ALARM_BASE.ADDR : Field := ⟨0x80120, 6, 42⟩

/-- `UE.ALARM_SIZE`, offset 0x0128, 32 bits, full (spec/08_update_engine.md). -/
def R.UE.ALARM_SIZE.all : Field := ⟨0x80128, 0, 32⟩
def R.UE.ALARM_SIZE.SIZE : Field := ⟨0x80128, 0, 24⟩

/-- `UE.ALARM_WR`, offset 0x012C, 32 bits, full (spec/08_update_engine.md). -/
def R.UE.ALARM_WR.all : Field := ⟨0x8012C, 0, 32⟩
def R.UE.ALARM_WR.VALUE : Field := ⟨0x8012C, 0, 32⟩

/-- `UE.ALARM_RD`, offset 0x0130, 32 bits, full (spec/08_update_engine.md). -/
def R.UE.ALARM_RD.all : Field := ⟨0x80130, 0, 32⟩
def R.UE.ALARM_RD.VALUE : Field := ⟨0x80130, 0, 32⟩

/-- `UE.ALARM_DROPPED`, offset 0x0134, 32 bits, full (spec/08_update_engine.md). -/
def R.UE.ALARM_DROPPED.all : Field := ⟨0x80134, 0, 32⟩
def R.UE.ALARM_DROPPED.VALUE : Field := ⟨0x80134, 0, 32⟩

/-- `UE.GEN_KEY_LO`, offset 0x0200, 64 bits, full (spec/08_update_engine.md). -/
def R.UE.GEN_KEY_LO.all (i : Nat) : Field := ⟨0x80200 + 0x20 * i, 0, 64⟩
def R.UE.GEN_KEY_LO.VALUE (i : Nat) : Field := ⟨0x80200 + 0x20 * i, 0, 64⟩

/-- `UE.GEN_KEY_HI`, offset 0x0208, 64 bits, full (spec/08_update_engine.md). -/
def R.UE.GEN_KEY_HI.all (i : Nat) : Field := ⟨0x80208 + 0x20 * i, 0, 64⟩
def R.UE.GEN_KEY_HI.VALUE (i : Nat) : Field := ⟨0x80208 + 0x20 * i, 0, 64⟩

/-- `UE.GEN_CTR_LO`, offset 0x0210, 64 bits, full (spec/08_update_engine.md). -/
def R.UE.GEN_CTR_LO.all (i : Nat) : Field := ⟨0x80210 + 0x20 * i, 0, 64⟩
def R.UE.GEN_CTR_LO.VALUE (i : Nat) : Field := ⟨0x80210 + 0x20 * i, 0, 64⟩

/-- `UE.GEN_CTR_HI`, offset 0x0218, 64 bits, full (spec/08_update_engine.md). -/
def R.UE.GEN_CTR_HI.all (i : Nat) : Field := ⟨0x80218 + 0x20 * i, 0, 64⟩
def R.UE.GEN_CTR_HI.VALUE (i : Nat) : Field := ⟨0x80218 + 0x20 * i, 0, 64⟩

/-- `UE.HYP`, offset 0x1000, 256 bits, full (spec/08_update_engine.md). -/
def R.UE.HYP.all (i : Nat) : Field := ⟨0x81000 + 0x20 * i, 0, 256⟩
def R.UE.HYP.BETA1 (i : Nat) : Field := ⟨0x81000 + 0x20 * i, 0, 32⟩
def R.UE.HYP.BETA2 (i : Nat) : Field := ⟨0x81000 + 0x20 * i, 32, 32⟩
def R.UE.HYP.EPS (i : Nat) : Field := ⟨0x81000 + 0x20 * i, 64, 32⟩
def R.UE.HYP.LAMBDA (i : Nat) : Field := ⟨0x81000 + 0x20 * i, 96, 32⟩
def R.UE.HYP.RHO_MIN (i : Nat) : Field := ⟨0x81000 + 0x20 * i, 128, 32⟩
def R.UE.HYP.RHO_MAX (i : Nat) : Field := ⟨0x81000 + 0x20 * i, 160, 32⟩
def R.UE.HYP.TRUST (i : Nat) : Field := ⟨0x81000 + 0x20 * i, 192, 1⟩

/-- `UE.SCHED`, offset 0x4000, 256 bits, full (spec/08_update_engine.md). -/
def R.UE.SCHED.all (i : Nat) : Field := ⟨0x84000 + 0x20 * i, 0, 256⟩
def R.UE.SCHED.SHAPE (i : Nat) : Field := ⟨0x84000 + 0x20 * i, 0, 3⟩
def R.UE.SCHED.RESTART (i : Nat) : Field := ⟨0x84000 + 0x20 * i, 3, 1⟩
def R.UE.SCHED.PRIV (i : Nat) : Field := ⟨0x84000 + 0x20 * i, 4, 1⟩
def R.UE.SCHED.LEN_MULT (i : Nat) : Field := ⟨0x84000 + 0x20 * i, 8, 8⟩
def R.UE.SCHED.PEAK (i : Nat) : Field := ⟨0x84000 + 0x20 * i, 32, 32⟩
def R.UE.SCHED.END (i : Nat) : Field := ⟨0x84000 + 0x20 * i, 64, 32⟩
def R.UE.SCHED.GAMMA (i : Nat) : Field := ⟨0x84000 + 0x20 * i, 96, 32⟩
def R.UE.SCHED.WARMUP (i : Nat) : Field := ⟨0x84000 + 0x20 * i, 128, 32⟩
def R.UE.SCHED.DECAY (i : Nat) : Field := ⟨0x84000 + 0x20 * i, 160, 32⟩
def R.UE.SCHED.PEAK_MULT (i : Nat) : Field := ⟨0x84000 + 0x20 * i, 192, 32⟩
def R.UE.SCHED.T0 (i : Nat) : Field := ⟨0x84000 + 0x20 * i, 224, 32⟩

/-- `UE.COS`, offset 0x6000, 32 bits, always-on (spec/08_update_engine.md). -/
def R.UE.COS.all (i : Nat) : Field := ⟨0x86000 + 0x4 * i, 0, 32⟩
def R.UE.COS.Q (i : Nat) : Field := ⟨0x86000 + 0x4 * i, 0, 32⟩

/-- `M.STATUS`, offset 0x0000, 32 bits, island (spec/09_memory.md). -/
def R.M.STATUS.all (k : Nat) : Field := ⟨0x100000 + 0x10000 * k, 0, 32⟩
def R.M.STATUS.STATE (k : Nat) : Field := ⟨0x100000 + 0x10000 * k, 0, 2⟩
def R.M.STATUS.COPY_ACTIVE (k : Nat) : Field := ⟨0x100000 + 0x10000 * k, 2, 1⟩
def R.M.STATUS.RETRAIN_ACTIVE (k : Nat) : Field := ⟨0x100000 + 0x10000 * k, 3, 1⟩
def R.M.STATUS.FSP (k : Nat) : Field := ⟨0x100000 + 0x10000 * k, 4, 1⟩
def R.M.STATUS.SPARES_FREE (k : Nat) : Field := ⟨0x100000 + 0x10000 * k, 8, 4⟩

/-- `M.RATE`, offset 0x0008, 32 bits, cold (spec/09_memory.md). -/
def R.M.RATE.all (k : Nat) : Field := ⟨0x100008 + 0x10000 * k, 0, 32⟩
def R.M.RATE.RATE (k : Nat) : Field := ⟨0x100008 + 0x10000 * k, 0, 2⟩

/-- `M.ERR_CTRL`, offset 0x0010, 32 bits, full (spec/09_memory.md). -/
def R.M.ERR_CTRL.all (k : Nat) : Field := ⟨0x100010 + 0x10000 * k, 0, 32⟩
def R.M.ERR_CTRL.THRESH (k : Nat) : Field := ⟨0x100010 + 0x10000 * k, 0, 16⟩
def R.M.ERR_CTRL.WINDOW (k : Nat) : Field := ⟨0x100010 + 0x10000 * k, 16, 16⟩

/-- `M.RETRAIN_CTRL`, offset 0x0018, 32 bits, full (spec/09_memory.md). -/
def R.M.RETRAIN_CTRL.all (k : Nat) : Field := ⟨0x100018 + 0x10000 * k, 0, 32⟩
def R.M.RETRAIN_CTRL.INTERVAL (k : Nat) : Field := ⟨0x100018 + 0x10000 * k, 0, 16⟩
def R.M.RETRAIN_CTRL.DRIFT (k : Nat) : Field := ⟨0x100018 + 0x10000 * k, 16, 8⟩
def R.M.RETRAIN_CTRL.NOW (k : Nat) : Field := ⟨0x100018 + 0x10000 * k, 24, 1⟩
def R.M.RETRAIN_CTRL.SC (k : Nat) : Field := ⟨0x100018 + 0x10000 * k, 25, 7⟩

/-- `M.COPY_CTRL`, offset 0x001C, 32 bits, full (spec/09_memory.md). -/
def R.M.COPY_CTRL.all (k : Nat) : Field := ⟨0x10001C + 0x10000 * k, 0, 32⟩
def R.M.COPY_CTRL.FLOOR (k : Nat) : Field := ⟨0x10001C + 0x10000 * k, 0, 3⟩
def R.M.COPY_CTRL.RETIRE (k : Nat) : Field := ⟨0x10001C + 0x10000 * k, 8, 1⟩
def R.M.COPY_CTRL.SC (k : Nat) : Field := ⟨0x10001C + 0x10000 * k, 16, 7⟩

/-- `M.COPY_STATUS`, offset 0x0020, 64 bits, island (spec/09_memory.md). -/
def R.M.COPY_STATUS.all (k : Nat) : Field := ⟨0x100020 + 0x10000 * k, 0, 64⟩
def R.M.COPY_STATUS.SRC (k : Nat) : Field := ⟨0x100020 + 0x10000 * k, 0, 7⟩
def R.M.COPY_STATUS.DST (k : Nat) : Field := ⟨0x100020 + 0x10000 * k, 7, 7⟩
def R.M.COPY_STATUS.KIND (k : Nat) : Field := ⟨0x100020 + 0x10000 * k, 14, 1⟩
def R.M.COPY_STATUS.ACTIVE (k : Nat) : Field := ⟨0x100020 + 0x10000 * k, 15, 1⟩
def R.M.COPY_STATUS.POINTER (k : Nat) : Field := ⟨0x100020 + 0x10000 * k, 16, 23⟩

/-- `M.TRAIN_CTRL`, offset 0x0030, 32 bits, full (spec/09_memory.md). -/
def R.M.TRAIN_CTRL.all (k : Nat) : Field := ⟨0x100030 + 0x10000 * k, 0, 32⟩
def R.M.TRAIN_CTRL.GROUP (k : Nat) : Field := ⟨0x100030 + 0x10000 * k, 0, 5⟩

/-- `M.REMAP`, offset 0x0100, 32 bits, cold (spec/09_memory.md). -/
def R.M.REMAP.all (k i : Nat) : Field := ⟨0x100100 + 0x10000 * k + 0x4 * i, 0, 32⟩
def R.M.REMAP.SC (k i : Nat) : Field := ⟨0x100100 + 0x10000 * k + 0x4 * i, 0, 7⟩

/-- `M.SC`, offset 0x0400, 64 bits, cold (spec/09_memory.md). -/
def R.M.SC.all (k i : Nat) : Field := ⟨0x100400 + 0x10000 * k + 0x8 * i, 0, 64⟩
def R.M.SC.STATE (k i : Nat) : Field := ⟨0x100400 + 0x10000 * k + 0x8 * i, 0, 3⟩
def R.M.SC.FAILED_LINES (k i : Nat) : Field := ⟨0x100400 + 0x10000 * k + 0x8 * i, 4, 12⟩
def R.M.SC.CORRECTED (k i : Nat) : Field := ⟨0x100400 + 0x10000 * k + 0x8 * i, 16, 16⟩
def R.M.SC.TRANSIENT (k i : Nat) : Field := ⟨0x100400 + 0x10000 * k + 0x8 * i, 32, 16⟩
def R.M.SC.RETRAINS (k i : Nat) : Field := ⟨0x100400 + 0x10000 * k + 0x8 * i, 48, 16⟩

/-- `M.TRAIN_STORE`, offset 0x4000, 512 bits, cold (spec/09_memory.md). -/
def R.M.TRAIN_STORE.all (k i : Nat) : Field := ⟨0x104000 + 0x10000 * k + 0x40 * i, 0, 512⟩
def R.M.TRAIN_STORE.RESULTS (k i : Nat) : Field := ⟨0x104000 + 0x10000 * k + 0x40 * i, 0, 480⟩
def R.M.TRAIN_STORE.CHECK (k i : Nat) : Field := ⟨0x104000 + 0x10000 * k + 0x40 * i, 480, 32⟩

/-- `L.STATUS`, offset 0x0000, 32 bits, island (spec/10_optical_links.md). -/
def R.L.STATUS.all (k : Nat) : Field := ⟨0x180000 + 0x10000 * k, 0, 32⟩
def R.L.STATUS.IN_SERVICE (k : Nat) : Field := ⟨0x180000 + 0x10000 * k, 0, 8⟩
def R.L.STATUS.FAILED (k : Nat) : Field := ⟨0x180000 + 0x10000 * k, 8, 8⟩
def R.L.STATUS.LASER_OK (k : Nat) : Field := ⟨0x180000 + 0x10000 * k, 16, 2⟩

/-- `L.QUAL_CTRL`, offset 0x0010, 32 bits, full (spec/10_optical_links.md). -/
def R.L.QUAL_CTRL.all (k : Nat) : Field := ⟨0x180010 + 0x10000 * k, 0, 32⟩
def R.L.QUAL_CTRL.QUAL_TIME (k : Nat) : Field := ⟨0x180010 + 0x10000 * k, 0, 16⟩
def R.L.QUAL_CTRL.QUAL_T (k : Nat) : Field := ⟨0x180010 + 0x10000 * k, 16, 4⟩
def R.L.QUAL_CTRL.RECAL_QUAL (k : Nat) : Field := ⟨0x180010 + 0x10000 * k, 20, 12⟩

/-- `L.FAIL_CTRL`, offset 0x0014, 32 bits, full (spec/10_optical_links.md). -/
def R.L.FAIL_CTRL.all (k : Nat) : Field := ⟨0x180014 + 0x10000 * k, 0, 32⟩
def R.L.FAIL_CTRL.RETRY_LIMIT (k : Nat) : Field := ⟨0x180014 + 0x10000 * k, 0, 4⟩
def R.L.FAIL_CTRL.UNC_LIMIT (k : Nat) : Field := ⟨0x180014 + 0x10000 * k, 8, 8⟩
def R.L.FAIL_CTRL.RETRAIN_DELAY (k : Nat) : Field := ⟨0x180014 + 0x10000 * k, 16, 16⟩

/-- `L.RECAL_CTRL`, offset 0x0018, 32 bits, full (spec/10_optical_links.md). -/
def R.L.RECAL_CTRL.all (k : Nat) : Field := ⟨0x180018 + 0x10000 * k, 0, 32⟩
def R.L.RECAL_CTRL.INTERVAL (k : Nat) : Field := ⟨0x180018 + 0x10000 * k, 0, 16⟩
def R.L.RECAL_CTRL.NOW (k : Nat) : Field := ⟨0x180018 + 0x10000 * k, 16, 8⟩

/-- `L.TIME_CTRL`, offset 0x001C, 32 bits, full (spec/10_optical_links.md). -/
def R.L.TIME_CTRL.all (k : Nat) : Field := ⟨0x18001C + 0x10000 * k, 0, 32⟩
def R.L.TIME_CTRL.INTERVAL (k : Nat) : Field := ⟨0x18001C + 0x10000 * k, 0, 16⟩

/-- `L.ENGINE_CTRL`, offset 0x0020, 32 bits, full (spec/10_optical_links.md). -/
def R.L.ENGINE_CTRL.all (k : Nat) : Field := ⟨0x180020 + 0x10000 * k, 0, 32⟩
def R.L.ENGINE_CTRL.DRAIN_E0 (k : Nat) : Field := ⟨0x180020 + 0x10000 * k, 0, 1⟩
def R.L.ENGINE_CTRL.DRAIN_E1 (k : Nat) : Field := ⟨0x180020 + 0x10000 * k, 1, 1⟩
def R.L.ENGINE_CTRL.ENABLE_E0 (k : Nat) : Field := ⟨0x180020 + 0x10000 * k, 2, 1⟩
def R.L.ENGINE_CTRL.ENABLE_E1 (k : Nat) : Field := ⟨0x180020 + 0x10000 * k, 3, 1⟩

/-- `L.LINK_STATUS`, offset 0x1000, 32 bits, island (spec/10_optical_links.md). -/
def R.L.LINK_STATUS.all (k i : Nat) : Field := ⟨0x181000 + 0x10000 * k + 0x100 * i, 0, 32⟩
def R.L.LINK_STATUS.STATE (k i : Nat) : Field := ⟨0x181000 + 0x10000 * k + 0x100 * i, 0, 4⟩
def R.L.LINK_STATUS.CAUSE (k i : Nat) : Field := ⟨0x181000 + 0x10000 * k + 0x100 * i, 4, 4⟩
def R.L.LINK_STATUS.HOLD (k i : Nat) : Field := ⟨0x181000 + 0x10000 * k + 0x100 * i, 8, 1⟩
def R.L.LINK_STATUS.PEER_LINK (k i : Nat) : Field := ⟨0x181000 + 0x10000 * k + 0x100 * i, 16, 6⟩

/-- `L.LINK_PEER`, offset 0x1008, 64 bits, island (spec/10_optical_links.md). -/
def R.L.LINK_PEER.all (k i : Nat) : Field := ⟨0x181008 + 0x10000 * k + 0x100 * i, 0, 64⟩
def R.L.LINK_PEER.PLACE (k i : Nat) : Field := ⟨0x181008 + 0x10000 * k + 0x100 * i, 0, 32⟩
def R.L.LINK_PEER.KEYID (k i : Nat) : Field := ⟨0x181008 + 0x10000 * k + 0x100 * i, 32, 32⟩

/-- `L.LINK_CTRL`, offset 0x1010, 32 bits, full (spec/10_optical_links.md). -/
def R.L.LINK_CTRL.all (k i : Nat) : Field := ⟨0x181010 + 0x10000 * k + 0x100 * i, 0, 32⟩
def R.L.LINK_CTRL.DISABLE (k i : Nat) : Field := ⟨0x181010 + 0x10000 * k + 0x100 * i, 0, 1⟩
def R.L.LINK_CTRL.RELEASE (k i : Nat) : Field := ⟨0x181010 + 0x10000 * k + 0x100 * i, 1, 1⟩
def R.L.LINK_CTRL.RETRAIN (k i : Nat) : Field := ⟨0x181010 + 0x10000 * k + 0x100 * i, 2, 1⟩

/-- `L.TIME_ASYM`, offset 0x1018, 32 bits, full (spec/10_optical_links.md). -/
def R.L.TIME_ASYM.all (k i : Nat) : Field := ⟨0x181018 + 0x10000 * k + 0x100 * i, 0, 32⟩
def R.L.TIME_ASYM.ASYM (k i : Nat) : Field := ⟨0x181018 + 0x10000 * k + 0x100 * i, 0, 32⟩

/-- `L.LINK_CNT`, offset 0x1020, 64 bits, cold (spec/10_optical_links.md). -/
def R.L.LINK_CNT.all (k i m : Nat) : Field := ⟨0x181020 + 0x10000 * k + 0x100 * i + 0x8 * m, 0, 64⟩
def R.L.LINK_CNT.COUNT (k i m : Nat) : Field := ⟨0x181020 + 0x10000 * k + 0x100 * i + 0x8 * m, 0, 64⟩

/-- `J.STATUS`, offset 0x0000, 32 bits, island (spec/11_fabric_routing.md). -/
def R.J.STATUS.all (j : Nat) : Field := ⟨0xA0000 + 0x10000 * j, 0, 32⟩
def R.J.STATUS.STATE (j : Nat) : Field := ⟨0xA0000 + 0x10000 * j, 0, 2⟩
def R.J.STATUS.TRANSIT (j : Nat) : Field := ⟨0xA0000 + 0x10000 * j, 2, 11⟩
def R.J.STATUS.INJECT_HELD (j : Nat) : Field := ⟨0xA0000 + 0x10000 * j, 13, 1⟩

/-- `J.MAP_EPOCH`, offset 0x0008, 32 bits, full (spec/11_fabric_routing.md). -/
def R.J.MAP_EPOCH.all (j : Nat) : Field := ⟨0xA0008 + 0x10000 * j, 0, 32⟩
def R.J.MAP_EPOCH.EPOCH (j : Nat) : Field := ⟨0xA0008 + 0x10000 * j, 0, 32⟩

/-- `J.DUP_HOLD`, offset 0x0010, 32 bits, full (spec/11_fabric_routing.md). -/
def R.J.DUP_HOLD.all (j : Nat) : Field := ⟨0xA0010 + 0x10000 * j, 0, 32⟩
def R.J.DUP_HOLD.HOLD (j : Nat) : Field := ⟨0xA0010 + 0x10000 * j, 0, 11⟩

/-- `J.DRAIN_TIMEOUT`, offset 0x0014, 32 bits, full (spec/11_fabric_routing.md). -/
def R.J.DRAIN_TIMEOUT.all (j : Nat) : Field := ⟨0xA0014 + 0x10000 * j, 0, 32⟩
def R.J.DRAIN_TIMEOUT.TIMEOUT (j : Nat) : Field := ⟨0xA0014 + 0x10000 * j, 0, 16⟩

/-- `J.SAT_CTRL`, offset 0x0018, 32 bits, full (spec/11_fabric_routing.md). -/
def R.J.SAT_CTRL.all (j : Nat) : Field := ⟨0xA0018 + 0x10000 * j, 0, 32⟩
def R.J.SAT_CTRL.THRESH (j : Nat) : Field := ⟨0xA0018 + 0x10000 * j, 0, 8⟩
def R.J.SAT_CTRL.ENABLE (j : Nat) : Field := ⟨0xA0018 + 0x10000 * j, 8, 1⟩

/-- `J.CONS`, offset 0x0100, 64 bits, full (spec/11_fabric_routing.md). -/
def R.J.CONS.all (j i : Nat) : Field := ⟨0xA0100 + 0x10000 * j + 0x8 * i, 0, 64⟩
def R.J.CONS.COUNT (j i : Nat) : Field := ⟨0xA0100 + 0x10000 * j + 0x8 * i, 0, 64⟩

/-- `J.DROP`, offset 0x0200, 64 bits, full (spec/11_fabric_routing.md). -/
def R.J.DROP.all (j i : Nat) : Field := ⟨0xA0200 + 0x10000 * j + 0x8 * i, 0, 64⟩
def R.J.DROP.COUNT (j i : Nat) : Field := ⟨0xA0200 + 0x10000 * j + 0x8 * i, 0, 64⟩

/-- `J.SAT_CNT`, offset 0x0300, 64 bits, full (spec/11_fabric_routing.md). -/
def R.J.SAT_CNT.all (j i : Nat) : Field := ⟨0xA0300 + 0x10000 * j + 0x8 * i, 0, 64⟩
def R.J.SAT_CNT.COUNT (j i : Nat) : Field := ⟨0xA0300 + 0x10000 * j + 0x8 * i, 0, 64⟩

/-- `J.SLICE`, offset 0x2000, 256 bits, full (spec/11_fabric_routing.md). -/
def R.J.SLICE.all (j i : Nat) : Field := ⟨0xA2000 + 0x10000 * j + 0x20 * i, 0, 256⟩
def R.J.SLICE.TAG (j i : Nat) : Field := ⟨0xA2000 + 0x10000 * j + 0x20 * i, 0, 16⟩
def R.J.SLICE.EPOCH (j i : Nat) : Field := ⟨0xA2000 + 0x10000 * j + 0x20 * i, 16, 16⟩
def R.J.SLICE.STATE (j i : Nat) : Field := ⟨0xA2000 + 0x10000 * j + 0x20 * i, 32, 2⟩
def R.J.SLICE.HOST (j i : Nat) : Field := ⟨0xA2000 + 0x10000 * j + 0x20 * i, 34, 16⟩
def R.J.SLICE.LINKS (j i : Nat) : Field := ⟨0xA2000 + 0x10000 * j + 0x20 * i, 64, 64⟩
def R.J.SLICE.GRANT (j i : Nat) : Field := ⟨0xA2000 + 0x10000 * j + 0x20 * i, 128, 12⟩
def R.J.SLICE.HELD (j i : Nat) : Field := ⟨0xA2000 + 0x10000 * j + 0x20 * i, 144, 12⟩

/-- `J.FENCE`, offset 0x3000, 32 bits, full (spec/11_fabric_routing.md). -/
def R.J.FENCE.all (j i : Nat) : Field := ⟨0xA3000 + 0x10000 * j + 0x4 * i, 0, 32⟩
def R.J.FENCE.VALID (j i : Nat) : Field := ⟨0xA3000 + 0x10000 * j + 0x4 * i, 0, 1⟩
def R.J.FENCE.PLACE (j i : Nat) : Field := ⟨0xA3000 + 0x10000 * j + 0x4 * i, 8, 24⟩

/-- `J.ROUTE`, offset 0x8000, 128 bits, full (spec/11_fabric_routing.md). -/
def R.J.ROUTE.all (j i : Nat) : Field := ⟨0xA8000 + 0x10000 * j + 0x10 * i, 0, 128⟩
def R.J.ROUTE.PREFIX (j i : Nat) : Field := ⟨0xA8000 + 0x10000 * j + 0x10 * i, 0, 24⟩
def R.J.ROUTE.LEN (j i : Nat) : Field := ⟨0xA8000 + 0x10000 * j + 0x10 * i, 24, 5⟩
def R.J.ROUTE.VALID (j i : Nat) : Field := ⟨0xA8000 + 0x10000 * j + 0x10 * i, 29, 1⟩
def R.J.ROUTE.PORTS_A (j i : Nat) : Field := ⟨0xA8000 + 0x10000 * j + 0x10 * i, 32, 10⟩
def R.J.ROUTE.PORTS_B (j i : Nat) : Field := ⟨0xA8000 + 0x10000 * j + 0x10 * i, 48, 10⟩
def R.J.ROUTE.HOPS_A (j i : Nat) : Field := ⟨0xA8000 + 0x10000 * j + 0x10 * i, 64, 8⟩
def R.J.ROUTE.HOPS_B (j i : Nat) : Field := ⟨0xA8000 + 0x10000 * j + 0x10 * i, 72, 8⟩

/-- `MG.DSP_STATUS`, offset 0x4000, 32 bits, full (spec/12_dispatcher.md). -/
def R.MG.DSP_STATUS.all : Field := ⟨0x34000, 0, 32⟩
def R.MG.DSP_STATUS.ROLE : Field := ⟨0x34000, 0, 2⟩
def R.MG.DSP_STATUS.RANK : Field := ⟨0x34000, 2, 4⟩
def R.MG.DSP_STATUS.Q : Field := ⟨0x34000, 6, 3⟩
def R.MG.DSP_STATUS.MAP_STATE : Field := ⟨0x34000, 9, 2⟩
def R.MG.DSP_STATUS.CHARTER : Field := ⟨0x34000, 11, 1⟩

/-- `MG.DSP_PLACE`, offset 0x4008, 64 bits, full (spec/12_dispatcher.md). -/
def R.MG.DSP_PLACE.all : Field := ⟨0x34008, 0, 64⟩
def R.MG.DSP_PLACE.PLACE : Field := ⟨0x34008, 0, 32⟩
def R.MG.DSP_PLACE.X : Field := ⟨0x34008, 32, 8⟩
def R.MG.DSP_PLACE.Y : Field := ⟨0x34008, 40, 8⟩
def R.MG.DSP_PLACE.Z : Field := ⟨0x34008, 48, 8⟩
def R.MG.DSP_PLACE.COORD_VALID : Field := ⟨0x34008, 56, 1⟩

/-- `MG.DSP_EPOCHS`, offset 0x4010, 64 bits, full (spec/12_dispatcher.md). -/
def R.MG.DSP_EPOCHS.all : Field := ⟨0x34010, 0, 64⟩
def R.MG.DSP_EPOCHS.MAP_EPOCH : Field := ⟨0x34010, 0, 32⟩
def R.MG.DSP_EPOCHS.TERM : Field := ⟨0x34010, 32, 32⟩

/-- `MG.DSP_LEDGER_SEQ`, offset 0x4018, 64 bits, full (spec/12_dispatcher.md). -/
def R.MG.DSP_LEDGER_SEQ.all : Field := ⟨0x34018, 0, 64⟩
def R.MG.DSP_LEDGER_SEQ.SEQ : Field := ⟨0x34018, 0, 64⟩

/-- `MG.DSP_TIMING`, offset 0x4020, 32 bits, full (spec/12_dispatcher.md). -/
def R.MG.DSP_TIMING.all : Field := ⟨0x34020, 0, 32⟩
def R.MG.DSP_TIMING.HEARTBEAT : Field := ⟨0x34020, 0, 8⟩
def R.MG.DSP_TIMING.CHIEF_TIMEOUT : Field := ⟨0x34020, 8, 8⟩
def R.MG.DSP_TIMING.RANK_DELAY : Field := ⟨0x34020, 16, 8⟩
def R.MG.DSP_TIMING.MAP_BATCH : Field := ⟨0x34020, 24, 8⟩

/-- `MG.DSP_VOTE_CTRL`, offset 0x4024, 32 bits, full (spec/12_dispatcher.md). -/
def R.MG.DSP_VOTE_CTRL.all : Field := ⟨0x34024, 0, 32⟩
def R.MG.DSP_VOTE_CTRL.WINDOW : Field := ⟨0x34024, 0, 16⟩
def R.MG.DSP_VOTE_CTRL.SUSPECT_MIN : Field := ⟨0x34024, 16, 4⟩
def R.MG.DSP_VOTE_CTRL.SEAL_REPORTS : Field := ⟨0x34024, 20, 4⟩
def R.MG.DSP_VOTE_CTRL.AUTO_VOTE : Field := ⟨0x34024, 24, 1⟩

/-- `MG.DSP_ROSTER`, offset 0x4030, 32 bits, full (spec/12_dispatcher.md). -/
def R.MG.DSP_ROSTER.all (i : Nat) : Field := ⟨0x34030 + 0x4 * i, 0, 32⟩
def R.MG.DSP_ROSTER.PLACE (i : Nat) : Field := ⟨0x34030 + 0x4 * i, 0, 32⟩

/-- `MG.DSP_ROUTES`, offset 0x4050, 32 bits, full (spec/12_dispatcher.md). -/
def R.MG.DSP_ROUTES.all : Field := ⟨0x34050, 0, 32⟩
def R.MG.DSP_ROUTES.ENTRIES : Field := ⟨0x34050, 0, 12⟩
def R.MG.DSP_ROUTES.OVERFLOW : Field := ⟨0x34050, 12, 1⟩

/-- `MG.DSP_COUNTS`, offset 0x4058, 64 bits, full (spec/12_dispatcher.md). -/
def R.MG.DSP_COUNTS.all : Field := ⟨0x34058, 0, 64⟩
def R.MG.DSP_COUNTS.EXPULSIONS : Field := ⟨0x34058, 0, 16⟩
def R.MG.DSP_COUNTS.VOTES_INVALID : Field := ⟨0x34058, 16, 16⟩
def R.MG.DSP_COUNTS.PULLS : Field := ⟨0x34058, 32, 16⟩
def R.MG.DSP_COUNTS.TERMS : Field := ⟨0x34058, 48, 16⟩

/-- `MG.DSP_LEDGER_BASE`, offset 0x4060, 64 bits, cold (spec/12_dispatcher.md). -/
def R.MG.DSP_LEDGER_BASE.all : Field := ⟨0x34060, 0, 64⟩
def R.MG.DSP_LEDGER_BASE.ADDR : Field := ⟨0x34060, 6, 42⟩

/-- `MG.DSP_LEDGER_SIZE`, offset 0x4068, 32 bits, cold (spec/12_dispatcher.md). -/
def R.MG.DSP_LEDGER_SIZE.all : Field := ⟨0x34068, 0, 32⟩
def R.MG.DSP_LEDGER_SIZE.MIB : Field := ⟨0x34068, 0, 16⟩

/-- `CT.STATUS`, offset 0x0000, 32 bits, cold (spec/13_continuity.md). -/
def R.CT.STATUS.all : Field := ⟨0x40000, 0, 32⟩
def R.CT.STATUS.CAPTURE_VALID : Field := ⟨0x40000, 0, 1⟩
def R.CT.STATUS.EXPELLED : Field := ⟨0x40000, 1, 1⟩
def R.CT.STATUS.STOPPED : Field := ⟨0x40000, 2, 1⟩
def R.CT.STATUS.SELF_FENCE : Field := ⟨0x40000, 3, 1⟩
def R.CT.STATUS.SIDINGS_FREE : Field := ⟨0x40000, 4, 3⟩

/-- `CT.FIRST_ERR_ADDR`, offset 0x0008, 64 bits, cold (spec/13_continuity.md). -/
def R.CT.FIRST_ERR_ADDR.all : Field := ⟨0x40008, 0, 64⟩
def R.CT.FIRST_ERR_ADDR.ADDR : Field := ⟨0x40008, 0, 64⟩

/-- `CT.FIRST_ERR_INFO`, offset 0x0010, 64 bits, cold (spec/13_continuity.md). -/
def R.CT.FIRST_ERR_INFO.all : Field := ⟨0x40010, 0, 64⟩
def R.CT.FIRST_ERR_INFO.SOURCE : Field := ⟨0x40010, 0, 13⟩
def R.CT.FIRST_ERR_INFO.MASTER : Field := ⟨0x40010, 16, 13⟩
def R.CT.FIRST_ERR_INFO.REQ_TYPE : Field := ⟨0x40010, 32, 4⟩
def R.CT.FIRST_ERR_INFO.ACCESS : Field := ⟨0x40010, 36, 4⟩
def R.CT.FIRST_ERR_INFO.LEVEL : Field := ⟨0x40010, 40, 3⟩
def R.CT.FIRST_ERR_INFO.EVENT : Field := ⟨0x40010, 48, 16⟩

/-- `CT.FIRST_ERR_STAMP_LO`, offset 0x0018, 64 bits, cold (spec/13_continuity.md). -/
def R.CT.FIRST_ERR_STAMP_LO.all : Field := ⟨0x40018, 0, 64⟩
def R.CT.FIRST_ERR_STAMP_LO.STAMP : Field := ⟨0x40018, 0, 64⟩

/-- `CT.FIRST_ERR_STAMP_HI`, offset 0x0020, 32 bits, cold (spec/13_continuity.md). -/
def R.CT.FIRST_ERR_STAMP_HI.all : Field := ⟨0x40020, 0, 32⟩
def R.CT.FIRST_ERR_STAMP_HI.STAMP : Field := ⟨0x40020, 0, 32⟩

/-- `CT.MERGE`, offset 0x0028, 64 bits, cold (spec/13_continuity.md). -/
def R.CT.MERGE.all : Field := ⟨0x40028, 0, 64⟩
def R.CT.MERGE.COUNT : Field := ⟨0x40028, 0, 32⟩
def R.CT.MERGE.CLASSES : Field := ⟨0x40028, 32, 16⟩

/-- `CT.RELEASE`, offset 0x0030, 32 bits, cold (spec/13_continuity.md). -/
def R.CT.RELEASE.all : Field := ⟨0x40030, 0, 32⟩
def R.CT.RELEASE.RELEASE : Field := ⟨0x40030, 0, 1⟩

/-- `CT.FSR_SEQ`, offset 0x0038, 64 bits, cold (spec/13_continuity.md). -/
def R.CT.FSR_SEQ.all : Field := ⟨0x40038, 0, 64⟩
def R.CT.FSR_SEQ.SEQ : Field := ⟨0x40038, 0, 64⟩

/-- `CT.LOCK`, offset 0x0040, 32 bits, cold (spec/13_continuity.md). -/
def R.CT.LOCK.all : Field := ⟨0x40040, 0, 32⟩
def R.CT.LOCK.LOCK : Field := ⟨0x40040, 0, 1⟩

/-- `CT.LH_CTRL`, offset 0x0100, 32 bits, full (spec/13_continuity.md). -/
def R.CT.LH_CTRL.all : Field := ⟨0x40100, 0, 32⟩
def R.CT.LH_CTRL.INTERVAL : Field := ⟨0x40100, 0, 16⟩
def R.CT.LH_CTRL.MISS_LIMIT : Field := ⟨0x40100, 16, 4⟩
def R.CT.LH_CTRL.VOID_REPORT : Field := ⟨0x40100, 20, 4⟩

/-- `CT.LH_STATE`, offset 0x0200, 64 bits, full (spec/13_continuity.md). -/
def R.CT.LH_STATE.all (i : Nat) : Field := ⟨0x40200 + 0x8 * i, 0, 64⟩
def R.CT.LH_STATE.PLACE (i : Nat) : Field := ⟨0x40200 + 0x8 * i, 0, 32⟩
def R.CT.LH_STATE.MISSES (i : Nat) : Field := ⟨0x40200 + 0x8 * i, 32, 8⟩
def R.CT.LH_STATE.SUSPECTED (i : Nat) : Field := ⟨0x40200 + 0x8 * i, 40, 1⟩
def R.CT.LH_STATE.BY_SEAL (i : Nat) : Field := ⟨0x40200 + 0x8 * i, 41, 1⟩
def R.CT.LH_STATE.BY_NEIGHBOUR (i : Nat) : Field := ⟨0x40200 + 0x8 * i, 42, 1⟩
def R.CT.LH_STATE.VOIDS (i : Nat) : Field := ⟨0x40200 + 0x8 * i, 48, 8⟩

/-- `CT.TILE_MAP`, offset 0x0800, 32 bits, cold (spec/13_continuity.md). -/
def R.CT.TILE_MAP.all (i : Nat) : Field := ⟨0x40800 + 0x4 * i, 0, 32⟩
def R.CT.TILE_MAP.PHYS (i : Nat) : Field := ⟨0x40800 + 0x4 * i, 0, 7⟩
def R.CT.TILE_MAP.VALID (i : Nat) : Field := ⟨0x40800 + 0x4 * i, 7, 1⟩
def R.CT.TILE_MAP.SUBSTITUTING (i : Nat) : Field := ⟨0x40800 + 0x4 * i, 8, 1⟩

/-- `CT.TILE_RETIRED`, offset 0x0900, 128 bits, cold (spec/13_continuity.md). -/
def R.CT.TILE_RETIRED.all : Field := ⟨0x40900, 0, 128⟩
def R.CT.TILE_RETIRED.RETIRED : Field := ⟨0x40900, 0, 68⟩

/-- `CT.SIDINGS`, offset 0x0910, 32 bits, cold (spec/13_continuity.md). -/
def R.CT.SIDINGS.all : Field := ⟨0x40910, 0, 32⟩
def R.CT.SIDINGS.FREE : Field := ⟨0x40910, 0, 4⟩
def R.CT.SIDINGS.DIAG : Field := ⟨0x40910, 4, 4⟩

/-- `CT.WEAR_CTRL`, offset 0x0A00, 32 bits, full (spec/13_continuity.md). -/
def R.CT.WEAR_CTRL.all : Field := ⟨0x40A00, 0, 32⟩
def R.CT.WEAR_CTRL.THRESH : Field := ⟨0x40A00, 0, 16⟩
def R.CT.WEAR_CTRL.SHIFT : Field := ⟨0x40A00, 16, 4⟩

/-- `CT.SEVERITY`, offset 0x4000, 32 bits, cold (spec/13_continuity.md). -/
def R.CT.SEVERITY.all (i : Nat) : Field := ⟨0x44000 + 0x4 * i, 0, 32⟩
def R.CT.SEVERITY.LEVEL (i : Nat) : Field := ⟨0x44000 + 0x4 * i, 0, 3⟩
def R.CT.SEVERITY.COUNT (i : Nat) : Field := ⟨0x44000 + 0x4 * i, 16, 16⟩

/-- `CT.WEAR`, offset 0xC000, 32 bits, cold (spec/13_continuity.md). -/
def R.CT.WEAR.all (i : Nat) : Field := ⟨0x4C000 + 0x4 * i, 0, 32⟩
def R.CT.WEAR.SCORE (i : Nat) : Field := ⟨0x4C000 + 0x4 * i, 0, 16⟩
def R.CT.WEAR.ABOVE (i : Nat) : Field := ⟨0x4C000 + 0x4 * i, 16, 1⟩

/-- `SN.STATUS`, offset 0x0000, 32 bits, island (spec/14_checkpoint.md). -/
def R.SN.STATUS.all : Field := ⟨0x90000, 0, 32⟩
def R.SN.STATUS.STATE : Field := ⟨0x90000, 0, 2⟩
def R.SN.STATUS.CURRENT : Field := ⟨0x90000, 2, 1⟩
def R.SN.STATUS.MIRROR : Field := ⟨0x90000, 3, 1⟩
def R.SN.STATUS.FERRY : Field := ⟨0x90000, 4, 1⟩
def R.SN.STATUS.FERRY_HALF : Field := ⟨0x90000, 5, 1⟩

/-- `SN.HARBOUR_SIZE`, offset 0x0008, 32 bits, full (spec/14_checkpoint.md). -/
def R.SN.HARBOUR_SIZE.all : Field := ⟨0x90008, 0, 32⟩
def R.SN.HARBOUR_SIZE.MIB : Field := ⟨0x90008, 0, 20⟩

/-- `SN.HARBOUR_BASE`, offset 0x0010, 64 bits, cold (spec/14_checkpoint.md). -/
def R.SN.HARBOUR_BASE.all (i : Nat) : Field := ⟨0x90010 + 0x8 * i, 0, 64⟩
def R.SN.HARBOUR_BASE.ADDR (i : Nat) : Field := ⟨0x90010 + 0x8 * i, 12, 36⟩

/-- `SN.BUDDY_BASE`, offset 0x0020, 64 bits, cold (spec/14_checkpoint.md). -/
def R.SN.BUDDY_BASE.all (i : Nat) : Field := ⟨0x90020 + 0x8 * i, 0, 64⟩
def R.SN.BUDDY_BASE.ADDR (i : Nat) : Field := ⟨0x90020 + 0x8 * i, 12, 36⟩

/-- `SN.HALF`, offset 0x0030, 64 bits, cold (spec/14_checkpoint.md). -/
def R.SN.HALF.all (i : Nat) : Field := ⟨0x90030 + 0x8 * i, 0, 64⟩
def R.SN.HALF.STEP (i : Nat) : Field := ⟨0x90030 + 0x8 * i, 0, 63⟩
def R.SN.HALF.VALID (i : Nat) : Field := ⟨0x90030 + 0x8 * i, 63, 1⟩

/-- `SN.BUDDY_HALF`, offset 0x0040, 64 bits, cold (spec/14_checkpoint.md). -/
def R.SN.BUDDY_HALF.all (i : Nat) : Field := ⟨0x90040 + 0x8 * i, 0, 64⟩
def R.SN.BUDDY_HALF.STEP (i : Nat) : Field := ⟨0x90040 + 0x8 * i, 0, 63⟩
def R.SN.BUDDY_HALF.VALID (i : Nat) : Field := ⟨0x90040 + 0x8 * i, 63, 1⟩

/-- `SN.BUDDY`, offset 0x0050, 64 bits, full (spec/14_checkpoint.md). -/
def R.SN.BUDDY.all : Field := ⟨0x90050, 0, 64⟩
def R.SN.BUDDY.PLACE : Field := ⟨0x90050, 0, 32⟩
def R.SN.BUDDY.PRINCIPAL : Field := ⟨0x90050, 32, 32⟩

/-- `SN.MIRROR_CTRL`, offset 0x0058, 32 bits, full (spec/14_checkpoint.md). -/
def R.SN.MIRROR_CTRL.all : Field := ⟨0x90058, 0, 32⟩
def R.SN.MIRROR_CTRL.ENABLE : Field := ⟨0x90058, 0, 1⟩
def R.SN.MIRROR_CTRL.RATE : Field := ⟨0x90058, 8, 8⟩
def R.SN.MIRROR_CTRL.TIMEOUT : Field := ⟨0x90058, 16, 16⟩

/-- `SN.FERRY_BASE`, offset 0x0060, 64 bits, full (spec/14_checkpoint.md). -/
def R.SN.FERRY_BASE.all : Field := ⟨0x90060, 0, 64⟩
def R.SN.FERRY_BASE.ADDR : Field := ⟨0x90060, 12, 52⟩

/-- `SN.FERRY_CTRL`, offset 0x0068, 32 bits, full (spec/14_checkpoint.md). -/
def R.SN.FERRY_CTRL.all : Field := ⟨0x90068, 0, 32⟩
def R.SN.FERRY_CTRL.SLOTS : Field := ⟨0x90068, 0, 8⟩
def R.SN.FERRY_CTRL.SLOT_MIB : Field := ⟨0x90068, 8, 12⟩
def R.SN.FERRY_CTRL.START : Field := ⟨0x90068, 24, 1⟩
def R.SN.FERRY_CTRL.HALF : Field := ⟨0x90068, 25, 1⟩

/-- `SN.FERRY_FILLED`, offset 0x0070, 32 bits, island (spec/14_checkpoint.md). -/
def R.SN.FERRY_FILLED.all : Field := ⟨0x90070, 0, 32⟩
def R.SN.FERRY_FILLED.COUNT : Field := ⟨0x90070, 0, 32⟩

/-- `SN.FERRY_DONE`, offset 0x0074, 32 bits, island (spec/14_checkpoint.md). -/
def R.SN.FERRY_DONE.all : Field := ⟨0x90074, 0, 32⟩
def R.SN.FERRY_DONE.COUNT : Field := ⟨0x90074, 0, 32⟩

/-- `SN.LOAD_CTRL`, offset 0x0080, 32 bits, full (spec/14_checkpoint.md). -/
def R.SN.LOAD_CTRL.all : Field := ⟨0x90080, 0, 32⟩
def R.SN.LOAD_CTRL.OP : Field := ⟨0x90080, 0, 3⟩
def R.SN.LOAD_CTRL.HALF : Field := ⟨0x90080, 3, 1⟩
def R.SN.LOAD_CTRL.REGION : Field := ⟨0x90080, 4, 1⟩
def R.SN.LOAD_CTRL.START : Field := ⟨0x90080, 8, 1⟩

/-- `SN.LOAD_PEER`, offset 0x0088, 32 bits, full (spec/14_checkpoint.md). -/
def R.SN.LOAD_PEER.all : Field := ⟨0x90088, 0, 32⟩
def R.SN.LOAD_PEER.PLACE : Field := ⟨0x90088, 0, 32⟩

/-- `SN.LOAD_STATUS`, offset 0x0090, 32 bits, full (spec/14_checkpoint.md). -/
def R.SN.LOAD_STATUS.all : Field := ⟨0x90090, 0, 32⟩
def R.SN.LOAD_STATUS.CODE : Field := ⟨0x90090, 0, 8⟩
def R.SN.LOAD_STATUS.INDEX : Field := ⟨0x90090, 8, 8⟩

/-- `SN.COUNTS`, offset 0x00A0, 64 bits, full (spec/14_checkpoint.md). -/
def R.SN.COUNTS.all : Field := ⟨0x900A0, 0, 64⟩
def R.SN.COUNTS.SNAPSHOTS : Field := ⟨0x900A0, 0, 16⟩
def R.SN.COUNTS.FAILED : Field := ⟨0x900A0, 16, 16⟩
def R.SN.COUNTS.SKIPPED : Field := ⟨0x900A0, 32, 16⟩
def R.SN.COUNTS.MIRRORS_FAILED : Field := ⟨0x900A0, 48, 16⟩

/-- `SN.SECTION`, offset 0x0100, 128 bits, full (spec/14_checkpoint.md). -/
def R.SN.SECTION.all (i : Nat) : Field := ⟨0x90100 + 0x10 * i, 0, 128⟩
def R.SN.SECTION.BASE (i : Nat) : Field := ⟨0x90100 + 0x10 * i, 12, 36⟩
def R.SN.SECTION.LENGTH (i : Nat) : Field := ⟨0x90100 + 0x10 * i, 64, 48⟩

/-- `TM.TB_SEC`, offset 0x0100, 64 bits, always-on (spec/15_time.md). -/
def R.TM.TB_SEC.all (i : Nat) : Field := ⟨0x10100 + 0x40 * i, 0, 64⟩
def R.TM.TB_SEC.SEC (i : Nat) : Field := ⟨0x10100 + 0x40 * i, 0, 48⟩

/-- `TM.TB_NS`, offset 0x0108, 32 bits, always-on (spec/15_time.md). -/
def R.TM.TB_NS.all (i : Nat) : Field := ⟨0x10108 + 0x40 * i, 0, 32⟩
def R.TM.TB_NS.NS (i : Nat) : Field := ⟨0x10108 + 0x40 * i, 0, 32⟩

/-- `TM.TB_CTRL`, offset 0x0110, 32 bits, cold (spec/15_time.md). -/
def R.TM.TB_CTRL.all (i : Nat) : Field := ⟨0x10110 + 0x40 * i, 0, 32⟩
def R.TM.TB_CTRL.SHORT (i : Nat) : Field := ⟨0x10110 + 0x40 * i, 0, 1⟩
def R.TM.TB_CTRL.FOLLOW_TB1 (i : Nat) : Field := ⟨0x10110 + 0x40 * i, 1, 1⟩

/-- `TM.TB_GAIN`, offset 0x0114, 32 bits, cold (spec/15_time.md). -/
def R.TM.TB_GAIN.all (i : Nat) : Field := ⟨0x10114 + 0x40 * i, 0, 32⟩
def R.TM.TB_GAIN.KP (i : Nat) : Field := ⟨0x10114 + 0x40 * i, 0, 16⟩
def R.TM.TB_GAIN.KI (i : Nat) : Field := ⟨0x10114 + 0x40 * i, 16, 16⟩

/-- `TM.TB_LIMITS`, offset 0x0118, 32 bits, cold (spec/15_time.md). -/
def R.TM.TB_LIMITS.all (i : Nat) : Field := ⟨0x10118 + 0x40 * i, 0, 32⟩
def R.TM.TB_LIMITS.STEP_THRESH (i : Nat) : Field := ⟨0x10118 + 0x40 * i, 0, 16⟩
def R.TM.TB_LIMITS.MAX_SLEW (i : Nat) : Field := ⟨0x10118 + 0x40 * i, 16, 16⟩

/-- `TM.TB_HOLD`, offset 0x011C, 32 bits, cold (spec/15_time.md). -/
def R.TM.TB_HOLD.all (i : Nat) : Field := ⟨0x1011C + 0x40 * i, 0, 32⟩
def R.TM.TB_HOLD.LOST (i : Nat) : Field := ⟨0x1011C + 0x40 * i, 0, 16⟩

/-- `TM.TB_STATUS`, offset 0x0120, 32 bits, always-on (spec/15_time.md). -/
def R.TM.TB_STATUS.all (i : Nat) : Field := ⟨0x10120 + 0x40 * i, 0, 32⟩
def R.TM.TB_STATUS.SET (i : Nat) : Field := ⟨0x10120 + 0x40 * i, 0, 1⟩
def R.TM.TB_STATUS.SYNC (i : Nat) : Field := ⟨0x10120 + 0x40 * i, 1, 1⟩
def R.TM.TB_STATUS.REFUSED (i : Nat) : Field := ⟨0x10120 + 0x40 * i, 2, 1⟩
def R.TM.TB_STATUS.HOLDOVER (i : Nat) : Field := ⟨0x10120 + 0x40 * i, 3, 1⟩
def R.TM.TB_STATUS.RELOCK_SLEW (i : Nat) : Field := ⟨0x10120 + 0x40 * i, 4, 1⟩

/-- `TM.TB_OFFSET`, offset 0x0124, 32 bits, always-on (spec/15_time.md). -/
def R.TM.TB_OFFSET.all (i : Nat) : Field := ⟨0x10124 + 0x40 * i, 0, 32⟩
def R.TM.TB_OFFSET.THETA (i : Nat) : Field := ⟨0x10124 + 0x40 * i, 0, 32⟩

/-- `TM.TB_RATE`, offset 0x0128, 32 bits, always-on (spec/15_time.md). -/
def R.TM.TB_RATE.all (i : Nat) : Field := ⟨0x10128 + 0x40 * i, 0, 32⟩
def R.TM.TB_RATE.A (i : Nat) : Field := ⟨0x10128 + 0x40 * i, 0, 32⟩

/-- `TM.TB0_TREE`, offset 0x0010, 64 bits, always-on (spec/15_time.md). -/
def R.TM.TB0_TREE.all : Field := ⟨0x10010, 0, 64⟩
def R.TM.TB0_TREE.ROOT : Field := ⟨0x10010, 0, 32⟩
def R.TM.TB0_TREE.STRATUM : Field := ⟨0x10010, 32, 8⟩
def R.TM.TB0_TREE.PARENT_PORT : Field := ⟨0x10010, 40, 4⟩
def R.TM.TB0_TREE.LINKS_USED : Field := ⟨0x10010, 44, 4⟩

/-- `TM.TB0_NEIGH`, offset 0x0018, 32 bits, always-on (spec/15_time.md). -/
def R.TM.TB0_NEIGH.all : Field := ⟨0x10018, 0, 32⟩
def R.TM.TB0_NEIGH.MAX : Field := ⟨0x10018, 0, 32⟩

/-- `TM.TB0_TREE_CTRL`, offset 0x0020, 32 bits, cold (spec/15_time.md). -/
def R.TM.TB0_TREE_CTRL.all : Field := ⟨0x10020, 0, 32⟩
def R.TM.TB0_TREE_CTRL.ANNOUNCE : Field := ⟨0x10020, 0, 8⟩
def R.TM.TB0_TREE_CTRL.RTT_GATE : Field := ⟨0x10020, 8, 8⟩

/-- `TM.RELOCK`, offset 0x0030, 32 bits, cold (spec/15_time.md). -/
def R.TM.RELOCK.all : Field := ⟨0x10030, 0, 32⟩
def R.TM.RELOCK.BASE : Field := ⟨0x10030, 0, 1⟩
def R.TM.RELOCK.MODE : Field := ⟨0x10030, 1, 1⟩
def R.TM.RELOCK.GO : Field := ⟨0x10030, 2, 1⟩
def R.TM.RELOCK.DONE : Field := ⟨0x10030, 3, 1⟩
def R.TM.RELOCK.REFUSED : Field := ⟨0x10030, 4, 1⟩

/-- `TM.TB3_SET_SEC`, offset 0x0038, 64 bits, always-on (spec/15_time.md). -/
def R.TM.TB3_SET_SEC.all : Field := ⟨0x10038, 0, 64⟩
def R.TM.TB3_SET_SEC.SEC : Field := ⟨0x10038, 0, 48⟩

/-- `TM.TB3_SET_NS`, offset 0x0040, 32 bits, always-on (spec/15_time.md). -/
def R.TM.TB3_SET_NS.all : Field := ⟨0x10040, 0, 32⟩
def R.TM.TB3_SET_NS.NS : Field := ⟨0x10040, 0, 30⟩

/-- `TM.PTP_CTRL`, offset 0x0080, 32 bits, cold (spec/15_time.md). -/
def R.TM.PTP_CTRL.all : Field := ⟨0x10080, 0, 32⟩
def R.TM.PTP_CTRL.ENABLE : Field := ⟨0x10080, 0, 1⟩
def R.TM.PTP_CTRL.TRANSPORT : Field := ⟨0x10080, 1, 1⟩
def R.TM.PTP_CTRL.DOMAIN : Field := ⟨0x10080, 8, 8⟩
def R.TM.PTP_CTRL.ANN_TIMEOUT : Field := ⟨0x10080, 16, 4⟩

/-- `TM.PTP_STATUS`, offset 0x0084, 32 bits, always-on (spec/15_time.md). -/
def R.TM.PTP_STATUS.all : Field := ⟨0x10084, 0, 32⟩
def R.TM.PTP_STATUS.SELECTED : Field := ⟨0x10084, 0, 1⟩
def R.TM.PTP_STATUS.STEPS : Field := ⟨0x10084, 8, 8⟩
def R.TM.PTP_STATUS.UTC_OFFSET : Field := ⟨0x10084, 16, 16⟩

/-- `TM.PTP_MASTER`, offset 0x0088, 64 bits, always-on (spec/15_time.md). -/
def R.TM.PTP_MASTER.all : Field := ⟨0x10088, 0, 64⟩
def R.TM.PTP_MASTER.IDENTITY : Field := ⟨0x10088, 0, 64⟩

/-- `PV.STATUS`, offset 0x0000, 32 bits, island (spec/16_observability.md). -/
def R.PV.STATUS.all : Field := ⟨0x50000, 0, 32⟩
def R.PV.STATUS.WARN : Field := ⟨0x50000, 0, 1⟩
def R.PV.STATUS.LIMIT : Field := ⟨0x50000, 1, 1⟩
def R.PV.STATUS.SUPPLY : Field := ⟨0x50000, 2, 1⟩

/-- `PV.LOCK`, offset 0x0004, 32 bits, cold (spec/16_observability.md). -/
def R.PV.LOCK.all : Field := ⟨0x50004, 0, 32⟩
def R.PV.LOCK.LOCK : Field := ⟨0x50004, 0, 1⟩

/-- `PV.TEMP_CTRL`, offset 0x0008, 32 bits, full (spec/16_observability.md). -/
def R.PV.TEMP_CTRL.all : Field := ⟨0x50008, 0, 32⟩
def R.PV.TEMP_CTRL.WARN : Field := ⟨0x50008, 0, 8⟩
def R.PV.TEMP_CTRL.LIMIT : Field := ⟨0x50008, 8, 8⟩
def R.PV.TEMP_CTRL.SHUTDOWN : Field := ⟨0x50008, 16, 8⟩
def R.PV.TEMP_CTRL.HYST : Field := ⟨0x50008, 24, 4⟩

/-- `PV.VOLT_CTRL`, offset 0x000C, 32 bits, full (spec/16_observability.md). -/
def R.PV.VOLT_CTRL.all : Field := ⟨0x5000C, 0, 32⟩
def R.PV.VOLT_CTRL.VLOW : Field := ⟨0x5000C, 0, 12⟩
def R.PV.VOLT_CTRL.VHIGH : Field := ⟨0x5000C, 12, 12⟩
def R.PV.VOLT_CTRL.DWELL : Field := ⟨0x5000C, 24, 8⟩

/-- `PV.SUM_STATUS`, offset 0x0010, 32 bits, island (spec/16_observability.md). -/
def R.PV.SUM_STATUS.all : Field := ⟨0x50010, 0, 32⟩
def R.PV.SUM_STATUS.NEWEST : Field := ⟨0x50010, 0, 1⟩
def R.PV.SUM_STATUS.SEQ : Field := ⟨0x50010, 1, 31⟩

/-- `PV.DIE_TEMP`, offset 0x0018, 32 bits, island (spec/16_observability.md). -/
def R.PV.DIE_TEMP.all : Field := ⟨0x50018, 0, 32⟩
def R.PV.DIE_TEMP.MAX : Field := ⟨0x50018, 0, 16⟩
def R.PV.DIE_TEMP.SENSOR : Field := ⟨0x50018, 16, 9⟩

/-- `PV.MON`, offset 0x0100, 64 bits, island (spec/16_observability.md). -/
def R.PV.MON.all (i : Nat) : Field := ⟨0x50100 + 0x8 * i, 0, 64⟩
def R.PV.MON.TEMP (i : Nat) : Field := ⟨0x50100 + 0x8 * i, 0, 16⟩
def R.PV.MON.SUPPLY (i : Nat) : Field := ⟨0x50100 + 0x8 * i, 16, 16⟩
def R.PV.MON.PROCESS (i : Nat) : Field := ⟨0x50100 + 0x8 * i, 32, 16⟩
def R.PV.MON.STRETCH (i : Nat) : Field := ⟨0x50100 + 0x8 * i, 48, 16⟩

/-- `PV.TILE_TEMP`, offset 0x0800, 64 bits, island (spec/16_observability.md). -/
def R.PV.TILE_TEMP.all (i : Nat) : Field := ⟨0x50800 + 0x8 * i, 0, 64⟩
def R.PV.TILE_TEMP.SENSORS (i : Nat) : Field := ⟨0x50800 + 0x8 * i, 0, 64⟩

/-- `PV.ISL_BUSY`, offset 0x1000, 64 bits, full (spec/16_observability.md). -/
def R.PV.ISL_BUSY.all (i : Nat) : Field := ⟨0x51000 + 0x8 * i, 0, 64⟩
def R.PV.ISL_BUSY.COUNT (i : Nat) : Field := ⟨0x51000 + 0x8 * i, 0, 64⟩

/-- `PV.ISL_STALL`, offset 0x1400, 64 bits, full (spec/16_observability.md). -/
def R.PV.ISL_STALL.all (i : Nat) : Field := ⟨0x51400 + 0x8 * i, 0, 64⟩
def R.PV.ISL_STALL.COUNT (i : Nat) : Field := ⟨0x51400 + 0x8 * i, 0, 64⟩

/-- `PV.ISL_ERR`, offset 0x1800, 64 bits, full (spec/16_observability.md). -/
def R.PV.ISL_ERR.all (i : Nat) : Field := ⟨0x51800 + 0x8 * i, 0, 64⟩
def R.PV.ISL_ERR.COUNT (i : Nat) : Field := ⟨0x51800 + 0x8 * i, 0, 64⟩

/-- `PV.SUMMARY`, offset 0x8000, 32768 bits, island (spec/16_observability.md). -/
def R.PV.SUMMARY.all (i : Nat) : Field := ⟨0x58000 + 0x1000 * i, 0, 32768⟩
def R.PV.SUMMARY.SUMMARY (i : Nat) : Field := ⟨0x58000 + 0x1000 * i, 0, 32768⟩

/-- `DB.STATUS`, offset 0x0000, 32 bits, island (spec/16_observability.md). -/
def R.DB.STATUS.all : Field := ⟨0x60000, 0, 32⟩
def R.DB.STATUS.ANY_FROZEN : Field := ⟨0x60000, 0, 1⟩
def R.DB.STATUS.TRIG_IGNORED : Field := ⟨0x60000, 16, 16⟩

/-- `DB.LOCK`, offset 0x0004, 32 bits, cold (spec/16_observability.md). -/
def R.DB.LOCK.all : Field := ⟨0x60004, 0, 32⟩
def R.DB.LOCK.LOCK : Field := ⟨0x60004, 0, 1⟩

/-- `DB.RING_CEIL`, offset 0x0008, 32 bits, full (spec/16_observability.md). -/
def R.DB.RING_CEIL.all : Field := ⟨0x60008, 0, 32⟩
def R.DB.RING_CEIL.CEIL : Field := ⟨0x60008, 0, 10⟩

/-- `DB.TRIG_CTRL`, offset 0x000C, 32 bits, full (spec/16_observability.md). -/
def R.DB.TRIG_CTRL.all : Field := ⟨0x6000C, 0, 32⟩
def R.DB.TRIG_CTRL.SEV_ENABLE : Field := ⟨0x6000C, 0, 1⟩
def R.DB.TRIG_CTRL.SEV_LEVEL : Field := ⟨0x6000C, 1, 3⟩
def R.DB.TRIG_CTRL.REG_ENABLE : Field := ⟨0x6000C, 4, 1⟩
def R.DB.TRIG_CTRL.HANG_ENABLE : Field := ⟨0x6000C, 5, 1⟩
def R.DB.TRIG_CTRL.MODULE : Field := ⟨0x6000C, 6, 1⟩

/-- `DB.TRIG_REG`, offset 0x0010, 32 bits, full (spec/16_observability.md). -/
def R.DB.TRIG_REG.all : Field := ⟨0x60010, 0, 32⟩
def R.DB.TRIG_REG.ISLAND : Field := ⟨0x60010, 0, 7⟩
def R.DB.TRIG_REG.OFFSET : Field := ⟨0x60010, 7, 16⟩

/-- `DB.RING_RELEASE`, offset 0x0018, 32 bits, island (spec/16_observability.md). -/
def R.DB.RING_RELEASE.all : Field := ⟨0x60018, 0, 32⟩
def R.DB.RING_RELEASE.ISLAND : Field := ⟨0x60018, 0, 7⟩
def R.DB.RING_RELEASE.ALL : Field := ⟨0x60018, 7, 1⟩
def R.DB.RING_RELEASE.GO : Field := ⟨0x60018, 8, 1⟩

/-- `DB.RING_SEL`, offset 0x0020, 32 bits, island (spec/16_observability.md). -/
def R.DB.RING_SEL.all : Field := ⟨0x60020, 0, 32⟩
def R.DB.RING_SEL.ISLAND : Field := ⟨0x60020, 0, 7⟩
def R.DB.RING_SEL.ENTRY : Field := ⟨0x60020, 7, 10⟩
def R.DB.RING_SEL.SAVED : Field := ⟨0x60020, 17, 1⟩

/-- `DB.RING_DATA_LO`, offset 0x0028, 64 bits, island (spec/16_observability.md). -/
def R.DB.RING_DATA_LO.all : Field := ⟨0x60028, 0, 64⟩
def R.DB.RING_DATA_LO.ENTRY : Field := ⟨0x60028, 0, 64⟩

/-- `DB.RING_DATA_HI`, offset 0x0030, 64 bits, island (spec/16_observability.md). -/
def R.DB.RING_DATA_HI.all : Field := ⟨0x60030, 0, 64⟩
def R.DB.RING_DATA_HI.ENTRY : Field := ⟨0x60030, 0, 64⟩

/-- `DB.RING`, offset 0x0100, 64 bits, full (spec/16_observability.md). -/
def R.DB.RING.all (i : Nat) : Field := ⟨0x60100 + 0x8 * i, 0, 64⟩
def R.DB.RING.POST (i : Nat) : Field := ⟨0x60100 + 0x8 * i, 0, 10⟩
def R.DB.RING.WRITES (i : Nat) : Field := ⟨0x60100 + 0x8 * i, 10, 1⟩
def R.DB.RING.ARMED (i : Nat) : Field := ⟨0x60100 + 0x8 * i, 11, 1⟩
def R.DB.RING.FROZEN (i : Nat) : Field := ⟨0x60100 + 0x8 * i, 12, 1⟩
def R.DB.RING.DROPPED (i : Nat) : Field := ⟨0x60100 + 0x8 * i, 16, 32⟩

/-- `DB.EVR_STATUS`, offset 0x0800, 32 bits, cold (spec/16_observability.md). -/
def R.DB.EVR_STATUS.all : Field := ⟨0x60800, 0, 32⟩
def R.DB.EVR_STATUS.QUEUE : Field := ⟨0x60800, 0, 9⟩
def R.DB.EVR_STATUS.CLEARS : Field := ⟨0x60800, 9, 11⟩
def R.DB.EVR_STATUS.HISTORY_FULL : Field := ⟨0x60800, 20, 1⟩

/-- `DB.EVR_SEQ_OLD`, offset 0x0808, 64 bits, cold (spec/16_observability.md). -/
def R.DB.EVR_SEQ_OLD.all : Field := ⟨0x60808, 0, 64⟩
def R.DB.EVR_SEQ_OLD.VALUE : Field := ⟨0x60808, 0, 64⟩

/-- `DB.EVR_SEQ_NEXT`, offset 0x0810, 64 bits, cold (spec/16_observability.md). -/
def R.DB.EVR_SEQ_NEXT.all : Field := ⟨0x60810, 0, 64⟩
def R.DB.EVR_SEQ_NEXT.VALUE : Field := ⟨0x60810, 0, 64⟩

/-- `DB.EVR_LOST`, offset 0x0818, 64 bits, cold (spec/16_observability.md). -/
def R.DB.EVR_LOST.all : Field := ⟨0x60818, 0, 64⟩
def R.DB.EVR_LOST.VALUE : Field := ⟨0x60818, 0, 64⟩

/-- `DB.EVR_CLEAR_ADDR`, offset 0x0820, 64 bits, full (spec/16_observability.md). -/
def R.DB.EVR_CLEAR_ADDR.all : Field := ⟨0x60820, 0, 64⟩
def R.DB.EVR_CLEAR_ADDR.ADDR : Field := ⟨0x60820, 6, 42⟩

/-- `DB.EVR_CLEAR_CTRL`, offset 0x0828, 32 bits, full (spec/16_observability.md). -/
def R.DB.EVR_CLEAR_CTRL.all : Field := ⟨0x60828, 0, 32⟩
def R.DB.EVR_CLEAR_CTRL.GO : Field := ⟨0x60828, 0, 1⟩
def R.DB.EVR_CLEAR_CTRL.RESULT : Field := ⟨0x60828, 1, 3⟩

/-- `DB.EVR_RATE`, offset 0x0840, 32 bits, full (spec/16_observability.md). -/
def R.DB.EVR_RATE.all (i : Nat) : Field := ⟨0x60840 + 0x8 * i, 0, 32⟩
def R.DB.EVR_RATE.LIMIT (i : Nat) : Field := ⟨0x60840 + 0x8 * i, 0, 8⟩

/-- `DB.EVR_OVR`, offset 0x0900, 32 bits, full (spec/16_observability.md). -/
def R.DB.EVR_OVR.all (i : Nat) : Field := ⟨0x60900 + 0x8 * i, 0, 32⟩
def R.DB.EVR_OVR.CODE (i : Nat) : Field := ⟨0x60900 + 0x8 * i, 0, 16⟩
def R.DB.EVR_OVR.LIMIT (i : Nat) : Field := ⟨0x60900 + 0x8 * i, 16, 8⟩
def R.DB.EVR_OVR.VALID (i : Nat) : Field := ⟨0x60900 + 0x8 * i, 24, 1⟩

/-- `DB.EVR_READ_SEQ`, offset 0x0C00, 64 bits, island (spec/16_observability.md). -/
def R.DB.EVR_READ_SEQ.all (i : Nat) : Field := ⟨0x60C00 + 0x80 * i, 0, 64⟩
def R.DB.EVR_READ_SEQ.SEQ (i : Nat) : Field := ⟨0x60C00 + 0x80 * i, 0, 64⟩

/-- `DB.EVR_READ_DATA`, offset 0x0C08, 64 bits, island (spec/16_observability.md). -/
def R.DB.EVR_READ_DATA.all (i m : Nat) : Field := ⟨0x60C08 + 0x80 * i + 0x8 * m, 0, 64⟩
def R.DB.EVR_READ_DATA.BYTES (i m : Nat) : Field := ⟨0x60C08 + 0x80 * i + 0x8 * m, 0, 64⟩

/-- `DB.EVR_READ_STATUS`, offset 0x0C48, 32 bits, island (spec/16_observability.md). -/
def R.DB.EVR_READ_STATUS.all (i : Nat) : Field := ⟨0x60C48 + 0x80 * i, 0, 32⟩
def R.DB.EVR_READ_STATUS.STATUS (i : Nat) : Field := ⟨0x60C48 + 0x80 * i, 0, 2⟩
def R.DB.EVR_READ_STATUS.BUSY (i : Nat) : Field := ⟨0x60C48 + 0x80 * i, 2, 1⟩

/-- `DB.DUMP_CTRL`, offset 0x1000, 32 bits, full (spec/16_observability.md). -/
def R.DB.DUMP_CTRL.all : Field := ⟨0x61000, 0, 32⟩
def R.DB.DUMP_CTRL.GO : Field := ⟨0x61000, 0, 1⟩
def R.DB.DUMP_CTRL.ON_HANG : Field := ⟨0x61000, 1, 1⟩
def R.DB.DUMP_CTRL.ACK : Field := ⟨0x61000, 2, 1⟩

/-- `DB.DUMP_STATUS`, offset 0x1008, 32 bits, cold (spec/16_observability.md). -/
def R.DB.DUMP_STATUS.all : Field := ⟨0x61008, 0, 32⟩
def R.DB.DUMP_STATUS.STATE : Field := ⟨0x61008, 0, 2⟩
def R.DB.DUMP_STATUS.HELD : Field := ⟨0x61008, 2, 1⟩
def R.DB.DUMP_STATUS.CAUSE : Field := ⟨0x61008, 3, 2⟩
def R.DB.DUMP_STATUS.SKIPPED : Field := ⟨0x61008, 16, 16⟩

/-- `DB.DUMP_BASE`, offset 0x1010, 64 bits, cold (spec/16_observability.md). -/
def R.DB.DUMP_BASE.all : Field := ⟨0x61010, 0, 64⟩
def R.DB.DUMP_BASE.ADDR : Field := ⟨0x61010, 28, 20⟩

/-- `DB.FSR_WR`, offset 0x1018, 32 bits, cold (spec/16_observability.md). -/
def R.DB.FSR_WR.all : Field := ⟨0x61018, 0, 32⟩
def R.DB.FSR_WR.COUNT : Field := ⟨0x61018, 0, 32⟩

/-- `SB.STATUS`, offset 0x0000, 32 bits, always-on (spec/17_power_reset.md). -/
def R.SB.STATUS.all : Field := ⟨0x0, 0, 32⟩
def R.SB.STATUS.LADDER : Field := ⟨0x0, 0, 3⟩
def R.SB.STATUS.READY : Field := ⟨0x0, 3, 1⟩
def R.SB.STATUS.PERST : Field := ⟨0x0, 4, 1⟩

/-- `SB.ESCALATE_STATUS`, offset 0x0008, 64 bits, always-on (spec/17_power_reset.md). -/
def R.SB.ESCALATE_STATUS.all : Field := ⟨0x8, 0, 64⟩
def R.SB.ESCALATE_STATUS.FROM : Field := ⟨0x8, 0, 3⟩
def R.SB.ESCALATE_STATUS.TO : Field := ⟨0x8, 3, 3⟩
def R.SB.ESCALATE_STATUS.ISLAND : Field := ⟨0x8, 6, 7⟩
def R.SB.ESCALATE_STATUS.VALID : Field := ⟨0x8, 16, 1⟩
def R.SB.ESCALATE_STATUS.COUNT : Field := ⟨0x8, 32, 32⟩

/-- `SB.RESET_CAUSE`, offset 0x0010, 32 bits, always-on (spec/17_power_reset.md). -/
def R.SB.RESET_CAUSE.all : Field := ⟨0x10, 0, 32⟩
def R.SB.RESET_CAUSE.CAUSE : Field := ⟨0x10, 0, 4⟩
def R.SB.RESET_CAUSE.SOURCE : Field := ⟨0x10, 4, 13⟩

/-- `SB.ISL_CTRL`, offset 0x0020, 32 bits, always-on (spec/17_power_reset.md). -/
def R.SB.ISL_CTRL.all : Field := ⟨0x20, 0, 32⟩
def R.SB.ISL_CTRL.DOMAIN : Field := ⟨0x20, 0, 7⟩
def R.SB.ISL_CTRL.OP : Field := ⟨0x20, 8, 2⟩
def R.SB.ISL_CTRL.GO : Field := ⟨0x20, 10, 1⟩
def R.SB.ISL_CTRL.BUSY : Field := ⟨0x20, 11, 1⟩

/-- `SB.DOMAIN_ON`, offset 0x0030, 128 bits, always-on (spec/17_power_reset.md). -/
def R.SB.DOMAIN_ON.all : Field := ⟨0x30, 0, 128⟩
def R.SB.DOMAIN_ON.ON : Field := ⟨0x30, 0, 124⟩

/-- `SB.WDOG`, offset 0x0040, 32 bits, full (spec/17_power_reset.md). -/
def R.SB.WDOG.all : Field := ⟨0x40, 0, 32⟩
def R.SB.WDOG.TIMEOUT : Field := ⟨0x40, 0, 16⟩
def R.SB.WDOG.KICK : Field := ⟨0x40, 16, 1⟩

/-- `SB.RAIL_STATUS`, offset 0x0048, 32 bits, always-on (spec/17_power_reset.md). -/
def R.SB.RAIL_STATUS.all : Field := ⟨0x48, 0, 32⟩
def R.SB.RAIL_STATUS.GOOD : Field := ⟨0x48, 0, 7⟩
def R.SB.RAIL_STATUS.REQ : Field := ⟨0x48, 8, 7⟩
def R.SB.RAIL_STATUS.FAILED : Field := ⟨0x48, 16, 3⟩

/-- `SB.VCORE`, offset 0x0050, 64 bits, cold (spec/17_power_reset.md). -/
def R.SB.VCORE.all : Field := ⟨0x50, 0, 64⟩
def R.SB.VCORE.TARGET : Field := ⟨0x50, 0, 10⟩
def R.SB.VCORE.READ_MV : Field := ⟨0x50, 16, 10⟩
def R.SB.VCORE.IOUT : Field := ⟨0x50, 32, 12⟩

/-- `SB.PMBUS_STATUS`, offset 0x0058, 32 bits, cold (spec/17_power_reset.md). -/
def R.SB.PMBUS_STATUS.all : Field := ⟨0x58, 0, 32⟩
def R.SB.PMBUS_STATUS.STATUS_WORD : Field := ⟨0x58, 0, 16⟩
def R.SB.PMBUS_STATUS.ADDR : Field := ⟨0x58, 16, 7⟩
def R.SB.PMBUS_STATUS.ERRORS : Field := ⟨0x58, 24, 8⟩

/-- `SB.RRQ_STATUS`, offset 0x0060, 64 bits, cold (spec/17_power_reset.md). -/
def R.SB.RRQ_STATUS.all : Field := ⟨0x60, 0, 64⟩
def R.SB.RRQ_STATUS.RESENDS : Field := ⟨0x60, 0, 16⟩
def R.SB.RRQ_STATUS.FALLBACKS : Field := ⟨0x60, 16, 16⟩
def R.SB.RRQ_STATUS.UP_ERRORS : Field := ⟨0x60, 32, 16⟩
def R.SB.RRQ_STATUS.ALERT : Field := ⟨0x60, 48, 5⟩

/-- `SB.COUNTS`, offset 0x0068, 64 bits, always-on (spec/17_power_reset.md). -/
def R.SB.COUNTS.all : Field := ⟨0x68, 0, 64⟩
def R.SB.COUNTS.ISL_RESETS : Field := ⟨0x68, 0, 16⟩
def R.SB.COUNTS.POWER_CYCLES : Field := ⟨0x68, 16, 16⟩
def R.SB.COUNTS.FULL_RESETS : Field := ⟨0x68, 32, 16⟩
def R.SB.COUNTS.COLD_RESETS : Field := ⟨0x68, 48, 16⟩

/-- `SB.LADDER_COUNTS`, offset 0x0070, 64 bits, always-on (spec/17_power_reset.md). -/
def R.SB.LADDER_COUNTS.all : Field := ⟨0x70, 0, 64⟩
def R.SB.LADDER_COUNTS.MERGED : Field := ⟨0x70, 0, 16⟩
def R.SB.LADDER_COUNTS.IGNORED : Field := ⟨0x70, 16, 16⟩
def R.SB.LADDER_COUNTS.ABANDONED : Field := ⟨0x70, 32, 16⟩

/-- `SB.FW_SLOT`, offset 0x0100, 64 bits, cold (spec/17_power_reset.md). -/
def R.SB.FW_SLOT.all (i : Nat) : Field := ⟨0x100 + 0x8 * i, 0, 64⟩
def R.SB.FW_SLOT.ACTIVE (i : Nat) : Field := ⟨0x100 + 0x8 * i, 0, 1⟩
def R.SB.FW_SLOT.STAGED (i : Nat) : Field := ⟨0x100 + 0x8 * i, 1, 1⟩
def R.SB.FW_SLOT.PENDING (i : Nat) : Field := ⟨0x100 + 0x8 * i, 2, 1⟩
def R.SB.FW_SLOT.REVERTED (i : Nat) : Field := ⟨0x100 + 0x8 * i, 3, 1⟩
def R.SB.FW_SLOT.STAGE_STATUS (i : Nat) : Field := ⟨0x100 + 0x8 * i, 8, 8⟩
def R.SB.FW_SLOT.VERSION (i : Nat) : Field := ⟨0x100 + 0x8 * i, 16, 32⟩

/-- `SB.FW_STAGE`, offset 0x0140, 64 bits, full (spec/17_power_reset.md). -/
def R.SB.FW_STAGE.all : Field := ⟨0x140, 0, 64⟩
def R.SB.FW_STAGE.ADDR : Field := ⟨0x140, 6, 42⟩
def R.SB.FW_STAGE.KIND : Field := ⟨0x140, 48, 2⟩
def R.SB.FW_STAGE.GO : Field := ⟨0x140, 50, 1⟩

/-- `SB.FW_SWITCH`, offset 0x0150, 128 bits, full (spec/17_power_reset.md). -/
def R.SB.FW_SWITCH.all : Field := ⟨0x150, 0, 128⟩
def R.SB.FW_SWITCH.KINDS : Field := ⟨0x150, 0, 4⟩
def R.SB.FW_SWITCH.GO : Field := ⟨0x150, 8, 1⟩
def R.SB.FW_SWITCH.CANCEL : Field := ⟨0x150, 9, 1⟩
def R.SB.FW_SWITCH.PERIOD : Field := ⟨0x150, 64, 64⟩

/-- `SB.CAL_RELOAD`, offset 0x0160, 64 bits, full (spec/17_power_reset.md). -/
def R.SB.CAL_RELOAD.all : Field := ⟨0x160, 0, 64⟩
def R.SB.CAL_RELOAD.ADDR : Field := ⟨0x160, 6, 42⟩
def R.SB.CAL_RELOAD.GO : Field := ⟨0x160, 48, 1⟩
def R.SB.CAL_RELOAD.RESULT : Field := ⟨0x160, 49, 3⟩

/-- `SB.LOCK`, offset 0x0170, 32 bits, cold (spec/17_power_reset.md). -/
def R.SB.LOCK.all : Field := ⟨0x170, 0, 32⟩
def R.SB.LOCK.LOCK : Field := ⟨0x170, 0, 1⟩

/-- `HI.STATUS`, offset 0x0000, 32 bits, full (spec/18_host_security.md). -/
def R.HI.STATUS.all : Field := ⟨0x70000, 0, 32⟩
def R.HI.STATUS.READY : Field := ⟨0x70000, 0, 1⟩
def R.HI.STATUS.BOOT_FAILED : Field := ⟨0x70000, 1, 1⟩
def R.HI.STATUS.WIDTH : Field := ⟨0x70000, 2, 4⟩
def R.HI.STATUS.SPEED : Field := ⟨0x70000, 6, 3⟩
def R.HI.STATUS.FLIT : Field := ⟨0x70000, 9, 1⟩

/-- `HI.MODULE_RESET`, offset 0x0008, 32 bits, full (spec/18_host_security.md). -/
def R.HI.MODULE_RESET.all : Field := ⟨0x70008, 0, 32⟩
def R.HI.MODULE_RESET.KEY : Field := ⟨0x70008, 0, 16⟩
def R.HI.MODULE_RESET.GO : Field := ⟨0x70008, 16, 1⟩

/-- `HI.APERTURE`, offset 0x0010, 64 bits, full (spec/18_host_security.md). -/
def R.HI.APERTURE.all : Field := ⟨0x70010, 0, 64⟩
def R.HI.APERTURE.BASE : Field := ⟨0x70010, 30, 18⟩

/-- `HI.IRQ_CAUSE`, offset 0x0020, 32 bits, full (spec/18_host_security.md). -/
def R.HI.IRQ_CAUSE.all : Field := ⟨0x70020, 0, 32⟩
def R.HI.IRQ_CAUSE.CAUSE : Field := ⟨0x70020, 0, 15⟩

/-- `HI.CPER_BASE`, offset 0x0030, 64 bits, full (spec/18_host_security.md). -/
def R.HI.CPER_BASE.all : Field := ⟨0x70030, 0, 64⟩
def R.HI.CPER_BASE.ADDR : Field := ⟨0x70030, 9, 55⟩

/-- `HI.CPER_CTRL`, offset 0x0038, 32 bits, full (spec/18_host_security.md). -/
def R.HI.CPER_CTRL.all : Field := ⟨0x70038, 0, 32⟩
def R.HI.CPER_CTRL.SIZE : Field := ⟨0x70038, 0, 16⟩

/-- `HI.CPER_WR`, offset 0x0040, 32 bits, full (spec/18_host_security.md). -/
def R.HI.CPER_WR.all : Field := ⟨0x70040, 0, 32⟩
def R.HI.CPER_WR.VALUE : Field := ⟨0x70040, 0, 32⟩

/-- `HI.CPER_RD`, offset 0x0044, 32 bits, full (spec/18_host_security.md). -/
def R.HI.CPER_RD.all : Field := ⟨0x70044, 0, 32⟩
def R.HI.CPER_RD.VALUE : Field := ⟨0x70044, 0, 32⟩

/-- `HI.CPER_DROPPED`, offset 0x0048, 32 bits, full (spec/18_host_security.md). -/
def R.HI.CPER_DROPPED.all : Field := ⟨0x70048, 0, 32⟩
def R.HI.CPER_DROPPED.VALUE : Field := ⟨0x70048, 0, 32⟩

/-- `SC.STATUS`, offset 0x0000, 32 bits, cold (spec/18_host_security.md). -/
def R.SC.STATUS.all : Field := ⟨0x20000, 0, 32⟩
def R.SC.STATUS.BOOT : Field := ⟨0x20000, 0, 2⟩
def R.SC.STATUS.FAILED_KIND : Field := ⟨0x20000, 2, 3⟩
def R.SC.STATUS.IDENTITY : Field := ⟨0x20000, 5, 1⟩
def R.SC.STATUS.CONFIG : Field := ⟨0x20000, 6, 2⟩
def R.SC.STATUS.TRUST_ENTRIES : Field := ⟨0x20000, 8, 5⟩
def R.SC.STATUS.OWNER : Field := ⟨0x20000, 13, 1⟩
def R.SC.STATUS.SCAN_UNLOCKED : Field := ⟨0x20000, 14, 1⟩

/-- `SC.ROLLBACK`, offset 0x0100, 64 bits, cold (spec/18_host_security.md). -/
def R.SC.ROLLBACK.all (i : Nat) : Field := ⟨0x20100 + 0x8 * i, 0, 64⟩
def R.SC.ROLLBACK.VALUE (i : Nat) : Field := ⟨0x20100 + 0x8 * i, 0, 64⟩

/-- `SC.CMD`, offset 0x0200, 64 bits, full (spec/18_host_security.md). -/
def R.SC.CMD.all : Field := ⟨0x20200, 0, 64⟩
def R.SC.CMD.ADDR : Field := ⟨0x20200, 6, 42⟩
def R.SC.CMD.GO : Field := ⟨0x20200, 48, 1⟩
def R.SC.CMD.BUSY : Field := ⟨0x20200, 49, 1⟩
def R.SC.CMD.KIND : Field := ⟨0x20200, 50, 1⟩
def R.SC.CMD.RESULT : Field := ⟨0x20200, 56, 8⟩

/-- `SC.UPDATE`, offset 0x0210, 64 bits, full (spec/18_host_security.md). -/
def R.SC.UPDATE.all : Field := ⟨0x20210, 0, 64⟩
def R.SC.UPDATE.ADDR : Field := ⟨0x20210, 6, 42⟩
def R.SC.UPDATE.GO : Field := ⟨0x20210, 48, 1⟩
def R.SC.UPDATE.BUSY : Field := ⟨0x20210, 49, 1⟩
def R.SC.UPDATE.KIND : Field := ⟨0x20210, 50, 1⟩
def R.SC.UPDATE.RESULT : Field := ⟨0x20210, 56, 8⟩

/-- `SC.ATTEST`, offset 0x0220, 64 bits, full (spec/18_host_security.md). -/
def R.SC.ATTEST.all : Field := ⟨0x20220, 0, 64⟩
def R.SC.ATTEST.ADDR : Field := ⟨0x20220, 6, 42⟩
def R.SC.ATTEST.GO : Field := ⟨0x20220, 48, 1⟩
def R.SC.ATTEST.BUSY : Field := ⟨0x20220, 49, 1⟩
def R.SC.ATTEST.KIND : Field := ⟨0x20220, 50, 1⟩
def R.SC.ATTEST.RESULT : Field := ⟨0x20220, 56, 8⟩

/-- `MG.PORT_STATUS`, offset 0x8000, 32 bits, full (spec/18_host_security.md). -/
def R.MG.PORT_STATUS.all : Field := ⟨0x38000, 0, 32⟩
def R.MG.PORT_STATUS.LINK : Field := ⟨0x38000, 0, 1⟩
def R.MG.PORT_STATUS.FEC : Field := ⟨0x38000, 1, 1⟩
def R.MG.PORT_STATUS.CONFIGURED : Field := ⟨0x38000, 2, 1⟩

/-- `MG.PORT_ADDR`, offset 0x8008, 64 bits, cold (spec/18_host_security.md). -/
def R.MG.PORT_ADDR.all : Field := ⟨0x38008, 0, 64⟩
def R.MG.PORT_ADDR.MAC : Field := ⟨0x38008, 0, 48⟩

/-- `MG.PORT_IPV4`, offset 0x8010, 32 bits, cold (spec/18_host_security.md). -/
def R.MG.PORT_IPV4.all : Field := ⟨0x38010, 0, 32⟩
def R.MG.PORT_IPV4.ADDR : Field := ⟨0x38010, 0, 32⟩

/-- `MG.PORT_CNT`, offset 0x8020, 64 bits, full (spec/18_host_security.md). -/
def R.MG.PORT_CNT.all (i : Nat) : Field := ⟨0x38020 + 0x8 * i, 0, 64⟩
def R.MG.PORT_CNT.COUNT (i : Nat) : Field := ⟨0x38020 + 0x8 * i, 0, 64⟩

/-- `MG.PORT_BACKLOG`, offset 0x8040, 32 bits, full (spec/18_host_security.md). -/
def R.MG.PORT_BACKLOG.all : Field := ⟨0x38040, 0, 32⟩
def R.MG.PORT_BACKLOG.OUTSTANDING : Field := ⟨0x38040, 0, 7⟩

end Sys2Proof.Machine
end

