-- ==== Sys2Proof/Machine/RegTable.lean ====
section
/-! DEFINITION. The register tables of spec/ as data: for each class of island its registers, with their offsets,
widths, reset domains (R10) and, field by field, the access codes (R9) and the reset values. -/

namespace Sys2Proof.Machine

/-- The access codes of R9; `rwl` is RW+WL, `rwsRo` RWS that software may only read, `rwsMg` RWS written by MG only and
`roMg` a field that MG alone writes. -/
inductive Access where
  | ro | rw | rwl | w1c | w1p | rws | rwsRo | rwsMg | roMg
  deriving DecidableEq, Repr

/-- The reset domains of R10. -/
inductive Domain where
  | cold | full | island | always
  deriving DecidableEq, Repr

/-- One field of a register table. -/
structure FieldRow where
  lo : Nat
  w : Nat
  acc : Access
  reset : Nat
  deriving DecidableEq, Repr

/-- One dimension of a register that exists in several instances: first number, count and stride. -/
structure Dim where
  first : Nat
  count : Nat
  stride : Nat
  deriving DecidableEq, Repr

/-- One register of an island's window. -/
structure RegRow where
  off : Nat
  dims : List Dim
  width : Nat
  dom : Domain
  fields : List FieldRow
  deriving DecidableEq, Repr

/-- Registers of TM, part 1. -/
def regTableTM1 : List RegRow := [
  -- TB0_TREE
  ⟨0x10, [], 64, .always, [⟨0, 32, .ro, 0⟩, ⟨32, 8, .ro, 255⟩, ⟨40, 4, .ro, 15⟩, ⟨44, 4, .ro, 0⟩]⟩,
  -- TB0_NEIGH
  ⟨0x18, [], 32, .always, [⟨0, 32, .ro, 0⟩]⟩,
  -- TB0_TREE_CTRL
  ⟨0x20, [], 32, .cold, [⟨0, 8, .rw, 10⟩, ⟨8, 8, .rw, 20⟩]⟩,
  -- RELOCK
  ⟨0x30, [], 32, .cold, [⟨0, 1, .rw, 0⟩, ⟨1, 1, .rw, 0⟩, ⟨2, 1, .w1p, 0⟩, ⟨3, 1, .ro, 0⟩, ⟨4, 1, .ro, 0⟩]⟩,
  -- TB3_SET_SEC
  ⟨0x38, [], 64, .always, [⟨0, 48, .rw, 0⟩]⟩,
  -- TB3_SET_NS
  ⟨0x40, [], 32, .always, [⟨0, 30, .rw, 0⟩]⟩,
  -- PTP_CTRL
  ⟨0x80, [], 32, .cold, [⟨0, 1, .rw, 0⟩, ⟨1, 1, .rw, 0⟩, ⟨8, 8, .rw, 0⟩, ⟨16, 4, .rw, 3⟩]⟩,
  -- PTP_STATUS
  ⟨0x84, [], 32, .always, [⟨0, 1, .ro, 0⟩, ⟨8, 8, .ro, 0⟩, ⟨16, 16, .ro, 0⟩]⟩,
  -- PTP_MASTER
  ⟨0x88, [], 64, .always, [⟨0, 64, .ro, 0⟩]⟩,
  -- TB_SEC
  ⟨0x100, [⟨0, 4, 64⟩], 64, .always, [⟨0, 48, .ro, 0⟩]⟩,
  -- TB_NS
  ⟨0x108, [⟨0, 4, 64⟩], 32, .always, [⟨0, 32, .ro, 0⟩]⟩,
  -- TB_CTRL
  ⟨0x110, [⟨0, 4, 64⟩], 32, .cold, [⟨0, 1, .rw, 0⟩, ⟨1, 1, .rw, 0⟩]⟩]

/-- Registers of TM, part 2. -/
def regTableTM2 : List RegRow := [
  -- TB_GAIN
  ⟨0x114, [⟨0, 2, 64⟩], 32, .cold, [⟨0, 16, .rw, 544⟩, ⟨16, 16, .rw, 8243⟩]⟩,
  -- TB_LIMITS
  ⟨0x118, [⟨0, 2, 64⟩], 32, .cold, [⟨0, 16, .rw, 1000⟩, ⟨16, 16, .rw, 100⟩]⟩,
  -- TB_HOLD
  ⟨0x11C, [⟨0, 2, 64⟩], 32, .cold, [⟨0, 16, .rw, 10⟩]⟩,
  -- TB_STATUS
  ⟨0x120, [⟨0, 2, 64⟩], 32, .always, [⟨0, 1, .ro, 0⟩, ⟨1, 1, .ro, 0⟩, ⟨2, 1, .ro, 0⟩, ⟨3, 1, .ro, 0⟩, ⟨4, 1, .ro, 0⟩]⟩,
  -- TB_OFFSET
  ⟨0x124, [⟨0, 2, 64⟩], 32, .always, [⟨0, 32, .ro, 0⟩]⟩,
  -- TB_RATE
  ⟨0x128, [⟨0, 2, 64⟩], 32, .always, [⟨0, 32, .ro, 0⟩]⟩,
  -- TT_STATUS
  ⟨0x8000, [], 32, .full, [⟨0, 2, .ro, 0⟩, ⟨2, 1, .ro, 0⟩, ⟨3, 1, .ro, 0⟩, ⟨4, 1, .ro, 0⟩]⟩,
  -- IMAGE_ADDR
  ⟨0x8008, [], 64, .full, [⟨6, 42, .rw, 0⟩]⟩,
  -- IMAGE_LEN
  ⟨0x8010, [], 32, .full, [⟨0, 32, .rw, 0⟩]⟩,
  -- LOAD_CTRL
  ⟨0x8014, [], 32, .full, [⟨0, 1, .w1p, 0⟩, ⟨1, 1, .w1p, 0⟩, ⟨2, 1, .w1p, 0⟩]⟩,
  -- LOAD_STATUS
  ⟨0x8018, [], 32, .full, [⟨0, 8, .ro, 0⟩, ⟨8, 8, .ro, 0⟩, ⟨16, 16, .ro, 0⟩]⟩,
  -- JOB_DEPART
  ⟨0x8020, [], 64, .full, [⟨0, 63, .rw, 0⟩, ⟨63, 1, .w1p, 0⟩]⟩]

/-- Registers of TM, part 3. -/
def regTableTM3 : List RegRow := [
  -- DEPART_PERIOD
  ⟨0x8028, [], 64, .full, [⟨0, 64, .ro, 0⟩]⟩,
  -- DEPART_SEQ
  ⟨0x8030, [], 32, .full, [⟨0, 12, .ro, 0⟩, ⟨12, 8, .ro, 0⟩]⟩,
  -- STEP_NUMBER
  ⟨0x8038, [], 64, .full, [⟨0, 64, .ro, 0⟩]⟩,
  -- SEAL_WINDOW
  ⟨0x8040, [], 32, .full, [⟨0, 13, .rw, 400⟩]⟩,
  -- SERIAL
  ⟨0x8048, [], 64, .full, [⟨0, 32, .ro, 0⟩, ⟨32, 32, .ro, 0⟩]⟩,
  -- ANNOUNCED_PERIOD
  ⟨0x8050, [], 64, .full, [⟨0, 64, .ro, 0⟩]⟩,
  -- STOP
  ⟨0x8058, [], 32, .full, [⟨0, 1, .w1p, 0⟩]⟩,
  -- VOID_COUNTS
  ⟨0x8060, [], 64, .full, [⟨0, 16, .ro, 0⟩, ⟨16, 16, .ro, 0⟩, ⟨32, 16, .ro, 0⟩, ⟨48, 16, .ro, 0⟩]⟩,
  -- CURSOR
  ⟨0x8100, [⟨0, 16, 8⟩], 64, .full, [⟨0, 64, .rw, 0⟩]⟩]

/-- The registers of island class TM. -/
def regTableTM : List RegRow := regTableTM1 ++ regTableTM2 ++ regTableTM3

/-- Registers of T, part 1. -/
def regTableT1 : List RegRow := [
  -- TILE_STATUS
  ⟨0x0, [], 32, .island, [⟨0, 3, .ro, 0⟩, ⟨3, 1, .ro, 0⟩, ⟨4, 1, .ro, 0⟩, ⟨5, 1, .ro, 0⟩, ⟨8, 6, .ro, 0⟩, ⟨16, 7, .ro, 0⟩]⟩,
  -- PC
  ⟨0x8, [], 32, .island, [⟨5, 15, .ro, 0⟩]⟩,
  -- FLAGS
  ⟨0x10, [], 32, .island, [⟨0, 1, .w1c, 0⟩, ⟨1, 1, .w1c, 0⟩, ⟨2, 1, .w1c, 0⟩, ⟨3, 1, .w1c, 0⟩, ⟨4, 1, .w1c, 0⟩]⟩,
  -- STOP_CAUSE
  ⟨0x18, [], 64, .island, [⟨0, 3, .ro, 0⟩, ⟨4, 3, .ro, 0⟩, ⟨8, 3, .ro, 0⟩, ⟨11, 6, .ro, 0⟩, ⟨32, 15, .ro, 0⟩, ⟨47, 1, .w1c, 0⟩]⟩,
  -- LAST_ARRIVE
  ⟨0x20, [], 32, .island, [⟨0, 31, .ro, 0⟩, ⟨31, 1, .ro, 0⟩]⟩,
  -- LATE_COUNT
  ⟨0x24, [], 32, .island, [⟨0, 32, .ro, 0⟩]⟩,
  -- RECOVER
  ⟨0x28, [], 32, .island, [⟨0, 1, .w1p, 0⟩, ⟨1, 1, .ro, 0⟩, ⟨2, 1, .ro, 0⟩]⟩,
  -- IMAGE_A
  ⟨0x30, [], 64, .island, [⟨0, 63, .ro, 0⟩, ⟨63, 1, .ro, 0⟩]⟩,
  -- IMAGE_B
  ⟨0x38, [], 64, .island, [⟨0, 63, .ro, 0⟩, ⟨63, 1, .ro, 0⟩]⟩,
  -- GEN_KEY_LO
  ⟨0x1000, [⟨0, 8, 64⟩], 64, .island, [⟨0, 64, .rw, 0⟩]⟩,
  -- GEN_KEY_HI
  ⟨0x1008, [⟨0, 8, 64⟩], 64, .island, [⟨0, 64, .rw, 0⟩]⟩,
  -- GEN_CTR_LO
  ⟨0x1010, [⟨0, 8, 64⟩], 64, .island, [⟨0, 64, .rw, 0⟩]⟩]

/-- Registers of T, part 2. -/
def regTableT2 : List RegRow := [
  -- GEN_CTR_HI
  ⟨0x1018, [⟨0, 8, 64⟩], 64, .island, [⟨0, 64, .rw, 0⟩]⟩,
  -- GEN_ANCHOR_LO
  ⟨0x1020, [⟨0, 8, 64⟩], 64, .island, [⟨0, 64, .rw, 0⟩]⟩,
  -- GEN_ANCHOR_HI
  ⟨0x1028, [⟨0, 8, 64⟩], 64, .island, [⟨0, 64, .rw, 0⟩]⟩,
  -- SEQ_POS
  ⟨0x1200, [⟨0, 2, 32⟩], 64, .island, [⟨0, 64, .rw, 0⟩]⟩,
  -- SEQ_BASE
  ⟨0x1208, [⟨0, 2, 32⟩], 64, .island, [⟨5, 43, .rw, 0⟩]⟩,
  -- SEQ_CTRL
  ⟨0x1210, [⟨0, 2, 32⟩], 32, .island, [⟨0, 1, .rw, 0⟩]⟩,
  -- MX_STATUS
  ⟨0x2000, [], 32, .island, [⟨0, 1, .ro, 0⟩, ⟨1, 1, .ro, 0⟩, ⟨2, 1, .ro, 0⟩, ⟨3, 1, .ro, 0⟩, ⟨4, 1, .ro, 0⟩, ⟨8, 8, .ro, 0⟩]⟩,
  -- MX_RELEASE
  ⟨0x2004, [], 32, .island, [⟨0, 1, .w1p, 0⟩]⟩,
  -- MX_CAPTURE
  ⟨0x2008, [], 64, .island, [⟨0, 16, .ro, 0⟩, ⟨16, 2, .ro, 0⟩, ⟨18, 4, .ro, 0⟩, ⟨22, 4, .ro, 0⟩, ⟨26, 7, .ro, 0⟩, ⟨33, 20, .ro, 0⟩, ⟨53, 7, .ro, 0⟩, ⟨60, 1, .ro, 0⟩, ⟨61, 1, .ro, 0⟩]⟩,
  -- MX_CAPTURE_PERIOD
  ⟨0x2010, [], 64, .island, [⟨0, 64, .ro, 0⟩]⟩,
  -- MX_CAPTURE_PC
  ⟨0x2018, [], 32, .island, [⟨5, 15, .ro, 0⟩]⟩,
  -- MX_PLAUS_FIRST
  ⟨0x201C, [], 32, .island, [⟨0, 16, .ro, 0⟩, ⟨16, 7, .ro, 0⟩, ⟨23, 7, .ro, 0⟩, ⟨30, 1, .ro, 0⟩]⟩]

/-- Registers of T, part 3. -/
def regTableT3 : List RegRow := [
  -- MX_SV
  ⟨0x2020, [⟨0, 4, 4⟩], 32, .island, [⟨0, 1, .w1c, 0⟩, ⟨1, 1, .ro, 0⟩, ⟨2, 1, .ro, 0⟩, ⟨3, 7, .ro, 0⟩, ⟨10, 7, .ro, 0⟩, ⟨17, 15, .ro, 0⟩]⟩,
  -- MX_OPS
  ⟨0x2040, [], 64, .island, [⟨0, 64, .ro, 0⟩]⟩,
  -- MX_LANE_SKIPS
  ⟨0x2048, [], 32, .island, [⟨0, 32, .ro, 0⟩]⟩,
  -- MX_BOUNDS
  ⟨0x2100, [⟨1, 7, 16⟩], 64, .island, [⟨0, 32, .rw, 4286578688⟩, ⟨32, 32, .rw, 2139095040⟩]⟩,
  -- MX_BOUNDS_CTRL
  ⟨0x2108, [⟨1, 7, 16⟩], 32, .island, [⟨0, 15, .rw, 0⟩, ⟨16, 1, .rw, 0⟩, ⟨17, 1, .rw, 0⟩, ⟨18, 1, .rw, 0⟩]⟩]

/-- The registers of island class T. -/
def regTableT : List RegRow := regTableT1 ++ regTableT2 ++ regTableT3

/-- Registers of UE, part 1. -/
def regTableUE1 : List RegRow := [
  -- STATUS
  ⟨0x0, [], 32, .island, [⟨0, 2, .ro, 0⟩, ⟨2, 1, .ro, 0⟩, ⟨16, 16, .ro, 0⟩]⟩,
  -- LAST_ERROR
  ⟨0x4, [], 32, .island, [⟨0, 4, .ro, 0⟩, ⟨4, 1, .w1c, 0⟩, ⟨16, 16, .ro, 0⟩]⟩,
  -- FLAGS
  ⟨0x8, [], 32, .island, [⟨0, 5, .w1c, 0⟩]⟩,
  -- LAYERS_DONE
  ⟨0x10, [], 64, .island, [⟨0, 64, .ro, 0⟩]⟩,
  -- POINTS_DONE
  ⟨0x18, [], 64, .island, [⟨0, 64, .ro, 0⟩]⟩,
  -- POINTS_SKIPPED
  ⟨0x20, [], 64, .island, [⟨0, 64, .ro, 0⟩]⟩,
  -- LIST_TABLE
  ⟨0x100, [], 64, .full, [⟨6, 42, .rw, 0⟩]⟩,
  -- T_BASE
  ⟨0x108, [], 64, .full, [⟨0, 64, .rw, 0⟩]⟩,
  -- PRIV_BASE
  ⟨0x110, [], 64, .full, [⟨6, 42, .rw, 0⟩]⟩,
  -- ALARM_BASE
  ⟨0x120, [], 64, .full, [⟨6, 42, .rw, 0⟩]⟩,
  -- ALARM_SIZE
  ⟨0x128, [], 32, .full, [⟨0, 24, .rw, 0⟩]⟩,
  -- ALARM_WR
  ⟨0x12C, [], 32, .full, [⟨0, 32, .ro, 0⟩]⟩]

/-- Registers of UE, part 2. -/
def regTableUE2 : List RegRow := [
  -- ALARM_RD
  ⟨0x130, [], 32, .full, [⟨0, 32, .rw, 0⟩]⟩,
  -- ALARM_DROPPED
  ⟨0x134, [], 32, .full, [⟨0, 32, .ro, 0⟩]⟩,
  -- GEN_KEY_LO
  ⟨0x200, [⟨0, 8, 32⟩], 64, .full, [⟨0, 64, .rw, 0⟩]⟩,
  -- GEN_KEY_HI
  ⟨0x208, [⟨0, 8, 32⟩], 64, .full, [⟨0, 64, .rw, 0⟩]⟩,
  -- GEN_CTR_LO
  ⟨0x210, [⟨0, 8, 32⟩], 64, .full, [⟨0, 64, .rw, 0⟩]⟩,
  -- GEN_CTR_HI
  ⟨0x218, [⟨0, 8, 32⟩], 64, .full, [⟨0, 64, .rw, 0⟩]⟩,
  -- HYP
  ⟨0x1000, [⟨0, 64, 32⟩], 256, .full, [⟨0, 32, .rw, 1063675494⟩, ⟨32, 32, .rw, 1065336439⟩, ⟨64, 32, .rw, 841731191⟩, ⟨96, 32, .rw, 0⟩, ⟨128, 32, .rw, 0⟩, ⟨160, 32, .rw, 1092616192⟩, ⟨192, 1, .rw, 0⟩]⟩,
  -- SCHED
  ⟨0x4000, [⟨0, 256, 32⟩], 256, .full, [⟨0, 3, .rw, 0⟩, ⟨3, 1, .rw, 0⟩, ⟨4, 1, .ro, 0⟩, ⟨8, 8, .rw, 1⟩, ⟨32, 32, .rw, 0⟩, ⟨64, 32, .rw, 0⟩, ⟨96, 32, .rw, 1065353216⟩, ⟨128, 32, .rw, 0⟩, ⟨160, 32, .rw, 0⟩, ⟨192, 32, .rw, 1065353216⟩, ⟨224, 32, .rw, 0⟩]⟩,
  -- COS
  ⟨0x6000, [⟨0, 1024, 4⟩], 32, .always, [⟨0, 32, .ro, 0⟩]⟩]

/-- The registers of island class UE. -/
def regTableUE : List RegRow := regTableUE1 ++ regTableUE2

/-- Registers of M, part 1. -/
def regTableM1 : List RegRow := [
  -- STATUS
  ⟨0x0, [], 32, .island, [⟨0, 2, .ro, 0⟩, ⟨2, 1, .ro, 0⟩, ⟨3, 1, .ro, 0⟩, ⟨4, 1, .ro, 0⟩, ⟨8, 4, .ro, 0⟩]⟩,
  -- RATE
  ⟨0x8, [], 32, .cold, [⟨0, 2, .ro, 0⟩]⟩,
  -- ERR_CTRL
  ⟨0x10, [], 32, .full, [⟨0, 16, .rw, 16⟩, ⟨16, 16, .rw, 60⟩]⟩,
  -- RETRAIN_CTRL
  ⟨0x18, [], 32, .full, [⟨0, 16, .rw, 30⟩, ⟨16, 8, .rw, 8⟩, ⟨24, 1, .w1p, 0⟩, ⟨25, 7, .rw, 0⟩]⟩,
  -- COPY_CTRL
  ⟨0x1C, [], 32, .full, [⟨0, 3, .rw, 2⟩, ⟨8, 1, .w1p, 0⟩, ⟨16, 7, .rw, 0⟩]⟩,
  -- COPY_STATUS
  ⟨0x20, [], 64, .island, [⟨0, 7, .ro, 0⟩, ⟨7, 7, .ro, 0⟩, ⟨14, 1, .ro, 0⟩, ⟨15, 1, .ro, 0⟩, ⟨16, 23, .ro, 0⟩]⟩,
  -- TRAIN_CTRL
  ⟨0x30, [], 32, .full, [⟨0, 5, .rw, 16⟩]⟩,
  -- REMAP
  ⟨0x100, [⟨0, 120, 4⟩], 32, .cold, [⟨0, 7, .rwsRo, 0⟩]⟩,
  -- SC
  ⟨0x400, [⟨0, 128, 8⟩], 64, .cold, [⟨0, 3, .rwsRo, 0⟩, ⟨4, 12, .rwsRo, 0⟩, ⟨16, 16, .rwsRo, 0⟩, ⟨32, 16, .rwsRo, 0⟩, ⟨48, 16, .rwsRo, 0⟩]⟩,
  -- TRAIN_STORE
  ⟨0x4000, [⟨0, 128, 64⟩], 512, .cold, [⟨0, 480, .rwsRo, 0⟩, ⟨480, 32, .rwsRo, 0⟩]⟩]

/-- The registers of island class M. -/
def regTableM : List RegRow := regTableM1

/-- Registers of L, part 1. -/
def regTableL1 : List RegRow := [
  -- STATUS
  ⟨0x0, [], 32, .island, [⟨0, 8, .ro, 0⟩, ⟨8, 8, .ro, 0⟩, ⟨16, 2, .ro, 0⟩]⟩,
  -- QUAL_CTRL
  ⟨0x10, [], 32, .full, [⟨0, 16, .rw, 10⟩, ⟨16, 4, .rw, 5⟩, ⟨20, 12, .rw, 10⟩]⟩,
  -- FAIL_CTRL
  ⟨0x14, [], 32, .full, [⟨0, 4, .rw, 8⟩, ⟨8, 8, .rw, 16⟩, ⟨16, 16, .rw, 1000⟩]⟩,
  -- RECAL_CTRL
  ⟨0x18, [], 32, .full, [⟨0, 16, .rw, 3600⟩, ⟨16, 8, .w1p, 0⟩]⟩,
  -- TIME_CTRL
  ⟨0x1C, [], 32, .full, [⟨0, 16, .rw, 1000⟩]⟩,
  -- ENGINE_CTRL
  ⟨0x20, [], 32, .full, [⟨0, 1, .w1p, 0⟩, ⟨1, 1, .w1p, 0⟩, ⟨2, 1, .rw, 1⟩, ⟨3, 1, .rw, 1⟩]⟩,
  -- LINK_STATUS
  ⟨0x1000, [⟨0, 8, 256⟩], 32, .island, [⟨0, 4, .ro, 0⟩, ⟨4, 4, .ro, 0⟩, ⟨8, 1, .ro, 0⟩, ⟨16, 6, .ro, 0⟩]⟩,
  -- LINK_PEER
  ⟨0x1008, [⟨0, 8, 256⟩], 64, .island, [⟨0, 32, .ro, 0⟩, ⟨32, 32, .ro, 0⟩]⟩,
  -- LINK_CTRL
  ⟨0x1010, [⟨0, 8, 256⟩], 32, .full, [⟨0, 1, .rw, 0⟩, ⟨1, 1, .w1p, 0⟩, ⟨2, 1, .w1p, 0⟩]⟩,
  -- TIME_ASYM
  ⟨0x1018, [⟨0, 8, 256⟩], 32, .full, [⟨0, 32, .rw, 0⟩]⟩,
  -- LINK_CNT
  ⟨0x1020, [⟨0, 8, 256⟩, ⟨0, 8, 8⟩], 64, .cold, [⟨0, 64, .rwsRo, 0⟩]⟩]

/-- The registers of island class L. -/
def regTableL : List RegRow := regTableL1

/-- Registers of J, part 1. -/
def regTableJ1 : List RegRow := [
  -- STATUS
  ⟨0x0, [], 32, .island, [⟨0, 2, .ro, 0⟩, ⟨2, 11, .ro, 0⟩, ⟨13, 1, .ro, 0⟩]⟩,
  -- MAP_EPOCH
  ⟨0x8, [], 32, .full, [⟨0, 32, .rw, 0⟩]⟩,
  -- DUP_HOLD
  ⟨0x10, [], 32, .full, [⟨0, 11, .rw, 256⟩]⟩,
  -- DRAIN_TIMEOUT
  ⟨0x14, [], 32, .full, [⟨0, 16, .rw, 1000⟩]⟩,
  -- SAT_CTRL
  ⟨0x18, [], 32, .full, [⟨0, 8, .rw, 64⟩, ⟨8, 1, .rw, 1⟩]⟩,
  -- CONS
  ⟨0x100, [⟨0, 11, 8⟩], 64, .full, [⟨0, 64, .ro, 0⟩]⟩,
  -- DROP
  ⟨0x200, [⟨0, 10, 8⟩], 64, .full, [⟨0, 64, .ro, 0⟩]⟩,
  -- SAT_CNT
  ⟨0x300, [⟨0, 5, 8⟩], 64, .full, [⟨0, 64, .ro, 0⟩]⟩,
  -- SLICE
  ⟨0x2000, [⟨0, 64, 32⟩], 256, .full, [⟨0, 16, .rw, 0⟩, ⟨16, 16, .rw, 0⟩, ⟨32, 2, .rw, 0⟩, ⟨34, 16, .rw, 0⟩, ⟨64, 64, .rw, 0⟩, ⟨128, 12, .rw, 256⟩, ⟨144, 12, .ro, 0⟩]⟩,
  -- FENCE
  ⟨0x3000, [⟨0, 256, 4⟩], 32, .full, [⟨0, 1, .rw, 0⟩, ⟨8, 24, .rw, 0⟩]⟩,
  -- ROUTE
  ⟨0x8000, [⟨0, 2048, 16⟩], 128, .full, [⟨0, 24, .rw, 0⟩, ⟨24, 5, .rw, 0⟩, ⟨29, 1, .rw, 0⟩, ⟨32, 10, .rw, 0⟩, ⟨48, 10, .rw, 0⟩, ⟨64, 8, .rw, 0⟩, ⟨72, 8, .rw, 0⟩]⟩]

/-- The registers of island class J. -/
def regTableJ : List RegRow := regTableJ1

/-- Registers of MG, part 1. -/
def regTableMG1 : List RegRow := [
  -- DSP_STATUS
  ⟨0x4000, [], 32, .full, [⟨0, 2, .ro, 0⟩, ⟨2, 4, .ro, 0⟩, ⟨6, 3, .ro, 0⟩, ⟨9, 2, .ro, 0⟩, ⟨11, 1, .ro, 0⟩]⟩,
  -- DSP_PLACE
  ⟨0x4008, [], 64, .full, [⟨0, 32, .ro, 0⟩, ⟨32, 8, .ro, 0⟩, ⟨40, 8, .ro, 0⟩, ⟨48, 8, .ro, 0⟩, ⟨56, 1, .ro, 0⟩]⟩,
  -- DSP_EPOCHS
  ⟨0x4010, [], 64, .full, [⟨0, 32, .ro, 0⟩, ⟨32, 32, .ro, 0⟩]⟩,
  -- DSP_LEDGER_SEQ
  ⟨0x4018, [], 64, .full, [⟨0, 64, .ro, 0⟩]⟩,
  -- DSP_TIMING
  ⟨0x4020, [], 32, .full, [⟨0, 8, .rw, 10⟩, ⟨8, 8, .rw, 10⟩, ⟨16, 8, .rw, 2⟩, ⟨24, 8, .rw, 1⟩]⟩,
  -- DSP_VOTE_CTRL
  ⟨0x4024, [], 32, .full, [⟨0, 16, .rw, 100⟩, ⟨16, 4, .rw, 2⟩, ⟨20, 4, .rw, 3⟩, ⟨24, 1, .rw, 1⟩]⟩,
  -- DSP_ROSTER
  ⟨0x4030, [⟨0, 7, 4⟩], 32, .full, [⟨0, 32, .ro, 0⟩]⟩,
  -- DSP_ROUTES
  ⟨0x4050, [], 32, .full, [⟨0, 12, .ro, 0⟩, ⟨12, 1, .ro, 0⟩]⟩,
  -- DSP_COUNTS
  ⟨0x4058, [], 64, .full, [⟨0, 16, .ro, 0⟩, ⟨16, 16, .ro, 0⟩, ⟨32, 16, .ro, 0⟩, ⟨48, 16, .ro, 0⟩]⟩,
  -- DSP_LEDGER_BASE
  ⟨0x4060, [], 64, .cold, [⟨6, 42, .ro, 0⟩]⟩,
  -- DSP_LEDGER_SIZE
  ⟨0x4068, [], 32, .cold, [⟨0, 16, .ro, 0⟩]⟩,
  -- PORT_STATUS
  ⟨0x8000, [], 32, .full, [⟨0, 1, .ro, 0⟩, ⟨1, 1, .ro, 0⟩, ⟨2, 1, .ro, 0⟩]⟩]

/-- Registers of MG, part 2. -/
def regTableMG2 : List RegRow := [
  -- PORT_ADDR
  ⟨0x8008, [], 64, .cold, [⟨0, 48, .ro, 0⟩]⟩,
  -- PORT_IPV4
  ⟨0x8010, [], 32, .cold, [⟨0, 32, .ro, 0⟩]⟩,
  -- PORT_CNT
  ⟨0x8020, [⟨0, 4, 8⟩], 64, .full, [⟨0, 64, .ro, 0⟩]⟩,
  -- PORT_BACKLOG
  ⟨0x8040, [], 32, .full, [⟨0, 7, .ro, 0⟩]⟩]

/-- The registers of island class MG. -/
def regTableMG : List RegRow := regTableMG1 ++ regTableMG2

/-- Registers of CT, part 1. -/
def regTableCT1 : List RegRow := [
  -- STATUS
  ⟨0x0, [], 32, .cold, [⟨0, 1, .ro, 0⟩, ⟨1, 1, .ro, 0⟩, ⟨2, 1, .ro, 0⟩, ⟨3, 1, .ro, 0⟩, ⟨4, 3, .ro, 4⟩]⟩,
  -- FIRST_ERR_ADDR
  ⟨0x8, [], 64, .cold, [⟨0, 64, .ro, 0⟩]⟩,
  -- FIRST_ERR_INFO
  ⟨0x10, [], 64, .cold, [⟨0, 13, .ro, 0⟩, ⟨16, 13, .ro, 0⟩, ⟨32, 4, .ro, 0⟩, ⟨36, 4, .ro, 0⟩, ⟨40, 3, .ro, 0⟩, ⟨48, 16, .ro, 0⟩]⟩,
  -- FIRST_ERR_STAMP_LO
  ⟨0x18, [], 64, .cold, [⟨0, 64, .ro, 0⟩]⟩,
  -- FIRST_ERR_STAMP_HI
  ⟨0x20, [], 32, .cold, [⟨0, 32, .ro, 0⟩]⟩,
  -- MERGE
  ⟨0x28, [], 64, .cold, [⟨0, 32, .ro, 0⟩, ⟨32, 16, .ro, 0⟩]⟩,
  -- RELEASE
  ⟨0x30, [], 32, .cold, [⟨0, 1, .w1p, 0⟩]⟩,
  -- FSR_SEQ
  ⟨0x38, [], 64, .cold, [⟨0, 64, .ro, 0⟩]⟩,
  -- LOCK
  ⟨0x40, [], 32, .cold, [⟨0, 1, .rw, 0⟩]⟩,
  -- LH_CTRL
  ⟨0x100, [], 32, .full, [⟨0, 16, .rwl, 1000⟩, ⟨16, 4, .rwl, 3⟩, ⟨20, 4, .rwl, 3⟩]⟩,
  -- LH_STATE
  ⟨0x200, [⟨0, 128, 8⟩], 64, .full, [⟨0, 32, .ro, 0⟩, ⟨32, 8, .ro, 0⟩, ⟨40, 1, .ro, 0⟩, ⟨41, 1, .ro, 0⟩, ⟨42, 1, .ro, 0⟩, ⟨48, 8, .ro, 0⟩]⟩,
  -- TILE_MAP
  ⟨0x800, [⟨0, 64, 4⟩], 32, .cold, [⟨0, 7, .rws, 0⟩, ⟨7, 1, .rws, 1⟩, ⟨8, 1, .ro, 0⟩]⟩]

/-- Registers of CT, part 2. -/
def regTableCT2 : List RegRow := [
  -- TILE_RETIRED
  ⟨0x900, [], 128, .cold, [⟨0, 68, .ro, 0⟩]⟩,
  -- SIDINGS
  ⟨0x910, [], 32, .cold, [⟨0, 4, .ro, 15⟩, ⟨4, 4, .ro, 0⟩]⟩,
  -- WEAR_CTRL
  ⟨0xA00, [], 32, .full, [⟨0, 16, .rwl, 4096⟩, ⟨16, 4, .rwl, 8⟩]⟩,
  -- SEVERITY
  ⟨0x4000, [⟨0, 6400, 4⟩], 32, .cold, [⟨0, 3, .rwl, 0⟩, ⟨16, 16, .ro, 0⟩]⟩,
  -- WEAR
  ⟨0xC000, [⟨0, 1172, 4⟩], 32, .cold, [⟨0, 16, .rws, 0⟩, ⟨16, 1, .ro, 0⟩]⟩]

/-- The registers of island class CT. -/
def regTableCT : List RegRow := regTableCT1 ++ regTableCT2

/-- Registers of SN, part 1. -/
def regTableSN1 : List RegRow := [
  -- STATUS
  ⟨0x0, [], 32, .island, [⟨0, 2, .ro, 0⟩, ⟨2, 1, .ro, 0⟩, ⟨3, 1, .ro, 0⟩, ⟨4, 1, .ro, 0⟩, ⟨5, 1, .ro, 0⟩]⟩,
  -- HARBOUR_SIZE
  ⟨0x8, [], 32, .full, [⟨0, 20, .rw, 0⟩]⟩,
  -- HARBOUR_BASE
  ⟨0x10, [⟨0, 2, 8⟩], 64, .cold, [⟨12, 36, .ro, 0⟩]⟩,
  -- BUDDY_BASE
  ⟨0x20, [⟨0, 2, 8⟩], 64, .cold, [⟨12, 36, .ro, 0⟩]⟩,
  -- HALF
  ⟨0x30, [⟨0, 2, 8⟩], 64, .cold, [⟨0, 63, .rwsRo, 0⟩, ⟨63, 1, .rwsRo, 0⟩]⟩,
  -- BUDDY_HALF
  ⟨0x40, [⟨0, 2, 8⟩], 64, .cold, [⟨0, 63, .rwsRo, 0⟩, ⟨63, 1, .rwsRo, 0⟩]⟩,
  -- BUDDY
  ⟨0x50, [], 64, .full, [⟨0, 32, .rw, 0⟩, ⟨32, 32, .rw, 0⟩]⟩,
  -- MIRROR_CTRL
  ⟨0x58, [], 32, .full, [⟨0, 1, .rw, 0⟩, ⟨8, 8, .rw, 50⟩, ⟨16, 16, .rw, 10000⟩]⟩,
  -- FERRY_BASE
  ⟨0x60, [], 64, .full, [⟨12, 52, .rw, 0⟩]⟩,
  -- FERRY_CTRL
  ⟨0x68, [], 32, .full, [⟨0, 8, .rw, 16⟩, ⟨8, 12, .rw, 64⟩, ⟨24, 1, .w1p, 0⟩, ⟨25, 1, .rw, 0⟩]⟩,
  -- FERRY_FILLED
  ⟨0x70, [], 32, .island, [⟨0, 32, .ro, 0⟩]⟩,
  -- FERRY_DONE
  ⟨0x74, [], 32, .island, [⟨0, 32, .rw, 0⟩]⟩]

/-- Registers of SN, part 2. -/
def regTableSN2 : List RegRow := [
  -- LOAD_CTRL
  ⟨0x80, [], 32, .full, [⟨0, 3, .rw, 0⟩, ⟨3, 1, .rw, 0⟩, ⟨4, 1, .rw, 0⟩, ⟨8, 1, .w1p, 0⟩]⟩,
  -- LOAD_PEER
  ⟨0x88, [], 32, .full, [⟨0, 32, .rw, 0⟩]⟩,
  -- LOAD_STATUS
  ⟨0x90, [], 32, .full, [⟨0, 8, .roMg, 0⟩, ⟨8, 8, .ro, 0⟩]⟩,
  -- COUNTS
  ⟨0xA0, [], 64, .full, [⟨0, 16, .ro, 0⟩, ⟨16, 16, .ro, 0⟩, ⟨32, 16, .ro, 0⟩, ⟨48, 16, .ro, 0⟩]⟩,
  -- SECTION
  ⟨0x100, [⟨1, 63, 16⟩], 128, .full, [⟨12, 36, .rw, 0⟩, ⟨64, 48, .rw, 0⟩]⟩]

/-- The registers of island class SN. -/
def regTableSN : List RegRow := regTableSN1 ++ regTableSN2

/-- Registers of PV, part 1. -/
def regTablePV1 : List RegRow := [
  -- STATUS
  ⟨0x0, [], 32, .island, [⟨0, 1, .ro, 0⟩, ⟨1, 1, .ro, 0⟩, ⟨2, 1, .ro, 0⟩]⟩,
  -- LOCK
  ⟨0x4, [], 32, .cold, [⟨0, 1, .rw, 0⟩]⟩,
  -- TEMP_CTRL
  ⟨0x8, [], 32, .full, [⟨0, 8, .rwl, 95⟩, ⟨8, 8, .rwl, 105⟩, ⟨16, 8, .rwl, 112⟩, ⟨24, 4, .rwl, 2⟩]⟩,
  -- VOLT_CTRL
  ⟨0xC, [], 32, .full, [⟨0, 12, .rwl, 570⟩, ⟨12, 12, .rwl, 880⟩, ⟨24, 8, .rwl, 2⟩]⟩,
  -- SUM_STATUS
  ⟨0x10, [], 32, .island, [⟨0, 1, .ro, 0⟩, ⟨1, 31, .ro, 0⟩]⟩,
  -- DIE_TEMP
  ⟨0x18, [], 32, .island, [⟨0, 16, .ro, 0⟩, ⟨16, 9, .ro, 0⟩]⟩,
  -- MON
  ⟨0x100, [⟨0, 100, 8⟩], 64, .island, [⟨0, 16, .ro, 0⟩, ⟨16, 16, .ro, 0⟩, ⟨32, 16, .ro, 0⟩, ⟨48, 16, .ro, 0⟩]⟩,
  -- TILE_TEMP
  ⟨0x800, [⟨0, 68, 8⟩], 64, .island, [⟨0, 64, .ro, 0⟩]⟩,
  -- ISL_BUSY
  ⟨0x1000, [⟨0, 100, 8⟩], 64, .full, [⟨0, 64, .ro, 0⟩]⟩,
  -- ISL_STALL
  ⟨0x1400, [⟨0, 100, 8⟩], 64, .full, [⟨0, 64, .ro, 0⟩]⟩,
  -- ISL_ERR
  ⟨0x1800, [⟨0, 100, 8⟩], 64, .full, [⟨0, 64, .ro, 0⟩]⟩,
  -- SUMMARY
  ⟨0x8000, [⟨0, 2, 4096⟩], 32768, .island, [⟨0, 32768, .ro, 0⟩]⟩]

/-- The registers of island class PV. -/
def regTablePV : List RegRow := regTablePV1

/-- Registers of DB, part 1. -/
def regTableDB1 : List RegRow := [
  -- STATUS
  ⟨0x0, [], 32, .island, [⟨0, 1, .ro, 0⟩, ⟨16, 16, .ro, 0⟩]⟩,
  -- LOCK
  ⟨0x4, [], 32, .cold, [⟨0, 1, .rw, 0⟩]⟩,
  -- RING_CEIL
  ⟨0x8, [], 32, .full, [⟨0, 10, .rwl, 1023⟩]⟩,
  -- TRIG_CTRL
  ⟨0xC, [], 32, .full, [⟨0, 1, .rw, 1⟩, ⟨1, 3, .rw, 3⟩, ⟨4, 1, .rw, 0⟩, ⟨5, 1, .rw, 1⟩, ⟨6, 1, .rw, 0⟩]⟩,
  -- TRIG_REG
  ⟨0x10, [], 32, .full, [⟨0, 7, .rw, 0⟩, ⟨7, 16, .rw, 0⟩]⟩,
  -- RING_RELEASE
  ⟨0x18, [], 32, .island, [⟨0, 7, .rw, 0⟩, ⟨7, 1, .rw, 0⟩, ⟨8, 1, .w1p, 0⟩]⟩,
  -- RING_SEL
  ⟨0x20, [], 32, .island, [⟨0, 7, .rw, 0⟩, ⟨7, 10, .rw, 0⟩, ⟨17, 1, .rw, 0⟩]⟩,
  -- RING_DATA_LO
  ⟨0x28, [], 64, .island, [⟨0, 64, .ro, 0⟩]⟩,
  -- RING_DATA_HI
  ⟨0x30, [], 64, .island, [⟨0, 64, .ro, 0⟩]⟩,
  -- RING
  ⟨0x100, [⟨0, 100, 8⟩], 64, .full, [⟨0, 10, .rw, 512⟩, ⟨10, 1, .rw, 0⟩, ⟨11, 1, .ro, 0⟩, ⟨12, 1, .ro, 0⟩, ⟨16, 32, .ro, 0⟩]⟩,
  -- EVR_STATUS
  ⟨0x800, [], 32, .cold, [⟨0, 9, .ro, 0⟩, ⟨9, 11, .ro, 0⟩, ⟨20, 1, .ro, 0⟩]⟩,
  -- EVR_SEQ_OLD
  ⟨0x808, [], 64, .cold, [⟨0, 64, .ro, 0⟩]⟩]

/-- Registers of DB, part 2. -/
def regTableDB2 : List RegRow := [
  -- EVR_SEQ_NEXT
  ⟨0x810, [], 64, .cold, [⟨0, 64, .ro, 0⟩]⟩,
  -- EVR_LOST
  ⟨0x818, [], 64, .cold, [⟨0, 64, .rwsRo, 0⟩]⟩,
  -- EVR_CLEAR_ADDR
  ⟨0x820, [], 64, .full, [⟨6, 42, .rw, 0⟩]⟩,
  -- EVR_CLEAR_CTRL
  ⟨0x828, [], 32, .full, [⟨0, 1, .w1p, 0⟩, ⟨1, 3, .ro, 0⟩]⟩,
  -- EVR_RATE
  ⟨0x840, [⟨0, 16, 8⟩], 32, .full, [⟨0, 8, .rwl, 16⟩]⟩,
  -- EVR_OVR
  ⟨0x900, [⟨0, 64, 8⟩], 32, .full, [⟨0, 16, .rwl, 0⟩, ⟨16, 8, .rwl, 0⟩, ⟨24, 1, .rwl, 0⟩]⟩,
  -- EVR_READ_SEQ
  ⟨0xC00, [⟨0, 2, 128⟩], 64, .island, [⟨0, 64, .rw, 0⟩]⟩,
  -- EVR_READ_DATA
  ⟨0xC08, [⟨0, 2, 128⟩, ⟨0, 8, 8⟩], 64, .island, [⟨0, 64, .ro, 0⟩]⟩,
  -- EVR_READ_STATUS
  ⟨0xC48, [⟨0, 2, 128⟩], 32, .island, [⟨0, 2, .ro, 0⟩, ⟨2, 1, .ro, 0⟩]⟩,
  -- DUMP_CTRL
  ⟨0x1000, [], 32, .full, [⟨0, 1, .w1p, 0⟩, ⟨1, 1, .rwl, 1⟩, ⟨2, 1, .w1p, 0⟩]⟩,
  -- DUMP_STATUS
  ⟨0x1008, [], 32, .cold, [⟨0, 2, .rwsRo, 0⟩, ⟨2, 1, .rwsRo, 0⟩, ⟨3, 2, .rwsRo, 0⟩, ⟨16, 16, .rwsRo, 0⟩]⟩,
  -- DUMP_BASE
  ⟨0x1010, [], 64, .cold, [⟨28, 20, .ro, 0⟩]⟩]

/-- Registers of DB, part 3. -/
def regTableDB3 : List RegRow := [
  -- FSR_WR
  ⟨0x1018, [], 32, .cold, [⟨0, 32, .rwsMg, 0⟩]⟩]

/-- The registers of island class DB. -/
def regTableDB : List RegRow := regTableDB1 ++ regTableDB2 ++ regTableDB3

/-- Registers of SB, part 1. -/
def regTableSB1 : List RegRow := [
  -- STATUS
  ⟨0x0, [], 32, .always, [⟨0, 3, .ro, 0⟩, ⟨3, 1, .ro, 0⟩, ⟨4, 1, .ro, 0⟩]⟩,
  -- ESCALATE_STATUS
  ⟨0x8, [], 64, .always, [⟨0, 3, .ro, 0⟩, ⟨3, 3, .ro, 0⟩, ⟨6, 7, .ro, 0⟩, ⟨16, 1, .w1c, 0⟩, ⟨32, 32, .ro, 0⟩]⟩,
  -- RESET_CAUSE
  ⟨0x10, [], 32, .always, [⟨0, 4, .ro, 0⟩, ⟨4, 13, .ro, 0⟩]⟩,
  -- ISL_CTRL
  ⟨0x20, [], 32, .always, [⟨0, 7, .rw, 0⟩, ⟨8, 2, .rw, 0⟩, ⟨10, 1, .w1p, 0⟩, ⟨11, 1, .ro, 0⟩]⟩,
  -- DOMAIN_ON
  ⟨0x30, [], 128, .always, [⟨0, 124, .ro, 0⟩]⟩,
  -- WDOG
  ⟨0x40, [], 32, .full, [⟨0, 16, .rwl, 100⟩, ⟨16, 1, .w1p, 0⟩]⟩,
  -- RAIL_STATUS
  ⟨0x48, [], 32, .always, [⟨0, 7, .ro, 0⟩, ⟨8, 7, .ro, 0⟩, ⟨16, 3, .ro, 0⟩]⟩,
  -- VCORE
  ⟨0x50, [], 64, .cold, [⟨0, 10, .rwl, 0⟩, ⟨16, 10, .ro, 0⟩, ⟨32, 12, .ro, 0⟩]⟩,
  -- PMBUS_STATUS
  ⟨0x58, [], 32, .cold, [⟨0, 16, .ro, 0⟩, ⟨16, 7, .ro, 0⟩, ⟨24, 8, .ro, 0⟩]⟩,
  -- RRQ_STATUS
  ⟨0x60, [], 64, .cold, [⟨0, 16, .ro, 0⟩, ⟨16, 16, .ro, 0⟩, ⟨32, 16, .ro, 0⟩, ⟨48, 5, .ro, 0⟩]⟩,
  -- COUNTS
  ⟨0x68, [], 64, .always, [⟨0, 16, .ro, 0⟩, ⟨16, 16, .ro, 0⟩, ⟨32, 16, .ro, 0⟩, ⟨48, 16, .ro, 0⟩]⟩,
  -- LADDER_COUNTS
  ⟨0x70, [], 64, .always, [⟨0, 16, .ro, 0⟩, ⟨16, 16, .ro, 0⟩, ⟨32, 16, .ro, 0⟩]⟩]

/-- Registers of SB, part 2. -/
def regTableSB2 : List RegRow := [
  -- FW_SLOT
  ⟨0x100, [⟨0, 4, 8⟩], 64, .cold, [⟨0, 1, .ro, 0⟩, ⟨1, 1, .ro, 0⟩, ⟨2, 1, .ro, 0⟩, ⟨3, 1, .ro, 0⟩, ⟨8, 8, .ro, 0⟩, ⟨16, 32, .ro, 0⟩]⟩,
  -- FW_STAGE
  ⟨0x140, [], 64, .full, [⟨6, 42, .rw, 0⟩, ⟨48, 2, .rw, 0⟩, ⟨50, 1, .w1p, 0⟩]⟩,
  -- FW_SWITCH
  ⟨0x150, [], 128, .full, [⟨0, 4, .rw, 0⟩, ⟨8, 1, .w1p, 0⟩, ⟨9, 1, .w1p, 0⟩, ⟨64, 64, .rw, 0⟩]⟩,
  -- CAL_RELOAD
  ⟨0x160, [], 64, .full, [⟨6, 42, .rw, 0⟩, ⟨48, 1, .w1p, 0⟩, ⟨49, 3, .ro, 0⟩]⟩,
  -- LOCK
  ⟨0x170, [], 32, .cold, [⟨0, 1, .rw, 0⟩]⟩]

/-- The registers of island class SB. -/
def regTableSB : List RegRow := regTableSB1 ++ regTableSB2

/-- Registers of HI, part 1. -/
def regTableHI1 : List RegRow := [
  -- STATUS
  ⟨0x0, [], 32, .full, [⟨0, 1, .ro, 0⟩, ⟨1, 1, .ro, 0⟩, ⟨2, 4, .ro, 0⟩, ⟨6, 3, .ro, 0⟩, ⟨9, 1, .ro, 0⟩]⟩,
  -- MODULE_RESET
  ⟨0x8, [], 32, .full, [⟨0, 16, .rw, 0⟩, ⟨16, 1, .w1p, 0⟩]⟩,
  -- APERTURE
  ⟨0x10, [], 64, .full, [⟨30, 18, .rw, 0⟩]⟩,
  -- IRQ_CAUSE
  ⟨0x20, [], 32, .full, [⟨0, 15, .w1c, 0⟩]⟩,
  -- CPER_BASE
  ⟨0x30, [], 64, .full, [⟨9, 55, .rw, 0⟩]⟩,
  -- CPER_CTRL
  ⟨0x38, [], 32, .full, [⟨0, 16, .rw, 0⟩]⟩,
  -- CPER_WR
  ⟨0x40, [], 32, .full, [⟨0, 32, .ro, 0⟩]⟩,
  -- CPER_RD
  ⟨0x44, [], 32, .full, [⟨0, 32, .rw, 0⟩]⟩,
  -- CPER_DROPPED
  ⟨0x48, [], 32, .full, [⟨0, 32, .ro, 0⟩]⟩]

/-- The registers of island class HI. -/
def regTableHI : List RegRow := regTableHI1

/-- Registers of SC, part 1. -/
def regTableSC1 : List RegRow := [
  -- STATUS
  ⟨0x0, [], 32, .cold, [⟨0, 2, .ro, 0⟩, ⟨2, 3, .ro, 0⟩, ⟨5, 1, .ro, 0⟩, ⟨6, 2, .ro, 0⟩, ⟨8, 5, .ro, 0⟩, ⟨13, 1, .ro, 0⟩, ⟨14, 1, .ro, 0⟩]⟩,
  -- ROLLBACK
  ⟨0x100, [⟨0, 16, 8⟩], 64, .cold, [⟨0, 64, .ro, 0⟩]⟩,
  -- CMD
  ⟨0x200, [], 64, .full, [⟨6, 42, .rw, 0⟩, ⟨48, 1, .w1p, 0⟩, ⟨49, 1, .ro, 0⟩, ⟨50, 1, .ro, 0⟩, ⟨56, 8, .ro, 0⟩]⟩,
  -- UPDATE
  ⟨0x210, [], 64, .full, [⟨6, 42, .rw, 0⟩, ⟨48, 1, .w1p, 0⟩, ⟨49, 1, .ro, 0⟩, ⟨50, 1, .rw, 0⟩, ⟨56, 8, .ro, 0⟩]⟩,
  -- ATTEST
  ⟨0x220, [], 64, .full, [⟨6, 42, .rw, 0⟩, ⟨48, 1, .w1p, 0⟩, ⟨49, 1, .ro, 0⟩, ⟨50, 1, .ro, 0⟩, ⟨56, 8, .ro, 0⟩]⟩]

/-- The registers of island class SC. -/
def regTableSC : List RegRow := regTableSC1

/-- The register table of the island with index `isl` (R4); none for an index that names no island. -/
def regTable (isl : Nat) : List RegRow :=
  if isl = 0 then regTableSB else if isl = 1 then regTableTM else if isl = 2 then regTableSC
  else if isl = 3 then regTableMG else if isl = 4 then regTableCT else if isl = 5 then regTablePV
  else if isl = 6 then regTableDB else if isl = 7 then regTableHI else if isl = 8 then regTableUE
  else if isl = 9 then regTableSN else if isl < 14 then regTableJ else if isl < 16 then []
  else if isl < 24 then regTableM else if isl < 32 then regTableL else if isl < 100 then regTableT else []

/-- The instance numbers that the offset `o`, counted from the register's base, names in its dimensions. -/
def dimIndex : List Dim → Nat → Option (List Nat)
  | [], o => if o = 0 then some [] else none
  | d :: ds, o =>
    let i := o / d.stride
    if d.first ≤ i ∧ i < d.first + d.count then
      match dimIndex ds (o % d.stride) with
      | some l => some (i :: l)
      | none => none
    else none

/-- The register of table `t` at offset `off`, with its instance numbers. -/
def findReg : List RegRow → Nat → Option (RegRow × List Nat)
  | [], _ => none
  | r :: rs, off =>
    if r.off ≤ off then
      match dimIndex r.dims (off - r.off) with
      | some l => some (r, l)
      | none => findReg rs off
    else findReg rs off

/-- The register at key `key` (island × 0x1_0000 + offset). -/
def regAt (key : Nat) : Option (RegRow × List Nat) :=
  findReg (regTable (key / 0x10000)) (key % 0x10000)

end Sys2Proof.Machine
end

