-- ==== Sys2Proof/Machine/State.lean ====
section
/-! DEFINITION. The state of the module as plain data: the registers of every island in one sparse store, the memories,
and, beside them, what the spec gives each subsystem that no register shows.  `State` is the module (`Body`) and the
queue of waiting commands. -/

namespace Sys2Proof.Machine

/-- Why the model stops with a fault.  No meaning of this model raises one: every command the spec names has an effect. -/
inductive Fault where
  /-- Raised by no meaning; kept for a memory address the spec says does not exist. Safe: the machine stops. -/
  | noSuchAddress (addr : Nat)
  deriving DecidableEq, Repr

/-- Why a command has no next state. -/
inductive Refusal where
  /-- Raised by `exec` for a command that has no meaning yet. Safe: nothing is claimed of it. -/
  | notModelled (mnemonic : String)
  deriving DecidableEq, Repr

/-! ## Time (spec/15_time.md) -/

/-- An exchange of R255 that has completed: the link it ran on, the offset in 2⁻⁸ ns and the round trip in 2⁻⁸ ns. -/
structure TimeOffset where
  link : Nat
  /-- In units of 2⁻⁸/2000 ns, so that no rounding comes before R378's. -/
  offset : Int
  rtt : Int
  deriving DecidableEq, Repr

/-- The last time announce heard from a torus neighbour (R376), and the TB2 instant (ns) at which it arrived. -/
structure TimeAnnounce where
  stratum : Nat
  flags : Nat
  root : Nat
  sender : Nat
  epoch : Nat
  at_ : Nat
  deriving DecidableEq, Repr

/-- A PTP foreign master, when its last Announce arrived, and the one before it (TB2, ns). -/
structure Foreign where
  ann : PtpAnn
  at_ : Nat
  prev : Option Nat
  deriving DecidableEq, Repr

/-- What TM holds beside its registers: the four bases in units of 2⁻⁴⁰ ns (R361), the servos (R369), the offsets that
wait for a sample (R378), the announces heard (R377) and the state of the 1588 slave (R381). -/
structure Time where
  tb0 : Nat
  tb1 : Nat
  tb2 : Nat
  tb3 : Nat
  integ0 : Int
  integ1 : Int
  /-- TB2 instants (ns) of the last accepted samples (R371). -/
  accepted0 : Nat
  accepted1 : Nat
  /-- The mode of a relock that waits for its sample (R374): 0 slew, 1 step. -/
  relock0 : Option Nat
  relock1 : Option Nat
  /-- Nanoseconds latched by a read of SEC, key master × 4 + base. -/
  latched : SMap Nat
  offsets : List TimeOffset
  announces : SMap TimeAnnounce
  /-- The TB2 instant (ns) of the last announce sent (R376). -/
  announceAt : Nat
  /-- Ports and magnitudes of measured offsets with their TB2 instants (`TM.TB0_NEIGH`). -/
  neighbours : List (Nat × Nat × Nat)
  foreign : List Foreign
  /-- The Sync that waits for its Follow_Up: sequence, receipt t2 and correction (2⁻¹⁶ ns). -/
  syncWait : Option (Nat × Int × Int)
  /-- t1 − t2 of the last completed Sync, in 2⁻⁸ ns. -/
  syncDiff : Option Int
  /-- The Delay_Req sent: sequence and t3 (2⁻⁸ ns). -/
  delayWait : Option (Nat × Int)
  delaySeq : Nat
  delayInterval : Int
  deriving DecidableEq, Repr

/-! ## Observation (spec/16_observability.md) -/

/-- One entry of a trace ring (R388). -/
structure TraceEntry where
  time : Nat
  code : Nat
  flags : Nat
  unit : Nat
  data : Nat
  deriving DecidableEq, Repr

/-- A trace ring: its entries, newest first, how many further entries it writes before it freezes while armed, and
whether the next entry is the first after a release (R391, R392). -/
structure Ring where
  entries : List TraceEntry
  left : Nat
  released : Bool
  deriving DecidableEq, Repr

/-- An event record before it has its sequence (R394). -/
structure EvRec where
  stamp : Nat
  code : Nat
  source : Nat
  count : Nat
  level : Nat
  flags : Nat
  island : Nat
  detail : Bytes
  deriving DecidableEq, Repr

/-- What the recorder counts of one event code in a TB2 second (R397): records written, occurrences suppressed, and the
last suppressed occurrence. -/
structure CodeCount where
  written : Nat
  suppressed : Nat
  source : Nat
  level : Nat
  island : Nat
  deriving DecidableEq, Repr

/-- What the per-second summary counts (R385). -/
structure SecondAcc where
  first : Option Nat
  periods : Nat
  voidSeals : Nat
  missing : Nat
  late : Nat
  replays : Nat
  stretches : Nat
  maxTemp : Option Int
  minSupply : Option Nat
  maxSupply : Option Nat
  codewords : Nat
  retried : Nat
  deflections : Nat
  duplicates : Nat
  transients : Nat
  occurrences : Nat
  deriving DecidableEq, Repr

/-- What PV and DB hold beside their registers. -/
structure Observe where
  rings : SMap Ring
  /-- Records that wait in DB's queue (R398), the oldest first. -/
  evQueue : List EvRec
  /-- The records of the log in flash, with their sequences, the newest first (R393). -/
  evLog : List (Nat × EvRec)
  /-- The clear records of block 0, the newest first. -/
  evClears : List (Nat × EvRec)
  /-- Queue losses not yet marked by flag [1], and not yet stated by a record 0xA641 (R398). -/
  evLostFlag : Bool
  evLostCount : Nat
  evCodes : SMap CodeCount
  /-- Reads of the recorder in progress: by port. -/
  evReads : SMap Nat
  /-- A dump in progress: its cause, start stamp and mask of closed islands so far. -/
  dump : Option (Nat × Nat × Nat)
  /-- When the running dump started (TB2 ns, R401), and the sequence of dumps. -/
  dumpAt : Nat
  dumpSeq : Nat
  acc : SecondAcc
  /-- The previous samples of the thermal sensors at or above SHUTDOWN, as a mask. -/
  hot : Nat
  /-- Sources 0 and 1 wait for every sensor to fall below their thresholds less HYST. -/
  warnArmed : Bool
  limitArmed : Bool
  /-- The current readings of the 302 sensors (1/16 °C). -/
  sensors : SMap Int
  /-- Per island: consecutive µs out of range, consecutive µs in range, and whether source 3 may be raised. -/
  supply : SMap (Nat × Nat × Bool)
  /-- Busy and stall counts of each island at the last summary. -/
  busyAt : SMap Nat
  stallAt : SMap Nat
  sumSeq : Nat
  /-- A summary whose writing overlapped a second boundary: the next one spans two seconds. -/
  sumOverrun : Bool
  /-- Cycles that each island's clock has run in the open span. -/
  ran : SMap Nat
  deriving DecidableEq, Repr

/-! ## Continuity (spec/13_continuity.md) -/

/-- A fault report on its way to CT over the fault tree (R315, R319): the source and level, what the capture registers
take of it, the TB0 total in ns of its stamp, the stamp itself and the period of its raising. -/
structure Report where
  source : Nat
  level : Nat
  addr : Nat
  master : Nat
  reqType : Nat
  access : Nat
  at_ : Nat
  stamp : Nat
  period : Nat
  inJob : Bool
  unit : Nat
  deriving DecidableEq, Repr

/-- What CT and MG know of a capture beside its registers, for its Failure Signature Record (R332, R333): the report that
filled it, and what has become of it. -/
structure Capture where
  rep : Report
  part : Nat
  /-- Part kind of byte 73. -/
  kind : Nat
  /-- The outcomes of byte 69: a repeat ran, transient, permanent, part retired, period void. -/
  repeatRun : Bool
  transient : Bool
  permanent : Bool
  retired : Bool
  voided : Bool
  replacement : Nat
  siding : Nat
  diagnosis : Nat
  progRepeat : Nat
  /-- A repeat, diagnosis or retirement of the capture has not ended. -/
  open_ : Bool
  /-- The record emitted: its sequence and its bytes; and whether an outcome has arrived since. -/
  emitted : Option (Nat × Bytes)
  late : Bool
  deriving DecidableEq, Repr

/-- A diagnosis of R323: the physical tile, the departure (TB0, ns) at which it began, what the program's repeat settled
(detail byte 167), and the sidings that have run, the present one first. -/
structure Diag where
  tile : Nat
  began : Nat
  /-- The level of the captured source when the capture was made (R315). -/
  level : Nat
  progRepeat : Nat
  sidings : List Nat
  deriving DecidableEq, Repr

/-- A substitution of R132: the logical tile, the physical tile it leaves and the siding it moves to, and the departure
(ns) from which its bound runs. -/
structure Subst where
  logical : Nat
  old : Nat
  siding : Nat
  began : Nat
  /-- Increments of the logical tile's counters that the junction holds (R185): counter id, count. -/
  held : List (Nat × Nat)
  deriving DecidableEq, Repr

/-- A Failure Signature Record that the collector has not acknowledged (R441). -/
structure Fsr where
  seq : Nat
  bytes : Bytes
  sentAt : Nat
  deriving DecidableEq, Repr

/-- A module that the lighthouse watches (R327): its place, how it is watched and the counts of `CT.LH_STATE_w`. -/
structure Watched where
  place : Nat
  misses : Nat
  suspected : Bool
  bySeal : Bool
  byNeighbour : Bool
  voids : Nat
  /-- A beacon was heard in the present INTERVAL window. -/
  heard : Bool
  /-- TB0 instant (ns) of the last SUSPECT sent of it, if any, and misses counted since. -/
  lastSuspect : Option Nat
  missesSince : Nat
  deriving DecidableEq, Repr

structure Continuity where
  /-- Reports on the fault tree that have not reached CT, the oldest first. -/
  tree : List Report
  cap : Option Capture
  /-- Captures released while an outcome of theirs was still open (R332). -/
  past : List Capture
  diags : List Diag
  substs : List Subst
  /-- Physical tiles whose every later mismatch is permanent without diagnosis (R324, last sentences). -/
  condemned : List Nat
  /-- Captures of tiles that CT releases at the next departure (R321, R466). -/
  releaseNext : List Nat
  fsrs : List Fsr
  watched : List Watched
  beaconSeq : Nat
  /-- Highest level raised since the previous beacon (R326 byte 14). -/
  highest : Nat
  /-- TB2 ns of the last occurrence of a PV source at level 1 or above, and of the last module full reset (R326). -/
  pvAt : Option Nat
  fullResetAt : Option Nat
  /-- TB0 ns of the last self-fence request (R315 level 5). -/
  fenceAt : Option Nat
  /-- Weighted increments of R331 since the last update, by part. -/
  wear : SMap Nat
  /-- Own expulsion takes effect at the next departure (R330). -/
  expelNext : Bool
  deriving DecidableEq, Repr

/-! ## Power and reset (spec/17_power_reset.md) -/

/-- A ladder step that SB runs on an island: 3 island reset, 4 island power cycle; its start (TB2 ns). -/
structure Ladder where
  island : Nat
  step : Nat
  began : Nat
  deriving DecidableEq, Repr

/-- The frame outstanding on the rail-request lane (R411). -/
structure LaneFrame where
  type : Nat
  payload : Nat
  seq : Nat
  sends : Nat
  deriving DecidableEq, Repr

/-- What SB holds beside its registers: pins, straits, ladder, lane, firmware switches and the watchdog. -/
structure SignalBox where
  pwrEn : Bool
  perst : Bool
  thermTrip : Bool
  modAlert : Bool
  /-- Power progress: 0 off, 1 straps being read, 2 waiting for the power-good of the rail last requested, 3 powered,
  4 off after rail off, 5 full reset ordered, 6 held in full reset by PERST#, 7 restarting, 8 cold reset ordered, 9 rail
  off ordered, 10 every rail off but VAUX, which the lane needs until its OFF frame is settled. -/
  phase : Nat
  /-- The straps as tied on the tray, and whether the last samples agreed (R458). -/
  straps : Nat
  strapsOk : Bool
  /-- Islands whose straits are closed, bit n (R24). -/
  closed : Nat
  /-- Islands in retention of a missed departure: closed when a departure passed (R25), bit n. -/
  missed : Nat
  /-- Islands stretching their clocks at this instant (log 30); islands whose clock restarted with no sample since, or a first
  sample at the given TB0 total (R368). -/
  stretching : Nat
  resumed : SMap Nat
  steps : List Ladder
  /-- A module full reset (5), cold reset (6) or rail off (7) that runs, and its start (TB2 ns). -/
  module : Option (Nat × Nat)
  /-- A tile whose reset hangs and that is held in reset until its substitution (R420). -/
  heldTiles : List Nat
  /-- When the rail awaited was requested (TB2 ns, R405). -/
  railAt : Nat
  lane : Option LaneFrame
  /-- Acknowledged frames that wait until the outstanding one is settled (R411): type and payload. -/
  laneNext : List (Nat × Nat)
  laneSeq : Nat
  lastDown : Nat
  /-- The action that waits for its occurrence's event record (R317): level and source. -/
  waiting : Option (Nat × Nat)
  /-- Engines drained under R257, and engines whose laser input is in range (R256), bit e. -/
  drained : Nat
  lasers : Nat
  /-- Firmware kinds whose switch is pending, bit i, and the period of each (R425). -/
  fwPending : Nat
  fwPeriod : SMap Nat
  /-- The last MG switch: the previous slot, and whether it was already reverted. -/
  mgSwitch : Option (Nat × Bool)
  kickAt : Nat
  /-- A calibration reload waits for a departure. -/
  calPending : Bool
  deriving DecidableEq, Repr

/-! ## Security and host (spec/18_host_security.md) -/

structure Security where
  flash : FlashContent
  /-- The trust list in force: 0 none, 1 copy A, 2 copy B; the configuration copy in force is `SC.STATUS.CONFIG`. -/
  trust : Nat
  /-- Since when (TB2 ns) each firmware kind has run without revert (R445). -/
  runSince : SMap Nat
  deriving DecidableEq, Repr

/-- A host request through the aperture that waits in a sub-channel's queue (R221, R233, R434): a read of `n` bytes, or a
write of bytes. -/
structure HostReq where
  addr : Nat
  n : Nat
  data : Option Bytes
  deriving DecidableEq, Repr

/-- The identifiers of the one endpoint function's configuration header (R432): the vendor's is not given (log 72). -/
structure PciHeader where
  vendor : BitVec 16
  device : BitVec 16
  revision : BitVec 8
  classCode : BitVec 24
  subsystemVendor : BitVec 16
  subsystem : BitVec 16
  deriving DecidableEq, Repr

/-- A base address register (R433): its number, its size in bytes, 64-bit, whether it is prefetchable, and the address it holds. -/
structure PciBar where
  number : Nat
  size : Nat
  prefetchable : Bool
  address : Nat
  deriving DecidableEq, Repr

/-- The capabilities that the function presents, and no others (R430). -/
inductive PciCapability where
  | powerManagement | pciExpress | msix | advancedErrorReporting | deviceSerialNumber | dataLinkFeature | physicalLayer16
  | physicalLayer32 | physicalLayer64 | laneMargining | readinessTimeReporting
  deriving DecidableEq, Repr

/-- The configuration space of the function (R430, R432, R433, R437): header, command register, base address registers, capabilities,
power state, Device Control (sizes in bytes), the errors logged, and the reset time of Readiness Time Reporting in ms.  MSI-X stands
beside it. -/
structure PciSpace where
  header : PciHeader
  command : Nat
  bars : List PciBar
  capabilities : List PciCapability
  flr : Bool
  powerState : Nat
  payloadLimit : Nat
  readRequestLimit : Nat
  maxPayload : Nat
  maxReadRequest : Nat
  aerUncorrectable : Nat
  aerCorrectable : Nat
  resetTime : Nat
  deriving DecidableEq, Repr

structure HostIf where
  /-- The configuration space, which every full reset takes to its reset values (R437). -/
  pci : PciSpace
  /-- MSI-X (R433, R435): the vectors masked and pending, bit v, and the address and data words of the table, key
  4 × vector + word. -/
  masked : Nat
  msixTable : SMap Nat
  msixPending : Nat
  linkUp : Bool
  /-- Aperture requests that wait in sub-channel queues, the oldest first (R221, R233). -/
  waiting : List HostReq
  /-- Message sequence of R440. -/
  msgSeq : Nat
  deriving DecidableEq, Repr

/-- What the module has sent to the world outside, as the model shows it (newest first in `Body.out`). -/
inductive Output where
  /-- A packet whose transmission on a link starts (R260): its bytes join the link's packet stream. -/
  | packet (link : Nat) (bytes : Bytes)
  /-- A frame on a link (R237, R238): its 1,088 symbols in line order. -/
  | frame (link : Nat) (symbols : List Nat)
  | msix (vector : Nat)
  /-- A management message of R440: its type and body. -/
  | mgmt (type : Nat) (body : Bytes)
  /-- A dispatcher message of R291: destination place, type and body. -/
  | dispatch (dest : Nat) (type : Nat) (body : List Nat)
  | pin (name : String) (asserted : Bool)
  | hostWrite (addr : Nat) (data : Bytes)
  /-- The completion of a host read: data, poisoned, unsupported request (R434). -/
  | completion (data : Bytes) (poisoned unsupported : Bool)
  | lane (frame : Nat)
  /-- A PMBus transaction: stage address, command, and the quantity it carries (R407, log 110). -/
  | pmbus (addr command data : Nat)
  /-- Other frames of the management port: ARP and ICMP answers, Delay_Req (R381, R439). -/
  | port (kind : String) (body : Bytes)
  deriving DecidableEq, Repr

/-! ## The timetable (spec/02_timetable.md) -/

/-- One reservation of a link slot list (R59). -/
structure SlotEntry where
  first : Nat
  count : Nat
  tag : Nat
  source : Nat
  dest : Nat
  deriving DecidableEq, Repr

/-- An entry of the period type table with its link slot block (R56, R59): 64 lists, one per link. -/
structure PType where
  length : Nat
  policy : Nat
  flags : Nat
  cursor : Nat
  stride : Nat
  segFirst : Nat
  segCount : Nat
  slots : List (List SlotEntry)
  deriving DecidableEq, Repr

/-- An entry of the seal graph (R60). -/
structure Edge where
  producer : Nat
  consumer : Nat
  gate : Nat
  ptype : Nat
  propagate : Bool
  deriving DecidableEq, Repr

/-- The verdict tree section (R63). -/
structure VTree where
  parent : Nat
  height : Nat
  children : Nat
  deriving DecidableEq, Repr

/-- A timetable image that has been checked: its tables (R55 to R63). -/
structure Image where
  serial : Nat
  window : Nat
  replayLimit : Nat
  tag : Nat
  epoch : Nat
  types : List PType
  seq : List Nat
  /-- P × 64 entries, by period type and logical tile (R58). -/
  entries : List Nat
  /-- Offset and length of each logical tile's code in the image. -/
  code : List (Nat × Nat)
  edges : List Edge
  platforms : List (Nat × Nat × Nat)
  /-- Duration in 10 µs windows and watts (R62). -/
  segments : List (Nat × Nat)
  vtree : Option VTree
  wide : Bool
  digest : Bytes
  deriving DecidableEq, Repr

/-- What R42 and R41 need of a period whose departure has passed until its seal is sent. -/
structure Closing where
  period : Nat
  /-- The departure that ended the period (TB0, ns). -/
  t0 : Nat
  causes : Nat
  laneMask : Nat
  plausMask : Nat
  lateMask : Nat
  /-- Tokens held at the departure, all unplanned classes. -/
  tokens : Nat
  /-- The counts of R41 bytes 48–71, closed at t0 + 0.2 µs: accepted, duplicates, fenced, voided, tokens returned. -/
  counts : List Nat
  closed : Bool
  /-- CT was closed at some instant since t0 (R40). -/
  ctClosed : Bool
  sent : Bool
  /-- The period's type has policy 2 and lies in the running step (R51). -/
  stepPeriod : Bool
  /-- The consumers of the period's producer edges, and the slice of its image. -/
  consumers : List Nat
  tag : Nat
  epoch : Nat
  /-- A cursor and stride that advance if the verdict is good (R49, R50). -/
  advance : Option (Nat × Nat)
  deriving DecidableEq, Repr

/-- A seal as its consumer's CT holds it (R43): producer and payload. -/
structure HeldSeal where
  producer : Nat
  payload : Bytes
  deriving DecidableEq, Repr

/-- A producer of the period that is awaited: which period, whether a seal was applied, and what it said. -/
structure Awaited where
  producer : Nat
  period : Nat
  gate : Nat
  propagate : Bool
  heard : Bool
  resolved : Bool
  /-- The period's type has policy 2 and lies in the running step (R51). -/
  stepPeriod : Bool
  deriving DecidableEq, Repr

/-- What TM and CT hold of the timetable: the images, the periods that run and end, the seals awaited and held, and the verdict of
the step (R35 to R68). -/
structure Job where
  active : Option Image
  staged : Option Image
  /-- Staged: the ACK deadline D (R66). -/
  stageDeadline : Nat
  /-- The origin (TB0, ns) and whether period 0 has departed. -/
  origin : Nat
  departed : Bool
  /-- Departure instants (TB0, ns) of the current period and of the next. -/
  departAt : Nat
  nextAt : Nat
  stopping : Bool
  /-- The index and the cursors at the step start (R53), with the open step. -/
  anchor : Option (Nat × List Nat)
  replays : Nat
  /-- The step verdict so far is void (R51). -/
  stepVoid : Bool
  combined : Option Bool
  /-- Verdicts reported by children in this verdict period, and whether this module has sent its own. -/
  children : SMap Bool
  verdictSent : Bool
  /-- The periods with an occurrence at level 4 or above (cause [3]). -/
  faulted : List Nat
  closing : Option Closing
  /-- Causes noted for the running period: missed departure, input void, unsent. -/
  causes : Nat
  laneMask : Nat
  plausMask : Nat
  /-- Logical tiles whose running period is void because a substitution had not completed at its departure (R132). -/
  lateMask : Nat
  awaited : List Awaited
  heldSeals : List HeldSeal
  /-- Writes accepted from links per source place and period number × 4 + junction. -/
  acceptedFrom : List ((Nat × Nat) × Nat)
  /-- (source place, period number) resolved as void or missing with their instants (R45). -/
  voided : List (Nat × Nat)
  /-- The running period lies in an open step (R464). -/
  inStep : Bool
  /-- The chief's side of the change (R65): the serial, the modules staged with their codes, D, and whether announced. -/
  change : Option (Nat × List (Nat × Nat) × Nat × Bool)
  /-- Departures since the origin that this module knows: period number and instant (the last eight). -/
  history : List (Nat × Nat)
  deriving DecidableEq, Repr


/-! ## Tiles (spec/05_spaovoto_model.md, spec/06_spaovoto_reference.md) -/

/-- A write that a bundle has issued and that takes effect in a later cycle (R111). -/
inductive TileWrite where
  | s (i v : Nat)
  /-- Bits of `vi` under `mask` become those of `v`. -/
  | v (i v mask : Nat)
  | p (i v mask : Nat)
  /-- Elements of accumulator tile `i`: index 128 × row + column, and bits. -/
  | a (i : Nat) (cells : List (Nat × Nat))
  | flags (f : Nat)
  | putFlags (f : Nat)
  /-- A field of a register of the tile's own window takes a value (`sput`, `gset`, `qadv`). -/
  | reg (key lo w v : Nat)
  | qadd (slot v : Nat)
  | store (off : Nat) (data : Bytes)
  /-- The same from slot M1, whose bytes prevail over M0's of the same cycle (R160). -/
  | storeM1 (off : Nat) (data : Bytes)
  | ccset (c v : Nat)
  | ccadd (c v : Nat)
  /-- The matrix operation with this index ends (R99, R101, R104, R105): position in `Tile.mxFlight`. -/
  | mxDone (op : Nat)
  deriving DecidableEq, Repr

/-- An `mx` whose occupancy has not ended: what its checks found (R99 to R105), to be recorded in its write cycle. -/
structure MxFlight where
  op : Nat
  word : Nat
  record : List Nat
  acc : Nat
  at_ : Option Nat
  due : Nat
  /-- Cycle in which the first chunk enters the array, and the cycles that a chunk takes (R107). -/
  start : Nat
  perChunk : Nat
  pc : Nat
  /-- Every mismatch: kind (0 lane, 1 accumulate, 2 addend step), row, chunk, column (R99, R101, R102). -/
  bads : List (Nat × Nat × Nat × Nat)
  plaus : Bool
  plausFirst : Option (Nat × Nat)
  /-- The first special value written: row, column, whether NaN and whether infinity were written. -/
  special : Option (Nat × Nat)
  hasNan : Bool
  hasInf : Bool
  /-- The chunks of the row-chunks that the lane skips (R100). -/
  skips : List Nat
  /-- The bytes of the capture area for the first mismatch, and for the first that is no addend mismatch, which an operation
  abandoned before its end has not made (R102, R106). -/
  capture : Bytes
  pathCapture : Bytes
  deriving DecidableEq, Repr

/-- An operation that R322 holds unsettled: its number, instruction word and record, whether it failed by mismatch or by
plausibility, the lowest level of the sources that failed (R316) and the highest of its mismatch sources, both as they stood
at the occurrence (R315), how often it was repeated, and whether its repeat failed again. -/
structure Unsettled where
  op : Nat
  word : Nat
  record : List Nat
  mismatch : Bool
  plaus : Bool
  lowest : Nat
  level : Nat
  settled : Bool
  repeats : Nat
  again : Bool
  deriving DecidableEq, Repr

/-- One physical tile (R114): its register files as sparse maps (unlisted reads 0), and the state of its sequencer. -/
structure Tile where
  s : SMap Nat
  v : SMap Nat
  p : SMap Nat
  /-- Accumulator elements, key 16,384 × tile + 128 × row + column. -/
  a : SMap Nat
  cc : SMap Nat
  /-- Tile cycles since the period's first bundle. -/
  cycle : Nat
  /-- The cycle from which the next bundle may issue (R165). -/
  nextIssue : Nat
  pend : List (Nat × TileWrite)
  /-- Cycle in which the array's occupancy ends, and the cycle since which it has done no counted operation (R107). -/
  arrayEnd : Nat
  arrayWork : Nat
  arrayUsed : Bool
  /-- Accumulator tiles in use by X operations: tile, cycle in which the use ends. -/
  accBusy : List (Nat × Nat)
  /-- Cycle in which a binary64 multiply-class instruction issued (R143). -/
  mul64 : Option Nat
  waiting : Option (Nat × Nat)
  /-- `arrive` was issued; the tile arrives in this cycle. -/
  arriving : Option Nat
  /-- The new period's capture is complete and the first bundle may issue (R122). -/
  entered : Bool
  /-- The tile's restore of the late path is owed, and from which period's image (R119, R467). -/
  restore : Option Nat
  /-- Last period whose entry the tile reached (R467), and the last period whose departure it acted on. -/
  lastEntry : Option Nat
  began : Option Nat
  resumedNext : Bool
  /-- Reset or power-cycled in this period (R467), out for the rest of the job, or stopped for the period by recovery. -/
  wasReset : Bool
  out : Bool
  recovering : Bool
  /-- Restore failed: an island reset was ordered (R126). -/
  restoreFailed : Bool
  opIndex : Nat
  mx : List MxFlight
  unsettled : List Unsettled
  /-- Whether the capture in the array belongs to CT's capture (R321). -/
  captureOwned : Bool
  /-- The number of the captured operation in its period, and the level of the captured source at the capture (R315, R323). -/
  captureOp : Nat
  captureLevel : Nat
  /-- The instant (TB0, ns) of the occurrence to which the capture belongs, and its address (R319, R321). -/
  captureKey : Nat × Nat
  /-- Transfers of the tile in flight (R178). -/
  inFlight : Nat
  /-- The capture of the departure image is running (R122). -/
  capturing : Bool
  /-- The next bundle would lie beyond the end of SRAM's code banks, where `T.PC` cannot point (R117). -/
  offEnd : Bool
  /-- The entry registers of the new period are still to be written (R122). -/
  entryDue : Bool
  /-- What the streams owe at this departure (R128): 1 counter into anchor, 2 anchor into counter, 3 first 2 and then 1. -/
  anchorOp : Nat
  deriving DecidableEq, Repr

/-- A write on its way (R182): one piece of a transfer, or a write that has arrived in a packet. -/
structure Write where
  /-- Issuing transfer's number, or none for a write from a link. -/
  xfer : Option Nat
  source : Nat
  counter : Nat
  addr : Nat
  /-- 0 write, 1 reduce-add binary32, 2 reduce-add I32 (R262). -/
  op : Nat
  cls : Nat
  period : Nat
  data : Bytes
  /-- The write of R175, which moves no byte. -/
  zero : Bool
  seq : Nat
  doubled : Bool
  link : Nat
  /-- Slice entry of the packet's tag. -/
  tag : Nat
  epoch : Nat
  deriving DecidableEq, Repr

/-- A transfer in flight (R178). -/
structure Xfer where
  id : Nat
  /-- Physical tile that issued it, and its logical number. -/
  tile : Nat
  logical : Nat
  sent : Nat
  /-- Writes not yet accepted, transmitted or dropped. -/
  left : Nat
  period : Nat
  /-- The junctions and islands whose straits it crosses, bit n by island index (R181). -/
  path : Nat
  deriving DecidableEq, Repr


/-- A read that waits in the queues of its sub-channels beside those of the host and the update engine (R221, R233): the source
read of one write of a transfer, or a board peer's read. -/
inductive SourceRead where
  /-- The write that the data of `n` bytes at resolved address `src` will make, the place it goes to, and whether it is the
  transfer's last. -/
  | piece (w : Write) (place : Option Nat) (last : Bool) (src n : Nat)
  | board (slot addr n : Nat)
  deriving DecidableEq, Repr

/-! ## The update engine (spec/08_update_engine.md) -/

/-- What UE does with the current command (R191): it waits on a gate, is admitted, is in the second pass of a layer
update, or has executed and its completion is to be sent. -/
inductive UePhase where
  | idle | gate | admitted | second | executed
  deriving DecidableEq, Repr

/-- UE's command list as read at list start (R189): the 128-byte commands, the index of the current one, t of R196, whether
the period's type is commit-gated, and the period whose list was started last; for a second pass the element at which it
stands, the factor s of R197 and the counter at which the pass's draws begin. -/
structure UeRun where
  list : List Bytes
  idx : Nat
  phase : UePhase
  t : Int
  gated : Bool
  started : Option Nat
  pos : Nat
  scale : Nat
  ctr : Nat
  deriving DecidableEq, Repr

/-! ## Memory islands (spec/09_memory.md) -/

/-- A read that waits for a line test (R220, R221): the sub-channel, the unit's local address, the master and its
requester type, and the burst as last read. -/
structure HeldRead where
  sc : Nat
  addr : Nat
  master : Nat
  requester : Nat
  burst : Bytes
  deriving DecidableEq, Repr

/-- A read that waits in the queue of its sub-channel (R221, R233), with the error patterns it will show. -/
structure QueuedRead where
  addr : Nat
  master : Nat
  req : Nat
  e1 : BitVec 288
  e2 : BitVec 288
  e3 : BitVec 288
  deriving DecidableEq, Repr

/-- Why a sub-channel trains: at power-up, after a failed recalibration, after a failed store check, or in a live
retraining. -/
inductive TrainWhy where
  | powerUp | resume | store | retrain
  deriving DecidableEq, Repr

/-- One memory island beside its registers. -/
structure MemIsland where
  /-- Retirement requests not yet served, the oldest first (R225). -/
  requests : List Nat
  /-- Those of them for which source 4 has been raised (R225, R234). -/
  noSpare : List Nat
  /-- Retrainings that wait for a spare, the oldest first (R228). -/
  retrains : List Nat
  /-- TB2 instants (ns) of the transient outcomes of each sub-channel that the window still covers (R222). -/
  transients : SMap (List Nat)
  /-- Last temperature reported for each sub-channel, and the one at its last training (1/16 °C). -/
  temp : SMap Int
  trainTemp : SMap Int
  /-- TB2 instant (ns) of the last training of each sub-channel (R228). -/
  trainedAt : SMap Nat
  /-- The logical slot that the running copy moves. -/
  copySlot : Nat
  /-- Units that the running copy found uncorrectable, which only its target holds as lost (R226). -/
  copyLost : List Nat
  training : List (Nat × TrainWhy)
  held : List HeldRead
  /-- TB2 instant (ns) of the last refresh of each bank, key sub-channel × 16 + bank (R230). -/
  refreshed : SMap Nat
  /-- Activations of each bank since its last refresh-management command, and the commands issued, by the same key (R230). -/
  activations : SMap Nat
  refreshMgmt : SMap Nat
  /-- Reads that wait in the sub-channel queues, the oldest first (R221, R233). -/
  queued : List QueuedRead
  /-- The four syndromes of the last first read that was not clean, by sub-channel (R333). -/
  syndromes : SMap Nat
  /-- The part index of the sub-channel that took the place of a retired one (R332, R333). -/
  replaced : SMap Nat
  deriving DecidableEq, Repr

/-! ## Links (spec/10_optical_links.md) -/

/-- A frame in a replay buffer (R242): its sequence, type, first-packet offset and body (R238), the packets whose last byte it
carries, and how often it was sent. -/
structure SentFrame where
  seq : Nat
  kind : Nat
  first : Nat
  body : Bytes
  packets : List Bytes
  sends : Nat
  deriving DecidableEq, Repr

/-- One optical link beside its registers. -/
structure Link where
  rxNext : Nat
  txNext : Nat
  /-- A frame was discarded since the last accepted one (R241), and the next outgoing frame is to carry NACK. -/
  nacked : Bool
  nackDue : Bool
  replay : List SentFrame
  /-- The outgoing packet stream (R239): packets not yet wholly in a frame, the oldest first, and the bytes of the first that
  are; and the time since the last frame boundary in 1/7 ns (R237). -/
  sending : List Bytes
  sendPos : Nat
  phase : Nat
  /-- Bytes of the packet stream received and not yet delimited, and whether the stream waits for a first-packet offset. -/
  stream : Bytes
  resync : Bool
  /-- TB2 instants (ns) of uncorrectable codewords in the last second (R248). -/
  uncorrectable : List Nat
  nonce : Nat
  peerNonce : Nat
  verified : Bool
  /-- Place and key digest that the far end had before the link left state 6 (R247). -/
  known : Option (Nat × Nat)
  peerDigest : Nat
  wasInService : Bool
  /-- Actions that wait for a departure: drain, retrain, recalibration (R245, R257, R258). -/
  drain : Bool
  retrain : Bool
  recal : Bool
  /-- Named by `L.RECAL_CTRL.NOW` and waiting (R258). -/
  recalAsked : Bool
  /-- Qualification after a recalibration, not after training (R246). -/
  shortQual : Bool
  /-- TB2 instant (ns) of the last training or recalibration (R258), and of the entry to the present state. -/
  trainedAt : Nat
  since : Nat
  /-- The exchanges in progress, the oldest first: sequence and t1 (TB0, 2⁻⁸ ns) (R255). -/
  exchanges : List (Nat × Int)
  exchangeSeq : Nat
  /-- Bytes of the packet stream that started packets still claim of the coming slots (R240). -/
  debt : Nat
  deriving DecidableEq, Repr

/-! ## The fabric (spec/11_fabric_routing.md) -/

/-- A fabric packet (R260), its fields as numbers. -/
structure Packet where
  dest : Nat
  source : Nat
  tag : Nat
  epoch : Nat
  cls : Nat
  flags : Nat
  defl : Nat
  seq : Nat
  counter : Nat
  addr : Nat
  period : Nat
  op : Nat
  payload : Bytes
  deriving DecidableEq, Repr

/-- A packet that waits in a junction: in the transit buffer, or at its source for a token or for injection. -/
structure Waiting where
  pkt : Packet
  /-- Link on which it arrived; none for a packet of local origin. -/
  arrived : Option Nat
  /-- Transfer whose write it carries, if it left this module's tiles. -/
  xfer : Option Nat
  /-- Entry index of its slice. -/
  entry : Nat
  /-- Full period number at issue. -/
  period : Nat
  /-- It has been counted as reaching priority (`J.CONS_8`). -/
  counted : Bool
  /-- The twin copy of a doubled packet entered the buffer with it (R250). -/
  twin : Bool
  /-- Place in the order of arrival in the module's transit buffers (R270). -/
  order : Nat
  /-- Tenths of a byte sent in the margin of each link's reserved slots (R270). -/
  margins : SMap Nat
  deriving DecidableEq, Repr

/-- Token returns owed to one source for one slice and class, since the first was owed (TB2, ns) (R276). -/
structure Owed where
  dest : Nat
  tag : Nat
  epoch : Nat
  cls : Nat
  count : Nat
  since : Nat
  deriving DecidableEq, Repr

/-- An entry of a duplicate share (R252): its key and the time of arrival (TB2, ns). -/
structure DupKey where
  source : Nat
  cls : Nat
  seq : Nat
  at_ : Nat
  deriving DecidableEq, Repr

/-- One junction beside its registers. -/
structure Junction where
  /-- The transit buffer, the oldest first (R273). -/
  transit : List Waiting
  /-- Packets of local origin that wait at their source. -/
  local_ : List Waiting
  /-- The junction's share of the duplicate table, the oldest first. -/
  dup : List DupKey
  /-- Entries of it that stayed unmatched for the hold time: the single arrivals of R252, which no register shows (log 16). -/
  singles : Nat
  /-- Arrivals addressed to this module in the open period (with those of earlier periods that still wait), counted as they pass
  ingress, and what became of them, by class: key 8 × class + k with k = 0 arrivals, 1 accepted, 2 duplicates, 3 fenced,
  4 voided (R278). -/
  balance : SMap Nat
  /-- Copies and writes of the open period that the seal carries (R41 bytes 48–71), by the same numbers as there. -/
  periodCounts : SMap Nat
  /-- Saturated 1 µs intervals of each level in the open 1 ms window (R283). -/
  saturated : SMap Nat
  /-- Slots of the open 1 µs interval, and the link levels (bit n for level n) of which some free slot in it went unused or
  found no unplanned packet waiting (R283). -/
  satSlots : Nat
  satOpen : Nat
  /-- Slots elapsed in the present departure's period (R59). -/
  slot : Nat
  deriving DecidableEq, Repr

/-- The module's fabric state that is not one junction's. -/
structure Fabric where
  junctions : SMap Junction
  /-- Next sequence number by destination and class, key destination × 16 + class (R264). -/
  seqs : SMap Nat
  /-- Tokens outstanding by slice entry, and TB2 ns at which a draining entry entered state 2. -/
  outstanding : SMap Nat
  drainSince : SMap Nat
  owed : List Owed
  /-- Doubled copies that the period test dropped and whose twin has not come, with TB2 instants (ns; R276). -/
  late : List DupKey
  /-- Packets that have entered transit buffers so far. -/
  arrivals : Nat
  /-- Accepted packets that carry no write, waiting for who serves them: source, operation, payload. -/
  inbox : List (Nat × Nat × Bytes)
  deriving DecidableEq, Repr

/-! ## The dispatcher (spec/12_dispatcher.md) -/

/-- An entry of the topology map (R294). -/
structure MapEntry where
  place : Nat
  x : Nat
  y : Nat
  z : Nat
  flags : Nat
  alive : Nat
  upA : Nat
  upB : Nat
  digest : Nat
  deriving DecidableEq, Repr

/-- A ledger record (R301). -/
structure Record where
  seq : Nat
  term : Nat
  type : Nat
  tag : Nat
  epoch : Nat
  grant : Nat
  mapEpoch : Nat
  stamp : Nat
  body : Bytes
  prev : Bytes
  deriving DecidableEq, Repr

/-- Discovery at this module (R293): the ranks whose DISCOVER was forwarded, the parent link, the child links, and, at a
candidate, the reports and the instant (TB2, ns) of the last one. -/
structure Discovery where
  ranks : List Nat
  parent : Option Nat
  parentRank : Nat
  children : List Nat
  reports : List ReportMsg
  candidate : Bool
  lastReport : Nat
  deriving DecidableEq, Repr

/-- A slice as the chief's ledger knows it: state 0 installing, 1 ready, 2 draining, 3 complete; the modules that have
acknowledged, what they fenced and how many timed out (R303, R304). -/
structure SliceState where
  tag : Nat
  epoch : Nat
  state : Nat
  acked : List Nat
  fenced : Nat
  timedOut : Nat
  deriving DecidableEq, Repr

/-- A SUSPECT report or self-fence request held by a roster member (R308), with its TB2 instant in ns. -/
structure Suspicion where
  subject : Nat
  reporter : Nat
  reason : Nat
  first : Nat
  count : Nat
  at_ : Nat
  deriving DecidableEq, Repr

/-- The vote payload of R307, its fields as numbers; `sig` is the signature. -/
structure VoteMsg where
  kind : Nat
  voter : Nat
  subject : Nat
  term : Nat
  mapEpoch : Nat
  ledgerSeq : Nat
  reason : Nat
  keyDigest : Nat
  stamp : Nat
  deriving DecidableEq, Repr

/-- What MG's dispatcher firmware holds. -/
structure Dispatch where
  /-- The place from which the last map header, commit or heartbeat came: the chief; 0 while none is known. -/
  chief : Nat
  /-- The charter in force (R285); empty when none is. -/
  charter : Bytes
  map : List MapEntry
  /-- A map header received whose chunks are awaited: the header's 64 bytes, and the chunks. -/
  incoming : Option (Bytes × SMap Bytes)
  discovery : Discovery
  /-- Records held in the ledger region, the oldest first, with the sequence committed in `MG.DSP_LEDGER_SEQ` (R301). -/
  ledger : List Record
  /-- Records the chief has still to propose, and the roster places that acknowledged the one proposed. -/
  proposals : List Record
  holders : List Nat
  slices : List SliceState
  /-- The chief's next map, which its map-epoch record has announced. -/
  nextMap : Option (List MapEntry)
  /-- Changes of port-alive masks gathered since the first, by place, and its TB2 instant in ns (R296). -/
  portChanges : SMap Nat
  portSince : Option Nat
  mapAcks : List (Nat × Nat)
  /-- TB2 ns at which the last heartbeat was heard or sent (R288). -/
  heard : Nat
  beat : Nat
  /-- An election this module runs: the term sought, who granted it and since when (R288). -/
  election : Option (Nat × List Nat × Nat)
  /-- The last term for which this member granted, whom, and the last ledger record that candidate held. -/
  granted : Option (Nat × Nat × Nat)
  /-- Valid chief requests heard, by which a member knows a new chief's last record (R289): term, candidate, last sequence. -/
  requests : List (Nat × Nat × Nat)
  suspicions : List Suspicion
  /-- Votes this module has cast: kind, subject and TB2 instant in ns (R308). -/
  cast : List (Nat × Nat × Nat)
  /-- Valid votes counted: kind, subject, voters (R309). -/
  counted : List (Nat × Nat × List Nat)
  /-- Keys received with KEY, by roster place: the public key (388 bytes) and the certificate (448 bytes), as gathered. -/
  keys : SMap Bytes
  /-- CONS sums received by the chief: place and sums. -/
  sums : List (Nat × ConsSum)
  /-- Surpluses of counted over sent copies within the in-doubt allowance, as the chief records them (R279): tag, epoch,
  surplus. -/
  surplus : List (Nat × Nat × Nat)
  /-- Tags whose epoch advance waits until no job of the slice runs (R305). -/
  advances : List Nat
  /-- Create and epoch records whose installation waits for a drain event (R304, R305). -/
  installs : List Record
  /-- The modules that are not sidings of each slice, in ascending place, as its create record found them in the map: tag, epoch of
  the record, places (R344). -/
  members : List (Nat × Nat × List Nat)
  /-- Majorities that CT has counted and no committed record has settled yet: kind, subject, votes, reason (R309, R310). -/
  majorities : List (Nat × Nat × Nat × Nat)
  /-- TB2 ns of the last CONS sent. -/
  consAt : Nat
  deriving DecidableEq, Repr

/-! ## Checkpoint (spec/14_checkpoint.md) -/

/-- A snapshot that copies or waits for its signature (R341): target half, and the step number at copy start. -/
structure Snapshot where
  half : Nat
  step : Nat
  deriving DecidableEq, Repr

/-- A copy that arrives (R348, R354): region 0 a harbour half by a load, 1 a buddy half by a mirror; the half, the TB2 instant
(ns) from which its time runs, whether counter 0x0FFE has risen, and the sender, 0 while unknown. -/
structure Receive where
  region : Nat
  half : Nat
  at_ : Nat
  risen : Bool
  source : Nat
  deriving DecidableEq, Repr

/-- A running drain (R350): the half, the half offset that the next slot begins with, whether the manifest slot is filled,
the TB2 instant (ns) at which DONE last moved, and whether source 2 was raised since. -/
structure Ferrying where
  half : Nat
  pos : Nat
  last : Bool
  movedAt : Nat
  stalled : Bool
  deriving DecidableEq, Repr

structure Checkpoint where
  snap : Option Snapshot
  /-- The present run of snapshot periods has been taken up (R341, R343). -/
  runOpen : Bool
  /-- A flip is still to be mirrored (R348). -/
  flipped : Bool
  /-- The mirror or send whose acknowledgement is awaited: target half, and whether it is a send of R354. -/
  mirror : Option (Nat × Bool)
  /-- Buddy half last completed, as this sender knows it. -/
  lastBuddy : Nat
  receive : Option Receive
  ferry : Option Ferrying
  /-- An unpack runs from this half. -/
  unpack : Option Nat
  /-- The controller's last choice (R352): step, and by shard index the kind of copy taken; copies above it ignored. -/
  chosen : Option (Nat × List (Nat × Nat))
  ignored : Nat
  snapSeq : Nat
  /-- The harbour half that the last snapshot of this module made the current half; none before the first since cold reset. -/
  newest : Option Nat
  /-- A send of R354 that waits for an open junction or its memory: receiver, base of the half read, base of the half written. -/
  unsent : Option (Nat × Nat × Nat)
  deriving DecidableEq, Repr

/-! ## The module -/

/-- The module: every register (one sparse store, unlisted reads its reset value), the memories, and what the spec gives
each subsystem beside registers. -/
structure Body where
  regs : SMap Nat
  /-- LPDDR payload and tile SRAM by local address; an unlisted byte reads 0. -/
  mem : List Host.Cell
  /-- Addresses of the 32-byte units that are lost (R224), rising. -/
  lost : List Nat
  tiles : SMap Tile
  time : Time
  obs : Observe
  cont : Continuity
  sb : SignalBox
  sec : Security
  hi : HostIf
  job : Job
  /-- Writes issued and not yet accepted, sent or dropped (R182). -/
  writes : List Write
  xfers : List Xfer
  nextXfer : Nat
  /-- Source and board reads that wait for their sub-channels, the oldest first (R221, R233). -/
  reads : List SourceRead
  ue : UeRun
  mems : SMap MemIsland
  links : SMap Link
  fab : Fabric
  disp : Dispatch
  snap : Checkpoint
  /-- What the module has sent out, the newest first. -/
  out : List Output
  /-- The model's own counter: how many free values have been taken (`Config.freeValue`). -/
  free : Nat
  deriving DecidableEq, Repr

/-- The machine: the module and the commands that wait, first in, first out. -/
structure State where
  body : Body
  pending : List Instr
  deriving DecidableEq, Repr


/-! ## The state after reset -/

/-- A tile whose stores hold zero and whose sequencer has no period (R114, R423). -/
def Tile.init : Tile :=
  { s := [], v := [], p := [], a := [], cc := [], cycle := 0, nextIssue := 0, pend := [], arrayEnd := 0, arrayWork := 0,
    arrayUsed := false, accBusy := [], mul64 := none, waiting := none, arriving := none, entered := false, restore := none,
    lastEntry := none, resumedNext := false, began := none, wasReset := false, out := false, recovering := false, restoreFailed := false,
    opIndex := 0, mx := [], unsettled := [], captureOwned := false, captureOp := 0, captureLevel := 0, captureKey := (0, 0),
    inFlight := 0, capturing := false, offEnd := false,
    entryDue := false, anchorOp := 0 }

/-- A memory island with nothing waiting. -/
def MemIsland.init : MemIsland :=
  { requests := [], noSpare := [], retrains := [], transients := [], temp := [], trainTemp := [], trainedAt := [],
    copySlot := 0, copyLost := [], training := [], held := [], refreshed := [], activations := [], refreshMgmt := [],
    queued := [], syndromes := [], replaced := [] }

/-- A link that has carried nothing. -/
def Link.init : Link :=
  { rxNext := 0, txNext := 0, nacked := false, nackDue := false, replay := [], sending := [], sendPos := 0, phase := 0, stream := [], resync := true, uncorrectable := [], nonce := 0,
    peerNonce := 0, verified := false, known := none, peerDigest := 0, wasInService := false, drain := false,
    retrain := false, recal := false, recalAsked := false, shortQual := false, trainedAt := 0, since := 0,
    exchanges := [], exchangeSeq := 0, debt := 0 }

/-- A junction with empty buffers. -/
def Junction.init : Junction :=
  { transit := [], local_ := [], dup := [], singles := 0, balance := [], periodCounts := [], saturated := [], satSlots := 0, satOpen := 0, slot := 0 }

def Fabric.init : Fabric := { junctions := [], seqs := [], outstanding := [], drainSince := [], owed := [], late := [], arrivals := 0, inbox := [] }

def UeRun.init : UeRun :=
  { list := [], idx := 0, phase := .idle, t := 0, gated := false, started := none, pos := 0, scale := 0, ctr := 0 }

def Discovery.init : Discovery :=
  { ranks := [], parent := none, parentRank := 0, children := [], reports := [], candidate := false, lastReport := 0 }

def Dispatch.init : Dispatch :=
  { chief := 0, charter := [], map := [], incoming := none, discovery := .init, ledger := [], proposals := [], holders := [],
    slices := [], nextMap := none, portChanges := [], portSince := none, mapAcks := [], heard := 0, beat := 0, election := none,
    granted := none, requests := [], suspicions := [], cast := [], counted := [], keys := [], sums := [], surplus := [],
    advances := [], installs := [], members := [], majorities := [], consAt := 0 }

def Checkpoint.init : Checkpoint :=
  { snap := none, runOpen := false, flipped := false, mirror := none, lastBuddy := 1, receive := none, ferry := none,
    unpack := none, chosen := none, ignored := 0, snapSeq := 0, newest := none, unsent := none }

def Job.init : Job :=
  { active := none, staged := none, stageDeadline := 0, origin := 0, departed := false, departAt := 0, nextAt := 0,
    stopping := false, anchor := none, replays := 0, stepVoid := false, combined := none, children := [],
    verdictSent := false, faulted := [], closing := none, causes := 0, laneMask := 0, plausMask := 0, lateMask := 0, awaited := [],
    heldSeals := [], acceptedFrom := [], voided := [], inStep := false,
    change := none, history := [] }

def Time.init : Time :=
  { tb0 := 0, tb1 := 0, tb2 := 0, tb3 := 0, integ0 := 0, integ1 := 0, accepted0 := 0, accepted1 := 0, relock0 := none, relock1 := none, latched := [], offsets := [], announces := [], announceAt := 0, neighbours := [],
    foreign := [], syncWait := none, syncDiff := none, delayWait := none, delaySeq := 0, delayInterval := 0 }

def SecondAcc.init : SecondAcc :=
  { first := none, periods := 0, voidSeals := 0, missing := 0, late := 0, replays := 0, stretches := 0, maxTemp := none,
    minSupply := none, maxSupply := none, codewords := 0, retried := 0, deflections := 0, duplicates := 0, transients := 0,
    occurrences := 0 }

def Observe.init : Observe :=
  { rings := [], evQueue := [], evLog := [], evClears := [], evLostFlag := false, evLostCount := 0, evCodes := [],
    evReads := [], dump := none, dumpAt := 0, dumpSeq := 0, acc := .init, hot := 0, warnArmed := true, limitArmed := true,
    sensors := [], supply := [], busyAt := [], stallAt := [], sumSeq := 0, sumOverrun := false, ran := [] }

def Continuity.init : Continuity :=
  { tree := [], cap := none, past := [], diags := [], substs := [], condemned := [], releaseNext := [], fsrs := [], watched := [],
    beaconSeq := 0, highest := 0, pvAt := none, fullResetAt := none, fenceAt := none, wear := [], expelNext := false }

/-- The bits of every island set (R4: 14 and 15 are reserved). -/
def allIslands : Nat := 2 ^ 100 - 1 - 2 ^ 14 - 2 ^ 15

/-- Before power-up (R405): the always-on supply and its logic hold their reset values, `PWR_EN` is low, every island but
SB is out of service with its straits closed. -/
def SignalBox.init : SignalBox :=
  { pwrEn := false, perst := false, thermTrip := false, modAlert := false, phase := 0,
    straps := 0, strapsOk := true, closed := allIslands - 1, missed := 0, stretching := 0, resumed := [], steps := [],
    module := none, heldTiles := [], lane := none, laneNext := [], laneSeq := 0, lastDown := 0, waiting := none,
    drained := 0, lasers := 0, fwPending := 0, fwPeriod := [], railAt := 0, mgSwitch := none, kickAt := 0, calPending := false }

/-- An empty secure flash (DESIGN CHOICE: the spec gives the flash no content of its own). -/
def emptyFlash : FlashContent :=
  { rootKey := [], slots := [], active := 0, trustA := [], trustB := [], configA := [], configB := [], calSerial := 0,
    identity := [], certificate := [], unwrapOk := true, counters := [] }

def Security.init : Security := { flash := emptyFlash, trust := 0, runSince := [] }

/-- The configuration space at its reset values (R430, R432, R433): the command register, the addresses and Device Control hold what
the base specification gives (PRESUMED, log 119). -/
def PciSpace.init : PciSpace :=
  { header := { vendor := Config.pciVendor, device := 0xF107, revision := 0xB0, classCode := 0x120000,
                subsystemVendor := Config.pciVendor, subsystem := 0x0001 },
    command := 0, bars := [⟨0, 8 * 2 ^ 20, false, 0⟩, ⟨2, 64 * 2 ^ 30, true, 0⟩],
    capabilities := [.powerManagement, .pciExpress, .msix, .advancedErrorReporting, .deviceSerialNumber, .dataLinkFeature,
                     .physicalLayer16, .physicalLayer32, .physicalLayer64, .laneMargining, .readinessTimeReporting],
    flr := false, powerState := 0, payloadLimit := 512, readRequestLimit := 4096, maxPayload := 128, maxReadRequest := 512,
    aerUncorrectable := 0, aerCorrectable := 0, resetTime := 100 }

/-- PRESUMED: PCI Express resets the mask bit of every MSI-X table entry to 1 (log 41). -/
def HostIf.init : HostIf := { pci := .init, masked := 0xFFFF, msixTable := [], msixPending := 0, linkUp := false, waiting := [], msgSeq := 0 }

/-- The module right after the always-on supply has come up: every register at its reset value (none is listed), memory
with nothing listed. -/
def Body.reset : Body :=
  { regs := [], mem := [], lost := [], tiles := [], time := .init, obs := .init, cont := .init, sb := .init, sec := .init,
    hi := .init, job := .init, writes := [], xfers := [], nextXfer := 0, reads := [], ue := .init, mems := [], links := [],
    fab := .init, disp := .init, snap := .init, out := [], free := 0 }

/-- The machine after reset: the module after reset and no command waiting. -/
def State.reset : State := { body := Body.reset, pending := [] }

end Sys2Proof.Machine
end

