-- ==== Sys2Proof/Machine/Fp.lean ====
section
/-! DEFINITION. The number formats of spec/03_number_formats.md: their values, exact arithmetic on them, the one rounding
that every operation ends in (R70, R84, R85, R87), and the operations of IEEE 754-2019 that the tiles use (R71, R72). -/

namespace Sys2Proof.Machine

/-! ## Flags (the bits of `T.FLAGS`) -/

def flagInvalid : Nat := 1
def flagDivZero : Nat := 2
def flagOverflow : Nat := 4
def flagUnderflow : Nat := 8
def flagInexact : Nat := 16

/-! ## Formats -/

/-- What a format has beside its finite values: IEEE infinities and NaNs; N8's one NaN; nothing. -/
inductive Specials where
  | ieee | g8 | n8 | none
  deriving DecidableEq, Repr

/-- A floating format: exponent and fraction widths, bias, the magnitude bits of its largest finite value (R74–R78). -/
structure FpFmt where
  ew : Nat
  fw : Nat
  bias : Int
  maxMag : Nat
  special : Specials
  deriving DecidableEq, Repr

def fmtB32 : FpFmt := ⟨8, 23, 127, 0x7F7F_FFFF, .ieee⟩
def fmtB16 : FpFmt := ⟨5, 10, 15, 0x7BFF, .ieee⟩
def fmtB64 : FpFmt := ⟨11, 52, 1023, 0x7FEF_FFFF_FFFF_FFFF, .ieee⟩
/-- R74. -/
def fmtW16 : FpFmt := ⟨8, 7, 127, 0x7F7F, .ieee⟩
/-- R75. -/
def fmtN8 : FpFmt := ⟨4, 3, 8, 0x7F, .n8⟩
/-- R76. -/
def fmtG8 : FpFmt := ⟨5, 2, 16, 0x7B, .g8⟩
/-- R77. -/
def fmtN6 : FpFmt := ⟨3, 2, 3, 0x1F, .none⟩
/-- R78. -/
def fmtN4 : FpFmt := ⟨2, 1, 2, 0x7, .none⟩

/-- The floating format of a code of R69. -/
def fpFmt? (code : Nat) : Option FpFmt :=
  if code = 0 then some fmtB32 else if code = 1 then some fmtB16 else if code = 2 then some fmtB64
  else if code = 3 then some fmtW16 else if code = 4 then some fmtN8 else if code = 5 then some fmtG8
  else if code = 6 then some fmtN6 else if code = 7 then some fmtN4 else none

/-- The width of a format code in bits (R69); 0 for a reserved code. -/
def fmtWidth (code : Nat) : Nat :=
  if code = 0 ∨ code = 12 then 32 else if code = 1 ∨ code = 3 ∨ code = 11 then 16 else if code = 2 then 64
  else if code = 4 ∨ code = 5 ∨ code = 8 ∨ code = 10 then 8 else if code = 6 then 6
  else if code = 7 ∨ code = 9 then 4 else 0

/-- Bits of a floating format. -/
def FpFmt.width (f : FpFmt) : Nat := f.ew + f.fw + 1

/-- Exponent of the least subnormal step. -/
def FpFmt.lsb (f : FpFmt) : Int := 1 - f.bias - (f.fw : Int)

/-! ## Values -/

/-- The value of a code: a NaN (signalling or not, with sign and fraction bits, and the width of its fraction), an infinity,
or a finite number ± m × 2^e (zero when m = 0). -/
inductive Val where
  | nan (sig neg : Bool) (frac fw : Nat)
  | inf (neg : Bool)
  | num (neg : Bool) (m : Nat) (e : Int)
  deriving DecidableEq, Repr

/-- The value of a code of a floating format (R74 to R79). -/
def FpFmt.decode (f : FpFmt) (code : Nat) : Val :=
  let neg := code.testBit (f.ew + f.fw)
  let ex := bits code f.fw f.ew
  let fr := bits code 0 f.fw
  let top := 2 ^ f.ew - 1
  match f.special with
  | .n8 =>
    if code % 256 = 0x80 then .nan false false 0 3
    else if ex = 0 then .num neg fr f.lsb else .num neg (2 ^ f.fw + fr) (f.lsb + (ex : Int) - 1)
  | .none => if ex = 0 then .num neg fr f.lsb else .num neg (2 ^ f.fw + fr) (f.lsb + (ex : Int) - 1)
  | .g8 =>
    if ex = top then (if fr = 0 then .inf neg else .nan false neg fr f.fw)
    else if ex = 0 then .num neg fr f.lsb else .num neg (2 ^ f.fw + fr) (f.lsb + (ex : Int) - 1)
  | .ieee =>
    if ex = top then (if fr = 0 then .inf neg else .nan (!fr.testBit (f.fw - 1)) neg fr f.fw)
    else if ex = 0 then .num neg fr f.lsb else .num neg (2 ^ f.fw + fr) (f.lsb + (ex : Int) - 1)

/-- The sign bit of a format. -/
def FpFmt.signBit (f : FpFmt) (neg : Bool) : Nat := if neg then 2 ^ (f.ew + f.fw) else 0

/-- ±∞ of an IEEE-like format. -/
def FpFmt.infinity (f : FpFmt) (neg : Bool) : Nat := f.signBit neg + (2 ^ f.ew - 1) * 2 ^ f.fw

/-- The canonical NaN (R72, R75, R76): quiet, positive, payload zero. -/
def FpFmt.canonNaN (f : FpFmt) : Nat :=
  match f.special with
  | .ieee => (2 ^ f.ew - 1) * 2 ^ f.fw + 2 ^ (f.fw - 1)
  | .g8 => 0x7F
  | .n8 => 0x80
  | .none => 0

/-- The NaN that an operation delivers for a NaN operand (R72): the operand's sign and payload with the quiet bit set.
Between formats the payload keeps its high-order bits, a G8 NaN's two fraction bits too; N8's one NaN has no payload and gives the
canonical NaN.  The spec gives no mapping of payloads between formats (DESIGN CHOICE, log 12). -/
def FpFmt.quietNaN (f : FpFmt) (neg : Bool) (frac fw : Nat) : Nat :=
  match f.special with
  | .ieee =>
    if fw = 3 then f.canonNaN
    else
      let fr := if fw ≤ f.fw then frac * 2 ^ (f.fw - fw) else frac / 2 ^ (fw - f.fw)
      f.signBit neg + (2 ^ f.ew - 1) * 2 ^ f.fw
        + (if fr.testBit (f.fw - 1) then fr % 2 ^ f.fw else fr % 2 ^ f.fw + 2 ^ (f.fw - 1))
  | _ => f.canonNaN

/-! ## Rounding -/

/-- A result: the code and the flags raised. -/
structure Fpr where
  bits : Nat
  flags : Nat
  deriving DecidableEq, Repr

/-- `m × 2^e` (and something less than 2^e more when `sticky`) as a multiple of 2^`q`, rounded in mode `rm` (R70) with draw
`u` (R87): the multiple, whether it is inexact and whether it was rounded up. -/
def roundAt (rm u : Nat) (neg : Bool) (m : Nat) (e : Int) (sticky : Bool) (q : Int) : Nat × Bool × Bool :=
  if q ≤ e then (m * 2 ^ (e - q).toNat, sticky, false)
  else
    let k := (q - e).toNat
    let lo := m / 2 ^ k
    let r := m % 2 ^ k
    let half := 2 ^ (k - 1)
    let inexact := r ≠ 0 || sticky
    let up : Bool :=
      if rm = 0 then decide (half < r) || (decide (r = half) && (sticky || decide (lo % 2 = 1)))
      else if rm = 2 then !neg && inexact
      else if rm = 3 then neg && inexact
      else if rm = 4 then decide (u < r * 2 ^ 32 / 2 ^ k)
      else if rm = 5 then decide (half ≤ r)
      else false
    (if up then lo + 1 else lo, inexact, up)

/-- Number of bits of `m`. -/
def bitLen (m : Nat) : Nat := if m = 0 then 0 else Nat.log2 m + 1

/-- ± m × 2^e rounded once to a floating format (R84, R85): the code and the flags. `sticky` says that the exact magnitude
lies strictly between m and m + 1 units. -/
def FpFmt.round (f : FpFmt) (rm u : Nat) (neg : Bool) (m : Nat) (e : Int) (sticky : Bool) : Fpr :=
  if m = 0 ∧ sticky = false then
    ⟨if f.special = .n8 then 0 else f.signBit neg, 0⟩
  else
    let p : Int := (f.fw : Int) + 1
    let top : Int := (bitLen m : Int) + e
    let q := if f.lsb ≤ top - p then top - p else f.lsb
    let (r, inexact, up) := roundAt rm u neg m e sticky q
    let mag := (q - f.lsb).toNat * 2 ^ f.fw + r
    if f.maxMag < mag then
      -- Overflow after rounding with an unbounded exponent range (R84).
      let toInf : Bool :=
        if rm = 0 ∨ rm = 5 then true else if rm = 2 then !neg else if rm = 3 then neg
        else if rm = 4 then up else false
      let code :=
        match f.special with
        | .ieee | .g8 => if toInf then f.infinity neg else f.signBit neg + f.maxMag
        | .n8 | .none => f.signBit neg + f.maxMag
      ⟨code, flagOverflow + flagInexact⟩
    else
      let tiny : Bool :=
        let (r', _, _) := roundAt rm u neg m e sticky (top - p)
        inexact && decide ((bitLen r' : Int) + (top - p) < 2 - f.bias)
      let code := if mag = 0 then (if f.special = .n8 then 0 else f.signBit neg) else f.signBit neg + mag
      ⟨code, (if inexact then flagInexact else 0) + (if tiny then flagUnderflow else 0)⟩

/-! ## Conversion (R84 to R86) -/

/-- A value converted to a floating format. -/
def FpFmt.convert (f : FpFmt) (rm u : Nat) : Val → Fpr
  | .num neg m e => f.round rm u neg m e false
  | .inf neg =>
    match f.special with
    | .ieee | .g8 => ⟨f.infinity neg, 0⟩
    | .n8 | .none => ⟨f.signBit neg + f.maxMag, flagOverflow⟩
  | .nan sig neg fr fw =>
    match f.special with
    | .ieee => ⟨f.quietNaN neg fr fw, if sig then flagInvalid else 0⟩
    | .g8 | .n8 => ⟨f.canonNaN, if sig then flagInvalid else 0⟩
    | .none => ⟨0, flagInvalid⟩

/-- A value converted to an integer of `w` bits, signed or not. -/
def convertInt (w : Nat) (sgn : Bool) (rm u : Nat) (x : Val) : Fpr :=
  let lo : Int := if sgn then -((2 ^ (w - 1) : Nat) : Int) else 0
  let hi : Int := if sgn then ((2 ^ (w - 1) : Nat) : Int) - 1 else ((2 ^ w : Nat) : Int) - 1
  match x with
  | .nan _ _ _ _ => ⟨0, flagInvalid⟩
  | .inf neg => ⟨unsigned (if neg then lo else hi) w, flagInvalid⟩
  | .num neg m e =>
    let (r, inexact, _) := roundAt rm u neg m e false 0
    let i : Int := if neg then -(r : Int) else (r : Int)
    if i < lo then ⟨unsigned lo w, flagInvalid⟩
    else if hi < i then ⟨unsigned hi w, flagInvalid⟩
    else ⟨unsigned i w, if inexact then flagInexact else 0⟩

/-- The value of a signed integer. -/
def valOfInt (i : Int) : Val := .num (decide (i < 0)) i.natAbs 0

/-- The value of a code of any format of R69. -/
def decodeFmt (fmt code : Nat) : Val :=
  match fpFmt? fmt with
  | some f => f.decode code
  | none =>
    if fmt = 8 then valOfInt (signed code 8) else if fmt = 9 then valOfInt (signed code 4)
    else if fmt = 12 then valOfInt (signed code 32) else if fmt = 10 then .num false (code % 256) 0
    else .num false (code % 65536) 0

/-- A value converted to the format with code `fmt` (R84 to R88). -/
def convertFmt (fmt rm u : Nat) (x : Val) : Fpr :=
  match fpFmt? fmt with
  | some f => f.convert rm u x
  | none =>
    if fmt = 8 then convertInt 8 true rm u x else if fmt = 9 then convertInt 4 true rm u x
    else if fmt = 12 then convertInt 32 true rm u x else if fmt = 10 then convertInt 8 false rm u x
    else convertInt 16 false rm u x

/-- A rounding mode is allowed for a target format (R70). -/
def rmAllowed (fmt rm : Nat) : Bool := rm ≤ 4 || (rm = 5 && fmt ≤ 2)

/-! ## Exact sums -/

/-- A finite value as a multiple of 2^`q`, for `q` at most its exponent. -/
def scaleTo (neg : Bool) (m : Nat) (e q : Int) : Int :=
  let n : Int := ((m * 2 ^ (e - q).toNat : Nat) : Int)
  if neg then -n else n

/-- The quieted first NaN of the operands and its flag (R72), if any operand is a NaN. -/
def FpFmt.nanOf (f : FpFmt) (xs : List Val) : Option Fpr :=
  let sig := xs.any fun | .nan s _ _ _ => s | _ => false
  match xs.find? fun | .nan _ _ _ _ => true | _ => false with
  | some (.nan _ n fr fw) => some ⟨f.quietNaN n fr fw, if sig then flagInvalid else 0⟩
  | _ => none

/-- The canonical NaN of an invalid operation. -/
def FpFmt.invalid (f : FpFmt) : Fpr := ⟨f.canonNaN, flagInvalid⟩

/-- x + y for finite x and y, rounded once; an exact zero is +0, or −0 in mode 3, unless both operands are zeros of one sign
or equal signs give it. -/
def FpFmt.addNum (f : FpFmt) (rm u : Nat) (nx : Bool) (mx : Nat) (ex : Int) (ny : Bool) (my : Nat) (ey : Int) : Fpr :=
  let q := if ex ≤ ey then ex else ey
  let s := scaleTo nx mx ex q + scaleTo ny my ey q
  if s = 0 then f.round rm u (if nx = ny then nx else decide (rm = 3)) 0 0 false
  else f.round rm u (decide (s < 0)) s.natAbs q false

/-- addition (R71, R72). -/
def FpFmt.add (f : FpFmt) (rm u : Nat) (x y : Val) : Fpr :=
  match f.nanOf [x, y] with
  | some r => r
  | none =>
    match x, y with
    | .inf a, .inf b => if a = b then ⟨f.infinity a, 0⟩ else f.invalid
    | .inf a, _ => ⟨f.infinity a, 0⟩
    | _, .inf b => ⟨f.infinity b, 0⟩
    | .num nx mx ex, .num ny my ey => f.addNum rm u nx mx ex ny my ey
    | _, _ => f.invalid

/-- The value with the opposite sign; a NaN is unchanged. -/
def Val.negate : Val → Val
  | .num n m e => .num (!n) m e
  | .inf n => .inf (!n)
  | x => x

/-- subtraction. -/
def FpFmt.sub (f : FpFmt) (rm u : Nat) (x y : Val) : Fpr := f.add rm u x y.negate

/-- The value is ±0. -/
def Val.isZero : Val → Bool
  | .num _ m _ => m = 0
  | _ => false

/-- The sign of a value. -/
def Val.neg : Val → Bool
  | .num n _ _ => n
  | .inf n => n
  | .nan _ n _ _ => n

def Val.isNaN : Val → Bool
  | .nan _ _ _ _ => true
  | _ => false

def Val.isInf : Val → Bool
  | .inf _ => true
  | _ => false

/-- multiplication. -/
def FpFmt.mul (f : FpFmt) (rm u : Nat) (x y : Val) : Fpr :=
  match f.nanOf [x, y] with
  | some r => r
  | none =>
    match x, y with
    | .num nx mx ex, .num ny my ey => f.round rm u (nx != ny) (mx * my) (ex + ey) false
    | _, _ => if x.isZero || y.isZero then f.invalid else ⟨f.infinity (x.neg != y.neg), 0⟩

/-- x × y + z with one rounding; 0 × ∞ is invalid unless z is a quiet NaN, which is then the result without a flag (R72). -/
def FpFmt.fma (f : FpFmt) (rm u : Nat) (x y z : Val) : Fpr :=
  let zeroInf := (x.isZero && y.isInf) || (x.isInf && y.isZero)
  let quietC := match z with | .nan sig _ _ _ => !sig | _ => false
  if zeroInf && !quietC then f.invalid
  else
    match f.nanOf [x, y, z] with
    | some r => r
    | none =>
      match x, y, z with
      | .num nx mx ex, .num ny my ey, .num nz mz ez => f.addNum rm u (nx != ny) (mx * my) (ex + ey) nz mz ez
      | .num _ _ _, .num _ _ _, .inf c => ⟨f.infinity c, 0⟩
      | _, _, .inf c => if c = (x.neg != y.neg) then ⟨f.infinity c, 0⟩ else f.invalid
      | _, _, _ => ⟨f.infinity (x.neg != y.neg), 0⟩

/-- division: ±finite ÷ 0 raises division by zero. The quotient is formed to `fw + 45` bits and a sticky bit. -/
def FpFmt.div (f : FpFmt) (rm u : Nat) (x y : Val) : Fpr :=
  match f.nanOf [x, y] with
  | some r => r
  | none =>
    let neg := x.neg != y.neg
    match x, y with
    | .num _ mx ex, .num _ my ey =>
      if my = 0 then (if mx = 0 then f.invalid else ⟨f.infinity neg, flagDivZero⟩)
      else if mx = 0 then f.round rm u neg 0 0 false
      else
        let k := bitLen my + f.fw + 45
        let n := mx * 2 ^ k
        f.round rm u neg (n / my) (ex - ey - (k : Int)) (decide (n % my ≠ 0))
    | .inf _, .inf _ => f.invalid
    | .inf _, _ => ⟨f.infinity neg, 0⟩
    | _, _ => f.round rm u neg 0 0 false

/-- The integer square root of `n`, found bit by bit from bit `k` − 1 down. -/
def isqrtFrom (n : Nat) : Nat → Nat → Nat
  | 0, r => r
  | k + 1, r =>
    let c := r + 2 ^ k
    isqrtFrom n k (if c * c ≤ n then c else r)

/-- The largest `r` with r × r ≤ n. -/
def isqrt (n : Nat) : Nat := isqrtFrom n (bitLen n / 2 + 1) 0

/-- squareRoot. -/
def FpFmt.sqrt (f : FpFmt) (rm u : Nat) (x : Val) : Fpr :=
  match f.nanOf [x] with
  | some r => r
  | none =>
    match x with
    | .num neg m e =>
      if m = 0 then f.round rm u neg 0 0 false
      else if neg then f.invalid
      else
        let k := 2 * (f.fw + 45)
        let (m', e') := if (e % 2) = 0 then (m * 2 ^ k, e - (k : Int)) else (2 * m * 2 ^ k, e - 1 - (k : Int))
        let r := isqrt m'
        f.round rm u false r (e' / 2) (decide (r * r ≠ m'))
    | .inf neg => if neg then f.invalid else ⟨f.infinity false, 0⟩
    | _ => f.invalid

/-- remainder(x, y) of IEEE 754-2019, exact: x − y × n with n the integer nearest x ÷ y, ties to even. -/
def FpFmt.rem (f : FpFmt) (x y : Val) : Fpr :=
  match f.nanOf [x, y] with
  | some r => r
  | none =>
    match x, y with
    | .num nx mx ex, .num _ my ey =>
      if my = 0 then f.invalid
      else
        let q := if ex ≤ ey then ex else ey
        let a := mx * 2 ^ (ex - q).toNat
        let b := my * 2 ^ (ey - q).toNat
        let n := a / b
        let r := a % b
        let up := decide (b < 2 * r) || (decide (2 * r = b) && decide (n % 2 = 1))
        if up then f.round 0 0 (!nx) (b - r) q false
        else f.round 0 0 nx r q false
    | .num nx mx ex, .inf _ => f.round 0 0 nx mx ex false
    | _, _ => f.invalid

/-! ## Comparison -/

/-- −1, 0 or 1: the order of two values that are no NaN; −0 and +0 are equal. -/
def Val.cmp (x y : Val) : Int :=
  match x, y with
  | .inf a, .inf b => if a = b then 0 else if a then -1 else 1
  | .inf a, _ => if a then -1 else 1
  | _, .inf b => if b then 1 else -1
  | .num nx mx ex, .num ny my ey =>
    let q := if ex ≤ ey then ex else ey
    let a := scaleTo nx mx ex q
    let b := scaleTo ny my ey q
    if a < b then -1 else if b < a then 1 else 0
  | _, _ => 0

/-- x precedes y in the order of minimum and maximum, where −0 < +0. -/
def Val.below (x y : Val) : Bool :=
  if x.isZero && y.isZero then x.neg && !y.neg else decide (x.cmp y < 0)

/-- minimum, maximum (NaN propagates) and minimumNumber, maximumNumber (a number prevails over a NaN): `mx` picks the
maximum, `number` the second pair. `cx`, `cy` are the codes of x and y. -/
def FpFmt.minMax (f : FpFmt) (mx number : Bool) (cx cy : Nat) : Fpr :=
  let x := f.decode cx
  let y := f.decode cy
  let sig := [x, y].any fun | .nan s _ _ _ => s | _ => false
  let pick : Nat := if (if mx then y.below x else x.below y) then cx else cy
  match f.nanOf [x, y] with
  | none => ⟨pick, 0⟩
  | some r =>
    if number ∧ ¬(x.isNaN ∧ y.isNaN) then ⟨if x.isNaN then cy else cx, if sig then flagInvalid else 0⟩ else r

/-- roundToIntegral in mode `rm`; `exact` raises inexact. -/
def FpFmt.rint (f : FpFmt) (rm : Nat) (exact : Bool) (x : Val) : Fpr :=
  match f.nanOf [x] with
  | some r => r
  | none =>
    match x with
    | .num neg m e =>
      let (r, inexact, _) := roundAt rm 0 neg m e false 0
      let c := if 0 ≤ e then f.round 0 0 neg m e false else f.round 0 0 neg r 0 false
      ⟨c.bits, if exact && inexact && decide (e < 0) then flagInexact else 0⟩
    | .inf neg => ⟨f.infinity neg, 0⟩
    | _ => f.invalid

/-- scaleB(x, n): x × 2^n, rounded once. -/
def FpFmt.scaleB (f : FpFmt) (rm u : Nat) (x : Val) (n : Int) : Fpr :=
  match f.nanOf [x] with
  | some r => r
  | none =>
    match x with
    | .num neg m e =>
      -- Beyond this range every mode gives the same result as at its ends.
      let n' := clampInt n (-6000) 6000
      f.round rm u neg m (e + n') false
    | .inf neg => ⟨f.infinity neg, 0⟩
    | _ => f.invalid

/-- logB as a signed integer of `w` bits (R144): NaN and infinities give the largest integer, zero the smallest, each with
invalid. -/
def logB (w : Nat) (x : Val) : Fpr :=
  match x with
  | .num _ m e =>
    if m = 0 then ⟨2 ^ (w - 1), flagInvalid⟩ else ⟨unsigned ((bitLen m : Int) - 1 + e) w, 0⟩
  | _ => ⟨2 ^ (w - 1) - 1, flagInvalid⟩

/-- The class code of R146. -/
def FpFmt.classOf (f : FpFmt) (code : Nat) : Nat :=
  match f.decode code with
  | .nan sig _ _ _ => if sig then 0 else 1
  | .inf neg => if neg then 2 else 9
  | .num neg m _ =>
    if m = 0 then (if neg then 5 else 6)
    else
      let normal := decide (bits code f.fw f.ew ≠ 0)
      if neg then (if normal then 3 else 4) else (if normal then 8 else 7)

/-- The relation COND of R145: its truth and whether it raises invalid. -/
def fpCompare (cond : Nat) (x y : Val) : Bool × Bool :=
  let sig := [x, y].any fun | .nan s _ _ _ => s | _ => false
  let un := x.isNaN || y.isNaN
  let c := x.cmp y
  let signalling := cond = 2 ∨ cond = 3 ∨ cond = 7
  let inv := sig || (un && decide signalling)
  let r : Bool :=
    if cond = 0 ∨ cond = 7 then !un && decide (c = 0)
    else if cond = 1 then un || decide (c ≠ 0)
    else if cond = 2 ∨ cond = 4 then !un && decide (c < 0)
    else if cond = 3 ∨ cond = 5 then !un && decide (c ≤ 0)
    else un
  (r, inv)

/-- The reciprocal estimate of R147: 1/x toward zero to 9 significant bits, with gradual underflow.  Beyond the format's range,
where the spec states no result, it is the largest finite value, to which rounding toward zero goes (DESIGN CHOICE, log 109). -/
def FpFmt.rcpe (f : FpFmt) (x : Val) : Fpr :=
  match f.nanOf [x] with
  | some r => r
  | none =>
    match x with
    | .num neg m e =>
      if m = 0 then ⟨f.infinity neg, flagDivZero⟩
      else
        let k := bitLen m + 20
        let n := 2 ^ k / m
        let cut := bitLen n - 9
        ⟨(f.round 1 0 neg (n / 2 ^ cut) (-e - (k : Int) + (cut : Int)) false).bits, 0⟩
    | .inf neg => ⟨f.signBit neg, 0⟩
    | _ => f.invalid

/-! ## Block scale (R82, R89) -/

/-- The value of a scale code 0x00–0xFE as m × 2^e: (4 + f) × 2^(e − 34). -/
def scaleVal (c : Nat) : Nat × Int := (4 + c % 4, ((c / 4 : Nat) : Int) - 34)

/-- An element's value with its block's scale applied exactly (R83). -/
def scaledVal (x : Val) (c : Nat) : Val :=
  if c = 0xFF then .nan false false 0 3
  else
    match x with
    | .num neg m e => let (sm, se) := scaleVal c; .num neg (m * sm) (e + se)
    | v => v

/-- The largest magnitude among finite values, as m × 2^e. -/
def maxMagnitude : List Val → Nat × Int
  | [] => (0, 0)
  | .num _ m e :: t =>
    let (a, ea) := maxMagnitude t
    let q := if e ≤ ea then e else ea
    if a * 2 ^ (ea - q).toNat < m * 2 ^ (e - q).toNat then (m, e) else (a, ea)
  | _ :: t => maxMagnitude t

/-- The smallest scale code in 0x00–0xFE for which the largest finite value × value(c) reaches m × 2^e; 0xFE if none
(R89 step 2). -/
def scaleCode (f : FpFmt) (m : Nat) (e : Int) : Nat :=
  match f.decode f.maxMag with
  | .num _ lm le =>
    ((List.range 255).find? fun c =>
      let (sm, se) := scaleVal c
      let s := le + se
      let q := if e ≤ s then e else s
      decide (m * 2 ^ (e - q).toNat ≤ lm * sm * 2 ^ (s - q).toNat)).getD 0xFE
  | _ => 0xFE

/-- x ÷ value(c), rounded once to the format (R89 step 3). -/
def FpFmt.quotient (f : FpFmt) (rm u : Nat) (x : Val) (c : Nat) : Fpr :=
  match x with
  | .num neg m e =>
    let (sm, se) := scaleVal c
    let n := m * 2 ^ 64
    f.round rm u neg (n / sm) (e - se - 64) (decide (n % sm ≠ 0))
  | v => f.convert rm u v

/-- A block of up to 64 values quantised under R89: the scale code, the element codes and the flags. -/
def quantise (fmt rm : Nat) (draws : Nat → Nat) (xs : List Val) : Nat × List Nat × Nat :=
  match fpFmt? fmt with
  | none => (0, [], 0)
  | some f =>
    if xs.any fun | .num _ _ _ => false | _ => true then
      (0xFF, xs.map fun _ => f.canonNaN, flagInvalid)
    else
      let (m, e) := maxMagnitude xs
      let c := scaleCode f m e
      let rs := (List.range xs.length).map fun i => f.quotient rm (draws i) (xs.getD i (.inf false)) c
      (c, rs.map (·.bits), rs.foldl (fun a r => a ||| r.flags) 0)

/-! ## Binary32 shorthands -/

/-- The value of a binary32 code. -/
def b32 (c : Nat) : Val := fmtB32.decode c

/-- `add_b32` of R91: every NaN result is 0x7FC0_0000. -/
def addB32 (x y : Nat) : Fpr :=
  let r := fmtB32.add 0 0 (b32 x) (b32 y)
  if (b32 r.bits).isNaN then ⟨0x7FC0_0000, r.flags⟩ else r

end Sys2Proof.Machine
end

