-- ==== Sys2Proof/Machine/Trans.lean ====
section
/-! DEFINITION. The elementary functions of R147, correctly rounded to nearest even.  Each function is evaluated in fixed
point with 600 fraction bits, far below the distance of any binary32 argument's result from a rounding boundary; results that
are exact are taken exactly. -/

namespace Sys2Proof.Machine

/-- Fraction bits of the fixed-point evaluation. -/
def tF : Nat := 600

/-- 1 in fixed point. -/
def tOne : Nat := 2 ^ tF

/-- ln 2 in fixed point, rounded down. -/
def tLn2 : Nat :=
  0xB17217F7D1CF79ABC9E3B39803F2F6AF40F343267298B62D8A0D175B8BAAFA2BE7B876206DEBAC98559552FB4AFA1B10ED2EAE35C138214427573B291169B8253E96CA16224AE8C51ACBDA

/-- π in fixed point, rounded down. -/
def tPi : Nat :=
  0x3243F6A8885A308D313198A2E03707344A4093822299F31D0082EFA98EC4E6C89452821E638D01377BE5466CF34E90C6CC0AC29B7C97C50DD3F84D5B5B54709179216D5D98979FB1BD1310B

/-- Σ t × r^j ÷ (i (i + 1) … ) from term number `i`, `fuel` further terms. -/
def expSeries (r : Nat) : Nat → Nat → Nat → Nat
  | 0, _, _ => 0
  | fuel + 1, i, t => t + expSeries r fuel (i + 1) (t * r / (i * tOne))

/-- e^r for 0 ≤ r < 1 in fixed point. -/
def expFix (r : Nat) : Nat := expSeries r 150 1 tOne

/-- Σ z^(2k + 1) ÷ (2k + 1), `w` = z². -/
def atanhSeries (w : Nat) : Nat → Nat → Nat → Nat
  | 0, _, _ => 0
  | fuel + 1, k, t => t / (2 * k + 1) + atanhSeries w fuel (k + 1) (t * w / tOne)

/-- ln y for 1 ≤ y < 2 in fixed point. -/
def lnFix (y : Nat) : Nat :=
  let z := (y - tOne) * tOne / (y + tOne)
  2 * atanhSeries (z * z / tOne) 200 0 z

/-- Alternating series of sine and cosine: term `t`, next divisor `i (i + 1)`. -/
def trigSeries (w : Nat) : Nat → Nat → Int → Int
  | 0, _, _ => 0
  | fuel + 1, i, t => t + trigSeries w fuel (i + 2) (-(t * (w : Int) / ((i * (i + 1) * tOne : Nat) : Int)))

/-- sin and cos of π f for 0 ≤ f ≤ 1/4 in fixed point. -/
def sinFix (f : Nat) : Nat := let a := tPi * f / tOne; (trigSeries (a * a / tOne) 80 2 (a : Int)).toNat
def cosFix (f : Nat) : Nat := let a := tPi * f / tOne; (trigSeries (a * a / tOne) 80 1 (tOne : Int)).toNat

/-- m × 2^e in fixed point, rounded toward zero. -/
def toFix (m : Nat) (e : Int) : Nat :=
  let s := e + (tF : Int)
  if 0 ≤ s then m * 2 ^ s.toNat else m / 2 ^ (-s).toNat

/-- m × 2^e rounded to the nearest even of the format as an irrational result. -/
def FpFmt.irr (f : FpFmt) (neg : Bool) (m : Nat) (e : Int) : Fpr := f.round 0 0 neg m e true

/-- The magnitude m × 2^e is at least 2^k. -/
def geTwoPow (m : Nat) (e : Int) (k : Int) : Bool := decide (k < (bitLen m : Int) + e)

/-- 2^y for the value y given in fixed point as an integer (`y` may be negative). -/
def FpFmt.exp2Fix (f : FpFmt) (y : Int) : Fpr :=
  let k := y.fdiv (tOne : Int)
  let r := (y - k * (tOne : Int)).toNat
  f.irr false (expFix (r * tLn2 / tOne)) (k - (tF : Int))

/-- vexp2: an integral argument is exact. -/
def FpFmt.exp2 (f : FpFmt) (x : Val) : Fpr :=
  match f.nanOf [x] with
  | some r => r
  | none =>
    match x with
    | .inf neg => if neg then ⟨0, 0⟩ else ⟨f.infinity false, 0⟩
    | .num neg m e =>
      if m = 0 then f.round 0 0 false 1 0 false
      else if geTwoPow m e 14 then f.irr false 1 (if neg then -20000 else 20000)
      else
        let y : Int := let n : Int := toFix m e; if neg then -n else n
        if 0 ≤ e ∨ m % 2 ^ (-e).toNat = 0 then f.round 0 0 false 1 (y / (tOne : Int)) false
        else f.exp2Fix y
    | _ => f.invalid

/-- vexp. -/
def FpFmt.exp (f : FpFmt) (x : Val) : Fpr :=
  match f.nanOf [x] with
  | some r => r
  | none =>
    match x with
    | .inf neg => if neg then ⟨0, 0⟩ else ⟨f.infinity false, 0⟩
    | .num neg m e =>
      if m = 0 then f.round 0 0 false 1 0 false
      else if geTwoPow m e 14 then f.irr false 1 (if neg then -20000 else 20000)
      else
        let y : Int := let n : Int := toFix m e; if neg then -n else n
        let k := y.fdiv (tLn2 : Int)
        f.irr false (expFix (y - k * (tLn2 : Int)).toNat) (k - (tF : Int))
    | _ => f.invalid

/-- ln of m × 2^e in fixed point, and the exponent and mantissa it was cut into. -/
def lnOf (m : Nat) (e : Int) : Int :=
  let l := bitLen m - 1
  let y := m * tOne / 2 ^ l
  (lnFix y : Int) + (e + (l : Int)) * (tLn2 : Int)

/-- vlog (`two` false) and vlog2: ±0 gives −∞ with division by zero, a negative argument is invalid, 1 gives +0. -/
def FpFmt.log (f : FpFmt) (two : Bool) (x : Val) : Fpr :=
  match f.nanOf [x] with
  | some r => r
  | none =>
    match x with
    | .inf neg => if neg then f.invalid else ⟨f.infinity false, 0⟩
    | .num neg m e =>
      if m = 0 then ⟨f.infinity true, flagDivZero⟩
      else if neg then f.invalid
      else
        let k := e + (bitLen m : Int) - 1
        if m = 2 ^ (bitLen m - 1) ∧ (two ∨ k = 0) then f.round 0 0 (decide (k < 0)) k.natAbs 0 false
        else
          let y := lnOf m e
          let z : Nat := if two then y.natAbs * tOne / tLn2 else y.natAbs
          f.irr (decide (y < 0)) z (-(tF : Int))
    | _ => f.invalid

/-- vsinpi and vcospi: the argument is reduced modulo 2 exactly; multiples of 1/2 are exact. -/
def FpFmt.trigpi (f : FpFmt) (cos : Bool) (x : Val) : Fpr :=
  match f.nanOf [x] with
  | some r => r
  | none =>
    match x with
    | .num neg m e =>
      if m = 0 then (if cos then f.round 0 0 false 1 0 false else f.round 0 0 neg 0 0 false)
      else
        -- |x| mod 2 in units of 2^q, q ≤ −2
        let q : Int := if e < -2 then e else -2
        let u := 2 ^ (-q).toNat
        let a := m * 2 ^ (e - q).toNat % (2 * u)
        let quad := 2 * a / u
        let r := a - quad * (u / 2)
        if r = 0 then
          -- a multiple of 1/2
          if cos then
            (if quad = 0 then f.round 0 0 false 1 0 false else if quad = 2 then f.round 0 0 true 1 0 false
             else f.round 0 0 false 0 0 false)
          else
            (if quad = 1 then f.round 0 0 neg 1 0 false else if quad = 3 then f.round 0 0 (!neg) 1 0 false
             else f.round 0 0 neg 0 0 false)
        else
          let first := 4 * r ≤ u
          let g := if first then r else u / 2 - r
          let gf := toFix g q
          -- within the quadrant: sin π r and cos π r
          let sn := if first then sinFix gf else cosFix gf
          let cs := if first then cosFix gf else sinFix gf
          let odd := quad % 2 = 1
          let v := if cos then (if odd then sn else cs) else (if odd then cs else sn)
          let sg : Bool := if cos then decide (quad = 1 ∨ quad = 2) else (neg != decide (2 ≤ quad))
          f.irr sg v (-(tF : Int))
    | .inf _ => f.invalid
    | _ => f.invalid

/-- e^(−a) in fixed point for a ≥ 0 in fixed point. -/
def expNegFix (a : Nat) : Nat :=
  let k := a / tLn2 + 1
  expFix (k * tLn2 - a) / 2 ^ k

/-- vtanh. -/
def FpFmt.tanh (f : FpFmt) (x : Val) : Fpr :=
  match f.nanOf [x] with
  | some r => r
  | none =>
    match x with
    | .inf neg => f.round 0 0 neg 1 0 false
    | .num neg m e =>
      if m = 0 then f.round 0 0 neg 0 0 false
      else if geTwoPow m e 7 then f.irr neg (tOne - 1) (-(tF : Int))
      else
        let t := expNegFix (2 * toFix m e)
        f.irr neg ((tOne - t) * tOne / (tOne + t)) (-(tF : Int))
    | _ => f.invalid

/-- vsigm (R147): 1 ÷ (1 + e^(−x)). -/
def FpFmt.sigm (f : FpFmt) (x : Val) : Fpr :=
  match f.nanOf [x] with
  | some r => r
  | none =>
    match x with
    | .inf neg => if neg then ⟨0, 0⟩ else f.round 0 0 false 1 0 false
    | .num neg m e =>
      if m = 0 then f.round 0 0 false 1 (-1) false
      else if geTwoPow m e 8 then
        (if neg then f.irr false 1 (-20000) else f.irr false (tOne - 1) (-(tF : Int)))
      else
        let t := expNegFix (toFix m e)
        if neg then f.irr false (t * tOne / (tOne + t)) (-(tF : Int))
        else f.irr false (tOne * tOne / (tOne + t)) (-(tF : Int))
    | _ => f.invalid

/-- vrsqrt: ±0 gives ±∞ with division by zero. -/
def FpFmt.rsqrt (f : FpFmt) (x : Val) : Fpr :=
  match f.nanOf [x] with
  | some r => r
  | none =>
    match x with
    | .inf neg => if neg then f.invalid else ⟨0, 0⟩
    | .num neg m e =>
      if m = 0 then ⟨f.infinity neg, flagDivZero⟩
      else if neg then f.invalid
      else
        let (m', e') := if e % 2 = 0 then (m, e) else (2 * m, e - 1)
        let k := 2 * (bitLen m' + 64)
        let n := 2 ^ k / m'
        let r := isqrt n
        f.round 0 0 false r (-(e' / 2) - ((k / 2 : Nat) : Int)) (decide (r * r * m' ≠ 2 ^ k))
    | _ => f.invalid

/-- Q[i] of R205: (1 + cos(π i ÷ 1,024)) ÷ 2 correctly rounded to binary32 for i = 0 to 1,023, and +0 for 1,024. -/
def cosQ (i : Nat) : Nat :=
  if i = 0 then 0x3F800000
  else if i = 512 then 0x3F000000
  else if 1024 ≤ i then 0
  else
    let g := fun k => k * tOne / 1024
    let num : Nat :=
      if i ≤ 256 then tOne + cosFix (g i) else if i < 512 then tOne + sinFix (g (512 - i))
      else if i < 768 then tOne - sinFix (g (i - 512)) else tOne - cosFix (g (1024 - i))
    (fmtB32.irr false num (-(tF : Int) - 1)).bits

end Sys2Proof.Machine
end

