-- ==== Sys2Proof/Machine/Ops.lean ====
section
/-! DEFINITION. The named operations that the meanings share: registers, memory, time and stamps, trace rings, event
records, fault reports (spec/00_scope.md, spec/13_continuity.md, spec/15_time.md, spec/16_observability.md). -/

namespace Sys2Proof.Machine

/-! ## Islands -/

/-- Island indices of R4. -/
abbrev iSB := 0
abbrev iTM := 1
abbrev iSC := 2
abbrev iMG := 3
abbrev iCT := 4
abbrev iPV := 5
abbrev iDB := 6
abbrev iHI := 7
abbrev iUE := 8
abbrev iSN := 9
/-- Junction Jk, memory island Mk, link island Lk and physical tile Tnn (R4). -/
def iJ (k : Nat) : Nat := 10 + k
def iM (k : Nat) : Nat := 16 + k
def iL (k : Nat) : Nat := 24 + k
def iT (nn : Nat) : Nat := 32 + nn

/-- An index that names an island (R4: 14 and 15 are reserved). -/
def isIsland (i : Nat) : Bool := i < 14 || (16 ≤ i && i < 100)

/-- The 98 islands in ascending index. -/
def islands : List Nat := (List.range 100).filter isIsland

/-- The island group of R313. -/
def groupOf (i : Nat) : Nat :=
  if i < 10 then i else if i < 14 then 10 else if i < 24 then 11 else if i < 32 then 12 else 13

/-! ## Fault sources (R313, R314) -/

/-- The default severity level of a source (R314); none for a reserved source. -/
def defaultLevel (src : Nat) : Option Nat :=
  let i := src / 64
  let n := src % 64
  let pick (l : List Nat) : Option Nat := l[n]?
  if i = 0 then pick [1, 1, 1, 6, 1, 1]
  else if i = 1 then pick [1, 1, 0, 1]
  else if i = 2 then pick [1, 1, 1, 6]
  else if i = 3 then pick [3, 1, 1, 1, 1]
  else if i = 4 then pick [5, 5, 1, 0, 0, 1, 1, 1, 1]
  else if i = 5 then pick [1, 4, 7, 4, 0]
  else if i = 6 then pick [0, 1]
  else if i = 7 then pick [1, 4, 1]
  else if i = 8 then pick [1, 4, 4, 4, 5, 1]
  else if i = 9 then pick [4, 1, 1, 1]
  else if i < 14 then pick [1, 1, 1, 1, 1, 4, 4, 1, 1]
  else if i < 16 then none
  else if i < 24 then pick [1, 3, 4, 4, 1, 1, 1, 1, 3]
  else if i < 32 then [0, 0, 1, 1, 0, 1, 1, 0][n % 8]?
  else if i < 100 then pick [3, 3, 2, 0, 4, 4, 4, 1, 4, 1, 0, 4]
  else none

/-- The fault class of a source (R314). -/
def classOfSource (src : Nat) : Nat :=
  let i := src / 64
  let n := src % 64
  let pick (l : List Nat) : Nat := l[n]?.getD 0
  if i = 0 then pick [9, 9, 9, 9, 7, 7]
  else if i = 1 then pick [6, 6, 6, 10]
  else if i = 2 then 8
  else if i = 3 then pick [9, 11, 3, 5, 10]
  else if i = 4 then pick [10, 10, 10, 10, 10, 10, 10, 8, 10]
  else if i = 5 then 7
  else if i = 6 then pick [10, 9]
  else if i = 7 then 11
  else if i = 8 then pick [4, 0, 4, 4, 12, 5]
  else if i = 9 then 12
  else if i < 14 then 3
  else if i < 24 then 1
  else if i < 32 then 2
  else pick [0, 0, 0, 0, 4, 4, 4, 1, 1, 9, 10, 10]

/-- The event code of a fault occurrence (R313): class, island group, n. -/
def eventOfSource (src : Nat) : Nat :=
  classOfSource src * 0x1000 + groupOf (src / 64) * 0x100 + src % 64

/-! ## Registers (R5 to R10) -/

/-- The reset value of a register whose value the tables give by rule: severities (R314), the tile map (R23), the tile
registers that mirror it, entry 0 of `J.SLICE` (R280), the remap and sub-channel states of R18, the channels of R206. -/
def specialReset (key : Nat) : Option Nat :=
  let i := key / 0x10000
  let o := key % 0x10000
  if i = 4 then
    if 0x4000 ≤ o ∧ o < 0x4000 + 4 * 6400 then some ((defaultLevel ((o - 0x4000) / 4)).getD 0)
    else if 0x800 ≤ o ∧ o < 0x900 then
      let t := (o - 0x800) / 4
      some (17 * (t / 16) + t % 16 + 0x80)
    else none
  else if 10 ≤ i ∧ i < 14 then
    if o = 0x2000 then some (1 * 2 ^ 32 + (2 ^ 64 - 1) * 2 ^ 64 + 256 * 2 ^ 128 + 256 * 2 ^ 144) else none
  else if 16 ≤ i ∧ i < 24 then
    if 0x100 ≤ o ∧ o < 0x100 + 4 * 120 then some ((o - 0x100) / 4)
    else if 0x400 ≤ o ∧ o < 0x400 + 8 * 128 then some (if (o - 0x400) / 8 < 120 then 0 else 1)
    else if o = 0 then some (8 * 2 ^ 8)
    else none
  else if i = 8 then
    if 0x6000 ≤ o ∧ o < 0x7000 then some (cosQ ((o - 0x6000) / 4))
    else if 0x4000 + 0x20 * 248 ≤ o ∧ o < 0x6000 then
      some (2 ^ 4 + 1 * 2 ^ 8 + 0x3F800000 * 2 ^ 96 + 0x3F800000 * 2 ^ 192)
    else none
  else if 32 ≤ i ∧ i < 100 then
    if o = 0 then
      let nn := i - 32
      some ((if nn % 17 = 16 then 6 else 2 ^ 4 + (16 * (nn / 17) + nn % 17) * 2 ^ 8) + nn * 2 ^ 16)
    else none
  else none

/-- The reset value of a whole register. -/
def resetOf (key : Nat) : Nat :=
  match specialReset key with
  | some v => v
  | none =>
    match regAt key with
    | some (r, _) => r.fields.foldl (fun acc f => acc + ((f.reset % 2 ^ f.w) <<< f.lo)) 0
    | none => 0

/-- The whole register at a key. -/
def Body.reg (b : Body) (key : Nat) : Nat := SMap.getD b.regs key (resetOf key)

/-- The module with a register at a key set. -/
def Body.setReg (b : Body) (key v : Nat) : Body := { b with regs := SMap.set b.regs key v (resetOf key) }

/-- A field. -/
def Body.rd (b : Body) (f : Field) : Nat := bits (b.reg f.key) f.lo f.w

/-- The module with a field set to the low bits of `v`. -/
def Body.wr (b : Body) (f : Field) (v : Nat) : Body := b.setReg f.key (setBits (b.reg f.key) f.lo f.w v)

/-- A one-bit field as a flag. -/
def Body.on (b : Body) (f : Field) : Bool := b.rd f = 1

/-- A counter field that saturates. -/
def Body.sat (b : Body) (f : Field) (n : Nat) : Body := b.wr f (satAdd (b.rd f) n f.w)

/-- A counter field that wraps. -/
def Body.add (b : Body) (f : Field) (n : Nat) : Body := b.wr f (b.rd f + n)

/-- `f` on the module only when the condition holds. -/
def Body.when (b : Body) (c : Bool) (f : Body → Body) : Body := if c then f b else b

/-- An island whose straits are open (R24). -/
def Body.inService (b : Body) (i : Nat) : Bool := isIsland i && !(bit b.sb.closed i)

/-- A job runs (`TM.TT_STATUS.STATE` 2; R35). -/
def Body.jobRuns (b : Body) : Bool := b.rd R.TM.TT_STATUS.STATE = 2

/-- The period in force. -/
def Body.period (b : Body) : Nat := b.rd R.TM.DEPART_PERIOD.PERIOD

/-- The module's own place address (R14, R286). -/
def Body.place (b : Body) : Nat := b.rd R.MG.DSP_PLACE.PLACE

/-! ## Memory (R15) -/

/-- LPDDR lies below this address. -/
def lpddrEnd : Nat := 0x016800000000

/-- Bytes of a tile's SRAM. -/
def sramSize : Nat := 0x800000

/-- Where physical tile nn's SRAM begins (R15). -/
def sramBase (nn : Nat) : Nat := 0xF00000000000 + nn * 0x1000000

/-- The byte at a local address; an unlisted byte reads 0. -/
def Body.byte (b : Body) (a : Nat) : Byte := SMap.getD b.mem a 0

/-- `n` bytes from a local address. -/
def Body.bytes (b : Body) (a n : Nat) : Bytes := (List.range n).map (fun i => b.byte (a + i))

/-- Bytes written one by one from an address. -/
def writeCells : List Host.Cell → Nat → Bytes → List Host.Cell
  | m, _, [] => m
  | m, a, x :: xs => writeCells (SMap.set m a x 0) (a + 1) xs

/-- The module with bytes written from a local address. -/
def Body.put (b : Body) (a : Nat) (bs : Bytes) : Body := { b with mem := writeCells b.mem a bs }

/-- Every byte of a range reads 0. -/
def Body.clearRange (b : Body) (a n : Nat) : Body :=
  { b with mem := b.mem.filter (fun c => !(decide (a ≤ c.1) && decide (c.1 < a + n))) }

/-- `n` bytes copied from one local address to another. -/
def Body.copyRange (b : Body) (src n dst : Nat) : Body :=
  let cells := b.mem.filter (fun c => decide (src ≤ c.1) && decide (c.1 < src + n))
  forEach cells (fun c t => { t with mem := SMap.set t.mem (c.1 - src + dst) c.2 0 }) (b.clearRange dst n)

/-- The little-endian field of `n` bytes at a local address (R8). -/
def Body.leAt (b : Body) (a n : Nat) : Nat := leNat (b.bytes a n)

/-- A memory in canonical form: every entry put in its place, none that reads as an unlisted byte does. -/
def canonCells (m : List Host.Cell) : List Host.Cell := m.foldr (fun c acc => SMap.set acc c.1 c.2 0) []

/-- The canonical form: addresses rise strictly and no entry is 0. -/
def memWf (m : List Host.Cell) : Bool := SMap.sorted m && m.all (fun c => c.2 != 0)

/-- A meaning as an outcome: the module after it, with its memory in canonical form, and the same queue. -/
def run (f : Body → Body) (s : State) : Host.Outcome State Fault Refusal :=
  .next { s with body := { f s.body with mem := canonCells (f s.body).mem } }

/-! ## Time (R361 to R368) -/

/-- The total of base `i` in ns. -/
def Body.ns (b : Body) (i : Nat) : Nat :=
  (if i = 0 then b.time.tb0 else if i = 1 then b.time.tb1 else if i = 2 then b.time.tb2 else b.time.tb3) / 2 ^ 40

/-- How far a base advances in one TM cycle, in 2⁻⁴⁰ ns (R361). -/
def Body.cycleStep (b : Body) (i : Nat) : Nat := (((2 ^ 40 : Nat) : Int) + signed (b.rd (R.TM.TB_RATE.A i)) 32).toNat

/-- `k` TM cycles pass (R361).  A stretch of a clock lasts no longer than its instant (log 30). -/
def Body.ticks (b : Body) (k : Nat) : Body :=
  { b with
    time := { b.time with
      tb0 := b.time.tb0 + k * b.cycleStep 0, tb1 := b.time.tb1 + k * b.cycleStep 1,
      tb2 := b.time.tb2 + k * 2 ^ 40, tb3 := b.time.tb3 + k * 2 ^ 40 }
    sb := { b.sb with stretching := 0 } }

/-- Time passes until pod time has reached `t` ns (nothing happens if it has). -/
def Body.toPod (b : Body) (t : Nat) : Body :=
  if t * 2 ^ 40 ≤ b.time.tb0 then b else b.ticks (ceilDiv (t * 2 ^ 40 - b.time.tb0) (b.cycleStep 0))

/-- Base `i` counts as synchronised: TB2 and TB3 always do. -/
def Body.synced (b : Body) (i : Nat) : Bool := 2 ≤ i || b.on (R.TM.TB_STATUS.SYNC i)

/-- A stamp of R13 in base `i`, with the flags [88] stretched and [89] resumed given. -/
def Body.stampWith (b : Body) (i : Nat) (stretched resumed : Bool) : Nat :=
  let t := b.ns i
  let short := b.on (R.TM.TB_CTRL.SHORT i)
  let refused := decide (i < 2) && b.on (R.TM.TB_STATUS.REFUSED i)
  (if short then (t % 2 ^ 32) * 2 ^ 48 else t / 10 ^ 9 % 2 ^ 48 + (t % 10 ^ 9) * 2 ^ 48)
    + i * 2 ^ 80 + b2n stretched * 2 ^ 88 + b2n resumed * 2 ^ 89 + b2n (!b.synced i) * 2 ^ 90 + b2n refused * 2 ^ 91
    + b2n short * 2 ^ 92

/-- The island is stretching its clock (R366). -/
def Body.stretching (b : Body) (i : Nat) : Bool := bit b.sb.stretching i

/-- A sample taken now by island `i` is its first after its clock restarted, or taken in that same cycle (R368). -/
def Body.resumedNow (b : Body) (i : Nat) : Bool :=
  match SMap.find b.sb.resumed i with
  | some v => decide (v = 0) || decide (v = b.ns 0 + 1)
  | none => false

/-- The island has taken a sample now (R368). -/
def Body.sampled (b : Body) (i : Nat) : Body :=
  match SMap.find b.sb.resumed i with
  | some v =>
    if v = 0 then { b with sb := { b.sb with resumed := SMap.insert b.sb.resumed i (b.ns 0 + 1) } }
    else if v = b.ns 0 + 1 then b
    else { b with sb := { b.sb with resumed := SMap.erase b.sb.resumed i } }
  | none => b

/-- A stamp that island `i` takes in base `base`. -/
def Body.stamp (b : Body) (base i : Nat) : Nat := b.stampWith base (b.stretching i) (b.resumedNow i)

/-- The stamp of an event record: TB1 when synchronised, otherwise TB2 (R394). -/
def Body.recordStamp (b : Body) (i : Nat) : Nat := b.stamp (if b.synced 1 then 1 else 2) i

/-! ## Outputs -/

/-- The module sends something to the world outside. -/
def Body.emit (b : Body) (o : Output) : Body := { b with out := o :: b.out }

/-- An event sets its bit of `HI.IRQ_CAUSE` (R435): a 0-to-1 transition sends the vector of the same number, or sets its
pending bit while the vector is masked; a closed HI sees no event. -/
def Body.irq (b : Body) (v : Nat) : Body :=
  if !b.inService iHI || bit (b.rd R.HI.IRQ_CAUSE.CAUSE) v then b
  else
    let b1 := b.wr R.HI.IRQ_CAUSE.CAUSE (b.rd R.HI.IRQ_CAUSE.CAUSE + 2 ^ v)
    if bit b.hi.masked v then { b1 with hi := { b1.hi with msixPending := b1.hi.msixPending ||| 2 ^ v } }
    else b1.emit (.msix v)

/-- MOD_ALERT# follows R458. -/
def Body.alertPin (b : Body) : Body :=
  let on := decide (5 ≤ b.rd R.SB.STATUS.LADDER) || b.on R.CT.STATUS.STOPPED || b.on R.HI.STATUS.BOOT_FAILED
  if on = b.sb.modAlert then b
  else ({ b with sb := { b.sb with modAlert := on } }).emit (.pin "MOD_ALERT#" on)

/-- The next free value's index is taken. -/
def Body.takeFree (b : Body) : Body := { b with free := b.free + 1 }

/-! ## The tile map and the siding tiles (R23, R30) -/

/-- The physical tile bound to logical tile t, if the binding is in force. -/
def Body.physOf (b : Body) (t : Nat) : Option Nat :=
  if t < 64 ∧ b.on (R.CT.TILE_MAP.VALID t) then some (b.rd (R.CT.TILE_MAP.PHYS t)) else none

/-- The logical tile to which physical tile nn is bound. -/
def Body.logicalOf (b : Body) (nn : Nat) : Option Nat :=
  lowest 64 (fun t => b.on (R.CT.TILE_MAP.VALID t) && b.rd (R.CT.TILE_MAP.PHYS t) == nn)

/-- Junction that serves a physical tile (R23) and a link (R17). -/
def junctionOfTile (nn : Nat) : Nat := nn / 17
def junctionOfLink (n : Nat) : Nat := n / 16

/-- A tile is retired (R324). -/
def Body.retired (b : Body) (nn : Nat) : Bool := bit (b.rd R.CT.TILE_RETIRED.RETIRED) nn

/-- The siding tiles T16, T33, T50, T67 (R23), by number k 0 to 3. -/
def sidingTile (k : Nat) : Nat := 17 * k + 16
def isSiding (nn : Nat) : Bool := nn % 17 = 16

/-- The clock of a free siding tile is stopped except while it runs a diagnosis (R30): the tile detects no events and takes no
stamps (R368). -/
def Body.clockStopped (b : Body) (i : Nat) : Bool :=
  let nn := i - 32
  32 ≤ i && isSiding nn && !b.retired nn && (b.logicalOf nn).isNone && !bit (b.rd R.CT.SIDINGS.DIAG) (junctionOfTile nn)

/-- The clock of island `i` starts: its next sample carries the resumed flag (R368). -/
def Body.clockStarts (b : Body) (i : Nat) : Body :=
  { b with sb := { b.sb with resumed := SMap.insert b.sb.resumed i 0 } }

/-! ## Trace rings (R388 to R392) -/

/-- The ring of an island. -/
def Body.ring (b : Body) (i : Nat) : Ring := SMap.getD b.obs.rings i { entries := [], left := 0, released := false }

/-- The ring of an island replaced. -/
def Body.setRing (b : Body) (i : Nat) (r : Ring) : Body :=
  { b with obs := { b.obs with rings := SMap.insert b.obs.rings i r } }

/-- An entry of a ring at this instant (R388). -/
def Body.traceEntry (b : Body) (i code unit data : Nat) (trigger : Bool) : TraceEntry :=
  { time := b.ns 0 % 2 ^ 48, code := code,
    flags := b2n (b.stretching i) + 2 * b2n (b.resumedNow i) + 4 * b2n (!b.synced 0) + 8 * b2n trigger
      + 16 * b2n (b.ring i).released,
    unit := unit % 256, data := data % 2 ^ 48 }

/-- Island `i` writes a trace entry (R389, R391): a frozen ring, or one that has written its post-trigger entries, drops
it and counts it; else the oldest of 1,024 entries is overwritten. -/
def Body.trace (b : Body) (i code unit data : Nat) (trigger : Bool) : Body :=
  let r := b.ring i
  if b.on (R.DB.RING.FROZEN i) || (b.on (R.DB.RING.ARMED i) && r.left == 0) then (b.sat (R.DB.RING.DROPPED i) 1).sampled i
  else
    (b.setRing i { entries := (b.traceEntry i code unit data trigger :: r.entries).take 1024,
                   left := if b.on (R.DB.RING.ARMED i) then r.left - 1 else r.left, released := false }).sampled i

/-- A trigger reaches the ring of island `i` (R391). -/
def Body.arm (b : Body) (i : Nat) : Body :=
  if b.on (R.DB.RING.ARMED i) || b.on (R.DB.RING.FROZEN i) then b.sat R.DB.STATUS.TRIG_IGNORED 1
  else
    (b.setRing i { b.ring i with left := min (b.rd (R.DB.RING.POST i)) (b.rd R.DB.RING_CEIL.CEIL) }).wr
      (R.DB.RING.ARMED i) 1

/-- A trigger that arose in island `i` (R390): its ring is armed, or every ring when MODULE is set. -/
def Body.trigger (b : Body) (i : Nat) : Body :=
  if b.on R.DB.TRIG_CTRL.MODULE then forEach islands (fun j t => t.arm j) b else b.arm i

/-- A register write reaches an island (R389, R390): its ring holds an entry where WRITES is set, and is triggered where
`DB.TRIG_REG` names the register.  The spec gives the entry neither code nor data: both are free values (log 3). -/
def Body.writtenAt (b : Body) (off i : Nat) : Body :=
  if !b.inService i || b.clockStopped i then b
  else
    let trig := b.on R.DB.TRIG_CTRL.REG_ENABLE && b.rd R.DB.TRIG_REG.ISLAND == i && b.rd R.DB.TRIG_REG.OFFSET == off
    let code := (Config.freeValue 16 b.free).toNat
    let data := (Config.freeValue 48 (b.free + 1)).toNat
    let b1 := if b.on (R.DB.RING.WRITES i) then ({ b with free := b.free + 2 } : Body).trace i code 0 data trig else b
    if trig then b1.trigger i else b1

/-- A register that MG or CT writes in the course of another row. -/
def Body.seen (b : Body) (f : Field) : Body := b.writtenAt (f.key % 0x10000) (f.key / 0x10000)

/-- A command that is a write of the register at an offset of the islands `is`: the rings see it, then it acts. -/
def Body.written (is : List Nat) (off : Nat) (f : Body → Body) (b : Body) : Body :=
  f (forEach is (fun i c => c.writtenAt off i) b)

/-! ## Event records (R393 to R398) -/

/-- The limit of R397 for an event code: the matching valid override, or the class's; 0 is no limit. -/
def Body.eventLimit (b : Body) (code : Nat) : Nat :=
  match lowest 64 (fun i => b.on (R.DB.EVR_OVR.VALID i) && b.rd (R.DB.EVR_OVR.CODE i) == code) with
  | some i => b.rd (R.DB.EVR_OVR.LIMIT i)
  | none => b.rd (R.DB.EVR_RATE.LIMIT (code / 0x1000))

/-- A record enters DB's queue, or is lost when 256 records wait (R398). -/
def Body.enqueueRec (b : Body) (r : EvRec) : Body :=
  if b.obs.evQueue.length < 256 then
    ({ b with obs := { b.obs with evQueue := b.obs.evQueue ++ [r] } }).wr R.DB.EVR_STATUS.QUEUE (b.obs.evQueue.length + 1)
  else
    ({ b with obs := { b.obs with evLostFlag := true, evLostCount := b.obs.evLostCount + 1 } }).add R.DB.EVR_LOST.VALUE 1

/-- What the recorder counts of an event code in this second. -/
def Body.codeCount (b : Body) (code : Nat) : CodeCount :=
  SMap.getD b.obs.evCodes code ⟨0, 0, 0xFFFF, 0xFF, 0⟩

/-- The count of an event code replaced. -/
def Body.setCodeCount (b : Body) (code : Nat) (c : CodeCount) : Body :=
  { b with obs := { b.obs with evCodes := SMap.insert b.obs.evCodes code c } }

/-- An event is recorded (R396) unless its code has reached its limit in this TB2 second (R397). -/
def Body.recordEvent (b : Body) (r : EvRec) : Body :=
  let c := b.codeCount r.code
  let lim := b.eventLimit r.code
  if lim ≠ 0 ∧ lim ≤ c.written then
    b.setCodeCount r.code ⟨c.written, c.suppressed + 1, r.source, r.level, r.island⟩
  else (b.setCodeCount r.code { c with written := c.written + 1 }).enqueueRec r

/-- 24 detail bytes from those given. -/
def detail24 (d : Bytes) : Bytes := slice d 0 24

/-- An event that is no fault occurrence: island `i` writes its trace entry and the record (R389, R396, R463). -/
def Body.event (b : Body) (code i : Nat) (d : Bytes) : Body :=
  (b.recordEvent { stamp := b.recordStamp i, code := code, source := 0xFFFF, count := 0, level := 0xFF, flags := 0,
                   island := i, detail := detail24 d }).trace i code 0 0 false

/-- The requester type of a master in records (R319). -/
def masterReq : Master → Nat
  | .host => 6
  | .mg => 7
  | .ct => 12
  | .sc => 9
  | .db => 8
  | .tile => 1

/-- The configuration event 0x5g40 of R396 with its reason: 0 refused, 1 locked, 2 master not honoured, 3 closed. -/
def Body.cfgEvent (b : Body) (m : Master) (i off v reason : Nat) : Body :=
  b.event (0x5040 + groupOf i * 0x100) i (leBytes 4 off ++ leBytes 8 v ++ leBytes 1 (masterReq m) ++ leBytes 1 reason)

/-! ## Fault reports (R315, R319) -/

/-- An occurrence with no address, of which the raising island itself is the master. -/
def occ (src : Nat) : Occurrence := { source := src, addr := 0, master := src / 64 * 64, reqType := 0, access := 0 }

/-- The unit that an entry shows (R388): sub-channel, link, tile slot or junction port; 0 in any other island. -/
def traceUnit (source unit : Nat) : Nat :=
  let i := source / 64
  if 16 ≤ i ∧ i < 24 then unit % 128 else if 24 ≤ i ∨ (10 ≤ i ∧ i < 14) then unit else 0

/-- A source is raised: the raising island writes its trace entry (R389), a severity trigger arms its ring (R390), and the
report goes on the fault tree with the level as it stands now (R315) and the island's stamp. A reserved source is never
raised (R314).  `hang`: the occurrence is a hang that SB detected, whose entry is a trigger's where such triggers are enabled. -/
def Body.raiseAs (b : Body) (o : Occurrence) (unit : Nat) (hang : Bool) : Body :=
  match defaultLevel o.source with
  | none => b
  | some _ =>
    let i := o.source / 64
    let lev := b.rd (R.CT.SEVERITY.LEVEL o.source)
    let trig := b.on R.DB.TRIG_CTRL.SEV_ENABLE && decide (b.rd R.DB.TRIG_CTRL.SEV_LEVEL ≤ lev)
    let rep : Report :=
      { source := o.source, level := lev, addr := o.addr, master := o.master, reqType := o.reqType, access := o.access,
        at_ := b.ns 0, stamp := b.stamp 0 i, period := b.period, inJob := b.jobRuns, unit := unit }
    let b1 := b.trace i (eventOfSource o.source) (traceUnit o.source unit) o.addr
      (trig || (hang && b.on R.DB.TRIG_CTRL.HANG_ENABLE))
    let b2 := if trig then b1.trigger i else b1
    { b2 with cont := { b2.cont with tree := b2.cont.tree ++ [rep] } }

/-- A source is raised that is no hang. -/
def Body.raiseOcc (b : Body) (o : Occurrence) (unit : Nat) : Body := b.raiseAs o unit false

/-- A source with no address is raised. -/
def Body.raise (b : Body) (src : Nat) : Body := b.raiseOcc (occ src) 0

/-- Source n of island i. -/
def Body.raiseN (b : Body) (i n : Nat) : Body := b.raise (i * 64 + n)

/-- A weighted increment of the wear of part p since the last update (R331). -/
def Body.wearBy (b : Body) (p n : Nat) : Body :=
  { b with cont := { b.cont with wear := SMap.insert b.cont.wear p (SMap.getD b.cont.wear p 0 + n) } }

/-! ## Open captures (R332) -/

/-- `f` on every capture that `p` names and whose outcome is open, the one held and those released. -/
def Body.onOpen (b : Body) (p : Capture → Bool) (f : Capture → Capture) : Body :=
  let g (c : Capture) : Capture := if c.open_ && p c then f c else c
  { b with cont := { b.cont with cap := b.cont.cap.map g, past := b.cont.past.map g } }

/-- The open captures of one part, and those of one source of a link (R332). -/
def Body.onPart (b : Body) (kind part : Nat) (f : Capture → Capture) : Body :=
  b.onOpen (fun c => c.kind == kind && c.part == part) f
def Body.onLinkSource (b : Body) (n : Nat) (ms : List Nat) (f : Capture → Capture) : Body :=
  b.onOpen (fun c => c.kind == 3 && c.part == n && ms.contains (c.rep.source % 8)) f

/-- An outcome is final: a record already emitted needs a follow-up (R332). -/
def Capture.settled (c : Capture) : Capture := { c with open_ := false, late := c.late || c.emitted.isSome }

/-- A sub-channel is retired and another serves its slot; or a link's repeat has come through (R332, R333). -/
def Capture.retiredFor (c : Capture) (t : Nat) : Capture := { c with retired := true, replacement := t }.settled
def Capture.repeated (c : Capture) : Capture := { c with repeatRun := true, transient := true }.settled

/-- A cause of the running period's seal (R41 byte 13). -/
def Body.addCause (b : Body) (c : Nat) : Body := { b with job := { b.job with causes := b.job.causes ||| 2 ^ c } }

/-! ## Parts of State by name -/

def Body.tile (b : Body) (nn : Nat) : Tile := SMap.getD b.tiles nn Tile.init
def Body.setTile (b : Body) (nn : Nat) (t : Tile) : Body := { b with tiles := SMap.set b.tiles nn t Tile.init }
def Body.memi (b : Body) (k : Nat) : MemIsland := SMap.getD b.mems k MemIsland.init
def Body.setMemi (b : Body) (k : Nat) (m : MemIsland) : Body := { b with mems := SMap.set b.mems k m MemIsland.init }
def Body.lnk (b : Body) (n : Nat) : Link := SMap.getD b.links n Link.init
def Body.setLnk (b : Body) (n : Nat) (l : Link) : Body := { b with links := SMap.set b.links n l Link.init }
def Body.jn (b : Body) (k : Nat) : Junction := SMap.getD b.fab.junctions k Junction.init
def Body.setJn (b : Body) (k : Nat) (j : Junction) : Body :=
  { b with fab := { b.fab with junctions := SMap.set b.fab.junctions k j Junction.init } }

/-- The registers that mirror the tile map: `T.TILE_STATUS` and the free siding tiles (R323, R325). -/
def Body.refreshMap (b : Body) : Body :=
  let free := (List.range 4).foldl
    (fun acc k => if !b.retired (sidingTile k) && (b.logicalOf (sidingTile k)).isNone then acc + 2 ^ k else acc) 0
  (b.wr R.CT.SIDINGS.FREE free).wr R.CT.STATUS.SIDINGS_FREE (countUpTo 4 (fun k => bit free k))

end Sys2Proof.Machine
end

