-- ==== Sys2Proof/Machine/Units.lean ====
section
/-! DEFINITION. LPDDR by the unit (spec/09_memory.md R215, R219, R224, R230): the interleave, lost units and what a write does to
them, activations, and the ranges whose sub-channels keep a request waiting. -/

namespace Sys2Proof.Machine

/-- The logical sub-channel of a local address, and the offset within it (R219). -/
def subOf (a : Nat) : Nat × Nat :=
  let u := a / 256
  let r := u / 960
  ((u % 960 + 97 * (r % 960)) % 960, r * 256 + a % 256)

/-- The local address of an offset of a logical sub-channel: the interleave is a bijection (R219). -/
def addrOf (c o : Nat) : Nat :=
  let r := o / 256
  (r * 960 + (c + 960 * 97 - 97 * (r % 960)) % 960) * 256 + o % 256

/-! ## Islands on the way (R23, R24) -/

/-- The physical tile and SRAM offset of a resolved address; none for LPDDR. -/
def tileOfAddr (p : Nat) : Option (Nat × Nat) :=
  if p < lpddrEnd then none else some ((p - 0xF00000000000) / 2 ^ 24, p % 2 ^ 24)

/-- The island of a resolved address, and its junction. -/
def islandOf (p : Nat) : Nat :=
  match tileOfAddr p with
  | some (nn, _) => iT nn
  | none => iM ((subOf p).1 % 8)
def junctionOf (p : Nat) : Nat :=
  match tileOfAddr p with
  | some (nn, _) => junctionOfTile nn
  | none => (subOf p).1 % 8 / 2

/-- The islands that a range of resolved addresses touches: LPDDR is interleaved by 256 bytes, and 4 KiB of it touch all eight
islands (R219). -/
def islandsOf (p n : Nat) : List Nat :=
  match tileOfAddr p with
  | some (nn, _) => [iT nn, iJ (junctionOfTile nn)]
  | none => (List.range ((min n 4096 + 255 + p % 256) / 256)).flatMap (fun i =>
      [islandOf (p + 256 * i), iJ (junctionOf (p + 256 * i))])

/-- Every island that a range touches is in service. -/
def Body.reachable (b : Body) (p n : Nat) : Bool := (islandsOf p n).all b.inService

/-- The straits of a unit of the module are open on its own side (R23): UE, SN and the memory islands have one to each junction, the
others to the junctions that the table of R23 gives them. -/
def Body.straitOk (b : Body) (i : Nat) : Bool :=
  if i = iMG ∨ i = iSC then b.inService (iJ 3)
  else if i = iDB then b.inService (iJ 1)
  else if i = iHI then b.inService (iJ 0) || b.inService (iJ 2)
  else if 24 ≤ i ∧ i < 32 then b.inService (iJ ((i - 24) / 2))
  else if 32 ≤ i then b.inService (iJ (junctionOfTile (i - 32)))
  else true

/-- An island answers reads: it is in service, or a tile whose logic SB holds in reset, whose SRAM stays readable (R420). -/
def Body.answersRead (b : Body) (i : Nat) : Bool := b.inService i || (decide (32 ≤ i) && b.sb.heldTiles.contains (i - 32))

/-- Unit `i` can read a range: every strait on the way passes the read. -/
def Body.readable (b : Body) (i a n : Nat) : Bool := b.straitOk i && (islandsOf a n).all b.answersRead

/-- Every strait between unit `i` and the bytes of a range is open; else the words that meet a closed one are refused (R24). -/
def Body.crosses (b : Body) (i a n : Nat) : Bool := b.straitOk i && b.reachable a n

/-! ## Units, lost units (R215, R224) -/

/-- The start of the unit that holds an address. -/
def unitOf (a : Nat) : Nat := a / 32 * 32

/-- A unit's data is lost. -/
def Body.isLost (b : Body) (a : Nat) : Bool := b.lost.contains (unitOf a)

/-- The starts of the units that a range touches. -/
def unitsOf (a n : Nat) : List Nat := if n = 0 then [] else (List.range ((a + n - 1) / 32 - a / 32 + 1)).map (fun i => unitOf a + 32 * i)

/-- A range touches a lost unit. -/
def Body.anyLost (b : Body) (a n : Nat) : Bool := (unitsOf a n).any b.isLost

/-- Numbers rising, with `x` put in. -/
def insertNat (x : Nat) : List Nat → List Nat
  | [] => [x]
  | y :: ys => if x = y then y :: ys else if x < y then x :: y :: ys else y :: insertNat x ys

/-- A unit becomes lost. -/
def Body.loseUnit (b : Body) (a : Nat) : Body := { b with lost := insertNat (unitOf a) b.lost }

/-- Memory island, logical slot and physical sub-channel of an LPDDR address (R219). -/
def Body.subChannel (b : Body) (a : Nat) : Nat × Nat × Nat :=
  let c := (subOf a).1
  let k := c % 8
  (k, c / 8, b.rd (R.M.REMAP.SC k (c / 8)))

/-- Source n of memory island k for a unit (R234). -/
def Body.raiseM (b : Body) (k n a master req access j : Nat) : Body :=
  b.raiseOcc { source := iM k * 64 + n, addr := a, master := master, reqType := req, access := access } (128 * k + j)

/-- Source 2 for every lost unit that an access of a range meets behind open straits (R224, R234). -/
def Body.lostAccess (b : Body) (a n master req access : Nat) : Body :=
  forEach ((unitsOf a n).filter (fun u => decide (u < lpddrEnd) && b.isLost u && b.reachable u 1)) (fun u t =>
    let s := t.subChannel u
    t.raiseM s.1 2 u master req access s.2.2) b

/-- The running copy of the island has passed the unit of an address (R226): it is below the pointer. -/
def Body.copied (b : Body) (a : Nat) : Bool :=
  let s := b.subChannel a
  b.on (R.M.COPY_STATUS.ACTIVE s.1) && b.rd (R.M.COPY_STATUS.SRC s.1) == s.2.2
    && decide ((subOf a).2 / 256 < b.rd (R.M.COPY_STATUS.POINTER s.1))

/-- The sub-channel that serves a read (R226): the target of a running copy for a unit below its pointer, else the one bound to
the slot. -/
def Body.readChannel (b : Body) (a : Nat) : Nat × Nat :=
  let s := b.subChannel a
  (s.1, if b.copied a then b.rd (R.M.COPY_STATUS.DST s.1) else s.2.2)

/-- An access of the unit of an address opens a bank of physical sub-channel `j` of its island (R212, R230): its activations are
counted, and at the limit that the device advertises a refresh-management command is issued and the count begins again.  The spec
names neither the limit nor what one activation serves: the limit is free, and one unit accessed is one activation (log 96). -/
def Body.activateIn (b : Body) (a j : Nat) : Body :=
  let s := b.subChannel a
  let m := b.memi s.1
  let key := 16 * j + (subOf a).2 / 256 % 16
  let n := SMap.getD m.activations key 0 + 1
  let full := decide (Config.refreshLimit ≤ n)
  b.setMemi s.1 { m with activations := SMap.insert m.activations key (if full then 0 else n),
                         refreshMgmt := SMap.insert m.refreshMgmt key (SMap.getD m.refreshMgmt key 0 + b2n full) }

/-- A read of a unit, and a write of one, which below the pointer of a running copy goes to both sub-channels (R226). -/
def Body.activate (b : Body) (a : Nat) : Body := b.activateIn a (b.readChannel a).2
def Body.activateWrite (b : Body) (a : Nat) : Body :=
  let s := b.subChannel a
  let b1 := b.activateIn a s.2.2
  if b.copied a then b1.activateIn a (b.rd (R.M.COPY_STATUS.DST s.1)) else b1

/-- The reads of a range's units of LPDDR. -/
def Body.activateRange (b : Body) (a n : Nat) : Body :=
  forEach ((unitsOf a n).filter (fun u => decide (u < lpddrEnd))) (fun u t => t.activate u) b

/-- A range's data is delivered to unit `i`: no closed strait refuses the read (R24), and no unit of it is lost (R223). -/
def Body.denied (b : Body) (i a n : Nat) : Bool := !b.readable i a n || b.anyLost a n

/-- Unit `i`, of requester type `req`, reads a range: its bytes, or none where a strait is closed or a unit is lost, with source 2
for each unit that is. -/
def Body.fetch (b : Body) (i req a n : Nat) : Option Bytes × Body :=
  if !b.readable i a n then (none, b)
  else if b.anyLost a n then (none, (b.activateRange a n).lostAccess a n (i * 64) req 1)
  else (some (b.bytes a n), b.activateRange a n)

/-- What unit `i` has of a range that it reads: zeros stand for data that is not delivered, so that no check of form or signature
accepts it (DESIGN CHOICE, log 116). -/
def Body.dataFor (b : Body) (i a n : Nat) : Bytes := if b.denied i a n then List.replicate n 0 else b.bytes a n

/-- A unit that only the running copy has found lost: its source still holds the bytes (R226). -/
def Body.copyOnly (b : Body) (a : Nat) : Bool := (b.memi (b.subChannel a).1).copyLost.contains (unitOf a)

/-- A unit is no longer lost, neither here nor at the target of a copy. -/
def Body.unlose (b : Body) (u : Nat) : Body :=
  let k := (b.subChannel u).1
  let m := b.memi k
  let b1 : Body := { b with lost := b.lost.filter (fun x => x != u) }
  if m.copyLost.contains u then b1.setMemi k { m with copyLost := m.copyLost.filter (fun x => x != u) } else b1

/-- A write to LPDDR by the unit of `master`: a whole unit replaces a lost one, a partial write into a lost unit is discarded and
raises source 2 (R224), and into one that only a copy's target holds as lost it reaches the source (R226); a closed strait refuses
what would cross it (R24). -/
def Body.writeUnits (b : Body) (a : Nat) (bs : Bytes) (master req : Nat) : Body :=
  forEach ((unitsOf a bs.length).filter (fun u => b.crosses (master / 64) u 1)) (fun u t0 =>
    let t := t0.activateWrite u
    let lo := max a u
    let hi := min (a + bs.length) (u + 32)
    let part := (bs.drop (lo - a)).take (hi - lo)
    if !t.isLost u then t.put lo part
    else if hi - lo = 32 then (t.unlose u).put lo part
    else (if t.copyOnly u then t.put lo part else t).lostAccess lo (hi - lo) master req 2) b

/-- Every strait between unit `i` and the memory islands is open. -/
def Body.allPass (b : Body) (i : Nat) : Bool :=
  b.straitOk i && (List.range 8).all (fun k => b.inService (iM k) && b.inService (iJ (k / 2)))

/-- `new`, but with the bytes and marks of `b` wherever a closed strait refused unit `i` a word of a range (R24). -/
def Body.keepShut (b new : Body) (a n i : Nat) : Body :=
  if b.allPass i then new
  else
    let shut (x : Nat) : Bool := decide (a ≤ x) && decide (x < a + n) && !b.crosses i x 1
    { new with
      mem := (b.mem.filter (fun c => shut c.1)).foldl (fun m c => SMap.set m c.1 c.2 0) (new.mem.filter (fun c => !shut c.1)),
      lost := (b.lost.filter (fun u => shut u)).foldl (fun l u => insertNat u l) (new.lost.filter (fun u => !shut u)) }

/-- A store of `f` over a whole range of LPDDR by a unit that writes in bulk: the units it covers whole are no longer lost, a
lost unit that it covers in part keeps its bytes and raises source 2 (R224). -/
def Body.storeWith (b : Body) (a n master req : Nat) (f : Body → Body) : Body :=
  let touched := b.lost.filter (fun u => decide (a < u + 32) && decide (u < a + n))
  let whole (u : Nat) : Bool := decide (a ≤ u) && decide (u + 32 ≤ a + n)
  let kept := touched.filter (fun u => !whole u)
  let b0 := forEach (unitsOf a n) (fun u t => t.activateWrite u) b
  let b1 := f (forEach (touched.filter whole) (fun u t => t.unlose u) b0)
  b.keepShut (forEach kept (fun u t => (if b.copyOnly u then t else t.put u (b.bytes u 32)).lostAccess u 32 master req 2) b1) a n
    (master / 64)

/-- Bytes, zeros, and a copy of a range stored in that way. -/
def Body.storeBytes (b : Body) (a : Nat) (bs : Bytes) (master req : Nat) : Body :=
  b.storeWith a bs.length master req (fun t => t.put a bs)
def Body.storeZeros (b : Body) (a n master req : Nat) : Body := b.storeWith a n master req (fun t => t.clearRange a n)
def Body.storeCopy (b : Body) (src n dst master req : Nat) : Body :=
  b.storeWith dst n master req (fun t => t.copyRange src n dst)

/-- The starts of the 256-byte units of the interleave that a range touches. -/
def linesOf (a n : Nat) : List Nat :=
  if n = 0 then [] else (List.range ((a + n - 1) / 256 - a / 256 + 1)).map (fun i => (a / 256 + i) * 256)

/-- A request for a range of LPDDR waits in the queue of a sub-channel: its island is in service and not ready, or the sub-channel is
under a line test or trains (R221, R233).  1,919 lines in a row meet every sub-channel. -/
def Body.memWaits (b : Body) (a n : Nat) : Bool :=
  (List.range 8).any (fun k =>
    let m := b.memi k
    let idle := b.rd (R.M.STATUS.STATE k) != 2
    b.inService (iM k) && b.inService (iJ (k / 2)) && (idle || !m.held.isEmpty || !m.training.isEmpty) &&
      (linesOf a (min n (256 * 1919))).any (fun u =>
        let s := b.subChannel u
        s.1 == k && (idle || m.held.any (fun h => h.sc == s.2.2) || m.training.any (fun t => t.1 == s.2.2))))

end Sys2Proof.Machine
end

