-- ==== Sys2Proof/Machine/Observe.lean ====
section
/-! DEFINITION. Observation (spec/16_observability.md): monitors, the per-second summary, trace rings and the event
recorder, and the management messages of R440 by which MG sends what they hold. -/

namespace Sys2Proof.Machine

/-! ## Management messages (R440) -/

/-- MG sends a management message: the 16-byte header and the body; frames go out only while the port's link is up. -/
def Body.sendMgmt (b : Body) (type : Nat) (body : Bytes) : Body :=
  if !b.inService iMG || !b.on R.MG.PORT_STATUS.LINK then b
  else
    let hdr := leBytes 4 0x4D584546 ++ [0x01] ++ leBytes 1 type ++ leBytes 2 body.length ++ leBytes 4 b.place
      ++ leBytes 4 b.hi.msgSeq
    (({ b with hi := { b.hi with msgSeq := (b.hi.msgSeq + 1) % 2 ^ 32 } }).add (R.MG.PORT_CNT.COUNT 0) 1).emit
      (.mgmt type (hdr ++ body))

/-- A frame arrives on the management port (`MG.PORT_CNT_1`). -/
def Body.portFrame (b : Body) : Body := b.add (R.MG.PORT_CNT.COUNT 1) 1

/-- A message that fails the test of its length is dropped and counted (R440). -/
def Body.portDrop (b : Body) : Body := b.portFrame.add (R.MG.PORT_CNT.COUNT 2) 1

/-! ## Seconds (R384) -/

/-- The counts of the open second changed. -/
def Body.acc (b : Body) (f : SecondAcc → SecondAcc) : Body := { b with obs := { b.obs with acc := f b.obs.acc } }

/-- Time passes until TB2 has reached `t` ns. -/
def Body.toLocal (b : Body) (t : Nat) : Body := if t ≤ b.ns 2 then b else b.ticks (t - b.ns 2)

/-- TB2 at its next whole second, or as it is when it stands at one (`now`). -/
def Body.toSecond (b : Body) (now : Bool) : Body :=
  if now && b.ns 2 % 10 ^ 9 == 0 then b else b.toLocal ((b.ns 2 / 10 ^ 9 + 1) * 10 ^ 9)

/-! ## Monitors (R386, R387) -/

/-- The island in which a thermal sensor stands: four per tile, then one per other island in ascending index. -/
def islandOfSensor (k : Nat) : Nat :=
  if k < 272 then 32 + k / 4 else ((islands.filter (fun i => decide (i < 32)))[k - 272]?).getD 0

/-- A sensor's last reading in 1/16 °C. -/
def Body.sensor (b : Body) (k : Nat) : Int := SMap.getD b.obs.sensors k 0

/-- The highest of the sensors that satisfy `p`: reading and number. -/
def Body.hottest (b : Body) (p : Nat → Bool) : Int × Nat :=
  ((List.range 302).filter p).foldl
    (fun (acc : Option (Int × Nat)) k =>
      match acc with
      | none => some (b.sensor k, k)
      | some (v, j) => if v < b.sensor k then some (b.sensor k, k) else some (v, j)) none |>.getD (0, 0)

/-- A threshold of `PV.TEMP_CTRL` in 1/16 °C. -/
def Body.degrees (b : Body) (f : Field) : Int := ((16 * b.rd f : Nat) : Int)

/-- A source of R387 with hysteresis: raised when the highest sensor reaches the threshold while it is armed; armed again
once every sensor is below the threshold less HYST. Answers the module and whether the source is armed now. -/
def Body.threshold (b : Body) (n : Nat) (level top : Int) (armed : Bool) : Body × Bool :=
  if armed && decide (level ≤ top) then (b.raiseN iPV n, false)
  else if decide (top < level - b.degrees R.PV.TEMP_CTRL.HYST) then (b, true)
  else (b, armed)

/-- The readings of the sensors go into PV's registers (R386). -/
def Body.showTemps (b : Body) : Body :=
  let top := b.hottest (fun _ => true)
  let b1 := (b.wr R.PV.DIE_TEMP.MAX (unsigned top.1 16)).wr R.PV.DIE_TEMP.SENSOR top.2
  let b2 := forEach islands
    (fun i t => t.wr (R.PV.MON.TEMP i) (unsigned (t.hottest (fun k => islandOfSensor k == i)).1 16)) b1
  forEach (List.range 68)
    (fun nn t => t.wr (R.PV.TILE_TEMP.SENSORS nn)
      ((List.range 4).foldl (fun a i => a + unsigned (t.sensor (4 * nn + i)) 16 * 2 ^ (16 * i)) 0)) b2

/-- A condition of R387 sets its bit of `PV.STATUS`; THERM_TRIP# follows the shutdown condition and stays (R458). -/
def Body.thermTrip (b : Body) (shut : Bool) : Body :=
  if shut && !b.sb.thermTrip then ({ b with sb := { b.sb with thermTrip := true } }).emit (.pin "THERM_TRIP#" true) else b

/-- `THERMAL_SAMPLE` (R386, R387): the readings of the 302 sensors in 1/16 °C, sensor 0 first. -/
def thermalSample (temps : List (BitVec 16)) (b : Body) : Body :=
  if !b.inService iPV then b
  else
    let read (k : Nat) : Int := signed ((temps[k]?).getD 0).toNat 16
    let b1 := ({ b with obs := { b.obs with sensors := (List.range 302).map (fun k => (k, read k)) } }).showTemps
    let top := (b1.hottest (fun _ => true)).1
    let b2 := b1.acc (fun a => { a with maxTemp := some (match a.maxTemp with | some m => max m top | none => top) })
    let hotNow := (List.range 302).foldl
      (fun m k => if decide (b.degrees R.PV.TEMP_CTRL.SHUTDOWN ≤ read k) then m + 2 ^ k else m) 0
    let shut := decide (hotNow &&& b.obs.hot ≠ 0)
    let (b3, wa) := b2.threshold 0 (b.degrees R.PV.TEMP_CTRL.WARN) top b.obs.warnArmed
    let (b4, la) := b3.threshold 1 (b.degrees R.PV.TEMP_CTRL.LIMIT) top b.obs.limitArmed
    let b5 := { b4 with obs := { b4.obs with hot := hotNow, warnArmed := wa, limitArmed := la } }
    let b6 := (b5.wr R.PV.STATUS.WARN (b2n (decide (b.degrees R.PV.TEMP_CTRL.WARN ≤ top)))).wr R.PV.STATUS.LIMIT
      (b2n (decide (b.degrees R.PV.TEMP_CTRL.LIMIT ≤ top)))
    (if shut then b6.raiseN iPV 2 else b6).thermTrip shut

/-- What PV knows of an island's supply: readings out of range and in range in a row, and whether source 3 may rise. -/
def Body.supplyOf (b : Body) (i : Nat) : Nat × Nat × Bool := SMap.getD b.obs.supply i (0, 0, true)

/-- One reading (mV) of an island's supply (R387 source 3). -/
def Body.supplyReading (b : Body) (i mv : Nat) : Body :=
  let out := decide (mv < b.rd R.PV.VOLT_CTRL.VLOW) || decide (b.rd R.PV.VOLT_CTRL.VHIGH < mv)
  let dwell := b.rd R.PV.VOLT_CTRL.DWELL
  let (o, n, may) := b.supplyOf i
  let b1 := (b.wr (R.PV.MON.SUPPLY i) mv).acc (fun a =>
    { a with minSupply := some (match a.minSupply with | some m => min m mv | none => mv),
             maxSupply := some (match a.maxSupply with | some m => max m mv | none => mv) })
  let keep (x : Nat × Nat × Bool) : Body := { b1 with obs := { b1.obs with supply := SMap.insert b1.obs.supply i x } }
  if out then
    if may && decide (dwell < o + 1) then
      (keep (o + 1, 0, false)).raiseOcc { occ (iPV * 64 + 3) with master := i * 64 } i
    else keep (o + 1, 0, may)
  else keep (0, n + 1, may || decide (dwell ≤ n + 1))

/-- `SUPPLY_SAMPLE` (R386, R387): the readings of the 98 islands in mV, in ascending island index. -/
def supplySample (mv : List (BitVec 16)) (b : Body) : Body :=
  if !b.inService iPV then b
  else
    let b1 := forEach (islands.zipIdx) (fun e t => t.supplyReading e.1 ((mv[e.2]?).getD 0).toNat) b
    b1.wr R.PV.STATUS.SUPPLY (b2n (islands.any (fun i => decide ((b1.supplyOf i).1 ≠ 0))))

/-- `PROCESS_SAMPLE` (R386): oscillator cycles per µs of the 98 islands, in ascending island index. -/
def processSample (cycles : List (BitVec 16)) (b : Body) : Body :=
  if !b.inService iPV then b
  else forEach (islands.zipIdx) (fun e t => t.wr (R.PV.MON.PROCESS e.1) ((cycles[e.2]?).getD 0).toNat) b

/-- `DROOP_STRETCH` (R21, R387 source 4): the island's clock is stretched; nothing else of the island changes. -/
def droopStretch (i : Nat) (b : Body) : Body :=
  if !isIsland i then b
  else
    ((({ b with sb := { b.sb with stretching := b.sb.stretching ||| 2 ^ i } }).sat (R.PV.MON.STRETCH i) 1).acc
      (fun a => { a with stretches := a.stretches + 1 })).raiseOcc { occ (iPV * 64 + 4) with master := i * 64 } i

/-! ## The per-second summary (R383 to R385) -/

/-- The nominal clock of an island in cycles per second (R20). -/
def islandClock (i : Nat) : Nat :=
  if i < 2 then 1000000000 else if i = 8 ∨ i = 9 then 2000000000 else if i < 10 then 1200000000
  else if i < 14 then 2000000000 else if i < 24 then 1800000000 else if i < 32 then 1750000000 else 2400000000

/-- A share in 1/10,000 of the cycles that an island's clock ran in the span, at most all of them. -/
def share (count ran : Nat) : Nat := min (count * 10000 / max ran 1) 10000

/-- How far a counter that wraps modulo 2⁶⁴ (R383) has come since it read `at_`. -/
def since (now at_ : Nat) : Nat := (now + 2 ^ 64 - at_) % 2 ^ 64

/-- The bytes of a summary but for its CRC. -/
def Body.summaryHead (b : Body) (span : Nat) : Bytes :=
  let a := b.obs.acc
  leBytes 4 0x53554D31 ++ leBytes 2 0x0100 ++ leBytes 2 4096 ++ leBytes 4 b.place ++ leBytes 1 span ++ zeros 3
    ++ leBytes 12 (b.recordStamp iPV) ++ leBytes 4 b.obs.sumSeq ++ leBytes 8 (a.first.getD (2 ^ 64 - 1))
    ++ leBytes 4 a.periods ++ leBytes 4 a.voidSeals ++ leBytes 4 a.missing ++ leBytes 4 a.late ++ leBytes 4 a.replays
    ++ leBytes 4 a.stretches ++ leBytes 2 (unsigned (a.maxTemp.getD 0) 16) ++ leBytes 2 (a.minSupply.getD 0)
    ++ leBytes 2 (a.maxSupply.getD 0) ++ zeros 2 ++ leBytes 8 a.codewords ++ leBytes 8 a.retried ++ leBytes 8 a.deflections
    ++ leBytes 8 a.duplicates ++ leBytes 8 a.transients ++ leBytes 8 a.occurrences ++ zeros 8

/-- The whole summary (R385). -/
def Body.summary (b : Body) (span : Nat) : Bytes :=
  let busy := (List.range 100).flatMap (fun i =>
    leBytes 2 (share (since (b.rd (R.PV.ISL_BUSY.COUNT i)) (SMap.getD b.obs.busyAt i 0)) (SMap.getD b.obs.ran i 0)))
  let stall := (List.range 100).flatMap (fun i =>
    leBytes 2 (share (since (b.rd (R.PV.ISL_STALL.COUNT i)) (SMap.getD b.obs.stallAt i 0)) (SMap.getD b.obs.ran i 0)))
  let wear := (List.range 1172).flatMap (fun p => leBytes 2 (b.rd (R.CT.WEAR.SCORE p)))
  let body := b.summaryHead span ++ busy ++ stall ++ zeros 496 ++ wear ++ zeros 724
  body ++ leBytes 4 (crc32 body)

/-- Cycles in which islands worked and waited, as counted outside the model, are added (R383; log 8): island, busy,
stall, and the cycles that its clock ran in the second, which are the nominal ones for an island that is not listed.  A closed island
adds nothing. -/
def Body.addCycles (b : Body) (cycles : List (Nat × Nat × Nat × Nat)) : Body :=
  let b1 := forEach cycles (fun c t =>
    if t.inService c.1 then (t.add (R.PV.ISL_BUSY.COUNT c.1) c.2.1).add (R.PV.ISL_STALL.COUNT c.1) c.2.2.1 else t) b
  let ran (i : Nat) : Nat := match cycles.find? (fun c => c.1 == i) with
    | some c => c.2.2.2
    | none => islandClock i
  { b1 with obs := { b1.obs with ran := (List.range 100).map (fun i => (i, SMap.getD b.obs.ran i 0 + ran i)) } }

/-- `SECOND_SUMMARY` (R384): TB2's seconds increment and the summary of the second is written to the buffer that does not
hold the newest, unless the writing of the previous one still runs (`overlap`), when the next summary covers both. -/
def secondSummary (cycles : List (Nat × Nat × Nat × Nat)) (overlap : Bool) (b : Body) : Body :=
  let b := (b.toSecond false).addCycles cycles
  if !b.inService iPV then b
  else if overlap then { b with obs := { b.obs with sumOverrun := true } }
  else
    let span := if b.obs.sumOverrun then 2 else 1
    let bytes := b.summary span
    let buf := 1 - b.rd R.PV.SUM_STATUS.NEWEST
    let b1 := ((b.wr (R.PV.SUMMARY.SUMMARY buf) (leNat bytes)).wr R.PV.SUM_STATUS.NEWEST buf).wr R.PV.SUM_STATUS.SEQ
      b.obs.sumSeq
    let b2 : Body := { b1 with obs := { b1.obs with
      acc := .init, ran := [], sumSeq := (b.obs.sumSeq + 1) % 2 ^ 32, sumOverrun := false,
      busyAt := (List.range 100).map (fun i => (i, b.rd (R.PV.ISL_BUSY.COUNT i))),
      stallAt := (List.range 100).map (fun i => (i, b.rd (R.PV.ISL_STALL.COUNT i))) } }
    ((b2.sampled iPV).irq 8).sendMgmt 0x03 bytes

/-! ## Trace rings (R391, R392) -/

/-- `DB.STATUS.ANY_FROZEN` shows whether a ring is frozen. -/
def Body.showFrozen (b : Body) : Body :=
  b.wr R.DB.STATUS.ANY_FROZEN (b2n (islands.any (fun i => b.on (R.DB.RING.FROZEN i))))

/-- `RING_FREEZE` (R391): an armed ring that has written its post-trigger entries freezes. -/
def ringFreeze (i : Nat) (b : Body) : Body :=
  if isIsland i && b.on (R.DB.RING.ARMED i) && (b.ring i).left == 0 then
    ((((b.wr (R.DB.RING.ARMED i) 0).wr (R.DB.RING.FROZEN i) 1).showFrozen).raiseOcc (occ (iDB * 64)) i)
  else b

/-- A frozen ring is released (R392). -/
def Body.releaseRing (b : Body) (i : Nat) : Body :=
  if b.on (R.DB.RING.FROZEN i) then
    ((b.wr (R.DB.RING.FROZEN i) 0).wr (R.DB.RING.DROPPED i) 0).setRing i { b.ring i with left := 0, released := true }
  else b

/-- `RING_RELEASE` (R392): a write of `DB.RING_RELEASE` with GO, honoured from host and MG. -/
def ringRelease (m : Master) (i : Nat) (all : Bool) (b : Body) : Body :=
  let v := i % 128 + 128 * b2n all + 256
  if !b.inService iDB then b.cfgEvent m iDB 0x18 v 3
  else if m ≠ .host ∧ m ≠ .mg then b.cfgEvent m iDB 0x18 v 2
  else
    let b1 := (b.wr R.DB.RING_RELEASE.ISLAND i).wr R.DB.RING_RELEASE.ALL (b2n all)
    let b2 := if all then forEach islands (fun j t => t.releaseRing j) b1 else if isIsland i then b1.releaseRing i else b1
    b2.showFrozen.event 0xA645 iDB []

/-- The 16 bytes of a trace entry (R388). -/
def TraceEntry.toBytes (e : TraceEntry) : Bytes :=
  leBytes 6 e.time ++ leBytes 2 e.code ++ leBytes 1 e.flags ++ leBytes 1 e.unit ++ leBytes 6 e.data

/-- A ring's entries, the oldest first (R402). -/
def ringBytes (r : Ring) : Bytes := r.entries.reverse.flatMap TraceEntry.toBytes

/-- Where the saved copy of the entry that `DB.RING_SEL` names lies in the dump harbour (R392, R402). -/
def Body.savedEntry (b : Body) : Nat :=
  b.rd R.DB.DUMP_BASE.ADDR * 2 ^ 28 + 0x400000 + 0x4000 * b.rd R.DB.RING_SEL.ISLAND + 16 * b.rd R.DB.RING_SEL.ENTRY

/-- The entry of a trace ring that `DB.RING_SEL` names (R392); a place that holds none yet reads 0 (log 111). -/
def Body.selectedEntry (b : Body) : Bytes :=
  let i := b.rd R.DB.RING_SEL.ISLAND
  let o := 16 * b.rd R.DB.RING_SEL.ENTRY
  if b.on R.DB.RING_SEL.SAVED then b.dataFor iDB b.savedEntry 16
  else slice (ringBytes (b.ring i)) o 16

/-- `DB.RING_DATA_LO` and `DB.RING_DATA_HI` take the entry that a write of `DB.RING_SEL` names (R392): so host software and MG read a
ring, without disturbing it.  A saved copy is read over DB's straits. -/
def Body.showEntry (b : Body) : Body :=
  let e := b.selectedEntry
  let b1 := if b.on R.DB.RING_SEL.SAVED then (b.fetch iDB 8 b.savedEntry 16).2 else b
  (b1.wr R.DB.RING_DATA_LO.ENTRY (le e 0 8)).wr R.DB.RING_DATA_HI.ENTRY (le e 8 8)

/-! ## The hang dump starts (R401, R402) -/

/-- Bytes of the dump harbour, stored by DB (R224, R402). -/
def Body.harbourStore (b : Body) (off : Nat) (bs : Bytes) : Body :=
  b.storeBytes (b.rd R.DB.DUMP_BASE.ADDR * 2 ^ 28 + off) bs (iDB * 64) 8

/-- DB reaches the harbour: J1, where its strait ends, and the memory islands with their junctions, over which every 256 MiB are
interleaved (R23, R219). -/
def Body.harbourUp (b : Body) : Bool :=
  (List.range 8).all (fun k => b.inService (iM k)) && (List.range 4).all (fun k => b.inService (iJ k))

/-- A dump is refused, skipped or ignored: counted and recorded (R401). -/
def Body.dumpSkipped (b : Body) : Body := (b.sat R.DB.DUMP_STATUS.SKIPPED 1).event 0xA644 iDB []

/-- A dump starts: cause 0 host, 1 MG, 2 hang. A request during a running dump is ignored; a held dump refuses a request,
and a held hang dump skips a hang's. DB first clears the valid mark. -/
def Body.startDump (b : Body) (cause : Nat) : Body :=
  let held := b.on R.DB.DUMP_STATUS.HELD
  if b.obs.dump.isSome || (held && (cause != 2 || b.rd R.DB.DUMP_STATUS.CAUSE == 2)) then b.dumpSkipped
  else
    let o := { b.obs with dump := some (cause, b.stamp 2 iDB, b.sb.closed &&& allIslands), dumpAt := b.ns 2, dumpSeq := b.obs.dumpSeq + 1 }
    let b1 : Body := { b with obs := o }
    (((b1.sampled iDB).wr R.DB.DUMP_STATUS.STATE 1).wr R.DB.DUMP_STATUS.HELD 0).when b.harbourUp (fun t => t.harbourStore 4092 (zeros 4))

/-! ## The event recorder (R393 to R400) -/

/-- The 64 bytes of a record with its sequence (R394). -/
def EvRec.toBytes (r : EvRec) (seq : Nat) : Bytes :=
  let h := leBytes 8 seq ++ leBytes 12 r.stamp ++ leBytes 2 r.code ++ leBytes 2 r.source ++ leBytes 4 r.count
    ++ leBytes 1 r.level ++ leBytes 1 r.flags ++ leBytes 2 r.island ++ slice r.detail 0 24
  h ++ leBytes 4 (crc32 h) ++ leBytes 4 0x44564552

/-- Records of the log's 1,023 erase blocks (R393). -/
def evLogSize : Nat := 1047552

/-- `EVENT_RECORD_WRITE` (R393, R394, R398): DB writes the oldest queued record; a full log first loses its oldest block. -/
def eventRecordWrite (b : Body) : Body :=
  match b.obs.evQueue with
  | [] => b
  | r :: rest =>
    if !b.inService iDB then b else
    let seq := b.rd R.DB.EVR_SEQ_NEXT.VALUE
    let log := if evLogSize ≤ b.obs.evLog.length then b.obs.evLog.take (b.obs.evLog.length - 1024) else b.obs.evLog
    let r := if b.obs.evLostFlag then { r with flags := r.flags ||| 2 } else r
    let log := (seq, r) :: log
    let b1 : Body := { b with obs := { b.obs with evQueue := rest, evLog := log, evLostFlag := false } }
    ((b1.wr R.DB.EVR_SEQ_NEXT.VALUE (seq + 1)).wr R.DB.EVR_STATUS.QUEUE rest.length).wr R.DB.EVR_SEQ_OLD.VALUE
      (match log.getLast? with | some e => e.1 | none => seq)

/-- A record of the recorder itself, exempt from every limit (R397), with its entry in DB's ring (R389; log 111). -/
def Body.ownRecord (b : Body) (r : EvRec) : Body := (b.enqueueRec r).trace iDB r.code 0 0 false

/-- `EVR_SECOND_BOUNDARY` (R397, R398): suppression summaries in ascending code, then the count of lost records,
which stands for the next second if its own record finds the queue full. -/
def evrSecondBoundary (b : Body) : Body :=
  let b := b.toSecond true
  let b1 := forEach b.obs.evCodes (fun e t =>
    if e.2.suppressed = 0 then t
    else t.ownRecord { stamp := t.recordStamp iDB, code := 0xA642, source := e.2.source, count := e.2.suppressed,
                       level := e.2.level, flags := 1, island := e.2.island, detail := detail24 (leBytes 2 e.1) }) b
  let lost := b1.obs.evLostCount
  let b2 : Body := { b1 with obs := { b1.obs with evCodes := [] } }
  let told : Body := if b2.obs.evQueue.length < 256 then { b2 with obs := { b2.obs with evLostCount := 0 } } else b2
  if lost = 0 then b2
  else told.ownRecord { stamp := b2.recordStamp iDB, code := 0xA641, source := 0xFFFF, count := 0, level := 0xFF,
                        flags := 0, island := iDB, detail := detail24 (leBytes 8 lost) }

/-- The master that a read port serves (R399). -/
def portMaster (p : Nat) : Master := if p = 0 then .host else .mg

/-- `EVR_READ` (R399): a write of `DB.EVR_READ_SEQ_p`. -/
def evrRead (m : Master) (p seq : Nat) (b : Body) : Body :=
  let off := 0xC00 + 0x80 * p
  if !b.inService iDB then b.cfgEvent m iDB off seq 3
  else if m ≠ portMaster p then b.cfgEvent m iDB off seq 2
  else
    let b1 := (b.wr (R.DB.EVR_READ_SEQ.SEQ p) seq).wr (R.DB.EVR_READ_STATUS.BUSY p) 1
    { b1 with obs := { b1.obs with evReads := SMap.insert b1.obs.evReads p seq } }

/-- The record with a sequence, in the log or in the clear history (R393). -/
def Body.findRecord (b : Body) (seq : Nat) : Option EvRec :=
  match (b.obs.evLog ++ b.obs.evClears).find? (fun e => e.1 == seq) with
  | some e => some e.2
  | none => none

/-- The status of R399 for a sequence; `flashError` when the flash fails. -/
def Body.recordStatus (b : Body) (seq : Nat) (flashError : Bool) : Nat :=
  if flashError then 3
  else if b.rd R.DB.EVR_SEQ_NEXT.VALUE ≤ seq then 2
  else if (b.findRecord seq).isSome then 0 else 1

/-- `EVR_READ_COMPLETE` (R399): a record that is present fills the port's data. -/
def evrReadComplete (p : Nat) (flashError : Bool) (b : Body) : Body :=
  match SMap.find b.obs.evReads p with
  | none => b
  | some seq =>
    let st := b.recordStatus seq flashError
    let b1 : Body := { b with obs := { b.obs with evReads := SMap.erase b.obs.evReads p } }
    let b2 := (b1.wr (R.DB.EVR_READ_STATUS.BUSY p) 0).wr (R.DB.EVR_READ_STATUS.STATUS p) st
    match b.findRecord seq with
    | some r =>
      if st = 0 then
        forEach (List.range 8) (fun k t => t.wr (R.DB.EVR_READ_DATA.BYTES p k) (le (r.toBytes seq) (8 * k) 8)) b2
      else b2
    | none => b2

/-- `EVENT_RECORD_READ` (R440 type 0x0A): the record is read through MG's port and sent with its status before it. -/
def eventRecordRead (seq : Nat) (flashError : Bool) (b : Body) : Body :=
  let b := b.portFrame
  if !b.inService iMG || !b.inService iDB then b
  else
    let b1 := evrReadComplete 1 flashError (evrRead .mg 1 seq b)
    let rec_ := match b.findRecord seq with
      | some r => if b.recordStatus seq flashError = 0 then r.toBytes seq else zeros 64
      | none => zeros 64
    b1.sendMgmt 0x0B (leBytes 1 (b.recordStatus seq flashError) ++ rec_)

/-! ## The meanings -/

def execThermalSample (temps : List (BitVec 16)) (s : State) := run (thermalSample temps) s
def execSupplySample (mv : List (BitVec 16)) (s : State) := run (supplySample mv) s
def execProcessSample (cycles : List (BitVec 16)) (s : State) := run (processSample cycles) s
def execDroopStretch (i : Fin 100) (s : State) := run (droopStretch i.val) s
def execSecondSummary (cycles : List (Nat × Nat × Nat × Nat)) (overlap : Bool) (s : State) := run (secondSummary cycles overlap) s
def execRingFreeze (i : Fin 100) (s : State) := run (ringFreeze i.val) s
def execRingRelease (m : Master) (i : Fin 100) (all : Bool) (s : State) :=
  run (Body.written [iDB] 0x18 (ringRelease m i.val all)) s
def execEventRecordWrite (s : State) := run eventRecordWrite s
def execEvrSecondBoundary (s : State) := run evrSecondBoundary s
def execEvrRead (m : Master) (p : Fin 2) (seq : BitVec 64) (s : State) :=
  run (Body.written [iDB] (0xC00 + 0x80 * p.val) (evrRead m p.val seq.toNat)) s
def execEvrReadComplete (p : Fin 2) (flashError : Bool) (s : State) := run (evrReadComplete p.val flashError) s
def execEventRecordRead (seq : BitVec 64) (flashError : Bool) (s : State) := run (eventRecordRead seq.toNat flashError) s

end Sys2Proof.Machine
end

