-- ==== Sys2Proof/Machine/Packet.lean ====
section
/-! DEFINITION. Fabric packets and routes (spec/11_fabric_routing.md R260 to R268, spec/01_architecture.md R19): the header's
layout, the links of a port, route lookup, slice entries, and how a packet of local origin joins its junction's queue. -/

namespace Sys2Proof.Machine

/-! ## The header (R260) -/

/-- Flag bits of byte 12. -/
abbrev flDoubled := 1
abbrev flRailB := 2
abbrev flLast := 4
abbrev flUnplanned := 8

/-- Bytes 0 to 30 of a packet's header, with the deflection count given. -/
def headerBytes (p : Packet) (defl : Nat) : Bytes :=
  leBytes 4 p.dest ++ leBytes 4 p.source ++ leBytes 2 p.tag ++ leBytes 2 p.epoch ++ leBytes 1 (p.cls * 16 + p.flags)
    ++ leBytes 1 defl ++ leBytes 2 p.payload.length ++ leBytes 4 p.seq ++ leBytes 2 p.counter ++ leBytes 6 p.addr
    ++ leBytes 2 p.period ++ leBytes 1 p.op

/-- The packet CRC-32 (R263): bytes 13 and 31 count as zero. -/
def packetCrc (p : Packet) : Nat := crc32 (headerBytes p 0 ++ [0] ++ p.payload)

/-- A whole packet (R260, R263). -/
def packetBytes (p : Packet) : Bytes :=
  let h := headerBytes p p.defl
  h ++ leBytes 1 (crc8 h) ++ p.payload ++ leBytes 4 (packetCrc p)

/-- The fields of a packet's bytes; the payload is what the length field names. -/
def parsePacket (bs : Bytes) : Packet :=
  { dest := le bs 0 4, source := le bs 4 4, tag := le bs 8 2, epoch := le bs 10 2, cls := le bs 12 1 / 16,
    flags := le bs 12 1 % 16, defl := le bs 13 1, seq := le bs 16 4, counter := le bs 20 2, addr := le bs 22 6,
    period := le bs 28 2, op := le bs 30 1, payload := slice bs 32 (le bs 14 2) }

/-- The header CRC-8 of received bytes matches (R263). -/
def headerCrcOk (bs : Bytes) : Bool := le bs 31 1 = crc8 (slice bs 0 31)

/-- The packet CRC-32 of received bytes matches (R263): header and payload with bytes 13 and 31 as zero. -/
def packetCrcOk (bs : Bytes) : Bool :=
  let n := le bs 14 2
  le bs (32 + n) 4 = crc32 (overlay (overlay (slice bs 0 (32 + n)) 13 [0]) 31 [0])

def Packet.doubled (p : Packet) : Bool := p.flags % 2 = 1
def Packet.railB (p : Packet) : Bool := bit p.flags 1

/-- The header obeys R260 to R262 (test 2 of R265). -/
def Packet.wellFormed (p : Packet) (len : Nat) : Bool :=
  let opOk :=
    if p.op = 0 then p.cls = 1 || p.cls = 2
    else if p.op = 1 || p.op = 2 then p.cls = 3 && len % 4 = 0
    else if p.op = 3 then p.cls = 0 && len = 128
    else if p.op = 4 then p.cls = 0 && len = 32
    else if p.op = 5 then p.cls = 0 && len = 480
    else if p.op = 6 then p.cls = 5 && len = 32
    else if p.op = 7 then p.cls = 0 || p.cls = 4
    else false
  let ctrOk := if p.op ≤ 2 then p.counter ≠ 0xFFFF && p.counter < 0x1000 else p.counter = 0xFFFF
  let addrOk := if p.op = 3 || p.op = 4 || p.op = 5 || p.op = 6 then p.addr = 0 else true
  p.cls < 6 && opOk && len ≤ 512 && ctrOk && addrOk && p.tag ≠ 0xFFFF
    && (bit p.flags 3 == (p.cls == 2 || p.cls == 4)) && p.defl ≤ 33 && p.dest % 256 = 0 && p.source % 256 = 0

/-! ## Links and ports (R19, R267) -/

/-- The links of a port on a rail (false A, true B), in ascending number. -/
def portLinks (port : Nat) (railB : Bool) : List Nat :=
  let base := if railB then 4 else 0
  let sel (ks : List Nat) (j : Nat) : List Nat := ks.map (fun k => 8 * (base + k) + j)
  if port < 6 then sel [0, 1, 2, 3] port
  else if port = 6 then sel [0, 1] 6
  else if port = 7 then sel [2, 3] 6
  else if port = 8 then sel [0, 1] 7
  else if port = 9 then sel [2, 3] 7
  else []

/-- The rail of a link (R19). -/
def linkRailB (n : Nat) : Bool := 32 ≤ n

/-- The port that a link serves. -/
def portOfLink (n : Nat) : Nat :=
  let j := n % 8
  let k := n / 8 % 4
  if j < 6 then j else if j = 6 then (if k < 2 then 6 else 7) else (if k < 2 then 8 else 9)

/-- The state of link n (R245). -/
def Body.linkState (b : Body) (n : Nat) : Nat := b.rd (R.L.LINK_STATUS.STATE (n / 8) (n % 8))

/-- Link n is in service (R245). -/
def Body.linkUp (b : Body) (n : Nat) : Bool := b.linkState n = 6

/-- The links of a port set (bit p for port p) on a rail. -/
def portSetLinks (ports : Nat) (railB : Bool) : List Nat :=
  ((List.range 10).filter (bit ports)).flatMap (fun p => portLinks p railB)

/-- Numbers in ascending order. -/
def sortNat : List Nat → List Nat
  | [] => []
  | x :: xs => ins x (sortNat xs)
where
  ins (x : Nat) : List Nat → List Nat
    | [] => [x]
    | y :: ys => if x ≤ y then x :: y :: ys else y :: ins x ys

/-- The index of the route of a destination in junction k's table (R267): the valid entry that matches the most leading
bits. -/
def Body.findRoute (b : Body) (k dest : Nat) : Option Nat :=
  let d := dest / 256
  let fits (e len : Nat) : Bool :=
    b.on (R.J.ROUTE.VALID k e) && b.rd (R.J.ROUTE.LEN k e) == len
      && decide (b.rd (R.J.ROUTE.PREFIX k e) / 2 ^ (24 - len) = d / 2 ^ (24 - len))
  (List.range 25).reverse.findSome? (fun len => lowest 2048 (fun e => fits e len))

/-- The links in service that the route names for one rail (R268). -/
def Body.railLinks (b : Body) (k dest : Nat) (railB : Bool) : List Nat :=
  match b.findRoute k dest with
  | none => []
  | some e =>
    (portSetLinks (b.rd (if railB then R.J.ROUTE.PORTS_B k e else R.J.ROUTE.PORTS_A k e)) railB).filter b.linkUp

/-- The productive links of a packet (R268): of its own rail for a doubled copy, of both rails for any other. -/
def Body.productive (b : Body) (k : Nat) (p : Packet) : List Nat :=
  if p.doubled then sortNat (b.railLinks k p.dest p.railB)
  else sortNat (b.railLinks k p.dest false ++ b.railLinks k p.dest true)

/-! ## Slice entries (R280) -/

/-- The index of the entry that holds a tag and is not free, in junction k. -/
def Body.entryOf (b : Body) (k tag : Nat) : Option Nat :=
  lowest 64 (fun e => b.rd (R.J.SLICE.STATE k e) != 0 && b.rd (R.J.SLICE.TAG k e) == tag)

/-- The junctions in service, and the one whose tables MG reads back: the lowest of them. -/
def Body.jUp (b : Body) : List Nat := [0, 1, 2, 3].filter (fun k => b.inService (iJ k))
def Body.jRep (b : Body) : Nat := b.jUp.headD 0

/-- MG writes the same register into all four junctions (R267, R280); a write to a closed one is dropped and recorded (R24). -/
def Body.mgFour (b : Body) (off v : Nat) (f : Nat → Body → Body) : Body :=
  forEach [0, 1, 2, 3] (fun k t => if t.inService (iJ k) then f k t else t.cfgEvent .mg (iJ k) off v 3) b

/-- A write of the junctions' table that is refused is recorded once, for J0; where J0 is closed, for that reason (R24, R396). -/
def Body.junctionRefuses (b : Body) (m : Master) (off v reason : Nat) : Body :=
  b.cfgEvent m (iJ 0) off v (if b.inService (iJ 0) then reason else 3)

/-- The same where MG writes in the course of another row: the rings of the junctions see it (R389). -/
def Body.mgSeen (b : Body) (off : Nat) : Body := forEach b.jUp (fun k t => t.writtenAt off (iJ k)) b

/-- A field of entry `e` set in all four junctions, as each does by itself (R275, R281). -/
def Body.sliceAll (b : Body) (f : Nat → Nat → Field) (e v : Nat) : Body :=
  forEach [0, 1, 2, 3] (fun k t => t.wr (f k e) v) b

/-- Tokens held of entry `e` (the pool is the module's, the same in all four junctions; R275). -/
def Body.held (b : Body) (e : Nat) : Nat := b.rd (R.J.SLICE.HELD 0 e)
def Body.setHeld (b : Body) (e v : Nat) : Body := b.sliceAll R.J.SLICE.HELD e v

/-- Tokens of entry `e` taken and not returned (R275). -/
def Body.outstanding (b : Body) (e : Nat) : Nat := SMap.getD b.fab.outstanding e 0
def Body.setOutstanding (b : Body) (e v : Nat) : Body :=
  { b with fab := { b.fab with outstanding := SMap.set b.fab.outstanding e v 0 } }

/-! ## Queues -/

/-- The next sequence number for a destination and class (R264). -/
def Body.nextSeq (b : Body) (dest cls : Nat) : Nat := SMap.getD b.fab.seqs (dest * 16 + cls) 0

/-- The sequence number has been used. -/
def Body.stepSeq (b : Body) (dest cls : Nat) : Body :=
  { b with fab := { b.fab with seqs := SMap.set b.fab.seqs (dest * 16 + cls) ((b.nextSeq dest cls + 1) % 2 ^ 32) 0 } }

/-- A packet of local origin waits at junction k for injection (R270, R273). -/
def Body.enqueue (b : Body) (k : Nat) (w : Waiting) : Body :=
  b.setJn k { b.jn k with local_ := (b.jn k).local_ ++ [w] }

/-- A packet of the pod slice or a job slice that carries no write: class, operation, payload, doubled as R261 asks. -/
def Body.plainPacket (b : Body) (dest cls op tag epoch : Nat) (payload : Bytes) : Packet :=
  { dest := dest, source := b.place, tag := tag, epoch := epoch, cls := cls,
    flags := if cls = 4 then flUnplanned else flDoubled, defl := 0, seq := 0, counter := 0xFFFF, addr := 0,
    period := b.period % 2 ^ 16, op := op, payload := payload }

/-- A packet of an island's own joins the queue of junction k; a closed junction refuses it (R24). -/
def Body.sendPacket (b : Body) (k : Nat) (p : Packet) : Body :=
  b.when (b.inService (iJ k)) (fun b => b.enqueue k
    { pkt := p, arrived := none, xfer := none, entry := (b.entryOf k p.tag).getD 64, period := b.period, counted := false,
      twin := false, order := 0, margins := [] })

/-- The 8-byte prefix of R291: type, version 0x01, body length, the sender's term. -/
def Body.msgPayload (b : Body) (type : Nat) (body : Bytes) : Bytes :=
  leBytes 1 type ++ [0x01] ++ leBytes 2 body.length ++ leBytes 4 (b.rd R.MG.DSP_EPOCHS.TERM) ++ body

/-- MG sends a dispatcher message: a class 0 management packet of the pod slice, through J3 (R23, R291). -/
def Body.sendMsg (b : Body) (dest type : Nat) (body : Bytes) : Body :=
  b.sendPacket 3 (b.plainPacket dest 0 7 0 (b.rd (R.J.SLICE.EPOCH 3 0)) (b.msgPayload type body))

/-! ## Counts (R278) -/

/-- `J.CONS_n` of junction k, and the count of the open period that the seal carries (R41). -/
def Body.cons (b : Body) (k n c : Nat) : Body :=
  let j := b.jn k
  (b.setJn k { j with periodCounts := SMap.set j.periodCounts n (SMap.getD j.periodCounts n 0 + c) 0 }).add
    (R.J.CONS.COUNT k n) c

/-- `J.DROP_n` of junction k; it saturates. -/
def Body.dropped (b : Body) (k n : Nat) : Body := b.sat (R.J.DROP.COUNT k n) 1

/-- An accepted packet with this source, operation and payload leaves the queue of those that wait to be served. -/
def Body.served (b : Body) (source op : Nat) (payload : Bytes) : Body :=
  { b with fab := { b.fab with inbox := b.fab.inbox.erase (source, op, payload) } }

/-- The place is in junction k's fence list (R266). -/
def Body.isFenced (b : Body) (k place : Nat) : Bool :=
  (List.range 256).any (fun e => b.on (R.J.FENCE.VALID k e) && b.rd (R.J.FENCE.PLACE k e) == place / 256)

/-! ## What starts on a link -/

/-- A packet's bytes join the outgoing stream of link n and claim slot time (R239, R240). -/
def Body.pushOut (b : Body) (n : Nat) (bs : Bytes) : Body :=
  let l := b.lnk n
  (b.setLnk n { l with sending := l.sending ++ [bs], debt := l.debt + bs.length }).emit (.packet n bs)

/-- A copy of a packet goes one hop on a link without the routing table (R27, R376), with the next sequence number for its
destination and class; a module that finds its own place in the fence list injects nothing (R266). -/
def Body.sendOneHop (b : Body) (link : Nat) (p : Packet) : Body :=
  let k := junctionOfLink link
  let q := { p with seq := b.nextSeq p.dest p.cls, flags := if linkRailB link then p.flags ||| flRailB else p.flags }
  if b.isFenced k b.place then (b.cons k 2 1).dropped k 3
  else (b.pushOut link (packetBytes q)).cons k 9 1

end Sys2Proof.Machine
end

