-- ==== Sys2Proof/Machine/Topology.lean ====
section
/-! DEFINITION. The topology map as each module uses it (spec/12_dispatcher.md R285 to R298): the charter's fields, map
entries and their bytes, torus neighbours, coordinates, shortest paths, and the routing table computed from the map. -/

namespace Sys2Proof.Machine

/-! ## The charter (R285) -/

/-- The torus dimension of axis `a` (0 X, 1 Y, 2 Z) of a charter. -/
def charterDim (c : Bytes) (a : Nat) : Nat := le c (12 + a) 1
def charterSerial (c : Bytes) : Nat := le c 8 4
def charterQ (c : Bytes) : Nat := le c 15 1
/-- The candidates in rank order: rank r is element r − 1. -/
def charterCandidates (c : Bytes) : List Nat := (List.range (le c 16 1)).map (fun i => le c (20 + 4 * i) 4)
def charterExpected (c : Bytes) : Nat := le c 80 4

/-- The charter's ranges hold (R285). -/
def charterWf (c : Bytes) : Bool :=
  let dx := charterDim c 0; let dy := charterDim c 1; let dz := charterDim c 2
  let q := charterQ c; let n := le c 16 1
  c.length = 512 && le c 0 4 = 0x50544843 && le c 4 2 = 0x0100 && le c 6 2 = 0
    && 1 ≤ dx && dx ≤ 32 && 1 ≤ dy && dy ≤ 32 && 1 ≤ dz && dz ≤ 16 && dx * dy * dz ≤ 16384
    && (q = 3 || q = 5 || q = 7) && q ≤ n && n ≤ 15 && le c 17 3 = 0
    && (List.range 15).all (fun i => (le c (20 + 4 * i) 4 != 0) == decide (i < n))
    && 1 ≤ charterExpected c && charterExpected c ≤ dx * dy * dz && le c 116 12 = 0

/-- The rank of a place in the charter: 0 when it is no candidate. -/
def charterRank (c : Bytes) (place : Nat) : Nat :=
  match (charterCandidates c).findIdx? (· == place) with
  | some i => i + 1
  | none => 0

/-! ## Map entries (R294) -/

/-- The 32 bytes of a map entry. -/
def MapEntry.toBytes (m : MapEntry) : Bytes :=
  leBytes 4 m.place ++ leBytes 1 m.x ++ leBytes 1 m.y ++ leBytes 1 m.z ++ leBytes 1 m.flags ++ leBytes 4 m.alive
    ++ leBytes 4 m.upA ++ leBytes 4 m.upB ++ leBytes 4 m.digest ++ zeros 8

/-- A map entry read from 32 bytes. -/
def parseMapEntry (bs : Bytes) : MapEntry :=
  { place := le bs 0 4, x := le bs 4 1, y := le bs 5 1, z := le bs 6 1, flags := le bs 7 1, alive := le bs 8 4,
    upA := le bs 12 4, upB := le bs 16 4, digest := le bs 20 4 }

def MapEntry.present (m : MapEntry) : Bool := bit m.flags 0
def MapEntry.fenced (m : MapEntry) : Bool := bit m.flags 1
/-- Present and unfenced. -/
def MapEntry.usable (m : MapEntry) : Bool := m.present && !m.fenced
/-- Port `p` is alive on a rail (false A, true B). -/
def MapEntry.portAlive (m : MapEntry) (p : Nat) (railB : Bool) : Bool := bit m.alive (if railB then 10 + p else p)
/-- The rail's uplinks are valid. -/
def MapEntry.uplinkValid (m : MapEntry) (railB : Bool) : Bool := bit m.flags (if railB then 5 else 4)
/-- The coordinate on axis `a`. -/
def MapEntry.coord (m : MapEntry) (a : Nat) : Nat := if a = 0 then m.x else if a = 1 then m.y else m.z

/-- The entry of a place. -/
def findPlace (m : List MapEntry) (place : Nat) : Option MapEntry := m.find? (fun e => e.place == place)

/-- Entries in ascending place address with `e` put in, replacing the one of its place. -/
def insertEntry : List MapEntry → MapEntry → List MapEntry
  | [], e => [e]
  | x :: xs, e =>
    if x.place = e.place then e :: xs else if e.place < x.place then e :: x :: xs else x :: insertEntry xs e

/-- The digest of a full map: every entry in order (R294). -/
def mapDigest (m : List MapEntry) : Bytes := sha256 (m.flatMap MapEntry.toBytes)

/-! ## Neighbours -/

/-- One step along torus port `p` (+X, −X, +Y, −Y, +Z, −Z) from a coordinate, modulo the dimensions. -/
def stepPort (dims : Nat → Nat) (c : Nat → Nat) (p : Nat) (a : Nat) : Nat :=
  if a = p / 2 then
    (if p % 2 = 0 then (c a + 1) % max (dims a) 1 else (c a + max (dims a) 1 - 1) % max (dims a) 1)
  else c a

/-- The entry at a coordinate. -/
def entryAt (m : List MapEntry) (c : Nat → Nat) : Option MapEntry :=
  m.find? (fun e => e.x == c 0 && e.y == c 1 && e.z == c 2)

/-- The torus neighbour of an entry at port `p`. -/
def neighbourOf (m : List MapEntry) (dims : Nat → Nat) (e : MapEntry) (p : Nat) : Option MapEntry :=
  match entryAt m (stepPort dims e.coord p) with
  | some n => if n.place = e.place then none else some n
  | none => none

/-- The torus dimensions in force. -/
def Body.dims (b : Body) (a : Nat) : Nat := charterDim b.disp.charter a

/-- This module's entry of the map in force. -/
def Body.ownEntry (b : Body) : Option MapEntry := findPlace b.disp.map b.place

/-- The module's torus neighbours that are present and unfenced in the map: port and place. -/
def Body.neighbours (b : Body) : List (Nat × Nat) :=
  match b.ownEntry with
  | none => []
  | some e =>
    (List.range 6).filterMap (fun p =>
      match neighbourOf b.disp.map b.dims e p with
      | some n => if n.usable then some (p, n.place) else none
      | none => none)

/-- The links in service of a port on a rail. -/
def Body.portUp (b : Body) (p : Nat) (railB : Bool) : List Nat := (portLinks p railB).filter b.linkUp

/-- A link in service contradicts the map in force: its torus port's far end holds another coordinate than the step along the port
gives, so that it is not alive for as long as the coordinates stand (R295). -/
def Body.linkContradicts (b : Body) (n : Nat) : Bool :=
  match b.ownEntry, findPlace b.disp.map (b.rd (R.L.LINK_PEER.PLACE (n / 8) (n % 8))) with
  | some e, some f => decide (portOfLink n < 6) && [0, 1, 2].any (fun a => stepPort b.dims e.coord (portOfLink n) a != f.coord a)
  | _, _ => false

/-- This module's own port-alive masks (R294): bit p of rail A, bit 10 + p of rail B. -/
def Body.aliveMask (b : Body) : Nat :=
  let alive (p : Nat) (railB : Bool) : Bool := (b.portUp p railB).any (fun n => !b.linkContradicts n)
  (List.range 10).foldl (fun acc p =>
    acc + (if alive p false then 2 ^ p else 0) + (if alive p true then 2 ^ (10 + p) else 0)) 0

/-! ## Who is expelled (R310, R311) -/

/-- The sequence committed in `MG.DSP_LEDGER_SEQ`. -/
def Body.committed (b : Body) : Nat := b.rd R.MG.DSP_LEDGER_SEQ.SEQ

/-- The last expulsion or readmission record of a place among some records; none where there is none. -/
def verdictOf (l : List Record) (place : Nat) : Option Bool :=
  ((l.filter (fun r => (r.type == 7 || r.type == 8) && le r.body 0 4 / 256 == place / 256)).getLast?).map (fun r => r.type == 7)

/-- A place is expelled: a fence entry names it, or its last committed record expels it, whether or not a fence entry was free and
until a readmission commits. -/
def Body.isExpelled (b : Body) (place : Nat) : Bool :=
  b.isFenced b.jRep place || verdictOf (b.disp.ledger.filter (fun r => decide (r.seq ≤ b.committed))) place == some true

/-! ## Shortest paths (R297) -/

/-- The usable neighbours of an entry over torus links whose port is alive on the rail at both ends. -/
def railNeighbours (m : List MapEntry) (dims : Nat → Nat) (railB : Bool) (e : MapEntry) : List MapEntry :=
  (List.range 6).filterMap (fun p =>
    match neighbourOf m dims e p with
    | some n =>
      let back := if p % 2 = 0 then p + 1 else p - 1
      if e.usable && n.usable && e.portAlive p railB && n.portAlive back railB then some n else none
    | none => none)

/-- Breadth-first distances: `frontier` lies at distance `d`; key place, value distance. -/
def bfs (nbrs : MapEntry → List MapEntry) : Nat → Nat → List MapEntry → SMap Nat → SMap Nat
  | 0, _, _, dist => dist
  | fuel + 1, d, frontier, dist =>
    match frontier with
    | [] => dist
    | _ =>
      let step := frontier.foldl (fun (acc : List MapEntry × SMap Nat) e =>
        (nbrs e).foldl (fun acc n =>
          if (SMap.find acc.2 n.place).isSome then acc else (acc.1 ++ [n], SMap.insert acc.2 n.place (d + 1))) acc) ([], dist)
      bfs nbrs fuel (d + 1) step.1 step.2

/-- Distances of every module from a destination on a rail's graph. -/
def distancesTo (m : List MapEntry) (dims : Nat → Nat) (railB : Bool) (dest : MapEntry) : SMap Nat :=
  bfs (railNeighbours m dims railB) m.length 0 [dest] [(dest.place, 0)]

/-- One rail's port set and hop count from `self` to `d` (rules 2 to 4 of R297). -/
def railRoute (m : List MapEntry) (dims : Nat → Nat) (railB : Bool) (self d : MapEntry) : Nat × Nat :=
  if self.place / 2 ^ 10 = d.place / 2 ^ 10 then
    let p := 5 + (d.place / 256 % 4 + 4 - self.place / 256 % 4) % 4
    if self.portAlive p railB then (2 ^ p, 1) else (0, 0)
  else
    let dist := distancesTo m dims railB d
    let own := SMap.find dist self.place
    let upFar := if railB then self.upB else self.upA
    let far := match own with | some h => decide (1 < h) | none => true
    if self.uplinkValid railB && upFar == d.place && far then (2 ^ 9, 1)
    else
      match own with
      | none => (0, 0)
      | some h =>
        let order := if railB then [4, 5, 2, 3, 0, 1] else [0, 1, 2, 3, 4, 5]
        let ok (p : Nat) : Bool :=
          match neighbourOf m dims self p with
          | some n =>
            let back := if p % 2 = 0 then p + 1 else p - 1
            self.portAlive p railB && n.portAlive back railB && (SMap.find dist n.place == some (h - 1)) && decide (0 < h)
          | none => false
        match order.find? ok with
        | some p => (2 ^ p, h)
        | none => (0, 0)

/-- A route of the table (R267). -/
structure Route where
  pfx : Nat
  len : Nat
  portsA : Nat
  portsB : Nat
  hopsA : Nat
  hopsB : Nat
  deriving DecidableEq, Repr

/-- The distinct numbers of a list in ascending order. -/
def distinct (l : List Nat) : List Nat :=
  (sortNat l).foldl (fun acc x => if acc.getLast? = some x then acc else acc ++ [x]) []

/-- The entries under one prefix (R298): one when every destination has the same ports, else those of its children. -/
def aggregate : List Nat → Nat → Nat → List Route → List Route
  | _, _, _, [] => []
  | [], _, _, _ => []
  | next, len, pfx, r :: rs =>
    let all := r :: rs
    if all.all (fun x => x.portsA == r.portsA && x.portsB == r.portsB) then
      [{ pfx := pfx * 2 ^ (24 - len), len := len, portsA := r.portsA, portsB := r.portsB,
         hopsA := all.foldl (fun h x => max h x.hopsA) 0, hopsB := all.foldl (fun h x => max h x.hopsB) 0 }]
    else
      match next with
      | [] => []
      | n :: ns =>
        (distinct (all.map (fun x => x.pfx / 2 ^ (24 - n)))).flatMap (fun c =>
          aggregate ns n c (all.filter (fun x => x.pfx / 2 ^ (24 - n) == c)))

/-- The routes to every usable destination other than `self` (R297). -/
def destRoutes (m : List MapEntry) (dims : Nat → Nat) (self : MapEntry) : List Route :=
  (m.filter (fun d => d.usable && d.place != self.place)).map (fun d =>
    let a := railRoute m dims false self d
    let bb := railRoute m dims true self d
    { pfx := d.place / 256, len := 24, portsA := a.1, portsB := bb.1, hopsA := a.2, hopsB := bb.2 })

/-- The routing table of R298, from each hall prefix in ascending order. -/
def routeTable (m : List MapEntry) (dims : Nat → Nat) (self : MapEntry) : List Route :=
  let rs := destRoutes m dims self
  (distinct (rs.map (fun x => x.pfx / 2 ^ 20))).flatMap (fun h =>
    aggregate [10, 16, 22, 24, 25] 4 h (rs.filter (fun x => x.pfx / 2 ^ 20 == h)))

/-- A route written as entry `e` of junction k. -/
def Body.writeRoute (b : Body) (k e : Nat) (r : Route) : Body :=
  (b.seen (R.J.ROUTE.all k e)).setReg (R.J.ROUTE.all k e).key
    (r.pfx + r.len * 2 ^ 24 + 2 ^ 29 + r.portsA * 2 ^ 32 + r.portsB * 2 ^ 48 + r.hopsA * 2 ^ 64 + r.hopsB * 2 ^ 72)

/-- The module computes its table from the map in force and writes it into all four junctions (R298): with more than 2,048
entries no table is installed.  What it writes to a closed junction is dropped, recorded once. -/
def Body.computeRoutes (b : Body) : Body :=
  match b.ownEntry with
  | none => b
  | some self =>
    let t := routeTable b.disp.map b.dims self
    if 2048 < t.length then
      ((b.wr R.MG.DSP_ROUTES.OVERFLOW 1).wr R.MG.DSP_STATUS.MAP_STATE 3).when true
        (fun c => forEach c.jUp (fun k s => s.wr (R.J.STATUS.STATE k) 1) c)
    else
      let epoch := b.rd R.MG.DSP_EPOCHS.MAP_EPOCH
      let w := b.mgFour 0x0008 epoch (fun k s =>
        let s1 := forEach (List.range 2048) (fun e s =>
          match t[e]? with
          | some r => s.writeRoute k e r
          | none => (s.seen (R.J.ROUTE.all k e)).setReg (R.J.ROUTE.all k e).key 0) s
        ((s1.wr (R.J.STATUS.STATE k) 2).seen (R.J.MAP_EPOCH.EPOCH k)).wr (R.J.MAP_EPOCH.EPOCH k) epoch)
      ((w.wr R.MG.DSP_ROUTES.ENTRIES t.length).wr R.MG.DSP_ROUTES.OVERFLOW 0).wr R.MG.DSP_STATUS.MAP_STATE 2

/-! ## Coordinates (R295) -/

/-- Coordinates under assignment: place, (x, y, z). -/
abbrev Coords := List (Nat × Nat × Nat × Nat)

/-- The breadth-first assignment: `links place` gives (port, far end) of the in-service torus links. -/
def assignCoords (dims : Nat → Nat) (links : Nat → List (Nat × Nat)) : Nat → List Nat → Coords → Coords
  | 0, _, cs => cs
  | fuel + 1, queue, cs =>
    match queue with
    | [] => cs
    | _ =>
      let step := queue.foldl (fun (acc : List Nat × Coords) m =>
        match cs.find? (fun c => c.1 == m) with
        | none => acc
        | some (_, x, y, z) =>
          (links m).foldl (fun acc (l : Nat × Nat) =>
            if (acc.2.find? (fun c => c.1 == l.2)).isSome then acc
            else
              let s := stepPort dims (fun a => if a = 0 then x else if a = 1 then y else z) l.1
              (acc.1 ++ [l.2], acc.2 ++ [(l.2, s 0, s 1, s 2)])) acc) ([], cs)
      assignCoords dims links fuel (sortNat step.1) step.2

/-! ## The time root (R375) -/

/-- The roster as the registers show it. -/
def Body.roster (b : Body) : List Nat :=
  ((List.range 7).map (fun r => b.rd (R.MG.DSP_ROSTER.PLACE r))).filter (· != 0)

/-- The time root: the roster member, present and unfenced in the map, with the lowest charter rank. -/
def Body.timeRoot (b : Body) : Nat :=
  let ok := (charterCandidates b.disp.charter).filter (fun p =>
    b.roster.contains p && (match findPlace b.disp.map p with | some e => e.usable | none => false))
  ok.head?.getD 0

end Sys2Proof.Machine
end

