-- ==== Sys2Proof/Machine/TimeBase.lean ====
section
/-! DEFINITION. Time bases (spec/15_time.md): the servo, the pod time tree, the 1588 slave, and the commands of this
chapter. -/

namespace Sys2Proof.Machine

/-! ## The servo (R369) -/

/-- The product of a gain and a sample (R369): mantissa [11:0], exponent [15:12]. -/
def gainProduct (g : Nat) (theta : Int) : Int := ((bits g 0 12 : Int) * theta * 4).fdiv (2 ^ bits g 12 4 : Nat)

/-- The limit MAX of R369. -/
def Body.maxSlew (b : Body) (i : Nat) : Int := ((b.rd (R.TM.TB_LIMITS.MAX_SLEW i) * 2 ^ 40 / 10 ^ 6 : Nat) : Int)

/-- STEP_THRESH in 2⁻⁸ ns. -/
def Body.stepThresh (b : Body) (i : Nat) : Int := ((b.rd (R.TM.TB_LIMITS.STEP_THRESH i) * 256 : Nat) : Int)

/-- The integral of base `i` (0 or 1). -/
def Body.integ (b : Body) (i : Nat) : Int := if i = 0 then b.time.integ0 else b.time.integ1
def Body.setInteg (b : Body) (i : Nat) (v : Int) : Body :=
  if i = 0 then { b with time := { b.time with integ0 := v } } else { b with time := { b.time with integ1 := v } }

/-- A relock that waits for its sample. -/
def Body.relock (b : Body) (i : Nat) : Option Nat := if i = 0 then b.time.relock0 else b.time.relock1
def Body.setRelock (b : Body) (i : Nat) (v : Option Nat) : Body :=
  if i = 0 then { b with time := { b.time with relock0 := v } } else { b with time := { b.time with relock1 := v } }

/-- θ (2⁻⁸ ns) added to base `i`. -/
def Body.addBase (b : Body) (i : Nat) (theta : Int) : Body :=
  let up (t : Nat) : Nat := ((t : Int) + theta * (2 ^ 32 : Nat)).toNat
  if i = 0 then { b with time := { b.time with tb0 := up b.time.tb0 } }
  else { b with time := { b.time with tb1 := up b.time.tb1 } }

/-- SYNC of base `i` takes a value; a change sets cause bit 10 (R435). -/
def Body.setSync (b : Body) (i v : Nat) : Body :=
  if b.rd (R.TM.TB_STATUS.SYNC i) = v then b else (b.wr (R.TM.TB_STATUS.SYNC i) v).irq 10

/-- A sample has been accepted (R371): holdover ends and the base counts as synchronised. -/
def Body.accepted (b : Body) (i : Nat) : Body :=
  let b1 := if i = 0 then { b with time := { b.time with accepted0 := b.ns 2 } }
            else { b with time := { b.time with accepted1 := b.ns 2 } }
  (b1.wr (R.TM.TB_STATUS.HOLDOVER i) 0).setSync i 1

/-- A relock and the sample it applied are recorded (R374, R463). -/
def Body.recordRelock (b : Body) (i mode res : Nat) (theta : Int) : Body :=
  b.event 0x6143 iTM (leBytes 1 i ++ leBytes 1 mode ++ leBytes 1 res ++ [0] ++ leBytes 8 (unsigned theta 64))

/-- A pending relock is settled by the sample that it applied (R374). -/
def Body.settleRelock (b : Body) (i mode : Nat) (theta : Int) : Body :=
  ((b.setRelock i none).wr R.TM.RELOCK.DONE 1).recordRelock i mode 0 theta

/-- One sample for the servo of base `i` (R369, R373, R374).  A sample that sets the base is the one a pending relock
applies. -/
def Body.servo (b : Body) (i : Nat) (theta : Int) : Body :=
  let b := b.wr (R.TM.TB_OFFSET.THETA i) (unsigned (clampInt theta (-(2 ^ 31 : Nat)) ((2 ^ 31 - 1 : Nat))) 32)
  if !b.on (R.TM.TB_STATUS.SET i) then
    let b1 := ((((b.addBase i theta).wr (R.TM.TB_STATUS.SET i) 1).setInteg i 0).wr (R.TM.TB_RATE.A i) 0)
    (match b.relock i with
    | some mode => b1.settleRelock i mode theta
    | none => b1).accepted i
  else if b.on (R.TM.TB_STATUS.REFUSED i) then b
  else if b.relock i = some 1 then
    ((b.addBase i theta).settleRelock i 1 theta).accepted i
  else if b.stepThresh i < (theta.natAbs : Int) && !b.on (R.TM.TB_STATUS.RELOCK_SLEW i) then
    (b.wr (R.TM.TB_STATUS.REFUSED i) 1).raiseN iTM 1
  else
    let mx := b.maxSlew i
    let integ := clampInt (b.integ i + gainProduct (b.rd (R.TM.TB_GAIN.KI i)) theta) (-mx) mx
    let a := clampInt (integ + gainProduct (b.rd (R.TM.TB_GAIN.KP i)) theta) (-mx) mx
    let b1 := (b.setInteg i integ).wr (R.TM.TB_RATE.A i) (unsigned a 32)
    let b2 := if decide ((theta.natAbs : Int) ≤ b.stepThresh i) then b1.wr (R.TM.TB_STATUS.RELOCK_SLEW i) 0 else b1
    let b3 := if b.relock i = some 0 then b2.settleRelock i 0 theta else b2
    b3.accepted i

/-! ## Pod time over the links (R375 to R379) -/

/-- The module is the time root. -/
def Body.isRoot (b : Body) : Bool := b.rd R.TM.TB0_TREE.ROOT = b.place && b.rd R.TM.TB0_TREE.ROOT ≠ 0

/-- The neighbour at torus port `p` may be the time parent (R377). -/
def Body.parentOk (b : Body) (p : Nat) : Bool :=
  match SMap.find b.time.announces p with
  | none => false
  | some a =>
    decide (b.ns 2 ≤ a.at_ + 3 * b.rd R.TM.TB0_TREE_CTRL.ANNOUNCE * 10 ^ 6) && a.root == b.rd R.TM.TB0_TREE.ROOT
      && bit a.flags 1 && !bit a.flags 2 && decide (a.stratum ≤ 253)
      && !((b.portUp p false).isEmpty && (b.portUp p true).isEmpty)

/-- The stratum that the neighbour at port `p` announced. -/
def Body.announcedStratum (b : Body) (p : Nat) : Nat :=
  match SMap.find b.time.announces p with
  | some a => a.stratum
  | none => 255

/-- The parent of R377: lowest stratum, ties in port order. -/
def Body.bestParent (b : Body) : Option Nat :=
  (List.range 6).foldl (fun acc p =>
    if !b.parentOk p then acc
    else
      match acc with
      | none => some p
      | some q => if b.announcedStratum p < b.announcedStratum q then some p else acc) none

/-- TB0 of the time root is synchronised whenever it is set, and in no holdover (R371). -/
def Body.rootSync (b : Body) : Body :=
  if b.on (R.TM.TB_STATUS.SET 0) then (b.wr (R.TM.TB_STATUS.HOLDOVER 0) 0).setSync 0 1 else b

/-- The parent and the own stratum are chosen (R375 to R377); without a root TB0 stays unsynchronised. -/
def Body.chooseParent (b : Body) : Body :=
  if b.isRoot then ((b.wr R.TM.TB0_TREE.STRATUM 0).wr R.TM.TB0_TREE.PARENT_PORT 15).rootSync
  else if b.rd R.TM.TB0_TREE.ROOT = 0 then ((b.wr R.TM.TB0_TREE.STRATUM 255).wr R.TM.TB0_TREE.PARENT_PORT 15).setSync 0 0
  else
    match b.bestParent with
    | some p => (b.wr R.TM.TB0_TREE.STRATUM (b.announcedStratum p + 1)).wr R.TM.TB0_TREE.PARENT_PORT p
    | none => (b.wr R.TM.TB0_TREE.STRATUM 255).wr R.TM.TB0_TREE.PARENT_PORT 15

/-- The root of the map in force takes effect (R375). -/
def Body.adoptRoot (b : Body) : Body := (b.wr R.TM.TB0_TREE.ROOT b.timeRoot).chooseParent

/-- The agreed map is lost: the module has no root and no parent (R375). -/
def Body.loseRoot (b : Body) : Body := (b.wr R.TM.TB0_TREE.ROOT 0).chooseParent

/-- The smallest round trip of a set. -/
def minRtt : List TimeOffset → Int
  | [] => 0
  | [o] => o.rtt
  | o :: os => min o.rtt (minRtt os)

/-- θ of R378 and how many offsets it averages; none when no offset remains. -/
def Body.podSample (b : Body) : Option (Int × Nat) :=
  let port := b.rd R.TM.TB0_TREE.PARENT_PORT
  let mine := b.time.offsets.filter (fun o => o.link % 8 == port && decide (port < 6))
  let gate := minRtt mine + ((b.rd R.TM.TB0_TREE_CTRL.RTT_GATE * 256 : Nat) : Int)
  let kept := mine.filter (fun o => decide (o.rtt ≤ gate))
  if kept.isEmpty then none
  else some ((kept.foldl (fun s o => s + o.offset) (0 : Int)).fdiv (2000 * kept.length : Int), kept.length)

/-- `TB0_SAMPLE` (R378, R379): the sample closes when TB0's nanoseconds reach a multiple of 1,000,000. -/
def tb0Sample (b : Body) : Body :=
  let b := b.toPod ((b.ns 0 / 10 ^ 6 + 1) * 10 ^ 6)
  let b := b.chooseParent
  let recent := b.time.neighbours.filter (fun n => decide (b.ns 2 ≤ n.2.2 + 10 ^ 9))
  let others := recent.filter (fun n => n.1 != b.rd R.TM.TB0_TREE.PARENT_PORT)
  let b := b.wr R.TM.TB0_NEIGH.MAX (min (others.foldl (fun m n => max m n.2.1) 0) (2 ^ 32 - 1))
  let sample :=
    if b.isRoot then
      (if b.on (R.TM.TB_CTRL.FOLLOW_TB1 0) && b.synced 1 then
        some (((b.time.tb1 : Int) - (b.time.tb0 : Int)).fdiv ((2 ^ 32 : Nat) : Int), 0) else none)
    else b.podSample
  let b := { b with time := { b.time with offsets := [], neighbours := recent } }
  match sample with
  | none => b.wr R.TM.TB0_TREE.LINKS_USED 0
  | some (theta, n) => (b.wr R.TM.TB0_TREE.LINKS_USED n).servo 0 theta

/-- `HOLDOVER` (R371) of base `i`: LOST ms after the last accepted sample a set base takes a := I and counts as
unsynchronised. TB0 of the time root is synchronised whenever it is set, so it enters none. -/
def holdover (i : Nat) (b : Body) : Body :=
  let last := if i = 0 then b.time.accepted0 else b.time.accepted1
  if !b.on (R.TM.TB_STATUS.SET i) || b.on (R.TM.TB_STATUS.HOLDOVER i) || (decide (i = 0) && b.isRoot) then b
  else
    let b := b.toLocal (last + b.rd (R.TM.TB_HOLD.LOST i) * 10 ^ 6)
    (((b.wr (R.TM.TB_RATE.A i) (unsigned (b.integ i) 32)).wr (R.TM.TB_STATUS.HOLDOVER i) 1).setSync i 0).raiseN iTM
      (if i = 0 then 0 else 2)

/-- The payload of a time announce (R376). -/
def Body.announcePayload (b : Body) : Bytes :=
  [0x01] ++ leBytes 1 (b.rd R.TM.TB0_TREE.STRATUM)
    ++ leBytes 1 (b.rd (R.TM.TB_STATUS.SET 0) + 2 * b.rd (R.TM.TB_STATUS.SYNC 0) + 4 * b.rd (R.TM.TB_STATUS.REFUSED 0)) ++ [0]
    ++ leBytes 4 (b.rd R.TM.TB0_TREE.ROOT) ++ leBytes 4 b.place ++ leBytes 4 (b.rd R.MG.DSP_EPOCHS.MAP_EPOCH)
    ++ leBytes 12 (b.stamp 0 iTM) ++ zeros 4

/-- `TIME_ANNOUNCE_SEND` (R376): ANNOUNCE ms after the last one, to each present, unfenced torus neighbour, on one link in
service of each rail. -/
def timeAnnounceSend (b : Body) : Body :=
  let b := b.toLocal (b.time.announceAt + b.rd R.TM.TB0_TREE_CTRL.ANNOUNCE * 10 ^ 6)
  let b : Body := { b with time := { b.time with announceAt := b.ns 2 } }
  forEach b.neighbours (fun n s =>
    let p := s.plainPacket n.2 5 6 0 (s.rd (R.J.SLICE.EPOCH 3 0)) s.announcePayload
    let s := s.sampled iTM
    let s1 := match (s.portUp n.1 false).head? with | some l => s.sendOneHop l p | none => s
    let s2 := match (s.portUp n.1 true).head? with | some l => s1.sendOneHop l p | none => s1
    s2.stepSeq n.2 5) b

/-- `TIME_ANNOUNCE` (R376, R377): the payload of an announce that arrived on a link. -/
def timeAnnounce (link : Nat) (pl : Bytes) (b : Body) : Body :=
  let b := b.served (le pl 8 4) 6 pl
  if le pl 0 1 ≠ 1 then b.event 0x6144 iTM (leBytes 4 (le pl 8 4))
  else
    let a : TimeAnnounce := { stratum := le pl 1 1, flags := le pl 2 1, root := le pl 4 4, sender := le pl 8 4,
                              epoch := le pl 12 4, at_ := b.ns 2 }
    if link % 8 < 6 then
      ({ b with time := { b.time with announces := SMap.insert b.time.announces (link % 8) a } }).chooseParent
    else b

/-! ## Relock and TB3 (R361, R374) -/

/-- A write of `TM.RELOCK` with GO from a master other than MG has no effect and is recorded. -/
def Body.relockHonoured (b : Body) (m : Master) (v : Nat) (f : Body → Body) : Body :=
  if m = .mg then f b else b.cfgEvent m iTM 0x30 v 2

/-- `RELOCK_SLEW` (R374 mode 0). -/
def relockSlew (m : Master) (base : Nat) (b : Body) : Body :=
  b.relockHonoured m (base + 4) (fun b =>
    (((((b.wr R.TM.RELOCK.BASE base).wr R.TM.RELOCK.MODE 0).wr R.TM.RELOCK.DONE 0).wr R.TM.RELOCK.REFUSED 0).wr
      (R.TM.TB_STATUS.REFUSED base) 0).wr (R.TM.TB_STATUS.RELOCK_SLEW base) 1 |>.setRelock base (some 0))

/-- `RELOCK_STEP` (R374 mode 1): of TB0 only while no job runs. -/
def relockStep (m : Master) (base : Nat) (b : Body) : Body :=
  b.relockHonoured m (base + 2 + 4) (fun b =>
    let b := (b.wr R.TM.RELOCK.BASE base).wr R.TM.RELOCK.MODE 1
    if base = 0 ∧ b.jobRuns then
      ((b.wr R.TM.RELOCK.DONE 0).wr R.TM.RELOCK.REFUSED 1).recordRelock base 1 1 0
    else
      (((b.wr R.TM.RELOCK.DONE 0).wr R.TM.RELOCK.REFUSED 0).wr (R.TM.TB_STATUS.REFUSED base) 0).setRelock base (some 1))

/-- `TB3_SET` (R361): a write of `TM.TB3_SET_NS` sets TB3 to SEC and NS at once; a value above 999,999,999 is refused. -/
def tb3Set (m : Master) (v : Nat) (b : Body) : Body :=
  let n := v % 2 ^ 30
  if m = .tile then b.cfgEvent m iTM 0x40 v 2
  else if 10 ^ 9 ≤ n then b.cfgEvent m iTM 0x40 v 0
  else
    let b := b.wr R.TM.TB3_SET_NS.NS n
    { b with time := { b.time with tb3 := (b.rd R.TM.TB3_SET_SEC.SEC * 10 ^ 9 + n) * 2 ^ 40 } }

/-- The reading master's number for the latch of NS. -/
def masterNo : Master → Nat
  | .host => 0
  | .mg => 1
  | .ct => 2
  | .sc => 3
  | .db => 4
  | .tile => 5

/-- `TIME_BASE_SECONDS_READ`: a read of `TM.TBb_SEC` latches the same instant's nanoseconds for the reading master (R403:
DB's read latches only DB's own). -/
def timeBaseSecondsRead (m : Master) (i : Nat) (b : Body) : Body :=
  { b with time := { b.time with latched := SMap.insert b.time.latched (masterNo m * 4 + i) (b.ns i % 10 ^ 9) } }

/-! ## Plant time (R381, R382) -/

/-- TB1 in 2⁻⁸ ns. -/
def Body.tb1Fine (b : Body) : Int := ((b.time.tb1 / 2 ^ 32 : Nat) : Int)

/-- The message comes from the selected master, in the slave's domain and over its transport, while the slave runs. -/
def Body.ptpHeeds (b : Body) (m : PtpMsg) : Bool :=
  b.on R.TM.PTP_CTRL.ENABLE && b.on R.TM.PTP_STATUS.SELECTED && m.source == b.rd R.TM.PTP_MASTER.IDENTITY
    && m.domain == b.rd R.TM.PTP_CTRL.DOMAIN && m.ethernet == b.on R.TM.PTP_CTRL.TRANSPORT

/-- t1 of a message in 2⁻⁸ ns with a correction in 2⁻¹⁶ ns. -/
def ptpTime (origin : Nat) (corr : Int) : Int := ((origin * 256 : Nat) : Int) + corr.fdiv 256

/-- `SYNC` (R382): the receipt is stamped t2; a one-step Sync carries t1. -/
def sync (m : PtpMsg) (b : Body) : Body :=
  if !b.ptpHeeds m then b
  else if m.twoStep then { b with time := { b.time with syncWait := some (m.seq, b.tb1Fine, m.correction) } }
  else
    { b with time := { b.time with syncDiff := some (ptpTime m.origin m.correction - b.tb1Fine), syncWait := none } }

/-- `FOLLOW_UP` (R382): the precise origin of a two-step Sync. -/
def followUp (m : PtpMsg) (b : Body) : Body :=
  if !b.ptpHeeds m then b
  else
    match b.time.syncWait with
    | some (q, t2, c) =>
      if q = m.seq then
        { b with time := { b.time with syncDiff := some (ptpTime m.origin (c + m.correction) - t2), syncWait := none } }
      else b
    | none => b

/-- `DELAY_REQ_SEND` (R381): the slave sends Delay_Req and stamps t3. -/
def delayReqSend (b : Body) : Body :=
  if b.on R.TM.PTP_CTRL.ENABLE && b.on R.TM.PTP_STATUS.SELECTED then
    let q := (b.time.delaySeq + 1) % 2 ^ 16
    ({ b with time := { b.time with delaySeq := q, delayWait := some (q, b.tb1Fine) } }).emit
      (.port (if b.on R.TM.PTP_CTRL.TRANSPORT then "Delay_Req (Annex E)" else "Delay_Req (Annex C)") (beBytes 2 q))
  else b

/-- `DELAY_RESP` (R382): the answer completes a pair, which gives one sample to TB1's servo. -/
def delayResp (m : PtpMsg) (b : Body) : Body :=
  if !b.ptpHeeds m then b
  else
    match b.time.delayWait with
    | some (q, t3) =>
      if q = m.seq then
        let b1 := { b with time := { b.time with delayWait := none, delayInterval := m.logInterval } }
        let t4 := ptpTime m.origin (-m.correction)
        match b.time.syncDiff with
        | some d => ({ b1 with time := { b1.time with syncDiff := none } }).servo 1 ((d + (t4 - t3)).fdiv 2)
        | none => b1
      else b
    | none => b

/-- Lexicographic order of equally long lists. -/
def lexLt : List Nat → List Nat → Bool
  | x :: xs, y :: ys => if x < y then true else if y < x then false else lexLt xs ys
  | _, _ => false

/-- The data set of `a` is better than that of `c` (clause 9.3.4; PRESUMED from the standard, log 120): of one grandmaster
the fewer steps, then the lower sender; of two the grandmasters' own sets, then their identities. -/
def annBetter (a c : PtpAnn) : Bool :=
  if a.grandmaster = c.grandmaster then lexLt [a.steps, a.source] [c.steps, c.source]
  else
    lexLt [a.priority1, a.clockClass, a.accuracy, a.variance, a.priority2, a.grandmaster]
      [c.priority1, c.clockClass, c.accuracy, c.variance, c.priority2, c.grandmaster]

/-- The Announce interval of a master in ns. -/
def Foreign.interval (f : Foreign) : Nat :=
  let l := f.ann.logInterval
  if 0 ≤ l then 10 ^ 9 * 2 ^ l.toNat else 10 ^ 9 / 2 ^ l.natAbs

/-- A foreign master qualifies: it is the selected one, or two of its Announces arrived within the last four Announce
intervals (clause 9.3.2.5; PRESUMED from the standard, log 120). -/
def Body.qualified (b : Body) (f : Foreign) : Bool :=
  (b.on R.TM.PTP_STATUS.SELECTED && f.ann.source == b.rd R.TM.PTP_MASTER.IDENTITY)
    || (match f.prev with
        | some t => decide (b.ns 2 ≤ t + 4 * f.interval)
        | none => false)

/-- A record is kept: of the selected master, or with an Announce within the last four intervals. -/
def Body.foreignFresh (b : Body) (f : Foreign) : Bool :=
  (b.on R.TM.PTP_STATUS.SELECTED && f.ann.source == b.rd R.TM.PTP_MASTER.IDENTITY) || decide (b.ns 2 ≤ f.at_ + 4 * f.interval)

/-- The best of the foreign masters. -/
def bestMaster (l : List Foreign) : Option Foreign :=
  l.foldl (fun acc f =>
    match acc with
    | none => some f
    | some g => if annBetter f.ann g.ann then some f else acc) none

/-- The best qualified foreign master is selected, or none (R381). -/
def Body.selectMaster (b : Body) : Body :=
  match bestMaster (b.time.foreign.filter b.qualified) with
  | none => ((b.wr R.TM.PTP_STATUS.SELECTED 0).wr R.TM.PTP_STATUS.STEPS 0).wr R.TM.PTP_MASTER.IDENTITY 0
  | some f =>
    let b1 := if f.ann.source = b.rd R.TM.PTP_MASTER.IDENTITY then b
              else { b with time := { b.time with syncWait := none, syncDiff := none, delayWait := none } }
    (((b1.wr R.TM.PTP_STATUS.SELECTED 1).wr R.TM.PTP_STATUS.STEPS f.ann.steps).wr R.TM.PTP_STATUS.UTC_OFFSET
      (unsigned f.ann.utcOffset 16)).wr R.TM.PTP_MASTER.IDENTITY f.ann.source

/-- The slave hears an Announce: it runs, in the domain and over the transport of the message, and the message came fewer
than 255 steps. -/
def Body.announceHeard (b : Body) (a : PtpAnn) : Bool :=
  b.on R.TM.PTP_CTRL.ENABLE && a.domain == b.rd R.TM.PTP_CTRL.DOMAIN && a.ethernet == b.on R.TM.PTP_CTRL.TRANSPORT
    && decide (a.steps < 255)

/-- `PTP_ANNOUNCE` (R381): up to eight foreign masters are kept; records without a recent Announce go first. -/
def ptpAnnounce (a : PtpAnn) (b : Body) : Body :=
  if !b.announceHeard a then b
  else
    let others := b.time.foreign.filter (fun f => f.ann.source != a.source && b.foreignFresh f)
    let prev := (b.time.foreign.find? (fun f => f.ann.source == a.source)).map (·.at_)
    let f : Foreign := { ann := a, at_ := b.ns 2, prev := prev }
    ({ b with time := { b.time with foreign := if others.length < 8 then others ++ [f] else others } }).selectMaster

/-- `ANNOUNCE_RECEIPT_TIMEOUT` (R382): ANN_TIMEOUT Announce intervals after its last Announce the selected master is
dropped. -/
def announceReceiptTimeout (b : Body) : Body :=
  if b.on R.TM.PTP_STATUS.SELECTED then
    let mine (f : Foreign) : Bool := f.ann.source == b.rd R.TM.PTP_MASTER.IDENTITY
    let due := match b.time.foreign.find? mine with
      | some f => f.at_ + b.rd R.TM.PTP_CTRL.ANN_TIMEOUT * f.interval
      | none => b.ns 2
    let b := b.toLocal due
    (({ b with time := { b.time with foreign := b.time.foreign.filter (fun f => !mine f && b.foreignFresh f) } } : Body).wr
      R.TM.PTP_STATUS.SELECTED 0).selectMaster
  else b

/-! ## The meanings -/

def execTb0Sample (s : State) := run tb0Sample s
def execHoldover (i : Fin 2) (s : State) := run (holdover i.val) s
def execTimeAnnounceSend (s : State) := run timeAnnounceSend s
def execTimeAnnounce (link : Fin 64) (pl : Bytes) (s : State) := run (timeAnnounce link.val pl) s
def execRelockSlew (m : Master) (base : Fin 2) (s : State) :=
  run (Body.written [iTM] 0x30 (relockSlew m base.val)) s
def execRelockStep (m : Master) (base : Fin 2) (s : State) :=
  run (Body.written [iTM] 0x30 (relockStep m base.val)) s
def execTb3Set (m : Master) (v : BitVec 32) (s : State) :=
  run (Body.written [iTM] 0x40 (tb3Set m v.toNat)) s
def execSync (m : PtpMsg) (s : State) := run (sync m) s
def execFollowUp (m : PtpMsg) (s : State) := run (followUp m) s
def execDelayReqSend (s : State) := run delayReqSend s
def execDelayResp (m : PtpMsg) (s : State) := run (delayResp m) s
def execPtpAnnounce (a : PtpAnn) (s : State) := run (ptpAnnounce a) s
def execAnnounceReceiptTimeout (s : State) := run announceReceiptTimeout s
def execTimeBaseSecondsRead (m : Master) (i : Fin 4) (s : State) := run (timeBaseSecondsRead m i.val) s

end Sys2Proof.Machine
end

