-- ==== Sys2Proof/Machine/Security.lean ====
section
/-! DEFINITION. Security (spec/18_host_security.md R442 to R450, R400): signatures, the trust list, the configuration
block, boot, signed commands and attestation. -/

namespace Sys2Proof.Machine

/-! ## Keys -/

/-- A public key is 388 bytes: a 384-byte modulus, then a 4-byte exponent (R448).  Whether a signature by it verifies. -/
def keyVerifies (key msg sig : Bytes) : Bool := Config.sigValid (slice key 0 384) (le key 384 4) msg sig

/-- The digest by which a key is named (R448). -/
def keyDigest (key : Bytes) : Bytes := sha256 (slice key 0 388)

/-- Exain's root key agrees with the digest in SC's mask ROM (R444 step 1). -/
def flashRootOk (f : FlashContent) : Bool := sha256 f.rootKey == Config.rootDigest.toList

/-- The module's device serial, from its certificate (R448). -/
def Body.deviceSerial (b : Body) : Nat := le b.sec.flash.certificate 8 8

/-- An anti-rollback counter (R445). -/
def Body.rollback (b : Body) (k : Nat) : Nat := b.rd (R.SC.ROLLBACK.VALUE k)

/-- A counter raised; it never decreases (R445). -/
def Body.raiseCounter (b : Body) (k v : Nat) : Body :=
  (b.wr (R.SC.ROLLBACK.VALUE k) (max (b.rollback k) v))

/-! ## The trust list (R446) -/

/-- The keys of a trust list with their roles: 1 owner, 2 operator. -/
def trustKeys (t : Bytes) : List (Nat × Bytes) :=
  ((List.range (min (le t 6 2) 16)).map (fun i =>
    let e := slice t (64 + 400 * i) 400
    (le e 0 1, slice e 8 384 ++ slice e 4 4))).filter (fun k => k.1 == 1 || k.1 == 2)

/-- The form of a trust list: magic, version, count and roles. -/
def trustWf (t : Bytes) : Bool :=
  t.length = 6848 && le t 0 4 = 0x54534C54 && le t 4 2 = 0x0100 && le t 6 2 ≤ 16
    && (List.range 16).all (fun i => decide (le t (64 + 400 * i) 1 ≤ 2))

/-- The list is signed by the key it names among those given. -/
def trustSigned (keys : List Bytes) (t : Bytes) : Bool :=
  keys.any (fun k => keyDigest k == slice t 12 32 && keyVerifies k (slice t 0 6464) (slice t 6464 384))

/-- The trust list in force (R446). -/
def Body.trustList (b : Body) : Bytes :=
  if b.sec.trust = 1 then b.sec.flash.trustA else if b.sec.trust = 2 then b.sec.flash.trustB else []

/-- The keys of a role in the list in force. -/
def Body.keysOf (b : Body) (role : Nat) : List Bytes :=
  ((trustKeys b.trustList).filter (fun k => k.1 == role)).map (·.2)

/-- The enrolled operator key with a digest. -/
def Body.operatorKey (b : Body) (digest : Bytes) : Option Bytes := (b.keysOf 2).find? (fun k => keyDigest k == digest)

/-- The enrolled operator or owner key with a digest. -/
def Body.anyKey (b : Body) (digest : Bytes) : Option Bytes :=
  ((trustKeys b.trustList).map (·.2)).find? (fun k => keyDigest k == digest)

/-! ## The configuration block (R447) -/

/-- The regions that a block names: start and length in bytes. -/
def configRegions (c : Bytes) : List (Nat × Nat) :=
  (List.range 4).map (fun i => (le c (48 + 8 * i) 8, le c 80 4 * 2 ^ 20))
    ++ [(le c 84 8, 2 ^ 28), (le c 92 8, le c 100 2 * 2 ^ 20)]

/-- No two of the regions overlap. -/
def disjointRegions : List (Nat × Nat) → Bool
  | [] => true
  | r :: rs => rs.all (fun q => decide (r.1 + r.2 ≤ q.1) || decide (q.1 + q.2 ≤ r.1)) && disjointRegions rs

/-- The form of a configuration block. -/
def configWf (c : Bytes) : Bool :=
  c.length = 4096 && le c 0 4 = 0x4B4C4243 && le c 4 2 = 0x0100 && le c 6 2 = 4096 && le c 80 4 ≠ 0
    && (configRegions c).all (fun r => decide (r.1 + r.2 ≤ lpddrEnd)) && disjointRegions (configRegions c)

/-- The block is signed by an owner key of the list in force, or by the root key while the list holds no owner. -/
def Body.configSigned (b : Body) (c : Bytes) : Bool :=
  let owners := b.keysOf 1
  (if owners.isEmpty then [b.sec.flash.rootKey] else owners).any
    (fun k => keyDigest k == slice c 3584 32 && keyVerifies k (slice c 0 3648) (slice c 3648 384))

/-- The copy of the configuration block in force: 0 none, 1 A, 2 B. -/
def Body.configBlock (b : Body) : Bytes :=
  let n := b.rd R.SC.STATUS.CONFIG
  if n = 1 then b.sec.flash.configA else if n = 2 then b.sec.flash.configB else []

/-- The registers whose values the configuration block gives; `cold` when they are also reset to their defaults (R318). -/
def Body.applyConfig (b : Body) (cold : Bool) : Body :=
  let c := b.configBlock
  let b1 := forEach (List.range 8) (fun k t => t.wr (R.M.RATE.RATE k) (le c 16 1)) b
  let b2 := ((b1.wr R.SB.PMBUS_STATUS.ADDR (le c 17 1)).wr R.MG.PORT_ADDR.MAC (le c 20 6)).wr R.MG.PORT_IPV4.ADDR (le c 28 4)
  let b3 := forEach (List.range 2) (fun h t =>
    (t.wr (R.SN.HARBOUR_BASE.ADDR h) (le c (48 + 8 * h) 8 / 2 ^ 12)).wr (R.SN.BUDDY_BASE.ADDR h)
      (le c (64 + 8 * h) 8 / 2 ^ 12)) b2
  let b4 := ((((b3.wr R.SN.HARBOUR_SIZE.MIB (le c 80 4)).wr R.DB.DUMP_BASE.ADDR (le c 84 8 / 2 ^ 28)).wr
    R.MG.DSP_LEDGER_BASE.ADDR (le c 92 8 / 2 ^ 6)).wr R.MG.DSP_LEDGER_SIZE.MIB (le c 100 2)).wr R.MG.PORT_STATUS.CONFIGURED 1
  let b5 := (b4.wr R.SC.STATUS.SCAN_UNLOCKED (le c 46 1 % 2)).wr R.TM.PTP_CTRL.ENABLE (b2n (bit (le c 46 1) 1))
  if cold then
    let b6 := b5.wr R.SB.VCORE.TARGET (le c 18 2)
    forEach (List.range 256) (fun i t =>
      let src := le c (128 + 4 * i) 2
      if src = 0xFFFF ∨ defaultLevel src = none then t else t.wr (R.CT.SEVERITY.LEVEL src) (le c (130 + 4 * i) 1)) b6
  else b5

/-! ## Firmware images (R443) -/

/-- The image in a slot of a kind. -/
def flashImage (f : FlashContent) (kind slot : Nat) : Bytes := SMap.getD f.slots (2 * kind + slot) []

/-- An image's header and signature are right: the key it names is the root key, and its body has its digest. -/
def imageSigned (root img : Bytes) (kind : Nat) : Bool :=
  512 ≤ img.length && le img 0 4 = 0x4D495846 && le img 4 2 = 0x0100 && le img 6 1 = kind
    && slice img 52 32 == keyDigest root && keyVerifies root (slice img 0 128) (slice img 128 384)
    && sha256 (slice img 512 (le img 16 4)) == slice img 20 32

def imageSecVersion (img : Bytes) : Nat := le img 8 4
def imageVersion (img : Bytes) : Nat := le img 12 4

/-- An image is verifiable (R443). -/
def Body.verifiable (b : Body) (kind : Nat) (img : Bytes) : Bool :=
  imageSigned b.sec.flash.rootKey img kind && decide (b.rollback kind ≤ imageSecVersion img)

/-- The active slot of a kind. -/
def flashActive (f : FlashContent) (kind : Nat) : Nat := b2n (bit f.active kind)

/-- A kind's active slot chosen, with the version it shows (R444). -/
def Body.setActive (b : Body) (kind slot : Nat) : Body :=
  let fl := b.sec.flash
  let b1 : Body := { b with sec := { b.sec with
    flash := { fl with active := setBits fl.active kind 1 slot },
    runSince := SMap.insert b.sec.runSince kind (b.ns 2) } }
  if kind < 4 then
    (b1.wr (R.SB.FW_SLOT.ACTIVE kind) slot).wr (R.SB.FW_SLOT.VERSION kind) (imageVersion (flashImage fl kind slot))
  else b1

/-! ## Boot (R444) -/

/-- `SB.FW_SLOT_i.STAGED`, which the flash holds (R425): the inactive slot has a verifiable image. -/
def Body.showStaged (b : Body) (kind : Nat) : Body :=
  b.wr (R.SB.FW_SLOT.STAGED kind)
    (b2n (b.verifiable kind (flashImage b.sec.flash kind (1 - b.rd (R.SB.FW_SLOT.ACTIVE kind)))))

/-- Boot fails: `HI.STATUS.BOOT_FAILED` is set and readiness is never reported (R436). -/
def Body.bootFailed (b : Body) : Body := b.wr R.HI.STATUS.BOOT_FAILED 1

/-- A kind whose slots both fail: SC source 0 (R444). -/
def Body.bootKindFailed (b : Body) (kind : Nat) : Body :=
  (((b.wr R.SC.STATUS.BOOT 3).wr R.SC.STATUS.FAILED_KIND kind).raiseN iSC 0).bootFailed

/-- The trust list copy to use at boot (R446): of the valid copies the one with the higher serial; 0 none. -/
def Body.bootTrust (b : Body) : Nat :=
  let f := b.sec.flash
  let owners (t : Bytes) : List Bytes := ((trustKeys t).filter (fun k => k.1 == 1)).map (·.2)
  let ok (t other : Bytes) : Bool :=
    trustWf t && decide (b.rollback 6 ≤ le t 8 4) && trustSigned (f.rootKey :: owners other) t
  let a := ok f.trustA f.trustB
  let c := ok f.trustB f.trustA
  if a && (!c || decide (le f.trustB 8 4 ≤ le f.trustA 8 4)) then 1 else if c then 2 else 0

/-- The configuration copy to use at boot (R447). -/
def Body.bootConfig (b : Body) : Nat :=
  let f := b.sec.flash
  let ok (c : Bytes) : Bool := configWf c && decide (b.rollback 5 ≤ le c 8 4) && b.configSigned c
  let a := ok f.configA
  let c := ok f.configB
  if a && (!c || decide (le f.configB 8 4 ≤ le f.configA 8 4)) then 1 else if c then 2 else 0

/-- Step 5 of R444 for one kind. -/
def Body.bootKind (b : Body) (kind : Nat) : Body :=
  let f := b.sec.flash
  let a := flashActive f kind
  let c := if b.verifiable kind (flashImage f kind a) then b.setActive kind a
    else if b.verifiable kind (flashImage f kind (1 - a)) then b.setActive kind (1 - a)
    else b.bootKindFailed kind
  c.showStaged kind

/-- The configuration block that SB finds in the flash before SC runs: the copy that boot will use (R413, R447, log 110). -/
def Body.powerBlock (b : Body) : Option Bytes :=
  let b1 : Body := { b with sec := { b.sec with trust := b.bootTrust } }
  if b1.bootConfig = 1 then some b.sec.flash.configA else if b1.bootConfig = 2 then some b.sec.flash.configB else none

/-- VCORE target and stage address as that block gives them; without one the registers stand as they are. -/
def Body.powerConfig (b : Body) : Body :=
  match b.powerBlock with
  | some c => (b.wr R.SB.VCORE.TARGET (le c 18 2)).wr R.SB.PMBUS_STATUS.ADDR (le c 17 1)
  | none => b

/-- The boot chain (R444); `cold` as for `applyConfig`. -/
def Body.boot (b : Body) (cold : Bool) : Body :=
  let f := b.sec.flash
  let b := b.wr R.SC.STATUS.BOOT 0
  if !flashRootOk f then b.bootFailed
  else
    let b := if b.verifiable 4 (flashImage f 4 0) then b.setActive 4 0
             else if b.verifiable 4 (flashImage f 4 1) then b.setActive 4 1 else b.bootKindFailed 4
    if b.rd R.SC.STATUS.BOOT = 3 then b
    else
      let b := (b.wr R.SC.STATUS.BOOT 1).wr R.SC.STATUS.IDENTITY (b2n f.unwrapOk)
      let b := if f.unwrapOk then b else b.raiseN iSC 3
      let n := b.bootTrust
      let b : Body := { b with sec := { b.sec with trust := n } }
      let b := (b.wr R.SC.STATUS.TRUST_ENTRIES (trustKeys b.trustList).length).wr R.SC.STATUS.OWNER
        (b2n (!(b.keysOf 1).isEmpty))
      let b := b.wr R.SC.STATUS.CONFIG b.bootConfig
      let b := if b.rd R.SC.STATUS.CONFIG = 0 then b.bootFailed else b.applyConfig cold
      let b := forEach [0, 1, 2, 3] (fun k t => t.bootKind k) b
      if b.rd R.SC.STATUS.BOOT = 3 then b else b.wr R.SC.STATUS.BOOT 2

/-! ## Writes that SC serves -/

/-- A write of a register of SC or DB with GO: dropped when the island is closed, honoured from host and MG only. -/
def Body.honoured (b : Body) (m : Master) (i off v : Nat) (f : Body → Body) : Body :=
  if !b.inService i then b.cfgEvent m i off v 3
  else if m ≠ .host ∧ m ≠ .mg then b.cfgEvent m i off v 2
  else f b

/-- A result in `SC.UPDATE`, with SC's source for a failed signature or a rollback. -/
def Body.updateResult (b : Body) (r : Nat) : Body :=
  let b1 := b.wr R.SC.UPDATE.RESULT r
  if r = 2 then b1.raiseN iSC 0 else if r = 3 then b1.raiseN iSC 1 else b1

/-- The value of a write of `SC.UPDATE`. -/
def updateValue (addr kind : Nat) : Nat := addr * 2 ^ 6 + 2 ^ 48 + kind * 2 ^ 50

/-- `TRUST_LIST_STAGE` (R446): the list at the address goes to the copy not in force. -/
def trustListStage (m : Master) (addr : Nat) (b : Body) : Body :=
  b.honoured m iSC 0x210 (updateValue addr 1) (fun b =>
    let b := (b.wr R.SC.UPDATE.ADDR addr).wr R.SC.UPDATE.KIND 1
    if b.on R.SC.UPDATE.BUSY then b.updateResult 5
    else
      let t := b.dataFor iSC (addr * 64) 6848
      let b := (b.fetch iSC 9 (addr * 64) 6848).2
      if lpddrEnd < addr * 64 + 6848 || !trustWf t then b.updateResult 4
      else if !trustSigned (b.sec.flash.rootKey :: b.keysOf 1) t then b.updateResult 2
      else if le t 8 4 < b.rollback 6 then b.updateResult 3
      else
        let f := b.sec.flash
        let f := if b.sec.trust = 1 then { f with trustB := t } else { f with trustA := t }
        (({ b with sec := { b.sec with flash := f } }).raiseCounter 6 (le t 8 4)).updateResult 1)

/-- `CONFIGURATION_BLOCK_STAGE` (R447): the block goes to the copy not in use. -/
def configurationBlockStage (m : Master) (addr : Nat) (b : Body) : Body :=
  b.honoured m iSC 0x210 (updateValue addr 0) (fun b =>
    let b := (b.wr R.SC.UPDATE.ADDR addr).wr R.SC.UPDATE.KIND 0
    if b.on R.SC.UPDATE.BUSY then b.updateResult 5
    else
      let c := b.dataFor iSC (addr * 64) 4096
      let b := (b.fetch iSC 9 (addr * 64) 4096).2
      if lpddrEnd < addr * 64 + 4096 || !configWf c then b.updateResult 4
      else if !b.configSigned c then b.updateResult 2
      else if le c 8 4 < b.rollback 5 then b.updateResult 3
      else
        let f := b.sec.flash
        let f := if b.rd R.SC.STATUS.CONFIG = 1 then { f with configB := c } else { f with configA := c }
        (({ b with sec := { b.sec with flash := f } }).raiseCounter 5 (le c 8 4)).updateResult 1)

/-! ## Signed commands (R442) -/

/-- The bytes of a signed command, and the register write that submits it is honoured. -/
def Body.scBytes (b : Body) (src : ScSource) (n : Nat) : Bytes :=
  match src with
  | .port bs => slice bs 0 n
  | .reg _ a => b.dataFor iSC (a.toNat * 64) n

/-- SC reads them: from memory through its strait, where a lost unit is reported (R223). -/
def Body.scReads (b : Body) (src : ScSource) (n : Nat) : Body :=
  match src with
  | .port _ => b
  | .reg _ a => (b.fetch iSC 9 (a.toNat * 64) n).2

/-- The checks of R442 in order; 0 when every one holds. -/
def Body.commandCode (b : Body) (c : Bytes) (bodyOk : Bool) : Nat :=
  if le c 0 4 ≠ 0x434D4453 ∨ le c 4 2 ≠ 0x0100 then 1
  else if le c 8 8 ≠ b.deviceSerial ∨ (le c 16 4 ≠ b.place ∧ le c 16 4 ≠ 0) then 2
  else
    match b.anyKey (slice c 28 32) with
    | none => 3
    | some k =>
      if !keyVerifies k (slice c 0 128) (slice c 128 384) then 4
      else if le c 20 8 ≤ b.rollback 8 then 5
      else if !bodyOk then 6 else 0

/-- The result goes to where the command came from: `SC.CMD.RESULT`, or message 0x05; cause bit 12 either way (R435, R440). -/
def Body.commandResult (b : Body) (src : ScSource) (counter r : Nat) : Body :=
  let b1 := if r = 4 then b.raiseN iSC 0 else if r = 5 then b.raiseN iSC 1 else b
  let b2 := match src with
    | .port _ => b1.sendMgmt 0x05 (leBytes 8 counter ++ leBytes 1 r)
    | .reg _ _ => b1.wr R.SC.CMD.RESULT r
  b2.irq 12

/-- A signed command of type `type` (R442): checked, then counter 8 raised, then carried out.  Bytes of another of the five types are
not this command; those of a reserved type are checked too, and fail at the body at the latest.  SC handles a command within the
command that brings it, so that `SC.CMD.BUSY` never stands at 1 in a run (log 118).  A message of another length than 512 is dropped
and counted (R440).  `deny` is what a body refused in the module's state still does. -/
def signedCommand (type : Nat) (bodyOk : Bytes → Body → Bool) (act deny : Bytes → Body → Body) (src : ScSource) (b : Body) : Body :=
  let go (b : Body) : Body :=
    let c := b.scBytes src 512
    let b := b.scReads src 512
    let t := le c 6 1
    if t ≠ type ∧ 1 ≤ t ∧ t ≤ 5 then b
    else if b.on R.SC.CMD.BUSY then b.commandResult src (le c 20 8) 7
    else
      let r := b.commandCode c (t == type && bodyOk c b)
      if r = 0 then (act c (b.raiseCounter 8 (le c 20 8))).commandResult src (le c 20 8) 0
      else (if r = 6 ∧ t = type then deny c b else b).commandResult src (le c 20 8) r
  match src with
  | .port bs =>
    if !b.inService iMG then b
    else if bs.length ≠ 512 then b.portDrop
    else if b.inService iSC then go b.portFrame else b
  | .reg m a => (b.writtenAt 0x200 iSC).honoured m iSC 0x200 (a.toNat * 2 ^ 6 + 2 ^ 48) (fun b => go (b.wr R.SC.CMD.ADDR a.toNat))

/-- `ASSIGN_PLACE_ADDRESS` (R286): the slot bits must equal the straps; reserved bits [7:0] are zero (R14), and hall, row, rack
and tray are not all zero (R173). -/
def assignPlaceAddress : ScSource → Body → Body :=
  signedCommand 1 (fun c b => bits (le c 64 4) 8 2 == b.sb.straps && le c 64 4 % 256 == 0 && le c 64 4 / 2 ^ 10 != 0)
    (fun c b => b.wr R.MG.DSP_PLACE.PLACE (le c 64 4)) (fun _ b => b)

/-- `TIME_RELOCK` (R374): base in byte 64 and mode in byte 65; a step of TB0 while a job runs is refused with
`TM.RELOCK.REFUSED` set and recorded, and the result is 6. -/
def timeRelock : ScSource → Body → Body :=
  signedCommand 2
    (fun c b => le c 64 1 < 2 && le c 65 1 < 2 && !(le c 64 1 == 0 && le c 65 1 == 1 && b.jobRuns))
    (fun c b => if le c 65 1 = 0 then relockSlew .mg (le c 64 1) (b.seen R.TM.RELOCK.BASE)
      else relockStep .mg (le c 64 1) (b.seen R.TM.RELOCK.BASE))
    (fun c b => if le c 64 1 = 0 ∧ le c 65 1 = 1 then relockStep .mg 0 (b.seen R.TM.RELOCK.BASE) else b)

/-! ## Attestation (R450) -/

/-- One measurement entry of 48 bytes; without content its digest is zero. -/
def measurement (kind slot : Nat) (versions : Bytes) (digest : Bytes) : Bytes :=
  leBytes 1 kind ++ leBytes 1 slot ++ zeros 2 ++ slice versions 0 8 ++ zeros 4 ++ slice digest 0 32

/-- The measurement of a firmware kind's active slot. -/
def Body.measureFw (b : Body) (kind : Nat) : Bytes :=
  let slot := flashActive b.sec.flash kind
  let img := flashImage b.sec.flash kind slot
  measurement kind slot (slice img 8 8) (slice img 20 32)

/-- The measurement of a block or a timetable: its version bytes are free values (log 9). -/
def Body.measureBlock (b : Body) (kind slot : Nat) (digest : Bytes) : Bytes :=
  measurement kind slot (leBytes 8 (Config.freeValue 64 (b.free + kind)).toNat) digest

/-- The digest of a block, zero when there is none. -/
def blockDigest (bs : Bytes) : Bytes := if bs.isEmpty then zeros 32 else sha256 bs

/-- The ten measurements and two zero entries. -/
def Body.measurements (b : Body) : Bytes :=
  (List.range 5).flatMap b.measureFw
    ++ b.measureBlock 5 (b.rd R.SC.STATUS.CONFIG - 1) (blockDigest b.configBlock)
    ++ b.measureBlock 6 (b.sec.trust - 1) (blockDigest b.trustList)
    ++ b.measureBlock 7 0 (if b.sec.flash.calSerial = 0 then zeros 32 else
        leBytes 32 (Config.freeValue 256 (b.free + 10)).toNat)
    ++ b.measureBlock 8 0 (match b.job.active with | some im => im.digest | none => zeros 32)
    ++ b.measureBlock 9 0 (match b.job.staged with | some im => im.digest | none => zeros 32)
    ++ zeros 96

/-- The attestation report (R450). -/
def Body.attestation (b : Body) (nonce : Bytes) : Bytes :=
  let h := leBytes 4 0x54545441 ++ leBytes 2 0x0100 ++ leBytes 2 1536 ++ leBytes 4 b.place ++ leBytes 8 b.deviceSerial
    ++ leBytes 1 0xB0 ++ leBytes 1 10 ++ zeros 2 ++ leBytes 12 (b.recordStamp iSC) ++ slice nonce 0 32
    ++ keyDigest b.sec.flash.identity ++ zeros 28 ++ b.measurements
  h ++ (Config.identitySign h).toList ++ slice b.sec.flash.certificate 0 448

/-- `ATTESTATION_REQUEST` (R450): over the port, or by `SC.ATTEST` with the nonce at ADDR and the report at ADDR + 64. -/
def attestationRequest (src : ScSource) (b : Body) : Body :=
  let used (b : Body) : Body := { b with free := b.free + 11 }
  match src with
  | .port nonce =>
    if !b.inService iMG then b
    else if nonce.length ≠ 32 then b.portDrop
    else if !b.inService iSC then b
    else
      let b := b.portFrame
      if !b.on R.SC.STATUS.IDENTITY then b
      else ((used b).sendMgmt 0x07 (b.attestation nonce)).irq 13
  | .reg m a =>
    (b.writtenAt 0x220 iSC).honoured m iSC 0x220 (a.toNat * 2 ^ 6 + 2 ^ 48) (fun b =>
      let b := b.wr R.SC.ATTEST.ADDR a.toNat
      if b.on R.SC.ATTEST.BUSY then b.wr R.SC.ATTEST.RESULT 5
      else if !b.on R.SC.STATUS.IDENTITY then b.wr R.SC.ATTEST.RESULT 6
      else if lpddrEnd < a.toNat * 64 + 64 + 1536 then b.wr R.SC.ATTEST.RESULT 4
      else (((used (b.fetch iSC 9 (a.toNat * 64) 32).2).storeBytes (a.toNat * 64 + 64)
        (b.attestation (b.dataFor iSC (a.toNat * 64) 32)) (iSC * 64) 9).wr R.SC.ATTEST.RESULT
        1).irq 13)

/-! ## Clearing the event recorder (R400) -/

/-- The queued records are all written. -/
def Body.flushRecords (b : Body) : Body := repeatN b.obs.evQueue.length eventRecordWrite b

/-- A refused clear: its result, and the refusal recorded (R396). -/
def Body.clearRefused (b : Body) (m : Master) (r : Nat) : Body :=
  ((b.wr R.DB.EVR_CLEAR_CTRL.RESULT r).cfgEvent m iDB 0x828 1 0).irq 14

/-- `EVR_CLEAR` (R400): a write of `DB.EVR_CLEAR_CTRL` with GO; the command's address is `DB.EVR_CLEAR_ADDR`. -/
def evrClear (m : Master) (b : Body) : Body :=
  b.honoured m iDB 0x828 1 (fun b =>
    let at_ := b.rd R.DB.EVR_CLEAR_ADDR.ADDR * 64
    let c := b.dataFor iSC at_ 448
    let clears := b.rd R.DB.EVR_STATUS.CLEARS
    if b.on R.SC.CMD.BUSY || !b.inService iSC then b.clearRefused m 5
    else
      let b := (b.fetch iSC 9 at_ 448).2
      let signed := match b.operatorKey (slice c 16 32) with
        | some k => keyVerifies k (slice c 0 64) (slice c 64 384)
        | none => false
      if !signed || le c 0 4 ≠ 0x43454C43 || le c 4 2 ≠ 0x0100 then (b.raiseN iSC 0).clearRefused m 2
      else if le c 8 4 ≠ b.place ∨ le c 12 4 ≠ clears then b.clearRefused m 3
      else if b.on R.DB.EVR_STATUS.HISTORY_FULL then b.clearRefused m 4
      else
        let b := b.flushRecords
        let seq := b.rd R.DB.EVR_SEQ_NEXT.VALUE
        let newest := match b.obs.evLog with | [] => 0 | e :: _ => e.1
        let rec_ : EvRec := {
          stamp := b.recordStamp iDB, code := 0x8640, source := 0xFFFF, count := 0, level := 0xFF,
          flags := 4 + (if b.obs.evLostFlag then 2 else 0), island := iDB,
          detail := detail24 (leBytes 8 newest ++ slice c 16 16) }
        let o := { b.obs with evLog := [(seq, rec_)], evClears := (seq, rec_) :: b.obs.evClears, evLostFlag := false }
        let b1 : Body := { b with obs := o }
        ((((((b1.wr R.DB.EVR_SEQ_NEXT.VALUE (seq + 1)).wr R.DB.EVR_SEQ_OLD.VALUE seq).wr R.DB.EVR_STATUS.CLEARS
          (clears + 1)).wr R.DB.EVR_STATUS.HISTORY_FULL (b2n (1024 ≤ clears + 1))).trace iDB 0x8640 0 0 false).wr
          R.DB.EVR_CLEAR_CTRL.RESULT 1).irq 14)

/-! ## Firmware staging (R425, R445) -/

/-- `STAGE_STATUS` of a kind; a change sets cause bit 11 (R435). -/
def Body.stageStatus (b : Body) (kind r : Nat) : Body :=
  if b.rd (R.SB.FW_SLOT.STAGE_STATUS kind) = r then b else (b.wr (R.SB.FW_SLOT.STAGE_STATUS kind) r).irq 11

/-- `FW_STAGE` (R425): the image at the address goes to the inactive slot of its kind once SC has verified it. -/
def fwStage (m : Master) (addr kind : Nat) (flashError : Bool) (b : Body) : Body :=
  let v := addr * 2 ^ 6 + kind * 2 ^ 48 + 2 ^ 50
  if m ≠ .host ∧ m ≠ .mg then b.cfgEvent m iSB 0x140 v 2
  else
    let b := (b.wr R.SB.FW_STAGE.ADDR addr).wr R.SB.FW_STAGE.KIND kind
    if b.on (R.SB.FW_SLOT.PENDING kind) then b.cfgEvent m iSB 0x140 v 0
    else if !b.inService iSC then b.stageStatus kind 5
    else
      let n := 512 + le (b.dataFor iSC (addr * 64) 20) 16 4
      let img := b.dataFor iSC (addr * 64) n
      let b := (b.fetch iSC 9 (addr * 64) n).2
      if lpddrEnd < addr * 64 + img.length || !imageSigned b.sec.flash.rootKey img kind then
        (b.stageStatus kind 2).raiseN iSC 0
      else if imageSecVersion img < b.rollback kind then (b.stageStatus kind 3).raiseN iSC 1
      else if flashError then ((b.wr (R.SB.FW_SLOT.STAGED kind) 0).stageStatus kind 4).raiseN iSC 2
      else
        let f := b.sec.flash
        let slot := 1 - b.rd (R.SB.FW_SLOT.ACTIVE kind)
        (({ b with sec := { b.sec with flash := { f with slots := SMap.insert f.slots (2 * kind + slot) img } } }).wr
          (R.SB.FW_SLOT.STAGED kind) 1).stageStatus kind 1

/-- `ROLLBACK_COUNTER_RAISE` (R445): 60 s after the image became active without a revert its counter rises. -/
def rollbackCounterRaise (kind : Nat) (b : Body) : Body :=
  match SMap.find b.sec.runSince kind with
  | none => b
  | some t =>
    if kind < 4 && b.on (R.SB.FW_SLOT.REVERTED kind) then b
    else
      (b.toLocal (t + 60 * 10 ^ 9)).raiseCounter kind
        (imageSecVersion (flashImage b.sec.flash kind (flashActive b.sec.flash kind)))

/-! ## The meanings -/

def execTrustListStage (m : Master) (addr : BitVec 42) (s : State) :=
  run (Body.written [iSC] 0x210 (trustListStage m addr.toNat)) s
def execConfigurationBlockStage (m : Master) (addr : BitVec 42) (s : State) :=
  run (Body.written [iSC] 0x210 (configurationBlockStage m addr.toNat)) s
def execAssignPlaceAddress (src : ScSource) (s : State) := run (assignPlaceAddress src) s
def execTimeRelock (src : ScSource) (s : State) := run (timeRelock src) s
def execAttestationRequest (src : ScSource) (s : State) := run (attestationRequest src) s
def execEvrClear (m : Master) (s : State) :=
  run (Body.written [iDB] 0x828 (evrClear m)) s
def execFwStage (m : Master) (addr : BitVec 42) (kind : Fin 4) (flashError : Bool) (s : State) :=
  run (Body.written [iSB] 0x140 (fwStage m addr.toNat kind.val flashError)) s
def execRollbackCounterRaise (kind : Fin 5) (s : State) := run (rollbackCounterRaise kind.val) s

end Sys2Proof.Machine
end

