-- ==== Sys2Proof/Machine/LiveUpdate.lean ====
section
/-! DEFINITION. Live update (spec/17_power_reset.md R424 to R428): firmware switches, the MG watchdog, calibration reload. -/

namespace Sys2Proof.Machine

/-! ## Firmware switches (R425, R426) -/

/-- One kind switches to its other slot (R426); MG's switch starts its watchdog anew (R427). -/
def Body.switchKind (b : Body) (kind : Nat) : Body :=
  let old := b.rd (R.SB.FW_SLOT.ACTIVE kind)
  let b1 := (((b.setActive kind (1 - old)).wr (R.SB.FW_SLOT.PENDING kind) 0).wr (R.SB.FW_SLOT.REVERTED kind) 0).irq 11
  if kind = 0 then { b1 with sb := { b1.sb with mgSwitch := some (old, false), kickAt := b1.ns 2 } } else b1

/-- The pending switches of the kinds for which `due` holds take effect (R425 step 4). -/
def Body.applySwitch (b : Body) (due : Nat → Bool) : Body :=
  forEach [0, 1, 2, 3] (fun k t =>
    if bit t.sb.fwPending k && due (SMap.getD t.sb.fwPeriod k 0) then
      let c := t.switchKind k
      { c with sb := { c.sb with fwPending := setBits c.sb.fwPending k 1 0, fwPeriod := SMap.erase c.sb.fwPeriod k } }
    else t) b

/-- The value of a write of the low half of `SB.FW_SWITCH`. -/
def switchValue (kinds cmd : Nat) : Nat := kinds + cmd * 2 ^ 8

/-- `FW_SWITCH` (R425): the kinds of the mask switch at period N, or at once while no job runs.  A period less than two
ahead, or a kind with nothing staged, is refused and recorded. -/
def fwSwitch (m : Master) (kinds n : Nat) (b : Body) : Body :=
  let refuse (reason : Nat) : Body := b.cfgEvent m iSB 0x150 (switchValue kinds 1) reason
  if m ≠ .host ∧ m ≠ .mg then refuse 2
  else
    let b1 := (b.wr R.SB.FW_SWITCH.KINDS kinds).wr R.SB.FW_SWITCH.PERIOD n
    let unstaged := [0, 1, 2, 3].any (fun k => bit kinds k && !b.on (R.SB.FW_SLOT.STAGED k))
    if unstaged || (b.jobRuns && decide (n < b.period + 2)) then
      b1.cfgEvent m iSB 0x150 (switchValue kinds 1) 0
    else
      let b2 := forEach [0, 1, 2, 3] (fun k t => if bit kinds k then t.wr (R.SB.FW_SLOT.PENDING k) 1 else t) b1
      let periods := forEach ([0, 1, 2, 3].filter (fun k => bit kinds k)) (fun k t => SMap.insert t k n) b2.sb.fwPeriod
      let b3 : Body := { b2 with sb := { b2.sb with fwPending := b2.sb.fwPending ||| kinds, fwPeriod := periods } }
      if b.jobRuns then b3 else b3.applySwitch (fun _ => true)

/-- `FW_SWITCH_CANCEL` (R425): pending switches are dropped. -/
def fwSwitchCancel (m : Master) (b : Body) : Body :=
  if m ≠ .host ∧ m ≠ .mg then b.cfgEvent m iSB 0x150 (switchValue 0 2) 2
  else
    let b1 := forEach [0, 1, 2, 3] (fun k t => t.wr (R.SB.FW_SLOT.PENDING k) 0) b
    { b1 with sb := { b1.sb with fwPending := 0, fwPeriod := [] } }

/-! ## The watchdog (R427) -/

/-- `KICK`: honoured from MG only.  A kick in time after a switch settles that switch (R427). -/
def kick (m : Master) (b : Body) : Body :=
  if m = .mg then { b with sb := { b.sb with kickAt := b.ns 2, mgSwitch := none } } else b.cfgEvent m iSB 0x40 (2 ^ 16) 2

/-- `WATCHDOG_EXPIRY` (R427): after a fresh MG switch the previous slot becomes active again; otherwise, or the second
time, source 3 is raised. -/
def watchdogExpiry (b : Body) : Body :=
  if !b.inService iMG then b
  else
    let b := b.toLocal (b.sb.kickAt + b.rd R.SB.WDOG.TIMEOUT * 10 ^ 6)
    let b : Body := { b with sb := { b.sb with kickAt := b.ns 2 } }
    match b.sb.mgSwitch with
    | some (old, false) =>
      let b1 : Body := { b with sb := { b.sb with mgSwitch := some (old, true) } }
      (((b1.setActive 0 old).wr (R.SB.FW_SLOT.REVERTED 0) 1).irq 11).event 0x9042 iSB [0]
    | _ => b.raiseN iSB 3

/-! ## Calibration reload (R428) -/

/-- The result of a reload, recorded (R463). -/
def Body.calResult (b : Body) (r : Nat) : Body := (b.wr R.SB.CAL_RELOAD.RESULT r).event 0x7541 iPV (leBytes 1 r)

/-- PV applies the trims. -/
def Body.calApply (b : Body) : Body := ({ b with sb := { b.sb with calPending := false } }).calResult 1

/-- `CAL_RELOAD` (R428): a write of `SB.CAL_RELOAD` with GO.  The spec gives the block no layout, so whether SC's
verification succeeds, and the block's serial, come with the command (log 10). -/
def calReload (m : Master) (addr : Nat) (verified : Bool) (serial : Nat) (b : Body) : Body :=
  if m ≠ .host ∧ m ≠ .mg then b.cfgEvent m iSB 0x160 (addr * 2 ^ 6 + 2 ^ 48) 2
  else
    let b := b.wr R.SB.CAL_RELOAD.ADDR addr
    if !verified then (b.raiseN iSC 0).calResult 2
    else if serial < b.rollback 7 then (b.raiseN iSC 1).calResult 2
    else
      let f := b.sec.flash
      let b1 := ({ b with sec := { b.sec with flash := { f with calSerial := serial } } } : Body).raiseCounter 7 serial
      if b.jobRuns then ({ b1 with sb := { b1.sb with calPending := true } } : Body).wr R.SB.CAL_RELOAD.RESULT 3
      else b1.calApply

/-! ## The meanings -/

def execFwSwitch (m : Master) (kinds : BitVec 4) (n : BitVec 64) (s : State) :=
  run (Body.written [iSB] 0x150 (fwSwitch m kinds.toNat n.toNat)) s
def execFwSwitchCancel (m : Master) (s : State) :=
  run (Body.written [iSB] 0x150 (fwSwitchCancel m)) s
def execKick (m : Master) (s : State) :=
  run (Body.written [iSB] 0x40 (kick m)) s
def execWatchdogExpiry (s : State) := run watchdogExpiry s
def execCalReload (m : Master) (addr : BitVec 42) (verified : Bool) (serial : BitVec 64) (s : State) :=
  run (Body.written [iSB] 0x160 (calReload m addr.toNat verified serial.toNat)) s

end Sys2Proof.Machine
end

