-- ==== Sys2Proof/Machine/ReedSolomon.lean ====
section
/-! DEFINITION. The forward error correction of R237: the Reed-Solomon code RS(544, 528) over GF(2¹⁰) with field polynomial
x¹⁰ + x³ + 1, α = 2 and generator roots α⁰ to α¹⁵.  The first symbol on the line is the coefficient of the highest power. -/

namespace Sys2Proof.Machine

/-- Multiplication by α in GF(2¹⁰). -/
def gfDouble (x : Nat) : Nat := if 512 ≤ x then ((2 * x) % 1024) ^^^ 0x009 else 2 * x

/-- The product in GF(2¹⁰), over the `n` low bits of `y`. -/
def gfMulN : Nat → Nat → Nat → Nat
  | 0, _, _ => 0
  | n + 1, x, y => (if y % 2 = 1 then x else 0) ^^^ gfMulN n (gfDouble x) (y / 2)

def gfMul (x y : Nat) : Nat := gfMulN 10 x y

/-- αⁿ. -/
def gfPow (n : Nat) : Nat := repeatN (n % 1023) gfDouble 1

/-- The square-and-multiply power. -/
def gfExp : Nat → Nat → Nat → Nat
  | 0, _, _ => 1
  | k + 1, x, n => gfMul (if n % 2 = 1 then x else 1) (gfExp k (gfMul x x) (n / 2))

/-- The inverse in GF(2¹⁰): x¹⁰²². -/
def gfInv (x : Nat) : Nat := gfExp 10 x 1022

/-- The value at `x` of the word whose first symbol is the highest coefficient. -/
def gfHorner (x : Nat) (w : List Nat) : Nat := w.foldl (fun acc c => gfMul acc x ^^^ c) 0

/-- The value at `x` of a polynomial with the lowest coefficient first. -/
def gfEval (p : List Nat) (x : Nat) : Nat := gfHorner x p.reverse

/-- The sixteen rsSyndromes. -/
def rsSyndromes (w : List Nat) : List Nat := (List.range 16).map (fun j => gfHorner (gfPow j) w)

/-- `p + c · x^k · q`, lowest coefficient first. -/
def gfAddMul (p : List Nat) (c k : Nat) (q : List Nat) : List Nat :=
  (List.range (max p.length (q.length + k))).map (fun i =>
    p.getD i 0 ^^^ (if k ≤ i then gfMul c (q.getD (i - k) 0) else 0))

/-- The state of the Berlekamp–Massey recursion: rsLocator, previous rsLocator, length, shift, previous discrepancy. -/
structure Massey where
  loc : List Nat
  prev : List Nat
  len : Nat
  gap : Nat
  disc : Nat

/-- One step over syndrome `n`. -/
def masseyStep (s : List Nat) (n : Nat) (m : Massey) : Massey :=
  let d := (List.range (m.len + 1)).foldl (fun acc i => acc ^^^ gfMul (m.loc.getD i 0) (s.getD (n - i) 0)) 0
  if d = 0 then { m with gap := m.gap + 1 }
  else
    let loc := gfAddMul m.loc (gfMul d (gfInv m.disc)) m.gap m.prev
    if 2 * m.len ≤ n then { loc := loc, prev := m.loc, len := n + 1 - m.len, gap := 1, disc := d }
    else { m with loc := loc, gap := m.gap + 1 }

/-- The error rsLocator of the rsSyndromes and the number of errors. -/
def rsLocator (s : List Nat) : Massey :=
  forEach (List.range 16) (masseyStep s) { loc := [1], prev := [1], len := 0, gap := 1, disc := 1 }

/-- What decoding a codeword gave (R237): the corrected word and the number of symbols corrected, or uncorrectable. -/
def rsDecode (w : List Nat) : Option (List Nat × Nat) :=
  let s := rsSyndromes w
  if s.all (· == 0) then some (w, 0)
  else
    let m := rsLocator s
    if 8 < m.len then none
    else
      let n := w.length
      -- position i counts from the lowest power
      let pos := (List.range n).filter (fun i => gfEval m.loc (gfPow (1023 - i)) == 0)
      if pos.length ≠ m.len then none
      else
        let omega := (List.range 16).map (fun i =>
          (List.range (i + 1)).foldl (fun acc j => acc ^^^ gfMul (s.getD j 0) (m.loc.getD (i - j) 0)) 0)
        let deriv := (List.range m.loc.length).map (fun i => if i % 2 = 0 then m.loc.getD (i + 1) 0 else 0)
        let fix (i : Nat) : Nat :=
          let xi := gfPow (1023 - i)
          gfMul (gfPow i) (gfMul (gfEval omega xi) (gfInv (gfEval deriv xi)))
        let w2 := (List.range n).map (fun t =>
          let i := n - 1 - t
          if pos.contains i then w.getD t 0 ^^^ fix i else w.getD t 0)
        if (rsSyndromes w2).all (· == 0) then some (w2, m.len) else none

/-- The two codewords of a frame, interleaved symbol by symbol (R237). -/
def frameWord (syms : List Nat) (c : Nat) : List Nat := (List.range 544).map (fun i => syms.getD (2 * i + c) 0)

/-- The 1,320 bytes of the 1,056 data symbols: symbol by symbol in line order, each with its low bit first. -/
def frameBytes (c0 c1 : List Nat) : Bytes :=
  let v := (List.range 1056).foldr (fun i acc =>
    acc * 1024 + (if i % 2 = 0 then c0.getD (i / 2) 0 else c1.getD (i / 2) 0)) 0
  leBytes 1320 v

/-! ## Encoding -/

/-- The generator polynomial, highest power first: the product of x + αʲ for j from 0 to 15. -/
def rsGenerator : List Nat :=
  (List.range 16).foldl (fun g j => List.zipWith (fun x y => x ^^^ y) (g ++ [0]) (0 :: g.map (gfMul (gfPow j)))) [1]

/-- The 16 check symbols of data symbols, highest power first: the remainder of data · x¹⁶ by the generator. -/
def rsParity (data : List Nat) : List Nat :=
  let g := rsGenerator.drop 1
  data.foldl (fun r d =>
    let f := d ^^^ r.headD 0
    List.zipWith (fun x y => x ^^^ gfMul f y) (r.drop 1 ++ [0]) g) (List.replicate 16 0)

/-- The codeword of 528 data symbols: the data, then its check symbols. -/
def rsEncode (data : List Nat) : List Nat := data ++ rsParity data

/-- The 1,088 symbols of a frame's 1,320 bytes: two codewords, interleaved symbol by symbol (R237). -/
def frameSymbols (bs : Bytes) : List Nat :=
  let v := leNat bs
  let word (c : Nat) : List Nat := rsEncode ((List.range 528).map (fun i => v / 1024 ^ (2 * i + c) % 1024))
  (List.zip (word 0) (word 1)).flatMap (fun p => [p.1, p.2])

end Sys2Proof.Machine
end

