-- ==== Sys2Proof/Machine/Frames.lean ====
section
/-! DEFINITION. Outgoing link frames (spec/10_optical_links.md R237 to R242, R245, R254): the frame layout, sequence numbers and
acknowledgements, the replay buffer, and the frame that leaves at each frame boundary. -/

namespace Sys2Proof.Machine

/-! ## The layout (R238) -/

/-- First-packet offset of a frame in which no packet starts. -/
abbrev noFirst := 0x7FF

/-- The 1,320 bytes of a frame: sequence, acknowledgement, type, NACK, retry count, first-packet offset, body, CRC-32. -/
def frameOf (seq ack kind : Nat) (nack : Bool) (retries first : Nat) (body : Bytes) : Bytes :=
  let h := leBytes 2 seq ++ leBytes 2 ack ++ leBytes 1 (kind + 8 * b2n nack + 16 * min retries 15) ++ leBytes 2 first ++ [0]
    ++ slice body 0 1308
  h ++ leBytes 4 (crc32 h)

/-- The acknowledgement of link n: the sequence of the last frame received in order. -/
def Link.ack (l : Link) : Nat := (l.rxNext + 2 ^ 16 - 1) % 2 ^ 16

/-- A frame leaves on link n with the current acknowledgement, and with NACK when one is due (R241). -/
def Body.emitFrame (b : Body) (n : Nat) (f : SentFrame) : Body :=
  let l := b.lnk n
  (b.setLnk n { l with nackDue := false }).emit
    (.frame n (frameSymbols (frameOf f.seq l.ack f.kind l.nackDue (f.sends - 1) f.first f.body)))

/-- A new frame takes the next sequence number and is kept until it is acknowledged; while the replay buffer is full an idle
frame leaves in its place, which repeats the last number and is not kept (R242; DESIGN CHOICE, log 91). -/
def Body.sendFrame (b : Body) (n kind first : Nat) (body : Bytes) (packets : List Bytes) : Body :=
  let l := b.lnk n
  if 512 ≤ l.replay.length then
    b.emitFrame n { seq := (l.txNext + 2 ^ 16 - 1) % 2 ^ 16, kind := 1, first := noFirst, body := [], packets := [], sends := 1 }
  else
    let f : SentFrame := { seq := l.txNext, kind := kind, first := first, body := body, packets := packets, sends := 1 }
    (b.setLnk n { l with txNext := (l.txNext + 1) % 2 ^ 16, replay := l.replay ++ [f] }).emitFrame n f

/-! ## Data frames (R239) -/

/-- The packets that end within `room` bytes of a stream of which `pos` bytes of the first packet have gone, those that
remain, and the bytes of their first that have gone. -/
def cutStream : List Bytes → Nat → Nat → List Bytes × List Bytes × Nat
  | [], _, _ => ([], [], 0)
  | p :: ps, pos, room =>
    if p.length - pos ≤ room then
      let r := cutStream ps 0 (room - (p.length - pos))
      (p :: r.1, r.2)
    else ([], p :: ps, pos + room)

/-- The offset in the next body of the first packet that starts there. -/
def firstOffset (sending : List Bytes) (pos : Nat) : Nat :=
  if pos = 0 then 0
  else
    match sending with
    | p :: _ :: _ => if p.length - pos < 1308 then p.length - pos else noFirst
    | _ => noFirst

/-- A data frame takes 1,308 bytes of the packet stream; what the stream does not fill is zero. -/
def Body.sendData (b : Body) (n : Nat) : Body :=
  let l := b.lnk n
  let r := cutStream l.sending l.sendPos 1308
  (b.setLnk n { l with sending := r.2.1, sendPos := r.2.2 }).sendFrame n 0 (firstOffset l.sending l.sendPos)
    ((l.sending.flatten.drop l.sendPos).take 1308) r.1

/-! ## Identity frames (R254) -/

/-- The body of this module's identity frame on link n (R254): hall, row, rack and tray all zero say that no place is assigned
(R173). -/
def Body.identityBody (b : Body) (n : Nat) : Bytes :=
  let l := b.lnk n
  let h := leBytes 4 (if b.place / 2 ^ 10 = 0 then 0 else b.place) ++ leBytes 1 n ++ leBytes 1 (b2n l.verified) ++ zeros 2 ++ leBytes 8 l.nonce ++ leBytes 8 l.peerNonce
    ++ keyDigest b.sec.flash.identity
  h ++ (Config.identitySign h).toList ++ zeros 868

/-- An identity frame is sent, unless the identity key did not unwrap (R448). -/
def Body.sendIdentity (b : Body) (n : Nat) : Body :=
  if b.sec.flash.unwrapOk then b.sendFrame n 2 noFirst (b.identityBody n) [] else b

/-! ## The frame boundary (R237, R238) -/

/-- A test-pattern frame, whose body the spec leaves open: free (log 91). -/
def Body.sendPattern (b : Body) (n : Nat) : Body :=
  ({ b with free := b.free + 1 } : Body).sendFrame n 4 noFirst (leBytes 1308 (Config.freeValue 10464 b.free).toNat) []

/-- The frame of link n at a frame boundary: data while packets wait on a link in service, identity in state 3, else idle, or in
states 2, 4, 5 and 8 a test pattern; which of the two is free (R245, log 91). -/
def Body.nextFrame (b : Body) (n : Nat) : Body :=
  let st := b.linkState n
  if st = 6 && !(b.lnk n).sending.isEmpty && decide ((b.lnk n).replay.length < 512) then b.sendData n
  else if st = 3 && b.sec.flash.unwrapOk then b.sendIdentity n
  else
    let b1 : Body := if st = 6 then b else b.takeFree
    if st ≠ 6 ∧ Config.freeValue 1 b.free = 1 then b1.sendPattern n else b1.sendFrame n 1 noFirst [] []

/-- 12 ns pass on link n: frames of 24.2857 ns (170/7 ns) follow one another without gaps in states 2 to 6 and 8. -/
def Body.frameClock (b : Body) (n : Nat) : Body :=
  let st := b.linkState n
  let t := (b.lnk n).phase + 84
  if !b.inService (iL (n / 8)) || !((2 ≤ st && st ≤ 6) || st = 8) then b
  else if t < 170 then b.setLnk n { b.lnk n with phase := t }
  else (b.setLnk n { b.lnk n with phase := t - 170 }).nextFrame n

end Sys2Proof.Machine
end

