-- ==== Sys2Proof/Machine/Fabric.lean ====
section
/-! DEFINITION. Junctions (spec/11_fabric_routing.md R264 to R284, spec/10_optical_links.md R250 to R253): ingress, injection,
slot time, deflection, tokens, slice entries, saturation. -/

namespace Sys2Proof.Machine

/-! ## Counts (R278) -/

/-- A count of the balance of arrivals at junction k rises (R278). -/
def Body.balanceUp (b : Body) (k i : Nat) : Body :=
  let j := b.jn k
  b.setJn k { j with balance := SMap.set j.balance i (SMap.getD j.balance i 0 + 1) 0 }

/-- A packet addressed to this module arrives at junction k. -/
def Body.arrival (b : Body) (k cls : Nat) : Body := b.balanceUp k (8 * cls)

/-- An arrival addressed to this module met its fate: 1 accepted, 2 duplicate, 3 fenced, 4 voided. -/
def Body.fate (b : Body) (k cls what : Nat) : Body := b.balanceUp k (8 * cls + what)

/-- Source n of junction k (R284), for a packet that came through a port, or through none (R388). -/
def Body.raiseJ (b : Body) (k n : Nat) (port : Nat := 0) : Body := b.raiseOcc (occ (iJ k * 64 + n)) port

/-- `J.STATUS` shows the transit buffer (R273). -/
def Body.showTransit (b : Body) (k : Nat) : Body :=
  let n := (b.jn k).transit.length
  (b.wr (R.J.STATUS.TRANSIT k) n).wr (R.J.STATUS.INJECT_HELD k) (b2n (decide (768 < n)))

/-- The transit buffer of junction k replaced. -/
def Body.setTransit (b : Body) (k : Nat) (l : List Waiting) : Body := (b.setJn k { b.jn k with transit := l }).showTransit k

/-- The lowest-numbered junction in service. -/
def Body.firstJunction (b : Body) : Option Nat := lowest 4 (fun k => b.inService (iJ k))

/-! ## Token returns owed (R276) -/

/-- A module collects the returns it owes per source, slice and class. -/
def oweTo : List Owed → Owed → List Owed
  | [], o => [o]
  | x :: xs, o =>
    if x.dest = o.dest ∧ x.tag = o.tag ∧ x.epoch = o.epoch ∧ x.cls = o.cls then { x with count := x.count + o.count } :: xs
    else x :: oweTo xs o

/-- The token of a class 2 or class 4 packet is to be returned to its source. -/
def Body.owe (b : Body) (p : Packet) : Body :=
  if p.cls = 2 ∨ p.cls = 4 then
    { b with fab := { b.fab with owed := oweTo b.fab.owed ⟨p.source, p.tag, p.epoch, p.cls, 1, b.ns 2⟩ } }
  else b

/-- A packet dropped in transit: fenced, and its token returned unless it is a doubled copy (R276); this module's own token is
its own again. -/
def Body.transitDrop (b : Body) (k : Nat) (p : Packet) : Body :=
  let b1 := b.cons k 2 1
  if p.doubled then b1
  else if p.source = b.place then
    match b1.entryOf k p.tag with
    | some e => if p.cls = 2 ∨ p.cls = 4 then ((b1.setHeld e (b1.held e + 1)).setOutstanding e (b1.outstanding e - 1)).cons k 5 1 else b1
    | none => b1
  else b1.owe p

/-! ## Transfers in flight (R178) -/

/-- One write of a transfer has been accepted, transmitted or dropped. -/
def Body.settleXfer (b : Body) (x : Option Nat) : Body :=
  match x with
  | none => b
  | some id => { b with xfers := b.xfers.map (fun t => if t.id = id then { t with left := t.left - 1 } else t) }

/-! ## Ingress (R265) -/

/-- The full period number nearest to `cur` with the given low 16 bits (R264). -/
def extendPeriod (cur low : Nat) : Nat :=
  let mid := cur - cur % 2 ^ 16 + low % 2 ^ 16
  if cur + 2 ^ 15 < mid then (if 2 ^ 16 ≤ mid then mid - 2 ^ 16 else mid)
  else if mid + 2 ^ 15 < cur then mid + 2 ^ 16 else mid

/-- The instant (TB0, ns) of this module's departure of a period, where it is known. -/
def Body.departedAt (b : Body) (n : Nat) : Option Nat := SMap.find b.job.history n

/-- The seal window in ns (R55). -/
def Body.windowNs (b : Body) : Nat := b.rd R.TM.SEAL_WINDOW.WINDOW * 10

/-- The consumer's resolution instant for period n has passed, or this source's period was resolved void or missing (R45, R48). -/
def Body.resolvedFor (b : Body) (source n : Nat) : Bool :=
  b.job.voided.contains (source, n)
    || (b.jobRuns && decide (n < b.period)
        && (match b.departedAt (n + 1) with
            | some t => decide (t + b.windowNs ≤ b.ns 0)
            | none => true))

/-- The duplicate test (R252) of a doubled copy: the module after it, and whether the copy goes on. -/
def Body.duplicateTest (b : Body) (k link : Nat) (p : Packet) : Body × Bool :=
  let share := p.seq % 4
  let j := b.jn share
  let same (d : DupKey) : Bool := d.source == p.source && d.cls == p.cls && d.seq == p.seq
  if j.dup.any same then
    let b1 := b.setJn share { j with dup := j.dup.filter (fun d => !same d) }
    ((((b1.cons k 1 1).fate k p.cls 2).sat (R.L.LINK_CNT.COUNT (link / 8) (link % 8) 5) 1).acc
      (fun a => { a with duplicates := a.duplicates + 1 }), false)
  else if 16384 ≤ j.dup.length then (((b.cons k 2 1).fate k p.cls 3).raiseJ share 7 (portOfLink link), false)
  else (b.setJn share { j with dup := j.dup ++ [⟨p.source, p.cls, p.seq, b.ns 2⟩] }, true)

/-- An accepted packet joins what it is for: a write waits for its address test, any other packet for who serves it. -/
def Body.acceptPacket (b : Body) (k link : Nat) (p : Packet) (n : Nat) : Body :=
  if p.op ≤ 2 then
    let w : Write := { xfer := none, source := p.source, counter := p.counter, addr := p.addr, op := p.op, cls := p.cls,
                       period := n, data := p.payload, zero := p.payload.isEmpty, seq := p.seq, doubled := p.doubled,
                       link := link, tag := p.tag, epoch := p.epoch }
    { b with writes := b.writes ++ [w] }
  else
    (({ b with fab := { b.fab with inbox := b.fab.inbox ++ [(p.source, p.op, p.payload)] } }).cons k 0 1).fate k p.cls 1
      |>.owe p

/-- The same of a dispatcher message, whose payload begins with the prefix of R291 under any term. -/
def Body.servedMsg (b : Body) (source type : Nat) (body : Bytes) : Body :=
  let hit (e : Nat × Nat × Bytes) : Bool := e.1 == source && e.2.1 == 7 && le e.2.2 0 1 == type && e.2.2.drop 8 == body
  match b.fab.inbox.find? hit with
  | some e => b.served e.1 e.2.1 e.2.2
  | none => b

/-- The payload of that message as it arrived, prefix included: what a relay forwards (R292). -/
def Body.arrivedPayload (b : Body) (source type : Nat) (body : Bytes) : Bytes :=
  match b.fab.inbox.find? (fun e => e.1 == source && e.2.1 == 7 && le e.2.2 0 1 == type && e.2.2.drop 8 == body) with
  | some e => e.2.2
  | none => b.msgPayload type body

/-- The half that an address lies in: region 0 harbour or 1 buddy, and which (R337). -/
def Body.halfOf (b : Body) (a : Nat) : Option (Nat × Nat) :=
  let size := b.rd R.SN.HARBOUR_SIZE.MIB * 2 ^ 20
  let inside (base : Nat) : Bool := decide (base * 4096 ≤ a) && decide (a < base * 4096 + size)
  if inside (b.rd (R.SN.HARBOUR_BASE.ADDR 0)) then some (0, 0)
  else if inside (b.rd (R.SN.HARBOUR_BASE.ADDR 1)) then some (0, 1)
  else if inside (b.rd (R.SN.BUDDY_BASE.ADDR 0)) then some (1, 0)
  else if inside (b.rd (R.SN.BUDDY_BASE.ADDR 1)) then some (1, 1)
  else none

/-- The counter of incoming mirror and load data (R347). -/
abbrev mirrorCounter := 0x0FFE

/-- The token of a packet that the period test drops: a doubled packet's one token is returned for its first copy alone (R276, R277).
A copy whose twin was accepted, or dropped here within the hold time of R252, returns none (log 121). -/
def Body.oweLate (b : Body) (k : Nat) (p : Packet) : Body :=
  if !p.doubled then b.owe p
  else
    let same (d : DupKey) : Bool := d.source == p.source && d.cls == p.cls && d.seq == p.seq
    let recent := b.fab.late.filter (fun d => decide (b.ns 2 < d.at_ + b.rd (R.J.DUP_HOLD.HOLD k) * 1000))
    if (b.jn (p.seq % 4)).dup.any same then b
    else if recent.any same then { b with fab := { b.fab with late := recent.filter (fun d => !same d) } }
    else ({ b with fab := { b.fab with late := recent ++ [⟨p.source, p.cls, p.seq, b.ns 2⟩] } } : Body).owe p

/-- A packet addressed to this module that has passed the ingress tests: the period test (R45) of data, but for mirror data
(R349), then the duplicate test. -/
def Body.arrive (b : Body) (k link : Nat) (p : Packet) : Body :=
  let n := extendPeriod b.period p.period
  if p.op ≤ 2 && b.resolvedFor p.source n && !(p.counter == mirrorCounter && (b.halfOf p.addr).isSome) then
    (((b.cons k 3 1).dropped k 7).fate k p.cls 4).oweLate k p
  else if p.doubled then
    let r := b.duplicateTest k link p
    if r.2 then r.1.acceptPacket k link p n else r.1
  else b.acceptPacket k link p n

/-- The links on which a packet in transit may go on: productive ones, but never the one on which it arrived (R268). -/
def Body.onward (b : Body) (k : Nat) (p : Packet) (arrived : Option Nat) : List Nat :=
  (b.productive k p).filter (fun n => some n != arrived)

/-- A packet that enters a transit buffer is numbered in the order of arrival (R270). -/
def Body.buffer (b : Body) (k : Nat) (w : Waiting) : Body :=
  let n := b.fab.arrivals
  ({ b with fab := { b.fab with arrivals := n + 1 } } : Body).setTransit k ((b.jn k).transit ++ [{ w with order := n }])

/-- A packet in transit (R59, R268, R269, R273).  One whose only productive link is the one on which it came waits, or is
deflected (R271). -/
def Body.forward (b : Body) (k link e : Nat) (p : Packet) : Body :=
  let n := extendPeriod b.period p.period
  if (p.cls = 1 ∨ p.cls = 3) ∧ (!b.jobRuns ∨ n < b.period) then b.cons k 3 1
  else if (b.productive k p).isEmpty then (((b.transitDrop k p).dropped k 6).raiseJ k 3 (portOfLink link))
  else if 1024 ≤ (b.jn k).transit.length then (((b.transitDrop k p).dropped k 9).raiseJ k 4 (portOfLink link))
  else
    b.buffer k { pkt := p, arrived := some link, xfer := none, entry := e, period := n, counted := false, twin := false,
                 order := 0, margins := [] }

/-- Tests 1 to 7 of R265 on the bytes of a packet that entered from a link. -/
def Body.ingress (b : Body) (link : Nat) (bs : Bytes) : Body :=
  let k := junctionOfLink link
  let p := parsePacket bs
  let own := p.dest == b.place
  let fence (b : Body) : Body := let b1 := b.cons k 2 1; if own then (b1.arrival k (p.cls % 8)).fate k (p.cls % 8) 3 else b1
  if !headerCrcOk bs then (b.dropped k 0).raiseJ k 0 (portOfLink link)
  else if !p.wellFormed (le bs 14 2) then (b.dropped k 1).raiseJ k 2 (portOfLink link)
  else if !packetCrcOk bs then ((fence b).dropped k 2).raiseJ k 1 (portOfLink link)
  else if b.isFenced k p.source then (fence b).dropped k 3
  else
    match b.entryOf k p.tag with
    | none => b.dropped k 4
    | some e =>
      if b.rd (R.J.SLICE.EPOCH k e) ≠ p.epoch then (fence b).dropped k 5
      else if b.rd (R.J.SLICE.STATE k e) = 3 && own then
        (if p.doubled then fence b else (fence b).owe p)
      else if own then (b.arrival k p.cls).arrive k link p
      else b.forward k link e p

/-- A copy that the strait of a closed junction refuses: fenced, never lost (R24); one for this module arrived and was fenced. -/
def Body.refusedAtStrait (b : Body) (bs : Bytes) : Body :=
  match b.firstJunction with
  | none => b
  | some k =>
    let b1 := b.cons k 2 1
    if headerCrcOk bs && le bs 0 4 == b.place then
      let c := le bs 12 1 / 16 % 8
      (b1.arrival k c).fate k c 3
    else b1

/-- `PACKET_INGRESS` (R265): a packet from a link in service reaches its junction. -/
def packetIngress (link : Nat) (bs : Bytes) (b : Body) : Body :=
  if !b.linkUp link then b
  else if b.inService (iJ (junctionOfLink link)) then b.ingress link bs
  else b.refusedAtStrait bs

/-- `DUPLICATE_HOLD_EXPIRY` (R252): the oldest entry of the share is unmatched after H; it is removed and counted as a
single arrival. -/
def duplicateHoldExpiry (k : Nat) (b : Body) : Body :=
  match (b.jn k).dup with
  | [] => b
  | d :: rest =>
    (b.toLocal (d.at_ + b.rd (R.J.DUP_HOLD.HOLD k) * 1000)).setJn k { b.jn k with dup := rest, singles := (b.jn k).singles + 1 }

/-! ## Injection (R250, R251, R266, R269, R273, R275, R281) -/

/-- A packet is refused at its source and counted as fenced; its write leaves its transfer. -/
def Body.refuseLocal (b : Body) (k : Nat) (w : Waiting) : Body := (b.cons k 2 1).settleXfer w.xfer

/-- The rail-single event of R251. -/
def Body.railSingle (b : Body) (k dest : Nat) (railB : Bool) : Body :=
  b.event 0x3A43 (iJ k) (leBytes 4 dest ++ leBytes 1 (b2n railB))

/-- A packet takes its sequence number and enters the transit buffer: two copies when it is doubled and both rails have a
route, one when one has. -/
def Body.launch (b : Body) (k e : Nat) (w : Waiting) : Body :=
  let p := { w.pkt with seq := b.nextSeq w.pkt.dest w.pkt.cls, defl := 0 }
  let b1 := b.stepSeq p.dest p.cls
  let cp (q : Packet) (twin : Bool) : Waiting := { w with pkt := q, entry := e, twin := twin }
  let a := !(b1.railLinks k p.dest false).isEmpty
  let c := !(b1.railLinks k p.dest true).isEmpty
  if p.doubled then
    let pa := { p with flags := setBits p.flags 1 1 0 }
    let pb := { p with flags := setBits p.flags 1 1 1 }
    if a && c then (b1.buffer k (cp pa true)).buffer k (cp pb true)
    else if a then (b1.buffer k (cp pa false)).railSingle k p.dest true
    else (b1.buffer k (cp pb false)).railSingle k p.dest false
  else b1.buffer k (cp p false)

/-- The packet at position `i` of a list, and the others. -/
def takeAt {α : Type} : List α → Nat → Option (α × List α)
  | [], _ => none
  | x :: xs, 0 => some (x, xs)
  | x :: xs, i + 1 =>
    match takeAt xs i with
    | some (y, ys) => some (y, x :: ys)
    | none => none

/-- SN's copy under way is a mirror, which waits for the path to the buddy (R26); a load send does not. -/
def Body.mirrors (b : Body) : Bool := match b.snap.mirror with | some (_, send) => !send | none => false

/-- `PACKET_INJECT`: the packet at position `i` of junction k's local packets is injected, refused, or goes on waiting; the
mirror pauses while the path to the buddy is down (R26). -/
def packetInject (k i : Nat) (b : Body) : Body :=
  if !b.inService (iJ k) then b
  else
    match takeAt (b.jn k).local_ i with
    | none => b
    | some (w, rest) =>
      let p := w.pkt
      let b1 := b.setJn k { b.jn k with local_ := rest }
      let unplanned := p.cls = 2 ∨ p.cls = 4
      if b.isFenced k b.place then (b1.refuseLocal k w).dropped k 3
      else
        match lowest 64 (fun e => b.rd (R.J.SLICE.STATE k e) == 1 && b.rd (R.J.SLICE.TAG k e) == p.tag) with
        | none => b1.refuseLocal k w
        | some e =>
          if (b.railLinks k p.dest false).isEmpty && (b.railLinks k p.dest true).isEmpty then
            if p.counter = mirrorCounter ∧ b.mirrors then b
            else (((b1.refuseLocal k w).dropped k 6).raiseJ k 3)
          else if 1024 ≤ (b.jn k).transit.length + b2n p.doubled then b
          else if unplanned then
            if 768 < (b.jn k).transit.length ∨ b.held e = 0 then b
            else
              (((b1.setHeld e (b.held e - 1)).setOutstanding e (b.outstanding e + 1)).cons k 4 1).launch k e w
          else b1.launch k e w

/-! ## Slot time (R240, R270 to R272) -/

/-- Bytes of the packet stream that one slot carries (R240). -/
def slotBytes : Nat := 644

/-- The slot list of a link for the running period type (R59). -/
def Body.slotList (b : Body) (n : Nat) : List SlotEntry :=
  match b.job.active with
  | none => []
  | some im =>
    if !b.jobRuns then []
    else
      match im.types[b.rd R.TM.DEPART_SEQ.PTYPE]? with
      | some t => (t.slots[n]?).getD []
      | none => []

/-- The reservation that owns slot `s` of link n. -/
def Body.reservation (b : Body) (n s : Nat) : Option SlotEntry :=
  (b.slotList n).find? (fun e => decide (e.first ≤ s) && decide (s < e.first + e.count))

/-- How many slots from `s` on carry no reservation of link n, at most `lim`. -/
def Body.freeRun (b : Body) (n s : Nat) : Nat → Nat
  | 0 => 0
  | lim + 1 => if (b.reservation n s).isSome then 0 else 1 + b.freeRun n (s + 1) lim

/-- Bytes that a packet on the wire takes. -/
def Packet.wire (p : Packet) : Nat := 36 + p.payload.length

/-- The replay buffer of link n has room; while it is full the link holds its packets (R242). -/
def Body.replayRoom (b : Body) (n : Nat) : Bool := decide ((b.lnk n).replay.length < 512)

/-- A packet of `len` bytes may start now in free slot time of link n at slot `s`. -/
def Body.freeFits (b : Body) (n s len : Nat) : Bool :=
  let debt := (b.lnk n).debt
  b.replayRoom n && decide (debt < slotBytes) && decide (debt + len ≤ slotBytes * b.freeRun n s 3)

/-- The order of a packet in the precedence of R270: smaller first; a planned packet that lost its link goes ahead of the
unplanned (R249). -/
def Waiting.rank (w : Waiting) : Nat :=
  if w.pkt.cls = 5 then 0
  else if w.pkt.cls = 0 then 1
  else if w.pkt.cls = 1 ∨ w.pkt.cls = 3 then 2
  else if w.pkt.cls = 2 then
    (if 33 ≤ w.pkt.defl then 3 else if w.arrived.isSome then 4 else 6)
  else 5

/-- Priority packets among themselves: ascending source, then sequence (R272). -/
def beforeW (x y : Waiting) : Bool :=
  if x.rank ≠ y.rank then decide (x.rank < y.rank)
  else if x.rank = 3 then
    decide (x.pkt.source < y.pkt.source) || (x.pkt.source == y.pkt.source && decide (x.pkt.seq < y.pkt.seq))
  else false

/-- Packets in order of service; equals keep their order of arrival. -/
def orderW : List Waiting → List Waiting
  | [] => []
  | x :: xs => ins x (orderW xs)
where
  ins (x : Waiting) : List Waiting → List Waiting
    | [] => [x]
    | y :: ys => if beforeW y x then y :: ins x ys else x :: y :: ys

/-- Another copy of the same local packet still waits in a transit buffer. -/
def Body.twinWaits (b : Body) (w : Waiting) : Bool :=
  (List.range 4).any (fun k => (b.jn k).transit.any (fun x =>
    x.arrived.isNone && x.xfer == w.xfer && x.pkt.seq == w.pkt.seq && x.pkt.dest == w.pkt.dest && x.pkt.cls == w.pkt.cls))

/-- The waiting packet leaves junction `src`'s buffer on link n: its bytes join the link's stream, it is counted, its transfer
told, the link's slot time taken.  `defl` is its deflection count as sent. -/
def Body.transmit (b : Body) (src n : Nat) (w : Waiting) (defl : Nat) : Body :=
  let p := { w.pkt with defl := defl }
  let rest := (b.jn src).transit.erase w
  let b1 := ((b.setTransit src rest).pushOut n (packetBytes p)).cons (junctionOfLink n) 9 (b2n w.arrived.isNone)
  if b1.twinWaits w then b1 else b1.settleXfer w.xfer

/-- A packet in the transit buffer of junction `src` is lost: fenced, counted at junction `k`. -/
def Body.loseWaiting (b : Body) (src k : Nat) (w : Waiting) : Body :=
  let b1 := (b.setTransit src ((b.jn src).transit.erase w)).transitDrop k w.pkt
  if b1.twinWaits w then b1 else b1.settleXfer w.xfer

/-- A waiting packet that no link in service is productive for any more is dropped (R269). -/
def Body.strand (b : Body) (src : Nat) (w : Waiting) : Body := ((b.loseWaiting src src w).dropped src 6).raiseJ src 3 ((w.arrived.map portOfLink).getD 0)

/-- The straits of junction k have closed (R24): what its buffers hold is fenced, counted at a junction in service, and its
share of the duplicate table is lost. -/
def Body.closeJunction (b : Body) (k : Nat) : Body :=
  let at_ := b.firstJunction.getD k
  let b1 := forEach (b.jn k).transit (fun w t => t.loseWaiting k at_ w) b
  let b2 := forEach (b1.jn k).local_ (fun w t => (t.cons at_ 2 1).settleXfer w.xfer) b1
  b2.setJn k { b2.jn k with local_ := [], dup := [], satSlots := 0, satOpen := 0 }

/-- A place in a list kept in order of arrival. -/
def insertByOrder (x : Nat × Waiting) : List (Nat × Waiting) → List (Nat × Waiting)
  | [] => [x]
  | y :: ys => if y.2.order < x.2.order then y :: insertByOrder x ys else x :: y :: ys

/-- Every waiting packet with the junction that holds it, in order of arrival (R270). -/
def Body.allWaiting (b : Body) : List (Nat × Waiting) :=
  ((List.range 4).flatMap (fun k => (b.jn k).transit.map (fun w => (k, w)))).foldr insertByOrder []

/-- A corridor's packet goes only on its corridor links, and only in slots that the passing slice owns (R282). -/
def Body.corridorOf (b : Body) (k : Nat) (w : Waiting) : Bool := w.entry < 64 && b.rd (R.J.SLICE.STATE k w.entry) == 3

/-- Waiting packets in order of service. -/
def Body.byPrecedence (b : Body) : List (Nat × Waiting) :=
  let l := b.allWaiting
  (orderW (l.map (·.2))).filterMap (fun w => l.find? (fun x => x.2 == w))

/-- What a reserved slot of link n may carry next: the first planned packet of its flow that may leave there, in the order in which
the flow's packets reached the junction (R59), or any unplanned packet of a slice that passes through its corridor and owns the slot
(R282), if it fits in the run (R240). -/
def Body.reservedNext (b : Body) (n s : Nat) (r : SlotEntry) : Option (Nat × Waiting) :=
  let room := slotBytes * (r.first + r.count - s)
  let debt := (b.lnk n).debt
  let fits (x : Nat × Waiting) : Bool := b.replayRoom n && decide (debt < slotBytes) && decide (debt + x.2.pkt.wire ≤ room)
  let may (x : Nat × Waiting) : Bool :=
    x.2.pkt.tag == r.tag && (b.onward x.1 x.2.pkt x.2.arrived).contains n
      && (!b.corridorOf x.1 x.2 || bit (b.rd (R.J.SLICE.LINKS x.1 x.2.entry)) n)
  let planned (x : Nat × Waiting) : Bool := x.2.pkt.cls == 1 || x.2.pkt.cls == 3
  let flow (x : Nat × Waiting) : Bool := planned x && x.2.pkt.source == r.source && x.2.pkt.dest == r.dest && may x
  match (b.allWaiting.find? flow).filter fits with
  | some x => some x
  | none => b.byPrecedence.find? (fun x => !planned x && b.corridorOf x.1 x.2 && may x && fits x)

/-- A reserved slot of link n sends packets back to back, as many as start in it (R240); no slot starts more than 18. -/
def Body.serveReserved (n s : Nat) (r : SlotEntry) : Nat → Body → Body
  | 0, b => b
  | fuel + 1, b =>
    match b.reservedNext n s r with
    | some (src, w) => Body.serveReserved n s r fuel (b.transmit src n w w.pkt.defl)
    | none => b

/-- The margin of a reserved slot carries 2.3 bytes of the first class 5 or class 0 packet that may leave on the link (R270). -/
def Body.serveMargin (b : Body) (n : Nat) : Body :=
  match b.byPrecedence.find? (fun x =>
    x.2.rank ≤ 1 && !b.corridorOf x.1 x.2 && (b.onward x.1 x.2.pkt x.2.arrived).contains n) with
  | none => b
  | some (src, w) =>
    let m := SMap.getD w.margins n 0 + 23
    let w' := { w with margins := SMap.set w.margins n m 0 }
    let b1 := b.setTransit src ((b.jn src).transit.map (fun x => if x == w then w' else x))
    if 10 * w.pkt.wire ≤ m && b.replayRoom n then
      let b2 := b1.transmit src n w' w.pkt.defl
      b2.setLnk n { b2.lnk n with debt := (b1.lnk n).debt }
    else b1

/-- A packet's productive links with free slot time at slot `s`, in the order of R268: the position counts over all of them,
and the link on which it arrived is then left out. -/
def Body.freeProductive (b : Body) (k s : Nat) (w : Waiting) : List Nat :=
  let links := b.productive k w.pkt
  let at_ := w.pkt.seq % max links.length 1
  (links.drop at_ ++ links.take at_).filter (fun n => some n != w.arrived && b.freeFits n s w.pkt.wire)

/-- The links on which a blocked class 2 packet may be deflected (R271, R282). -/
def Body.deflectable (b : Body) (k s : Nat) (w : Waiting) : List Nat :=
  (List.range 64).filter (fun n =>
    b.linkUp n && some n != w.arrived && decide (w.entry < 64) && bit (b.rd (R.J.SLICE.LINKS k w.entry)) n
      && (!w.pkt.doubled || linkRailB n == w.pkt.railB)
      && !(List.range 64).any (fun e => b.rd (R.J.SLICE.STATE k e) == 3 && bit (b.rd (R.J.SLICE.LINKS k e)) n)
      && b.freeFits n s w.pkt.wire)

/-- The running type's slot list of link n holds a reservation of the packet's flow from slot `s` on. -/
def Body.flowOn (b : Body) (n s : Nat) (p : Packet) : Bool :=
  (b.slotList n).any (fun r => r.source == p.source && r.dest == p.dest && r.tag == p.tag && decide (s < r.first + r.count))

/-- The links on which a planned packet may take free slot time (R249): the rail-mates of a link of its flow that has left
service, where none of them has slots of the flow to come. -/
def Body.displacedTo (b : Body) (k s : Nat) (w : Waiting) : List Nat :=
  let lost := (List.range 64).filter (fun n => !b.linkUp n && b.flowOn n 0 w.pkt)
  let mates := (b.onward k w.pkt w.arrived).filter (fun u =>
    lost.any (fun n => portOfLink u == portOfLink n && linkRailB u == linkRailB n))
  if mates.any (fun u => b.flowOn u s w.pkt) then [] else mates

/-- One packet offered free slot time on junction k's links at slot `s` (R270, R271). -/
def Body.serveFree (b : Body) (k s : Nat) (x : Nat × Waiting) : Body :=
  let src := x.1
  let w := x.2
  let planned := w.pkt.cls == 1 || w.pkt.cls == 3
  if !(b.jn src).transit.contains w || b.corridorOf src w then b
  else
    match (b.freeProductive src s w).filter (fun n => !planned || (b.displacedTo src s w).contains n) with
    | n :: _ => if junctionOfLink n = k then b.transmit src n w w.pkt.defl else b
    | [] =>
      if w.pkt.cls = 2 && w.pkt.defl < 33 then
        match b.deflectable src s w with
        | n :: _ =>
          if junctionOfLink n = k then
            let b1 := (b.transmit src n w (w.pkt.defl + 1)).cons src 7 1
            let b2 := (b1.sat (R.L.LINK_CNT.COUNT (n / 8) (n % 8) 4) 1).acc (fun a => { a with deflections := a.deflections + 1 })
            if w.pkt.defl + 1 = 33 then b2.cons src 8 1 else b2
          else b
        | [] => b
      else b

/-- The level of a link (R283): 2 board links, 3 torus, 4 uplinks. -/
def levelOfLink (n : Nat) : Nat := let p := portOfLink n; if p < 6 then 3 else if p < 9 then 2 else 4

/-- Slot `s` of junction k has been served: a link level of which a free slot went unused, or for whose links no unplanned
packet waits, is not saturated in the open interval (R283). -/
def Body.noteSaturation (b : Body) (k s : Nat) (links : List Nat) : Body :=
  let free (v : Nat) : List Nat := links.filter (fun n => levelOfLink n == v && b.linkUp n && (b.reservation n s).isNone)
  let waits (v : Nat) : Bool := b.allWaiting.any (fun x =>
    (x.2.pkt.cls == 2 || x.2.pkt.cls == 4)
      && (b.onward x.1 x.2.pkt x.2.arrived).any (fun n => levelOfLink n == v && links.contains n))
  let open_ := ([2, 3, 4].filter (fun v => (free v).any (fun n => (b.lnk n).debt = 0) || !waits v)).foldl
    (fun m v => m ||| 2 ^ v) 0
  let j := b.jn k
  b.setJn k { j with satSlots := j.satSlots + 1, satOpen := j.satOpen ||| open_ }

/-- `SLOT_TICK` (R270): junction k's links pass one 12 ns slot, and their frames go on (R237). -/
def slotTick (k : Nat) (b : Body) : Body :=
  let links := (List.range 16).map (16 * k + ·)
  let clocked (c : Body) : Body := forEach links (fun n t => t.frameClock n) c
  if !b.inService (iJ k) then clocked b
  else
    let s := (b.jn k).slot
    let lost := (b.jn k).transit.filter (fun w => (b.productive k w.pkt).isEmpty)
    let b0 := forEach lost (fun w t => t.strand k w) b
    let b1 := forEach links (fun n t =>
      match t.reservation n s with
      | some r => if t.linkUp n then (Body.serveReserved n s r 18 t).serveMargin n else t
      | none => t) b0
    let b2 := (forEach b1.byPrecedence (fun x t => t.serveFree k s x) b1).noteSaturation k s links
    let b3 := clocked (forEach links (fun n t => t.setLnk n { t.lnk n with debt := (t.lnk n).debt - slotBytes }) b2)
    b3.setJn k { b3.jn k with slot := s + 1 }

/-! ## Tokens (R275, R276) -/

/-- `TOKEN_RETURN` (R276): a return of `count` tokens of a class reaches this module at junction k; a closed one refuses it (R24). -/
def tokenReturn (k tag epoch cls count : Nat) (b : Body) : Body :=
  if !b.inService (iJ k) then (match b.firstJunction with | some j => b.cons j 2 1 | none => b)
  else
  match b.entryOf k tag with
  | none => b.dropped k 4
  | some e =>
    let st := b.rd (R.J.SLICE.STATE k e)
    if st = 3 then b.dropped k 4
    else if b.rd (R.J.SLICE.EPOCH k e) ≠ epoch then (b.cons k 2 1).dropped k 5
    else if (cls = 4 ∧ e = 0) ∨ (cls = 2 ∧ e ≠ 0) then
      ((b.setHeld e (b.held e + count)).setOutstanding e (b.outstanding e - count)).cons k 5 count
    else b

/-- `TOKEN_RETURN_FLUSH` (R276): the returns owed at position `i` are sent, at 64 or 2 µs after the first was owed. -/
def tokenReturnFlush (i : Nat) (b : Body) : Body :=
  match takeAt b.fab.owed i, b.firstJunction with
  | some (o, rest), some k =>
    let b := if 64 ≤ o.count then b else b.toLocal (o.since + 2000)
    let b1 : Body := { b with fab := { b.fab with owed := rest } }
    let pl := b1.msgPayload 0x01 (leBytes 1 o.cls ++ [0] ++ leBytes 2 o.count ++ zeros 4)
    (b1.cons k 6 o.count).sendPacket k (b1.plainPacket o.dest 0 7 o.tag o.epoch pl)
  | _, _ => b

/-! ## Slice entries (R280 to R282) -/

/-- The value of a field within a register's value. -/
def fieldOf (v : Nat) (f : Field) : Nat := bits v f.lo f.w

/-- MG's write of an entry as active or corridor is refused (R280).  An entry in use keeps its tag and epoch until it is free, and
a draining one does not become active again (DEDUCED, log 93). -/
def Body.entryRefused (b : Body) (e v : Nat) : Bool :=
  let r := b.jRep
  let tag := fieldOf v (R.J.SLICE.TAG 0 e)
  let links := fieldOf v (R.J.SLICE.LINKS 0 e)
  let st := fieldOf v (R.J.SLICE.STATE 0 e)
  let host := fieldOf v (R.J.SLICE.HOST 0 e)
  let cur := b.rd (R.J.SLICE.STATE r e)
  let others := (List.range 64).filter (fun x => x ≠ e && b.rd (R.J.SLICE.STATE r x) ≠ 0)
  tag = 0 || tag = 0xFFFF || others.any (fun x => b.rd (R.J.SLICE.TAG r x) == tag)
    || (cur ≠ 0 && (tag ≠ b.rd (R.J.SLICE.TAG r e) || fieldOf v (R.J.SLICE.EPOCH 0 e) ≠ b.rd (R.J.SLICE.EPOCH r e))) || cur = 2
    || others.any (fun x =>
        x ≠ 0 && (b.rd (R.J.SLICE.STATE r x) = 1 || b.rd (R.J.SLICE.STATE r x) = 2)
          && (b.rd (R.J.SLICE.LINKS r x) &&& links) ≠ 0 && !(st = 3 && host = b.rd (R.J.SLICE.TAG r x)))

/-- A new GRANT that would make HELD negative (R275). -/
def Body.grantRefused (b : Body) (e v : Nat) : Bool :=
  (e = 0 || b.rd (R.J.SLICE.STATE b.jRep e) = 1)
    && decide (b.held e + fieldOf v (R.J.SLICE.GRANT 0 e) < b.rd (R.J.SLICE.GRANT b.jRep e))

/-- The fields of an entry at one junction. -/
def Body.putEntry (b : Body) (e v k : Nat) : Body :=
  let put (f : Nat → Nat → Field) (t : Body) : Body := t.wr (f k e) (fieldOf v (f k e))
  let b1 := if e = 0 then b
    else (put R.J.SLICE.STATE (put R.J.SLICE.TAG b)).wr (R.J.SLICE.HOST k e)
      (if fieldOf v (R.J.SLICE.STATE k e) = 3 then fieldOf v (R.J.SLICE.HOST k e) else 0)
  put R.J.SLICE.GRANT (put R.J.SLICE.LINKS (put R.J.SLICE.EPOCH b1))

/-- The fields of an entry are written into the four junctions; HELD follows R275 and the install. -/
def Body.installEntry (b : Body) (e v : Nat) : Body :=
  let grant := fieldOf v (R.J.SLICE.GRANT 0 e)
  let fresh := e ≠ 0 && b.rd (R.J.SLICE.STATE b.jRep e) = 0
  let held := if fresh then grant else b.held e + grant - b.rd (R.J.SLICE.GRANT b.jRep e)
  let b1 := (b.mgFour (0x2000 + 0x20 * e) v (fun k t => t.putEntry e v k)).setHeld e held
  if fresh then b1.setOutstanding e 0 else b1

/-- An active entry becomes draining (R281). -/
def Body.drainEntry (b : Body) (e : Nat) : Body :=
  let b1 := b.mgFour (0x2000 + 0x20 * e) (2 * 2 ^ 32) (fun k t => t.wr (R.J.SLICE.STATE k e) 2)
  { b1 with fab := { b1.fab with drainSince := SMap.insert b1.fab.drainSince e (b1.ns 2) } }

/-- MG's write of state 2: an active entry drains, any other is left and the write recorded (R281). -/
def Body.drainWrite (b : Body) (e v : Nat) : Body :=
  if e ≠ 0 ∧ b.rd (R.J.SLICE.STATE b.jRep e) = 1 then b.drainEntry e
  else b.junctionRefuses .mg (0x2000 + 0x20 * e) v 0

/-- `SLICE_ENTRY_WRITE` (R275, R280, R281): a write of `J.SLICE_e`, honoured from MG only. -/
def sliceEntryWrite (m : Master) (e v : Nat) (b : Body) : Body :=
  let off := 0x2000 + 0x20 * e
  let st := fieldOf v (R.J.SLICE.STATE 0 e)
  if m ≠ .mg then b.junctionRefuses m off v 2
  else if e ≠ 0 ∧ st = 2 then b.drainWrite e v
  else if b.grantRefused e v || (e ≠ 0 && (st = 1 || st = 3) && b.entryRefused e v) then b.junctionRefuses m off v 0
  else b.installEntry e v

/-- `SLICE_DRAIN` (R281): a write of state 2, honoured from MG only. -/
def sliceDrain (m : Master) (e : Nat) (b : Body) : Body :=
  if m ≠ .mg then b.junctionRefuses m (0x2000 + 0x20 * e) (2 * 2 ^ 32) 2 else b.drainWrite e (2 * 2 ^ 32)

/-- A draining entry's transit buffers hold no packet of its tag. -/
def Body.noTransitOf (b : Body) (tag : Nat) : Bool :=
  (List.range 4).all (fun k => (b.jn k).transit.all (fun w => w.pkt.tag != tag))

/-- A draining entry becomes free, and the drain event is recorded (R281). -/
def Body.freeEntry (b : Body) (e : Nat) (timedOut : Bool) : Body :=
  let out := b.outstanding e
  let b1 := (b.sliceAll R.J.SLICE.STATE e 0).setOutstanding e 0
  let b2 : Body := { b1 with fab := { b1.fab with drainSince := SMap.erase b1.fab.drainSince e } }
  b2.event 0x3A41 (iJ b.jRep) (leBytes 2 (b.rd (R.J.SLICE.TAG b.jRep e)) ++ leBytes 2 (b.rd (R.J.SLICE.EPOCH b.jRep e))
    ++ leBytes 1 (b2n timedOut) ++ zeros 3 ++ leBytes 4 out)

/-- The reclaim of a draining entry at its timeout (R279): outstanding tokens are counted as fenced, one for each. -/
def Body.reclaimEntry (b : Body) (e : Nat) : Body :=
  let out := b.outstanding e
  let b1 := (b.cons b.jRep 2 out).raiseJ b.jRep 8
  if out = 0 then b1
  else b1.event 0x3A44 (iJ b.jRep) (leBytes 2 (b.rd (R.J.SLICE.TAG b.jRep e)) ++ leBytes 2 (b.rd (R.J.SLICE.EPOCH b.jRep e))
    ++ leBytes 4 out ++ leBytes 4 out)

/-- Whether the entry drains to its end now (R281), and when it times out. -/
def Body.drained (b : Body) (e : Nat) : Bool :=
  b.rd (R.J.SLICE.STATE b.jRep e) = 2 && b.held e == b.rd (R.J.SLICE.GRANT b.jRep e) && b.noTransitOf (b.rd (R.J.SLICE.TAG b.jRep e))
def Body.drainDue (b : Body) (e : Nat) : Nat :=
  SMap.getD b.fab.drainSince e 0 + b.rd (R.J.DRAIN_TIMEOUT.TIMEOUT 0) * 1000

/-! ## Routes (R267) -/

/-- `J.STATUS.STATE`: 1 without routes, 2 with. -/
def Body.showRoutes (b : Body) : Body :=
  forEach [0, 1, 2, 3] (fun k t =>
    if t.inService (iJ k) then
      t.wr (R.J.STATUS.STATE k) (if (List.range 2048).any (fun e => t.on (R.J.ROUTE.VALID k e)) then 2 else 1)
    else t) b

/-- `ROUTE_ENTRY_WRITE` (R267): a write of `J.ROUTE_e`, honoured from MG only, into all four junctions. -/
def routeEntryWrite (m : Master) (e v : Nat) (b : Body) : Body :=
  let off := 0x8000 + 16 * e
  let r := b.jRep
  let len := fieldOf v (R.J.ROUTE.LEN 0 e)
  let prefix_ := fieldOf v (R.J.ROUTE.PREFIX 0 e)
  let clash := (List.range 2048).any (fun x => x != e && b.on (R.J.ROUTE.VALID r x) && b.rd (R.J.ROUTE.LEN r x) == len
    && decide (b.rd (R.J.ROUTE.PREFIX r x) / 2 ^ (24 - len) = prefix_ / 2 ^ (24 - len)))
  if m ≠ .mg then b.junctionRefuses m off v 2
  else if 24 < len ∨ (fieldOf v (R.J.ROUTE.VALID 0 e) = 1 ∧ clash) then b.junctionRefuses m off v 0
  else
    let put (k : Nat) (f : Nat → Nat → Field) (t : Body) : Body := t.wr (f k e) (fieldOf v (f k e))
    (b.mgFour off v (fun k t =>
      put k R.J.ROUTE.HOPS_B (put k R.J.ROUTE.HOPS_A (put k R.J.ROUTE.PORTS_B (put k R.J.ROUTE.PORTS_A (put k R.J.ROUTE.VALID
        (put k R.J.ROUTE.LEN (put k R.J.ROUTE.PREFIX t)))))))).showRoutes

/-! ## Saturation (R283) -/

/-- `SATURATION_INTERVAL`: a 1 µs interval ends at junction k.  Bit n of the operand says for n = 0 and 1 that the straits of
tile SRAM or memory were busy in every cycle while writes waited (log 92); the link levels follow from the slots that passed. -/
def saturationInterval (k levels : Nat) (b : Body) : Body :=
  if !b.inService (iJ k) then b
  else
    let j := b.jn k
    let saturated (n : Nat) : Bool := if n < 2 then bit levels n else decide (0 < j.satSlots) && !bit j.satOpen n
    forEach ((List.range 5).filter saturated) (fun n t =>
        let j := t.jn k
        (t.setJn k { j with saturated := SMap.set j.saturated n (SMap.getD j.saturated n 0 + 1) 0 }).sat (R.J.SAT_CNT.COUNT k n) 1)
      (b.setJn k { j with satSlots := 0, satOpen := 0 })

/-- `SATURATION_WINDOW`: a 1 ms window ends at junction k. -/
def saturationWindow (k : Nat) (b : Body) : Body :=
  if !b.inService (iJ k) then b
  else
    let sat := (b.jn k).saturated
    let b1 := b.setJn k { b.jn k with saturated := [] }
    if !b.on (R.J.SAT_CTRL.ENABLE k) then b1
    else
      forEach (List.range 5) (fun n t =>
        let share := min (SMap.getD sat n 0 * 256 / 1000) 255
        if b.rd (R.J.SAT_CTRL.THRESH k) ≤ share then t.event 0x3A42 (iJ k) (leBytes 1 n ++ leBytes 1 share) else t) b1

/-! ## The meanings -/

def execPacketIngress (link : Fin 64) (bs : Bytes) (s : State) := run (packetIngress link.val bs) s
def execDuplicateHoldExpiry (k : Fin 4) (s : State) := run (duplicateHoldExpiry k.val) s
def execPacketInject (k : Fin 4) (i : Nat) (s : State) := run (packetInject k.val i) s
def execSlotTick (k : Fin 4) (s : State) := run (slotTick k.val) s
def execTokenReturn (k : Fin 4) (tag epoch : BitVec 16) (cls : BitVec 4) (count : BitVec 16) (s : State) :=
  run (tokenReturn k.val tag.toNat epoch.toNat cls.toNat count.toNat) s
def execTokenReturnFlush (i : Nat) (s : State) := run (tokenReturnFlush i) s
def execSliceEntryWrite (m : Master) (e : Fin 64) (v : BitVec 256) (s : State) :=
  run (Body.written [iJ 0, iJ 1, iJ 2, iJ 3] (0x2000 + 0x20 * e.val) (sliceEntryWrite m e.val v.toNat)) s
def execSliceDrain (m : Master) (e : Fin 64) (s : State) :=
  run (Body.written [iJ 0, iJ 1, iJ 2, iJ 3] (0x2000 + 0x20 * e.val) (sliceDrain m e.val)) s
def execRouteEntryWrite (m : Master) (e : Fin 2048) (v : BitVec 128) (s : State) :=
  run (Body.written [iJ 0, iJ 1, iJ 2, iJ 3] (0x8000 + 16 * e.val) (routeEntryWrite m e.val v.toNat)) s
def execSaturationInterval (k : Fin 4) (levels : BitVec 5) (s : State) := run (saturationInterval k.val levels.toNat) s
def execSaturationWindow (k : Fin 4) (s : State) := run (saturationWindow k.val) s

end Sys2Proof.Machine
end

