-- ==== Sys2Proof/Machine/Memory.lean ====
section
/-! DEFINITION. The memory islands (spec/09_memory.md R212 to R234): the check code, the repeat rule and the line test, lost
units, retirement, live retraining, refresh, power-up and the return from reset. -/

namespace Sys2Proof.Machine

/-! ## The check code (R216 to R218) -/

/-- Multiplication by α in GF(2⁸) with x⁸ + x⁴ + x³ + x² + 1. -/
def gf8Double (a : Nat) : Nat := if 128 ≤ a then ((2 * a) % 256) ^^^ 0x1D else 2 * a

/-- The product in GF(2⁸). -/
def gf8Mul (a c : Nat) : Nat :=
  (List.range 8).foldl (fun acc i => if bit c i then acc ^^^ repeatN i gf8Double a else acc) 0

/-- α to the power `n`. -/
def gf8Pow (n : Nat) : Nat := repeatN n gf8Double 1

/-- The inverse: the 254th power. -/
def gf8Inv (a : Nat) : Nat := repeatN 253 (gf8Mul a) a

/-- The coefficients of (x − 1)(x − α)(x − α²)(x − α³), from x³ down to x⁰. -/
def rsGen : List Nat := [15, 54, 120, 64]

/-- The four check bytes of the 34 leading symbols (R216). -/
def rsCheck (msg : List Nat) : List Nat :=
  msg.foldl (fun r m =>
    let f := m ^^^ r.headD 0
    ((r.drop 1) ++ [0]).zipWith (fun x g => x ^^^ gf8Mul f g) rsGen) [0, 0, 0, 0]

/-- The line tag of a unit's address (R217). -/
def lineTag (a : Nat) : Nat :=
  let s := subOf a
  let v := s.1 * 2 ^ 26 + s.2 / 2 ^ 5
  bits v 0 16 ^^^ bits v 16 16 ^^^ bits v 32 4

/-- The four syndromes of a codeword of 38 symbols. -/
def syndromes (cw : List Nat) : List Nat :=
  (List.range 4).map (fun j => cw.foldl (fun acc s => gf8Mul acc (gf8Pow j) ^^^ s) 0)

/-- What the decoder makes of a burst (R218). -/
inductive Decoded where
  | clean (payload : Bytes)
  | correctable (payload : Bytes)
  | tagMismatch
  | uncorrectable
  deriving DecidableEq, Repr

/-- The codeword of a burst of 36 bytes: tag, then the stored symbols. -/
def codeword (tag : Nat) (burst : Bytes) : List Nat := [tag / 256, tag % 256] ++ (slice burst 0 36).map BitVec.toNat

/-- The payload of a burst with symbol `i` of the codeword corrected by `e`. -/
def fixed (burst : Bytes) (i e : Nat) : Bytes :=
  slice (overlay burst (i - 2) [(burst[i - 2]?).getD 0 ^^^ BitVec.ofNat 8 e]) 0 32

/-- The decoder with no line marked. -/
def decodePlain (tag : Nat) (burst : Bytes) : Decoded :=
  let s := syndromes (codeword tag burst)
  let g (j : Nat) : Nat := (s[j]?).getD 0
  let single (p : Nat) : Bool := (List.range 3).all (fun j => gf8Mul (gf8Pow p) (g j) == g (j + 1))
  if s.all (· == 0) then .clean (slice burst 0 32)
  else
    match (if g 0 = 0 then none else lowest 38 single) with
    | some p => if 36 ≤ p then .tagMismatch else .correctable (fixed burst (37 - p) (g 0))
    | none =>
      let a := gf8Pow 37 ^^^ gf8Pow 36
      let c := gf8Mul (gf8Pow 37) (gf8Pow 36)
      if (List.range 2).all (fun j => g (j + 2) == gf8Mul a (g (j + 1)) ^^^ gf8Mul c (g j)) then .tagMismatch
      else .uncorrectable

/-- The decoder in erasure mode for data line `l` (R218): the line's three symbols are recovered when the fourth syndrome
agrees. -/
def decodeErased (tag : Nat) (burst : Bytes) (l : Nat) : Decoded :=
  let s := syndromes (codeword tag burst)
  let g (j : Nat) : Nat := (s[j]?).getD 0
  let x (i : Nat) : Nat := gf8Pow (35 - 3 * l - i)
  let s1 := x 0 ^^^ x 1 ^^^ x 2
  let s2 := gf8Mul (x 0) (x 1) ^^^ gf8Mul (x 0) (x 2) ^^^ gf8Mul (x 1) (x 2)
  let s3 := gf8Mul (gf8Mul (x 0) (x 1)) (x 2)
  if g 3 ≠ gf8Mul s1 (g 2) ^^^ gf8Mul s2 (g 1) ^^^ gf8Mul s3 (g 0) then .uncorrectable
  else
    let err (i : Nat) : Nat :=
      let j := (i + 1) % 3
      let k := (i + 2) % 3
      let num := g 2 ^^^ gf8Mul (x j ^^^ x k) (g 1) ^^^ gf8Mul (gf8Mul (x j) (x k)) (g 0)
      gf8Mul num (gf8Inv (gf8Mul (x i ^^^ x j) (x i ^^^ x k)))
    let new := (List.range 3).map (fun i => (burst[3 * l + i]?).getD 0 ^^^ BitVec.ofNat 8 (err i))
    .clean (slice (overlay burst (3 * l) new) 0 32)

/-- The decoder under the marked lines of the sub-channel (R221): one marked line is erased, two are beyond the code. -/
def decodeBurst (marks tag : Nat) (burst : Bytes) : Decoded :=
  if marks = 0 then decodePlain tag burst
  else
    match (List.range 12).filter (bit marks) with
    | [l] => decodeErased tag burst l
    | _ => .uncorrectable

/-! ## Sub-channels -/

/-- The spares in state spare (`M.STATUS.SPARES_FREE` counts them). -/
def Body.showSpares (b : Body) (k : Nat) : Body :=
  b.wr (R.M.STATUS.SPARES_FREE k) (countUpTo 128 (fun j => b.rd (R.M.SC.STATE k j) == 1))

def Body.setSub (b : Body) (k j st : Nat) : Body := (b.wr (R.M.SC.STATE k j) st).showSpares k

/-- A sub-channel is retired; its marks end with that (R221). -/
def Body.retireSub (b : Body) (k j : Nat) : Body := (b.wr (R.M.SC.FAILED_LINES k j) 0).setSub k j 3

/-- Sub-channel t serves the slot of the retired j: the open captures of j have their outcome (R332). -/
def Body.replaceSub (b : Body) (k j t : Nat) : Body :=
  let b1 := (b.setSub k t 0).retireSub k j
  (b1.setMemi k { b1.memi k with replaced := SMap.insert (b1.memi k).replaced j (128 * k + t) }).onPart 2 (128 * k + j)
    (fun c => c.retiredFor (128 * k + t))

/-- The logical slot that a sub-channel serves. -/
def Body.slotOf (b : Body) (k j : Nat) : Option Nat := lowest 120 (fun i => b.rd (R.M.REMAP.SC k i) == j)

/-- The lowest-numbered spare. -/
def Body.spareOf (b : Body) (k : Nat) : Option Nat := lowest 128 (fun j => b.rd (R.M.SC.STATE k j) == 1)

/-- A sub-channel has been trained: its results go to the store with their check, its marks are cleared (R221, R233). -/
def Body.trained (b : Body) (k j : Nat) : Body :=
  let res := (Config.trainResult (128 * k + j) (b.rd (R.M.SC.RETRAINS k j))).toList
  let b1 := ((b.wr (R.M.TRAIN_STORE.RESULTS k j) (leNat res)).wr (R.M.TRAIN_STORE.CHECK k j) (crc32 res)).wr
    (R.M.SC.FAILED_LINES k j) 0
  let m := b1.memi k
  b1.setMemi k { m with trainedAt := SMap.insert m.trainedAt j (b1.ns 2),
                        trainTemp := SMap.insert m.trainTemp j (SMap.getD m.temp j 0) }

/-! ## Copies (R225 to R229) -/

/-- The copy registers after a copy has ended or been abandoned. -/
def Body.copyIdle (b : Body) (k : Nat) : Body :=
  (((b.wr (R.M.COPY_STATUS.ACTIVE k) 0).wr (R.M.STATUS.COPY_ACTIVE k) 0).wr (R.M.STATUS.RETRAIN_ACTIVE k) 0).setMemi k
    { b.memi k with copyLost := [] }

/-- A copy starts from the sub-channel of slot `i`, of kind 0 retirement or 1 retraining. -/
def Body.startCopy (b : Body) (k i j t kind : Nat) : Body :=
  let b1 := ((((b.wr (R.M.COPY_STATUS.SRC k) j).wr (R.M.COPY_STATUS.DST k) t).wr (R.M.COPY_STATUS.KIND k) kind).wr
    (R.M.COPY_STATUS.POINTER k) 0).wr (R.M.COPY_STATUS.ACTIVE k) 1
  let b2 := ((b1.wr (R.M.STATUS.COPY_ACTIVE k) 1).wr (R.M.STATUS.RETRAIN_ACTIVE k) kind).setSub k t 2
  b2.setMemi k { b2.memi k with copySlot := i }

/-- The running copy is abandoned: its source stays bound, with the units that the copy alone found lost; its target becomes
a spare again (R225, R226, R233). -/
def Body.abandonCopy (b : Body) (k : Nat) : Body :=
  if !b.on (R.M.COPY_STATUS.ACTIVE k) then b
  else
    let j := b.rd (R.M.COPY_STATUS.SRC k)
    let gone := (b.memi k).copyLost
    let b0 : Body := { b with lost := b.lost.filter (fun u => !gone.contains u) }
    let b1 := (b0.setSub k (b.rd (R.M.COPY_STATUS.DST k)) 1).copyIdle k
    if b.rd (R.M.COPY_STATUS.KIND k) = 1 then b1.raiseM k 6 0 (iM k * 64) 11 0 j else b1.onPart 2 (128 * k + j) Capture.settled

/-- The oldest retirement request that can start, with its slot. -/
def Body.nextRequest (b : Body) (k : Nat) : Option (Nat × Nat) :=
  (b.memi k).requests.findSome? (fun j =>
    if b.rd (R.M.SC.STATE k j) = 0 then (b.slotOf k j).map (fun i => (j, i)) else none)

/-- The oldest waiting retraining that can start. -/
def Body.nextRetrain (b : Body) (k : Nat) : Option (Nat × Nat) :=
  (b.memi k).retrains.findSome? (fun j =>
    if b.rd (R.M.SC.STATE k j) = 0 then (b.slotOf k j).map (fun i => (j, i)) else none)

/-- Source 4 for a retirement request that finds no spare, once for each request (R225, R234). -/
def Body.noSpareFor (b : Body) (k j : Nat) : Body :=
  if (b.memi k).noSpare.contains j then b
  else (b.raiseM k 4 0 (iM k * 64) 11 0 j).setMemi k { b.memi k with noSpare := (b.memi k).noSpare ++ [j] }

/-- The island starts its next copy if it can: retirements go first, one copy at a time; a retirement without a free spare
takes the stand-in of a retraining that is copying, or is held with source 4 (R225, R228). -/
def Body.serveCopies (b : Body) (k : Nat) : Body :=
  if b.rd (R.M.STATUS.STATE k) ≠ 2 then b
  else
    let running := b.on (R.M.COPY_STATUS.ACTIVE k)
    match b.nextRequest k with
    | some (j, i) =>
      let b1 := if running && b.rd (R.M.COPY_STATUS.KIND k) = 1 && (b.spareOf k).isNone then b.abandonCopy k else b
      if b1.on (R.M.COPY_STATUS.ACTIVE k) then b1
      else
        match b1.spareOf k with
        | none => b1.noSpareFor k j
        | some t =>
          (b1.setMemi k { b1.memi k with requests := (b1.memi k).requests.erase j,
                                         noSpare := (b1.memi k).noSpare.erase j }).startCopy k i j t 0
    | none =>
      match b.nextRetrain k, b.spareOf k with
      | some (j, i), some t =>
        if running then b
        else (b.setMemi k { b.memi k with retrains := (b.memi k).retrains.erase j }).startCopy k i j t 1
      | _, _ => b

/-- Retirement of a sub-channel is requested (R225): source 4 when no spare can be had.  A spare holds no data, so it is
retired without a copy. -/
def Body.requestRetire (b : Body) (k j : Nat) : Body :=
  let st := b.rd (R.M.SC.STATE k j)
  let copying := b.on (R.M.COPY_STATUS.ACTIVE k) && b.rd (R.M.COPY_STATUS.KIND k) = 0 && b.rd (R.M.COPY_STATUS.SRC k) = j
  if st = 3 || copying || (b.memi k).requests.contains j then b
  else if st = 1 then b.retireSub k j
  else
    let b1 := b.setMemi k { b.memi k with requests := (b.memi k).requests ++ [j],
                                          retrains := (b.memi k).retrains.erase j }
    let retraining := b.on (R.M.COPY_STATUS.ACTIVE k) && b.rd (R.M.COPY_STATUS.KIND k) = 1
    let b2 := if (b.spareOf k).isNone && !retraining then b1.noSpareFor k j else b1
    b2.serveCopies k

/-- A write that MG alone may make. -/
def Body.mgOnly (b : Body) (m : Master) (i off v : Nat) (f : Body → Body) : Body :=
  if !b.inService i then b.cfgEvent m i off v 3 else if m ≠ .mg then b.cfgEvent m i off v 2 else f b

/-- `RETIRE`: a write of `M.COPY_CTRL` with RETIRE. -/
def retire (m : Master) (k j : Nat) (b : Body) : Body :=
  b.mgOnly m (iM k) 0x1C (b.rd (R.M.COPY_CTRL.FLOOR k) + 2 ^ 8 + j * 2 ^ 16) (fun b =>
    (b.wr (R.M.COPY_CTRL.SC k) j).requestRetire k j)

/-- `SPARE_FREED` (R225). -/
def spareFreed (k : Nat) (b : Body) : Body := b.serveCopies k

/-- The end of POINTER: units of 256 bytes in a sub-channel. -/
def copyEnd : Nat := 6291456

/-- `COPY_UNIT` (R226): the unit at the pointer is read, decoded, re-encoded and written; `es` are the error patterns its
eight bursts show.  A unit found uncorrectable becomes a lost one of the target.  The step waits while the source is under a
line test (R221). -/
def copyUnit (k : Nat) (es : List (BitVec 288)) (b : Body) : Body :=
  let p := b.rd (R.M.COPY_STATUS.POINTER k)
  let j := b.rd (R.M.COPY_STATUS.SRC k)
  if b.on (R.M.COPY_STATUS.ACTIVE k) && p < copyEnd && !(b.memi k).held.any (fun h => h.sc == j) then
    let base := addrOf (8 * (b.memi k).copySlot + k) (p * 256)
    let marks := b.rd (R.M.SC.FAILED_LINES k j)
    let b1 := forEach (List.range 8) (fun i t0 =>
      let a := base + 32 * i
      let t := (t0.activateIn a j).activateIn a (b.rd (R.M.COPY_STATUS.DST k))
      let pay := t.bytes a 32
      let tag := lineTag a
      let stored := pay ++ (rsCheck ((codeword tag pay).take 34)).map (BitVec.ofNat 8)
      let seen := stored.zipWith (· ^^^ ·) (leBytes 36 ((es[i]?).getD 0).toNat)
      match (if t.isLost a then .uncorrectable else decodeBurst marks tag seen) with
      | .clean q => t.put a q
      | .correctable q => t.put a q
      | _ =>
        let m := t.memi k
        ((t.loseUnit a).setMemi k { m with copyLost := if t.isLost a then m.copyLost else m.copyLost ++ [a] }).raiseM k 2 a
          (iM k * 64) 11 1 j) b
    b1.wr (R.M.COPY_STATUS.POINTER k) (p + 1)
  else b

/-- `COPY_COMPLETE` (R227, R229). -/
def copyComplete (k : Nat) (b : Body) : Body :=
  if b.on (R.M.COPY_STATUS.ACTIVE k) && copyEnd ≤ b.rd (R.M.COPY_STATUS.POINTER k) then
    let j := b.rd (R.M.COPY_STATUS.SRC k)
    let t := b.rd (R.M.COPY_STATUS.DST k)
    let b1 := (b.wr (R.M.REMAP.SC k (b.memi k).copySlot) t).copyIdle k
    if b.rd (R.M.COPY_STATUS.KIND k) = 0 then (b1.replaceSub k j t).serveCopies k
    else
      let b2 := b1.setSub k j 4
      (b2.setMemi k { b2.memi k with training := (b2.memi k).training ++ [(j, .retrain)] }).serveCopies k
  else b

/-- Whether a sub-channel's device temperature has moved by DRIFT since its last training. -/
def Body.drifted (b : Body) (k j : Nat) : Bool :=
  let m := b.memi k
  let d := SMap.getD m.temp j 0 - SMap.getD m.trainTemp j 0
  b.rd (R.M.RETRAIN_CTRL.DRIFT k) != 0 && decide (16 * b.rd (R.M.RETRAIN_CTRL.DRIFT k) ≤ d.natAbs)

/-- The sub-channel whose turn it is (R228): a drifted one first, then the one longest without training. -/
def Body.retrainPick (b : Body) (k : Nat) : Option Nat :=
  let act := (List.range 128).filter (fun j => b.rd (R.M.SC.STATE k j) == 0)
  let pool := if act.any (b.drifted k) then act.filter (b.drifted k) else act
  let at_ (j : Nat) : Nat := SMap.getD (b.memi k).trainedAt j 0
  pool.foldl (fun best j =>
    match best with
    | none => some j
    | some x => if at_ j < at_ x then some j else some x) none

/-- A retraining starts, or waits for a spare. -/
def Body.startRetrain (b : Body) (k j : Nat) : Body :=
  let m := b.memi k
  (b.setMemi k { m with retrains := if m.retrains.contains j then m.retrains else m.retrains ++ [j] }).serveCopies k

/-- `RETRAIN_INTERVAL` (R228). -/
def retrainInterval (k : Nat) (b : Body) : Body :=
  if b.rd (R.M.RETRAIN_CTRL.INTERVAL k) = 0 || b.rd (R.M.STATUS.STATE k) ≠ 2 then b
  else
    match b.retrainPick k with
    | some j => b.startRetrain k j
    | none => b

/-- `RETRAIN_NOW` (R228): a write of `M.RETRAIN_CTRL` with NOW; a host's has no effect and is recorded. -/
def retrainNow (m : Master) (k j : Nat) (b : Body) : Body :=
  let v := b.rd (R.M.RETRAIN_CTRL.INTERVAL k) + b.rd (R.M.RETRAIN_CTRL.DRIFT k) * 2 ^ 16 + 2 ^ 24 + j * 2 ^ 25
  b.mgOnly m (iM k) 0x18 v (fun b => (b.wr (R.M.RETRAIN_CTRL.SC k) j).startRetrain k j)

/-- `RETRAINING_DONE` (R229): full training of the original ends. -/
def retrainingDone (k j : Nat) (r : Result) (b : Body) : Body :=
  if b.rd (R.M.SC.STATE k j) = 4 && (b.memi k).training.contains (j, .retrain) then
    let b1 := b.setMemi k { b.memi k with training := (b.memi k).training.erase (j, .retrain) }
    let standIns := (List.range 128).filter (fun t => b.rd (R.M.SC.STATE k t) == 2 && (b.slotOf k t).isSome)
    let b2 := forEach standIns (fun t u => u.setSub k t 0) b1
    match r with
    | .pass => (((b2.sat (R.M.SC.RETRAINS k j) 1).trained k j).setSub k j 1).serveCopies k
    | .fail => ((b2.retireSub k j).raiseM k 5 0 (iM k * 64) 11 0 j).serveCopies k
  else b

/-! ## Reads (R220 to R224) -/

/-- What the array stores for a unit: payload and check bytes; of a lost unit the check bytes are inverted. -/
def Body.storedBurst (b : Body) (a : Nat) : Bytes :=
  let pay := b.bytes a 32
  let chk := rsCheck ((codeword (lineTag a) pay).take 34)
  pay ++ chk.map (fun c => BitVec.ofNat 8 (if b.isLost a then 255 - c else c))

/-- A read of a unit that shows the error pattern `e`: the burst, its class and its syndromes.  A lost unit is
uncorrectable. -/
def Body.readBurst (b : Body) (a marks : Nat) (e : BitVec 288) : Bytes × Decoded × List Nat :=
  let seen := (b.storedBurst a).zipWith (· ^^^ ·) (leBytes 36 e.toNat)
  (seen, if b.isLost a then .uncorrectable else decodeBurst marks (lineTag a) seen, syndromes (codeword (lineTag a) seen))

/-- The transient outcomes of a sub-channel that the window still covers (R222). -/
def Body.inWindow (b : Body) (k : Nat) (l : List Nat) : List Nat :=
  let w := b.rd (R.M.ERR_CTRL.WINDOW k)
  if w = 0 then l else l.filter (fun t => decide (b.ns 2 < t + w * 10 ^ 9))

/-- A transient outcome (R220, R222). -/
def Body.transient (b : Body) (k j a master req : Nat) : Body :=
  let b1 := (((b.raiseM k 0 a master req 1 j).sat (R.M.SC.TRANSIENT k j) 1).acc
    (fun c => { c with transients := c.transients + 1 })).wearBy (68 + 128 * k + j) 32
  let m := b1.memi k
  let l := b1.inWindow k (SMap.getD m.transients j []) ++ [b1.ns 2]
  let b2 := b1.setMemi k { m with transients := SMap.insert m.transients j l }
  let th := b2.rd (R.M.ERR_CTRL.THRESH k)
  if th ≠ 0 ∧ th < l.length then (b2.raiseM k 8 a master req 1 j).requestRetire k j else b2

/-- The line test takes the read that must wait for it (R221). -/
def Body.holdRead (b : Body) (k j a master req : Nat) (burst : Bytes) : Body :=
  b.setMemi k { b.memi k with held := (b.memi k).held ++ [{ sc := j, addr := a, master := master, requester := req, burst := burst }] }

/-- `MEMORY_READ` (R220): a unit is read for a master; `e1`, `e2` and `e3` are the error patterns of the first read, the
re-read and the read after the write-back.  A closed strait refuses it (R24, R232); a read that must wait joins the sub-channel's queue (R221, R233). -/
def memoryRead (a master req : Nat) (e1 e2 e3 : BitVec 288) (b : Body) : Body :=
  let u := unitOf a
  if lpddrEnd ≤ u || !b.crosses (master / 64) u 32 then b
  else
    let s := b.readChannel u
    let k := s.1
    let j := s.2
    let m := b.memi k
    if b.rd (R.M.STATUS.STATE k) ≠ 2 || m.held.any (fun h => h.sc == j) || m.training.any (fun t => t.1 == j) then
      b.setMemi k { m with queued := m.queued ++ [{ addr := u, master := master, req := req, e1 := e1, e2 := e2, e3 := e3 }] }
    else
      let b := b.activate u
      let m := b.memi k
      let marks := b.rd (R.M.SC.FAILED_LINES k j)
      let r1 := b.readBurst u marks e1
      let r2 := b.readBurst u marks e2
      match r1.2.1 with
      | .clean _ => b
      | c1 =>
        let b := b.setMemi k { m with syndromes := SMap.insert m.syndromes j (leNat (r1.2.2.map (BitVec.ofNat 8 ·))) }
        match r2.2.1 with
        | .clean _ => b.transient k j u master req
        | .correctable p =>
          if r1.2.2 = r2.2.2 then
            let b1 := b.put u p
            let r3 := b1.readBurst u marks e3
            match r3.2.1 with
            | .clean _ => b1.transient k j u master req
            | _ => b1.holdRead k j u master req r3.1
          else b.holdRead k j u master req r2.1
        | c2 =>
          let b1 := if c1 = .tagMismatch ∧ c2 = .tagMismatch then b.raiseM k 3 u master req 1 j else b
          b1.holdRead k j u master req r2.1

/-- The reads that waited in an island's queues are made in their order; one that must still wait joins its queue again. -/
def Body.serveReads (b : Body) (k : Nat) : Body :=
  forEach (b.memi k).queued (fun q t => memoryRead q.addr q.master q.req q.e1 q.e2 q.e3 t)
    (b.setMemi k { b.memi k with queued := [] })

/-- A held read is decided after the line test (step 4 of R220): delivered as permanent, or uncorrectable. -/
def Body.decideRead (b : Body) (k j marks : Nat) (h : HeldRead) : Body :=
  let good :=
    !b.isLost h.addr &&
      match decodeBurst marks (lineTag h.addr) h.burst with
      | .clean _ => marks != 0
      | .correctable _ => marks == 0
      | _ => false
  if good then
    ((b.raiseM k 1 h.addr h.master h.requester 1 j).sat (R.M.SC.CORRECTED k j) 1).requestRetire k j
  else ((b.loseUnit h.addr).raiseM k 2 h.addr h.master h.requester 1 j).requestRetire k j

/-- `LINE_TEST_COMPLETE` (R221): the lines that differ are marked, all twelve when command-bus training failed, and the
held reads of the sub-channel are decided; the reads that waited behind them are made. -/
def lineTestComplete (k j lines : Nat) (ca : Result) (b : Body) : Body :=
  let m := b.memi k
  let held := m.held.filter (fun h => h.sc == j)
  if held.isEmpty then b
  else
    let marks := if ca = .fail then 0xFFF else b.rd (R.M.SC.FAILED_LINES k j) ||| lines
    let b := if lines = 0 ∧ ca = .pass then b.wearBy (68 + 128 * k + j) 16 else b
    let b1 := (b.wr (R.M.SC.FAILED_LINES k j) marks).setMemi k { m with held := m.held.filter (fun h => h.sc != j) }
    (forEach held (fun h t => t.decideRead k j marks h) b1).serveReads k

/-! ## Refresh and temperature (R230) -/

/-- `REFRESH` (R230): a bank of an active sub-channel, a stand-in or a spare is refreshed. -/
def refresh (k j bank : Nat) (b : Body) : Body :=
  if b.rd (R.M.SC.STATE k j) ≤ 2 && (b.rd (R.M.STATUS.STATE k) = 1 || b.rd (R.M.STATUS.STATE k) = 2) then
    b.setMemi k { b.memi k with refreshed := SMap.insert (b.memi k).refreshed (16 * j + bank) (b.ns 2) }
  else b

/-- `TEMPERATURE_READOUT` (R212, R230): package `p` reports its temperature (1/16 °C); source 7 above its range. -/
def temperatureReadout (p : Nat) (t : Int) (hot : Bool) (b : Body) : Body :=
  let k := p / 8
  let m := b.memi k
  let b1 := b.setMemi k { m with temp := (List.range 16).foldl (fun acc i => SMap.insert acc (16 * (p % 8) + i) t) m.temp }
  if hot then b1.raiseM k 7 0 (iM k * 64) 11 0 (16 * (p % 8)) else b1

/-! ## Power-up and resume (R231 to R233) -/

/-- `MEMORY_INIT` (R231): device initialisation and full training of every sub-channel start. -/
def memoryInit (k : Nat) (b : Body) : Body :=
  if b.inService (iM k) && b.rd (R.M.STATUS.STATE k) = 0 then
    ((b.wr (R.M.STATUS.STATE k) 1).wr (R.M.STATUS.FSP k) 0).setMemi k
      { b.memi k with training := (List.range 128).map (fun j => (j, .powerUp)) }
  else b

/-- A sub-channel that failed power-up training is retired and its slot bound to the lowest spare that passed. -/
def Body.failAtPowerUp (b : Body) (k failed j : Nat) : Body :=
  let b1 := b.raiseM k 5 0 (iM k * 64) 11 0 j
  match b.slotOf k j with
  | none => b1.retireSub k j
  | some i =>
    match lowest 128 (fun t => b.rd (R.M.SC.STATE k t) == 1 && !bit failed t) with
    | some t => (b1.wr (R.M.REMAP.SC k i) t).replaceSub k j t
    | none =>
      (b1.setMemi k { b1.memi k with requests := (b1.memi k).requests ++ [j] }).noSpareFor k j

/-- `MEMORY_TRAINING_COMPLETE` (R231): bit j of `failed` says that sub-channel j did not train at the operating rate. -/
def memoryTrainingComplete (k failed : Nat) (b : Body) : Body :=
  let m := b.memi k
  if m.training.any (fun t => t.2 == .powerUp) then
    let b1 := (b.setMemi k { m with training := [] }).wr (R.M.STATUS.FSP k) 1
    let b2 := forEach (List.range 128) (fun j t => if bit failed j then t else t.trained k j) b1
    forEach (List.range 128) (fun j t => if bit failed j then t.failAtPowerUp k failed j else t) b2
  else b

/-- The memory cells of an island's LPDDR are dropped: its addresses read as zero payload. -/
def Body.clearIsland (b : Body) (k : Nat) : Body :=
  let mine (a : Nat) : Bool := decide (a < lpddrEnd) && (subOf a).1 % 8 == k
  { b with mem := b.mem.filter (fun c => !mine c.1), lost := b.lost.filter (fun a => !mine a) }

/-- `ZERO_FILL_COMPLETE` (R231). -/
def zeroFillComplete (k : Nat) (b : Body) : Body :=
  if b.rd (R.M.STATUS.STATE k) = 1 && b.on (R.M.STATUS.FSP k) && (b.memi k).training.isEmpty then
    (((b.clearIsland k).wr (R.M.STATUS.STATE k) 2).serveReads k).serveCopies k
  else b

/-- A copy or a retraining that ran at a reset is abandoned (R233). -/
def Body.abandonAtReset (b : Body) (k : Nat) : Body :=
  let b1 := b.abandonCopy k
  let orig := (b1.memi k).training.filterMap (fun t => if t.2 = .retrain then some t.1 else none)
  let b2 := forEach orig (fun j t => (t.setSub k j 1).raiseM k 6 0 (iM k * 64) 11 0 j) b1
  let b3 := forEach (List.range 128) (fun j t =>
    if t.rd (R.M.SC.STATE k j) = 2 then t.setSub k j 0 else t) b2
  let b4 := b3.setMemi k { b3.memi k with training := [], held := [], queued := [] }
  b4.onOpen (fun c => c.kind == 2 && c.part / 128 == k && !(b4.memi k).requests.contains (c.part % 128)) Capture.settled

/-- The island's sub-channels are placed in self-refresh after each bank has been refreshed once (R232). -/
def Body.selfRefresh (b : Body) (k : Nat) : Body :=
  if b.rd (R.M.STATUS.STATE k) = 1 ∨ b.rd (R.M.STATUS.STATE k) = 2 then
    let b1 := b.abandonAtReset k
    let m := b1.memi k
    (b1.setMemi k { m with refreshed := (List.range 2048).map (fun i => (i, b1.ns 2)) }).wr
      (R.M.STATUS.STATE k) 3
  else b

/-- The check of an island's training store holds: every trained sub-channel's CHECK is the CRC-32 of its RESULTS (R233). -/
def Body.storeOk (b : Body) (k : Nat) : Bool :=
  (b.memi k).trainedAt.all (fun e =>
    b.rd (R.M.TRAIN_STORE.CHECK k e.1) == crc32 (leBytes 60 (b.rd (R.M.TRAIN_STORE.RESULTS k e.1))))

/-- `MEMORY_RESUME` (R233): the island leaves reset.  With a failed check of its store, which the registers show or the
retention cells report (`store`, log 99), every sub-channel receives full training. -/
def memoryResume (k : Nat) (store : Result) (b : Body) : Body :=
  if b.rd (R.M.STATUS.STATE k) = 3 then
    let b1 := ((b.wr (R.M.STATUS.STATE k) 1).wr (R.M.STATUS.FSP k) 1).showSpares k
    if store = .pass ∧ b.storeOk k then b1
    else b1.setMemi k { b1.memi k with training := (List.range 128).map (fun j => (j, .store)) }
  else b

/-- The island is ready and the requests that waited are served. -/
def Body.memReady (b : Body) (k : Nat) : Body := ((b.wr (R.M.STATUS.STATE k) 2).serveReads k).serveCopies k

/-- `RECALIBRATION_DONE` (R233): bit j of `failed` says that sub-channel j failed recalibration and trains in full. -/
def recalibrationDone (k failed : Nat) (b : Body) : Body :=
  if b.rd (R.M.STATUS.STATE k) = 1 && b.on (R.M.STATUS.FSP k) && (b.memi k).training.isEmpty then
    let b1 := forEach (List.range 128) (fun j t => t.sat (R.M.SC.RETRAINS k j) 1) b
    let bad := (List.range 128).filter (fun j => bit failed j && b.rd (R.M.SC.STATE k j) ≠ 3)
    let b2 := forEach bad (fun j t => t.raiseM k 5 0 (iM k * 64) 11 0 j) b1
    (b2.setMemi k { b2.memi k with training := bad.map (fun j => (j, .resume)) }).memReady k
  else b

/-- `FULL_TRAINING_COMPLETE` (R233): the full training that a failed recalibration or a failed store check asked for ends. -/
def fullTrainingComplete (k failed : Nat) (b : Body) : Body :=
  let run_ := (b.memi k).training.filter (fun t => t.2 = .resume || t.2 = .store)
  if run_.isEmpty then b
  else
    let b1 := b.setMemi k { b.memi k with training := (b.memi k).training.filter (fun t => !run_.contains t) }
    let b2 := forEach run_ (fun j t =>
      let t := if j.2 = .resume then t.wearBy (68 + 128 * k + j.1) 64 else t
      if bit failed j.1 then t.raiseM k 5 0 (iM k * 64) 11 0 j.1 else (t.sat (R.M.SC.RETRAINS k j.1) 1).trained k j.1) b1
    let b3 := if b2.rd (R.M.STATUS.STATE k) = 1 then b2.memReady k else b2.serveReads k
    forEach (run_.filter (fun j => bit failed j.1)) (fun j t => t.requestRetire k j.1) b3

/-! ## The meanings -/

def execMemoryRead (a : BitVec 42) (master : BitVec 13) (req : BitVec 4) (e1 e2 e3 : BitVec 288) (s : State) :=
  run (memoryRead a.toNat master.toNat req.toNat e1 e2 e3) s
def execRetire (m : Master) (k : Fin 8) (j : Fin 128) (s : State) :=
  run (Body.written [iM k.val] 0x1C (retire m k.val j.val)) s
def execSpareFreed (k : Fin 8) (s : State) := run (spareFreed k.val) s
def execCopyUnit (k : Fin 8) (es : List (BitVec 288)) (s : State) := run (copyUnit k.val es) s
def execCopyComplete (k : Fin 8) (s : State) := run (copyComplete k.val) s
def execRetrainInterval (k : Fin 8) (s : State) := run (retrainInterval k.val) s
def execRetrainNow (m : Master) (k : Fin 8) (j : Fin 128) (s : State) :=
  run (Body.written [iM k.val] 0x18 (retrainNow m k.val j.val)) s
def execRetrainingDone (k : Fin 8) (j : Fin 128) (r : Result) (s : State) := run (retrainingDone k.val j.val r) s
def execRefresh (k : Fin 8) (j : Fin 128) (bank : Fin 16) (s : State) := run (refresh k.val j.val bank.val) s
def execTemperatureReadout (p : Fin 64) (t : BitVec 16) (hot : Bool) (s : State) :=
  run (temperatureReadout p.val (signed t.toNat 16) hot) s
def execMemoryInit (k : Fin 8) (s : State) := run (memoryInit k.val) s
def execMemoryTrainingComplete (k : Fin 8) (failed : BitVec 128) (s : State) :=
  run (memoryTrainingComplete k.val failed.toNat) s
def execMemoryResume (k : Fin 8) (store : Result) (s : State) := run (memoryResume k.val store) s

end Sys2Proof.Machine
end

