-- ==== Sys2Proof/Machine/Spaovoto.lean ====
section
/-! DEFINITION. The instruction words of Spaovoto (spec/06_spaovoto_reference.md): the forms of R133 as one type, the
decoder of a slot's 32 bits by section and the encoder, both written from the field table of R133 and the opcode tables of
R138, R144, R149 to R152, R154, R159 to R163 and R164. -/

namespace Sys2Proof.Machine

/-- The five sections of a bundle's slots (R109). -/
inductive Section where
  | scalar | vector | matrix | move | control
  deriving DecidableEq, Repr

/-- The scalar instructions of form SR (R138). -/
inductive SrOp where
  | add | sub | and_ | or_ | xor | shl | shr | sra | slt | sltu | seq | min_ | max_ | minu | maxu | mul | mulh | mulhu | div | divu | rem_ | remu
  deriving DecidableEq, Repr

/-- The code of a SrOp. -/
def SrOp.code : SrOp → Nat
  | .add => 0x01
  | .sub => 0x02
  | .and_ => 0x03
  | .or_ => 0x04
  | .xor => 0x05
  | .shl => 0x06
  | .shr => 0x07
  | .sra => 0x08
  | .slt => 0x09
  | .sltu => 0x0A
  | .seq => 0x0B
  | .min_ => 0x0C
  | .max_ => 0x0D
  | .minu => 0x0E
  | .maxu => 0x0F
  | .mul => 0x10
  | .mulh => 0x11
  | .mulhu => 0x12
  | .div => 0x13
  | .divu => 0x14
  | .rem_ => 0x15
  | .remu => 0x16

/-- The SrOp with a code. -/
def SrOp.ofCode (c : Nat) : Option SrOp :=
  if c = 0x01 then some .add
  else if c = 0x02 then some .sub
  else if c = 0x03 then some .and_
  else if c = 0x04 then some .or_
  else if c = 0x05 then some .xor
  else if c = 0x06 then some .shl
  else if c = 0x07 then some .shr
  else if c = 0x08 then some .sra
  else if c = 0x09 then some .slt
  else if c = 0x0A then some .sltu
  else if c = 0x0B then some .seq
  else if c = 0x0C then some .min_
  else if c = 0x0D then some .max_
  else if c = 0x0E then some .minu
  else if c = 0x0F then some .maxu
  else if c = 0x10 then some .mul
  else if c = 0x11 then some .mulh
  else if c = 0x12 then some .mulhu
  else if c = 0x13 then some .div
  else if c = 0x14 then some .divu
  else if c = 0x15 then some .rem_
  else if c = 0x16 then some .remu
  else none

/-- The scalar instructions of form SI (R138). -/
inductive SiOp where
  | addi | andi | ori | xori | shli | shri | srai | lui
  deriving DecidableEq, Repr

/-- The code of a SiOp. -/
def SiOp.code : SiOp → Nat
  | .addi => 0x20
  | .andi => 0x21
  | .ori => 0x22
  | .xori => 0x23
  | .shli => 0x24
  | .shri => 0x25
  | .srai => 0x26
  | .lui => 0x27

/-- The SiOp with a code. -/
def SiOp.ofCode (c : Nat) : Option SiOp :=
  if c = 0x20 then some .addi
  else if c = 0x21 then some .andi
  else if c = 0x22 then some .ori
  else if c = 0x23 then some .xori
  else if c = 0x24 then some .shli
  else if c = 0x25 then some .shri
  else if c = 0x26 then some .srai
  else if c = 0x27 then some .lui
  else none

/-- The scalar instructions of form SX (R140, R141). -/
inductive SxOp where
  | sget | sput | qadv
  deriving DecidableEq, Repr

/-- The code of a SxOp. -/
def SxOp.code : SxOp → Nat
  | .sget => 0x30
  | .sput => 0x31
  | .qadv => 0x32

/-- The SxOp with a code. -/
def SxOp.ofCode (c : Nat) : Option SxOp :=
  if c = 0x30 then some .sget
  else if c = 0x31 then some .sput
  else if c = 0x32 then some .qadv
  else none

/-- The vector instructions of form VA on floating-point elements (R144, R148). -/
inductive VaOp where
  | vadd | vsub | vmul | vfma | vfms | vdiv | vsqrt | vrem | vmin | vmax | vminn | vmaxn | vabs | vneg | vcsgn | vrint | vrintx | vscaleb | vlogb | vclass | vexp2 | vexp | vlog2 | vlog | vsinpi | vcospi | vtanh | vsigm | vrsqrt | vrcpe | vradd | vrmax
  deriving DecidableEq, Repr

/-- The code of a VaOp. -/
def VaOp.code : VaOp → Nat
  | .vadd => 0x01
  | .vsub => 0x02
  | .vmul => 0x03
  | .vfma => 0x04
  | .vfms => 0x05
  | .vdiv => 0x06
  | .vsqrt => 0x07
  | .vrem => 0x08
  | .vmin => 0x09
  | .vmax => 0x0A
  | .vminn => 0x0B
  | .vmaxn => 0x0C
  | .vabs => 0x0D
  | .vneg => 0x0E
  | .vcsgn => 0x0F
  | .vrint => 0x10
  | .vrintx => 0x11
  | .vscaleb => 0x12
  | .vlogb => 0x13
  | .vclass => 0x15
  | .vexp2 => 0x16
  | .vexp => 0x17
  | .vlog2 => 0x18
  | .vlog => 0x19
  | .vsinpi => 0x1A
  | .vcospi => 0x1B
  | .vtanh => 0x1C
  | .vsigm => 0x1D
  | .vrsqrt => 0x1E
  | .vrcpe => 0x1F
  | .vradd => 0x20
  | .vrmax => 0x21

/-- The VaOp with a code. -/
def VaOp.ofCode (c : Nat) : Option VaOp :=
  if c = 0x01 then some .vadd
  else if c = 0x02 then some .vsub
  else if c = 0x03 then some .vmul
  else if c = 0x04 then some .vfma
  else if c = 0x05 then some .vfms
  else if c = 0x06 then some .vdiv
  else if c = 0x07 then some .vsqrt
  else if c = 0x08 then some .vrem
  else if c = 0x09 then some .vmin
  else if c = 0x0A then some .vmax
  else if c = 0x0B then some .vminn
  else if c = 0x0C then some .vmaxn
  else if c = 0x0D then some .vabs
  else if c = 0x0E then some .vneg
  else if c = 0x0F then some .vcsgn
  else if c = 0x10 then some .vrint
  else if c = 0x11 then some .vrintx
  else if c = 0x12 then some .vscaleb
  else if c = 0x13 then some .vlogb
  else if c = 0x15 then some .vclass
  else if c = 0x16 then some .vexp2
  else if c = 0x17 then some .vexp
  else if c = 0x18 then some .vlog2
  else if c = 0x19 then some .vlog
  else if c = 0x1A then some .vsinpi
  else if c = 0x1B then some .vcospi
  else if c = 0x1C then some .vtanh
  else if c = 0x1D then some .vsigm
  else if c = 0x1E then some .vrsqrt
  else if c = 0x1F then some .vrcpe
  else if c = 0x20 then some .vradd
  else if c = 0x21 then some .vrmax
  else none

/-- The sub-ops of `vint` (R149). -/
inductive IntOp where
  | viadd | visub | vimul | vand | vor | vxor | vandn | vshl | vshr | vsra | vimin | vimax | viminu | vimaxu
  deriving DecidableEq, Repr

/-- The code of a IntOp. -/
def IntOp.code : IntOp → Nat
  | .viadd => 0x00
  | .visub => 0x01
  | .vimul => 0x02
  | .vand => 0x03
  | .vor => 0x04
  | .vxor => 0x05
  | .vandn => 0x06
  | .vshl => 0x07
  | .vshr => 0x08
  | .vsra => 0x09
  | .vimin => 0x0A
  | .vimax => 0x0B
  | .viminu => 0x0C
  | .vimaxu => 0x0D

/-- The IntOp with a code. -/
def IntOp.ofCode (c : Nat) : Option IntOp :=
  if c = 0x00 then some .viadd
  else if c = 0x01 then some .visub
  else if c = 0x02 then some .vimul
  else if c = 0x03 then some .vand
  else if c = 0x04 then some .vor
  else if c = 0x05 then some .vxor
  else if c = 0x06 then some .vandn
  else if c = 0x07 then some .vshl
  else if c = 0x08 then some .vshr
  else if c = 0x09 then some .vsra
  else if c = 0x0A then some .vimin
  else if c = 0x0B then some .vimax
  else if c = 0x0C then some .viminu
  else if c = 0x0D then some .vimaxu
  else none

/-- The sub-ops of `vdata` (R149). -/
inductive DataOp where
  | vsel | vbc32 | vbc64 | vrot | vperm | pk6 | up6
  deriving DecidableEq, Repr

/-- The code of a DataOp. -/
def DataOp.code : DataOp → Nat
  | .vsel => 0x00
  | .vbc32 => 0x01
  | .vbc64 => 0x02
  | .vrot => 0x03
  | .vperm => 0x04
  | .pk6 => 0x05
  | .up6 => 0x06

/-- The DataOp with a code. -/
def DataOp.ofCode (c : Nat) : Option DataOp :=
  if c = 0x00 then some .vsel
  else if c = 0x01 then some .vbc32
  else if c = 0x02 then some .vbc64
  else if c = 0x03 then some .vrot
  else if c = 0x04 then some .vperm
  else if c = 0x05 then some .pk6
  else if c = 0x06 then some .up6
  else none

/-- The sub-ops of `pred` (R150). -/
inductive PredOp where
  | and_ | or_ | xor | andn | not_ | zeros | ones | lowest
  deriving DecidableEq, Repr

/-- The code of a PredOp. -/
def PredOp.code : PredOp → Nat
  | .and_ => 0x00
  | .or_ => 0x01
  | .xor => 0x02
  | .andn => 0x03
  | .not_ => 0x04
  | .zeros => 0x05
  | .ones => 0x06
  | .lowest => 0x07

/-- The PredOp with a code. -/
def PredOp.ofCode (c : Nat) : Option PredOp :=
  if c = 0x00 then some .and_
  else if c = 0x01 then some .or_
  else if c = 0x02 then some .xor
  else if c = 0x03 then some .andn
  else if c = 0x04 then some .not_
  else if c = 0x05 then some .zeros
  else if c = 0x06 then some .ones
  else if c = 0x07 then some .lowest
  else none

/-- The branches of form CB that read a scalar register (R164). -/
inductive CbOp where
  | br | bz | bnz | jal | jr | lp
  deriving DecidableEq, Repr

/-- The code of a CbOp. -/
def CbOp.code : CbOp → Nat
  | .br => 0x01
  | .bz => 0x02
  | .bnz => 0x03
  | .jal => 0x06
  | .jr => 0x07
  | .lp => 0x08

/-- The CbOp with a code. -/
def CbOp.ofCode (c : Nat) : Option CbOp :=
  if c = 0x01 then some .br
  else if c = 0x02 then some .bz
  else if c = 0x03 then some .bnz
  else if c = 0x06 then some .jal
  else if c = 0x07 then some .jr
  else if c = 0x08 then some .lp
  else none

/-- One instruction, its fields as R133 names them.  `nop` is the all-zero word. -/
inductive SInstr where
  | nop
  | sr (op : SrOp) (rd ra rb : BitVec 5)
  | si (op : SiOp) (rd ra : BitVec 5) (imm : BitVec 16)
  | sx (op : SxOp) (rg : BitVec 5) (sel : BitVec 8)
  | va (op : VaOp) (vd va vb : BitVec 5) (p fmt : BitVec 4) (rm : BitVec 3)
  | vint (op : IntOp) (vd va vb : BitVec 5) (p : BitVec 4) (rm : BitVec 3)
  | vdata (op : DataOp) (vd va vb : BitVec 5) (p : BitVec 4) (rm : BitVec 3)
  /-- `vcmp` (`int` false) and `vicmp`. -/
  | vk (int : Bool) (half : BitVec 1) (pd : BitVec 4) (va vb : BitVec 5) (p fmt : BitVec 4) (cond : BitVec 3)
  /-- A conversion to the format `dst`. -/
  | vc (dst : BitVec 4) (vd va : BitVec 5) (src : BitVec 4) (rm part : BitVec 3) (p : BitVec 4)
  | vp (op : PredOp) (pd pa pb : BitVec 4)
  /-- `vrdacc` (`write` false) and `vwracc`. -/
  | vq (write : Bool) (vd : BitVec 5) (acc : BitVec 2) (blk : BitVec 4)
  | mx (acc : BitVec 2) (fa fb : BitVec 4) (rr : BitVec 5) (bnd : BitVec 3) (add : BitVec 1) (at_ : BitVec 2)
      (sa sb : BitVec 1)
  | mxz (acc : BitVec 2)
  /-- `lds` (0), `ldu` (1) and `sts` (2). -/
  | ml (op : Fin 3) (rd ra : BitVec 5) (base w : BitVec 2) (imm : BitVec 12)
  /-- `ldv` (`store` false) and `stv`. -/
  | mv (store : Bool) (vd ra : BitVec 5) (base : BitVec 2) (p : BitVec 4) (imm : BitVec 10)
  /-- `ldp` (`store` false) and `stp`. -/
  | mp (store : Bool) (pd : BitVec 4) (ra : BitVec 5) (base : BitVec 2) (p : BitVec 4) (imm : BitVec 10)
  /-- `lda` (`store` false) and `sta`. -/
  | ma (store : Bool) (acc : BitVec 2) (blk fmt : BitVec 4) (rm : BitVec 3) (rs : BitVec 5) (sc : BitVec 1)
      (str : BitVec 3) (srci : BitVec 1)
  | xfer (ra : BitVec 5) (q : BitVec 2) (imm : BitVec 16)
  | xsig (rp rc : BitVec 5) (cls : BitVec 4)
  | cb (op : CbOp) (ra : BitVec 5) (off : BitVec 21)
  /-- `bpa` (`none` false) and `bpn`. -/
  | cbp (none : Bool) (pa : BitVec 4) (off : BitVec 21)
  | wait (cc : BitVec 6) (ra : BitVec 5)
  | waiti (cc : BitVec 6) (imm : BitVec 20)
  | arrive
  /-- `ccset` (0), `ccadd` (1) and `ccget` (2). -/
  | cn (op : Fin 3) (cc : BitVec 6) (rg : BitVec 5)
  /-- `gdraw` (0), `gdraws` (1), `gset` (2) and `gget` (3). -/
  | cg (op : Fin 4) (rg : BitVec 5) (g : BitVec 3) (rb : BitVec 5) (sel : BitVec 3)
  deriving DecidableEq, Repr

/-- The section in whose slots an instruction stands (R109). -/
def SInstr.section_ : SInstr → Section
  | .nop => .scalar
  | .sr _ _ _ _ | .si _ _ _ _ | .sx _ _ _ => .scalar
  | .va _ _ _ _ _ _ _ | .vint _ _ _ _ _ _ | .vdata _ _ _ _ _ _ | .vk _ _ _ _ _ _ _ _ | .vc _ _ _ _ _ _ _
  | .vp _ _ _ _ | .vq _ _ _ _ => .vector
  | .mx _ _ _ _ _ _ _ _ _ | .mxz _ => .matrix
  | .ml _ _ _ _ _ _ | .mv _ _ _ _ _ _ | .mp _ _ _ _ _ _ | .ma _ _ _ _ _ _ _ _ _ | .xfer _ _ _ | .xsig _ _ _ => .move
  | .cb _ _ _ | .cbp _ _ _ | .wait _ _ | .waiti _ _ | .arrive | .cn _ _ _ | .cg _ _ _ _ _ => .control

/-- A field of an instruction word as a bit vector. -/
def fld (w lo n : Nat) : BitVec n := BitVec.ofNat n (w / 2 ^ lo)

/-- The low `n` bits of the word are zero (a reserved field at the bottom). -/
def resZero (w n : Nat) : Bool := w % 2 ^ n = 0

/-- The scalar section of the decoder (R138 to R141). -/
def decodeScalar (w : Nat) : Option SInstr :=
  let op := w / 2 ^ 26 % 64
  match SrOp.ofCode op with
  | some o => if resZero w 11 then some (.sr o (fld w 21 5) (fld w 16 5) (fld w 11 5)) else none
  | none =>
    match SiOp.ofCode op with
    | some o => some (.si o (fld w 21 5) (fld w 16 5) (fld w 0 16))
    | none =>
      match SxOp.ofCode op with
      | some o => if resZero w 13 then some (.sx o (fld w 21 5) (fld w 13 8)) else none
      | none => none

/-- The vector section of the decoder (R142 to R152). -/
def decodeVector (w : Nat) : Option SInstr :=
  let op := w / 2 ^ 26 % 64
  match VaOp.ofCode op with
  | some o => some (.va o (fld w 21 5) (fld w 16 5) (fld w 11 5) (fld w 7 4) (fld w 3 4) (fld w 0 3))
  | none =>
    if op = 0x22 then
      match IntOp.ofCode (w / 2 ^ 3 % 16) with
      | some o => some (.vint o (fld w 21 5) (fld w 16 5) (fld w 11 5) (fld w 7 4) (fld w 0 3))
      | none => none
    else if op = 0x23 then
      match DataOp.ofCode (w / 2 ^ 3 % 16) with
      | some o => some (.vdata o (fld w 21 5) (fld w 16 5) (fld w 11 5) (fld w 7 4) (fld w 0 3))
      | none => none
    else if op = 0x14 ∨ op = 0x24 then
      some (.vk (decide (op = 0x24)) (fld w 25 1) (fld w 21 4) (fld w 16 5) (fld w 11 5) (fld w 7 4) (fld w 3 4) (fld w 0 3))
    else if op = 0x25 then
      match PredOp.ofCode (w / 2 ^ 10 % 16) with
      | some o => if resZero w 10 then some (.vp o (fld w 22 4) (fld w 18 4) (fld w 14 4)) else none
      | none => none
    else if op = 0x26 ∨ op = 0x27 then
      if resZero w 15 then some (.vq (decide (op = 0x27)) (fld w 21 5) (fld w 19 2) (fld w 15 4)) else none
    else if 0x30 ≤ op ∧ op ≤ 0x3C ∧ op ≠ 0x3B then
      if resZero w 2 then
        some (.vc (BitVec.ofNat 4 (op - 0x30)) (fld w 21 5) (fld w 16 5) (fld w 12 4) (fld w 9 3) (fld w 6 3) (fld w 2 4))
      else none
    else none

/-- The matrix section of the decoder (R154). -/
def decodeMatrix (w : Nat) : Option SInstr :=
  let op := w / 2 ^ 26 % 64
  if op = 0x01 then
    if resZero w 3 then
      some (.mx (fld w 24 2) (fld w 20 4) (fld w 16 4) (fld w 11 5) (fld w 8 3) (fld w 7 1) (fld w 5 2) (fld w 4 1) (fld w 3 1))
    else none
  else if op = 0x02 then (if resZero w 24 then some (.mxz (fld w 24 2)) else none)
  else none

/-- The move section of the decoder (R159 to R163).  Bit 25 must be 0 in `stp` as in `ldp` (R133; DEDUCED, log 83). -/
def decodeMove (w : Nat) : Option SInstr :=
  let op := w / 2 ^ 26 % 64
  if op = 0x01 then some (.ml 0 (fld w 21 5) (fld w 16 5) (fld w 14 2) (fld w 12 2) (fld w 0 12))
  else if op = 0x02 then some (.ml 1 (fld w 21 5) (fld w 16 5) (fld w 14 2) (fld w 12 2) (fld w 0 12))
  else if op = 0x03 then some (.ml 2 (fld w 21 5) (fld w 16 5) (fld w 14 2) (fld w 12 2) (fld w 0 12))
  else if op = 0x04 ∨ op = 0x05 then
    some (.mv (decide (op = 0x05)) (fld w 21 5) (fld w 16 5) (fld w 14 2) (fld w 10 4) (fld w 0 10))
  else if op = 0x06 ∨ op = 0x07 then
    if w / 2 ^ 25 % 2 = 0 then
      some (.mp (decide (op = 0x07)) (fld w 21 4) (fld w 16 5) (fld w 14 2) (fld w 10 4) (fld w 0 10))
    else none
  else if op = 0x08 ∨ op = 0x09 then
    if resZero w 3 then
      some (.ma (decide (op = 0x09)) (fld w 24 2) (fld w 20 4) (fld w 16 4) (fld w 13 3) (fld w 8 5) (fld w 7 1) (fld w 4 3)
        (fld w 3 1))
    else none
  else if op = 0x0A then (if resZero w 3 then some (.xfer (fld w 21 5) (fld w 19 2) (fld w 3 16)) else none)
  else if op = 0x0B then (if resZero w 12 then some (.xsig (fld w 21 5) (fld w 16 5) (fld w 12 4)) else none)
  else none

/-- The control section of the decoder (R164 to R168). -/
def decodeControl (w : Nat) : Option SInstr :=
  let op := w / 2 ^ 26 % 64
  match CbOp.ofCode op with
  | some o => some (.cb o (fld w 21 5) (fld w 0 21))
  | none =>
    if op = 0x04 ∨ op = 0x05 then
      if w / 2 ^ 21 % 2 = 0 then some (.cbp (decide (op = 0x05)) (fld w 22 4) (fld w 0 21)) else none
    else if op = 0x10 then (if resZero w 15 then some (.wait (fld w 20 6) (fld w 15 5)) else none)
    else if op = 0x11 then some (.waiti (fld w 20 6) (fld w 0 20))
    else if op = 0x12 then (if resZero w 26 then some .arrive else none)
    else if op = 0x18 then (if resZero w 15 then some (.cn 0 (fld w 20 6) (fld w 15 5)) else none)
    else if op = 0x19 then (if resZero w 15 then some (.cn 1 (fld w 20 6) (fld w 15 5)) else none)
    else if op = 0x1A then (if resZero w 15 then some (.cn 2 (fld w 20 6) (fld w 15 5)) else none)
    else if op = 0x20 then
      (if resZero w 10 then some (.cg 0 (fld w 21 5) (fld w 18 3) (fld w 13 5) (fld w 10 3)) else none)
    else if op = 0x21 then
      (if resZero w 10 then some (.cg 1 (fld w 21 5) (fld w 18 3) (fld w 13 5) (fld w 10 3)) else none)
    else if op = 0x22 then
      (if resZero w 10 then some (.cg 2 (fld w 21 5) (fld w 18 3) (fld w 13 5) (fld w 10 3)) else none)
    else if op = 0x23 then
      (if resZero w 10 then some (.cg 3 (fld w 21 5) (fld w 18 3) (fld w 13 5) (fld w 10 3)) else none)
    else none

/-- The instruction that a slot of section `sec` reads from its 32 bits; none for a reserved or misplaced encoding, which is
kind 6 of R113.  The all-zero word is a no-op in every slot. -/
def decodeSlot (sec : Section) (w : Nat) : Option SInstr :=
  if w = 0 then some .nop
  else
    match sec with
    | .scalar => decodeScalar w
    | .vector => decodeVector w
    | .matrix => decodeMatrix w
    | .move => decodeMove w
    | .control => decodeControl w

/-- The 32 bits of an instruction (R133): the major opcode in [31:26] and the form's fields below it. -/
def encodeSlot : SInstr → Nat
  | .nop => 0
  | .sr op rd ra rb => op.code * 2 ^ 26 + rd.toNat * 2 ^ 21 + ra.toNat * 2 ^ 16 + rb.toNat * 2 ^ 11
  | .si op rd ra imm => op.code * 2 ^ 26 + rd.toNat * 2 ^ 21 + ra.toNat * 2 ^ 16 + imm.toNat
  | .sx op rg sel => op.code * 2 ^ 26 + rg.toNat * 2 ^ 21 + sel.toNat * 2 ^ 13
  | .va op vd va vb p fmt rm =>
    op.code * 2 ^ 26 + vd.toNat * 2 ^ 21 + va.toNat * 2 ^ 16 + vb.toNat * 2 ^ 11 + p.toNat * 2 ^ 7 + fmt.toNat * 2 ^ 3
      + rm.toNat
  | .vint op vd va vb p rm =>
    0x22 * 2 ^ 26 + vd.toNat * 2 ^ 21 + va.toNat * 2 ^ 16 + vb.toNat * 2 ^ 11 + p.toNat * 2 ^ 7 + op.code * 2 ^ 3 + rm.toNat
  | .vdata op vd va vb p rm =>
    0x23 * 2 ^ 26 + vd.toNat * 2 ^ 21 + va.toNat * 2 ^ 16 + vb.toNat * 2 ^ 11 + p.toNat * 2 ^ 7 + op.code * 2 ^ 3 + rm.toNat
  | .vk int half pd va vb p fmt cond =>
    (if int then 0x24 else 0x14) * 2 ^ 26 + half.toNat * 2 ^ 25 + pd.toNat * 2 ^ 21 + va.toNat * 2 ^ 16 + vb.toNat * 2 ^ 11
      + p.toNat * 2 ^ 7 + fmt.toNat * 2 ^ 3 + cond.toNat
  | .vc dst vd va src rm part p =>
    (0x30 + dst.toNat) * 2 ^ 26 + vd.toNat * 2 ^ 21 + va.toNat * 2 ^ 16 + src.toNat * 2 ^ 12 + rm.toNat * 2 ^ 9
      + part.toNat * 2 ^ 6 + p.toNat * 2 ^ 2
  | .vp op pd pa pb =>
    0x25 * 2 ^ 26 + pd.toNat * 2 ^ 22 + pa.toNat * 2 ^ 18 + pb.toNat * 2 ^ 14 + op.code * 2 ^ 10
  | .vq write vd acc blk =>
    (if write then 0x27 else 0x26) * 2 ^ 26 + vd.toNat * 2 ^ 21 + acc.toNat * 2 ^ 19 + blk.toNat * 2 ^ 15
  | .mx acc fa fb rr bnd add at_ sa sb =>
    0x01 * 2 ^ 26 + acc.toNat * 2 ^ 24 + fa.toNat * 2 ^ 20 + fb.toNat * 2 ^ 16 + rr.toNat * 2 ^ 11 + bnd.toNat * 2 ^ 8
      + add.toNat * 2 ^ 7 + at_.toNat * 2 ^ 5 + sa.toNat * 2 ^ 4 + sb.toNat * 2 ^ 3
  | .mxz acc => 0x02 * 2 ^ 26 + acc.toNat * 2 ^ 24
  | .ml op rd ra base w imm =>
    (0x01 + op.val) * 2 ^ 26 + rd.toNat * 2 ^ 21 + ra.toNat * 2 ^ 16 + base.toNat * 2 ^ 14 + w.toNat * 2 ^ 12 + imm.toNat
  | .mv store vd ra base p imm =>
    (if store then 0x05 else 0x04) * 2 ^ 26 + vd.toNat * 2 ^ 21 + ra.toNat * 2 ^ 16 + base.toNat * 2 ^ 14 + p.toNat * 2 ^ 10
      + imm.toNat
  | .mp store pd ra base p imm =>
    (if store then 0x07 else 0x06) * 2 ^ 26 + pd.toNat * 2 ^ 21 + ra.toNat * 2 ^ 16 + base.toNat * 2 ^ 14 + p.toNat * 2 ^ 10
      + imm.toNat
  | .ma store acc blk fmt rm rs sc str srci =>
    (if store then 0x09 else 0x08) * 2 ^ 26 + acc.toNat * 2 ^ 24 + blk.toNat * 2 ^ 20 + fmt.toNat * 2 ^ 16 + rm.toNat * 2 ^ 13
      + rs.toNat * 2 ^ 8 + sc.toNat * 2 ^ 7 + str.toNat * 2 ^ 4 + srci.toNat * 2 ^ 3
  | .xfer ra q imm => 0x0A * 2 ^ 26 + ra.toNat * 2 ^ 21 + q.toNat * 2 ^ 19 + imm.toNat * 2 ^ 3
  | .xsig rp rc cls => 0x0B * 2 ^ 26 + rp.toNat * 2 ^ 21 + rc.toNat * 2 ^ 16 + cls.toNat * 2 ^ 12
  | .cb op ra off => op.code * 2 ^ 26 + ra.toNat * 2 ^ 21 + off.toNat
  | .cbp noneSet pa off => (if noneSet then 0x05 else 0x04) * 2 ^ 26 + pa.toNat * 2 ^ 22 + off.toNat
  | .wait cc ra => 0x10 * 2 ^ 26 + cc.toNat * 2 ^ 20 + ra.toNat * 2 ^ 15
  | .waiti cc imm => 0x11 * 2 ^ 26 + cc.toNat * 2 ^ 20 + imm.toNat
  | .arrive => 0x12 * 2 ^ 26
  | .cn op cc rg => (0x18 + op.val) * 2 ^ 26 + cc.toNat * 2 ^ 20 + rg.toNat * 2 ^ 15
  | .cg op rg g rb sel =>
    (0x20 + op.val) * 2 ^ 26 + rg.toNat * 2 ^ 21 + g.toNat * 2 ^ 18 + rb.toNat * 2 ^ 13 + sel.toNat * 2 ^ 10

/-- The instruction has an encoding of its own: a conversion's destination is not the reserved U16 nor a reserved code
(R152). -/
def SInstr.encodable : SInstr → Bool
  | .vc dst _ _ _ _ _ _ => dst.toNat ≤ 0xC && dst.toNat ≠ 0xB
  | _ => true

/-- The eight slots of a bundle: section and byte offset (R109). -/
def slotSection (i : Nat) : Section :=
  if i < 2 then .scalar else if i < 4 then .vector else if i = 4 then .matrix else if i < 7 then .move else .control

end Sys2Proof.Machine
end

