-- ==== Sys2Proof/Machine/Tile.lean ====
section
/-! DEFINITION. One tile (spec/05_spaovoto_model.md R109 to R117, spec/04_dot_product.md R101 to R106): its registers, its
pending writes and when they take effect, the end of a matrix operation, and how a bundle stops it. -/

namespace Sys2Proof.Machine

/-! ## Registers (R114) -/

/-- s0 reads as zero; a scalar register has 64 bits. -/
def Tile.getS (t : Tile) (i : Nat) : Nat := if i = 0 then 0 else SMap.getD t.s i 0 % 2 ^ 64
/-- A vector register has 32,768 bits. -/
def Tile.getV (t : Tile) (i : Nat) : Nat := SMap.getD t.v i 0 % 2 ^ 32768
/-- p0 reads as all ones; a predicate has 1,024 bits. -/
def Tile.getP (t : Tile) (i : Nat) : Nat := if i = 0 then 2 ^ 1024 - 1 else SMap.getD t.p i 0 % 2 ^ 1024
/-- Element `e` = 128 × row + column of accumulator tile `i`; it has 32 bits. -/
def Tile.getA (t : Tile) (i e : Nat) : Nat := SMap.getD t.a (16384 * i + e) 0 % 2 ^ 32
/-- A completion counter has 32 bits. -/
def Tile.getCC (t : Tile) (i : Nat) : Nat := SMap.getD t.cc i 0 % 2 ^ 32

/-- `old` with the bits under `mask` taken from `v`. -/
def mergeBits (old v mask : Nat) : Nat := old - (old &&& mask) + (v &&& mask)

/-- Writes to s0 and p0 are discarded. -/
def Tile.putS (t : Tile) (i v : Nat) : Tile := if i = 0 then t else { t with s := SMap.set t.s i (v % 2 ^ 64) 0 }
def Tile.putV (t : Tile) (i v mask : Nat) : Tile := { t with v := SMap.set t.v i (mergeBits (t.getV i) v mask) 0 }
def Tile.putP (t : Tile) (i v mask : Nat) : Tile :=
  if i = 0 then t else { t with p := SMap.set t.p i (mergeBits (t.getP i) v mask) 0 }
def Tile.putA (t : Tile) (i : Nat) (cells : List (Nat × Nat)) : Tile :=
  { t with a := cells.foldl (fun m c => SMap.set m (16384 * i + c.1) c.2 0) t.a }
def Tile.putCC (t : Tile) (c v : Nat) : Tile := { t with cc := SMap.set t.cc c (v % 2 ^ 32) 0 }

/-- A change of one tile's data. -/
def Body.onTile (b : Body) (nn : Nat) (f : Tile → Tile) : Body := b.setTile nn (f (b.tile nn))

/-- `T.FLAGS` of tile nn as five bits (R114). -/
def Body.flags (b : Body) (nn : Nat) : Nat := b.reg (R.T.FLAGS.INVALID nn).key % 32
def Body.setFlags (b : Body) (nn v : Nat) : Body := b.setReg (R.T.FLAGS.INVALID nn).key (v % 32)
def Body.orFlags (b : Body) (nn v : Nat) : Body := b.setFlags nn (b.flags nn ||| v % 32)

/-- `T.TILE_STATUS.STATE`. -/
def Body.tileState (b : Body) (nn : Nat) : Nat := b.rd (R.T.TILE_STATUS.STATE nn)
def Body.setTileState (b : Body) (nn v : Nat) : Body := b.wr (R.T.TILE_STATUS.STATE nn) v

/-- Source n of a tile, from an instruction slot or, in slot 0, from none (R388). -/
def Body.raiseT (b : Body) (nn n addr access : Nat) (move : Bool) (slot : Nat := 0) : Body :=
  b.raiseOcc { source := iT nn * 64 + n, addr := addr, master := iT nn * 64 + b2n move, reqType := 1 + b2n move,
               access := access } slot

/-- An increment of a completion counter of a physical tile (R167). -/
def Body.bump (b : Body) (nn cc n : Nat) : Body := b.onTile nn (fun t => t.putCC cc (t.getCC cc + n))

/-! ## Streams and slots (R127 to R129) -/

/-- A 128-bit register pair. -/
def Body.pair (b : Body) (lo hi : Field) : Nat := b.rd lo + b.rd hi * 2 ^ 64

def Body.genKey (b : Body) (nn g : Nat) : Nat := b.pair (R.T.GEN_KEY_LO.KEY nn g) (R.T.GEN_KEY_HI.KEY nn g)
def Body.genCtr (b : Body) (nn g : Nat) : Nat := b.pair (R.T.GEN_CTR_LO.CTR nn g) (R.T.GEN_CTR_HI.CTR nn g)
def Body.genAnchor (b : Body) (nn g : Nat) : Nat := b.pair (R.T.GEN_ANCHOR_LO.ANCHOR nn g) (R.T.GEN_ANCHOR_HI.ANCHOR nn g)
def Body.setGenKey (b : Body) (nn g v : Nat) : Body :=
  (b.wr (R.T.GEN_KEY_LO.KEY nn g) v).wr (R.T.GEN_KEY_HI.KEY nn g) (v / 2 ^ 64)
def Body.setGenCtr (b : Body) (nn g v : Nat) : Body :=
  (b.wr (R.T.GEN_CTR_LO.CTR nn g) v).wr (R.T.GEN_CTR_HI.CTR nn g) (v / 2 ^ 64)
def Body.setGenAnchor (b : Body) (nn g v : Nat) : Body :=
  (b.wr (R.T.GEN_ANCHOR_LO.ANCHOR nn g) v).wr (R.T.GEN_ANCHOR_HI.ANCHOR nn g) (v / 2 ^ 64)

/-- A slot's base: 48 bits, 32-byte aligned. -/
def Body.slotBase (b : Body) (nn s : Nat) : Nat := b.rd (R.T.SEQ_BASE.BASE nn s) * 32

/-- A 32-bit word rotated left. -/
def rol32 (x n : Nat) : Nat := (x * 2 ^ n) % 2 ^ 32 + x / 2 ^ (32 - n)

/-- One round of R129 on (x0, x1, x2, x3) with key words `k`. -/
def mixRound (k : Nat → Nat) (r : Nat) (x : Nat × Nat × Nat × Nat) : Nat × Nat × Nat × Nat :=
  let m := 2 ^ 32
  let rc := (r + 1) * 0x5B17A4C3 % m
  let x0 := (x.1 + (k (r % 4) ^^^ rc)) % m
  let x1 := (x.2.1 + k ((r + 1) % 4)) % m
  let x0 := (x0 + x1) % m
  let x3 := rol32 (x.2.2.2 ^^^ x0) 16
  let x2 := (x.2.2.1 + x3) % m
  let x1 := rol32 (x1 ^^^ x2) 12
  let x0 := (x0 + x1) % m
  let x3 := rol32 (x3 ^^^ x0) 8
  let x2 := (x2 + x3) % m
  let x1 := rol32 (x1 ^^^ x2) 7
  (x1, x2, x3, x0)

/-- The block function of R129: 128 bits from a key and a counter. -/
def mix (key q : Nat) : Nat :=
  let w (n m : Nat) : Nat := bits n (32 * m) 32
  let x := (List.range 10).foldl (fun x r => mixRound (w key) r x) (w q 0, w q 1, w q 2, w q 3)
  let out (x m : Nat) : Nat := ((x + w q m) % 2 ^ 32) ^^^ w key ((m + 2) % 4)
  out x.1 0 + out x.2.1 1 * 2 ^ 32 + out x.2.2.1 2 * 2 ^ 64 + out x.2.2.2 3 * 2 ^ 96

/-- The draw of element `i` from a stream at counter `ctr` (R88): word i mod 4 of block i div 4. -/
def drawAt (key ctr i : Nat) : Nat := bits (mix key ((ctr + i / 4) % 2 ^ 128)) (32 * (i % 4)) 32

/-! ## The end of a matrix operation (R101 to R106, R322) -/

/-- The first of several mismatches in the order of R102: chunk, row, kind, column. -/
def firstMismatch : List (Nat × Nat × Nat × Nat) → Option (Nat × Nat × Nat × Nat)
  | [] => none
  | m :: ms =>
    let key (x : Nat × Nat × Nat × Nat) : Nat := ((x.2.2.1 * 256 + x.2.1) * 4 + x.1) * 256 + x.2.2.2
    match firstMismatch ms with
    | none => some m
    | some y => if key y < key m then some y else some m

/-- An operation has checksum-lane mismatches, or accumulate-stage ones (the addend step among them). -/
def MxFlight.laneMiss (f : MxFlight) : Bool := f.bads.any (·.1 == 0)
def MxFlight.accMiss (f : MxFlight) : Bool := f.bads.any (·.1 != 0)

/-- What an operation abandoned in cycle `u` reports: the chunks it has completed, and nothing of the addend step, of
plausibility or of what it would have written (R106; the instants are DEDUCED, log 79). -/
def MxFlight.partial_ (f : MxFlight) (u : Nat) : MxFlight :=
  let done (j : Nat) : Bool := decide (min (f.start + (j + 1) * f.perChunk) f.due ≤ u)
  { f with capture := f.pathCapture, bads := f.bads.filter (fun x => x.1 != 2 && done x.2.2.1), skips := f.skips.filter done, plaus := false,
           plausFirst := none, special := none, hasNan := false, hasInf := false }

/-- The level at which source n of a tile stands. -/
def Body.tileLevel (b : Body) (nn n : Nat) : Nat := b.rd (R.CT.SEVERITY.LEVEL (iT nn * 64 + n))

/-- The address of A row `i`, chunk `j` of an operation in the physical tile window (R319). -/
def mxAddress (nn : Nat) (f : MxFlight) (row chunkOff : Nat) : Nat :=
  let r0 := (f.record[0]?).getD 0
  let r3 := (f.record[3]?).getD 0
  sramBase nn + bits r0 0 23 + row * bits r3 0 23 + chunkOff

/-- Bytes of a row that precede chunk `j` (R81, R90). -/
def chunkBytes (fa j : Nat) : Nat :=
  let c := if fa = 0 then 16 else if fa = 1 ∨ fa = 3 then 64 else 256
  let w := if fa = 6 then 6 else if fa = 7 ∨ fa = 9 then 4 else if fa = 0 then 32 else if fa = 1 ∨ fa = 3 then 16 else 8
  j * c * w / 8

/-- The capture registers of R102 for an operation's first mismatch: kind 0 lane, 1 accumulate stage, 2 addend step. A mismatch
that follows a release in the same period is captured in its turn (DESIGN CHOICE, log 78). -/
def Body.captureMismatch (b : Body) (nn : Nat) (f : MxFlight) (kind row chunk col : Nat) : Body :=
  let fa := bits f.word 20 4
  let fb := bits f.word 16 4
  let cap := min f.op 65535 + f.acc * 2 ^ 16 + fa * 2 ^ 18 + fb * 2 ^ 22 + row * 2 ^ 26 + chunk * 2 ^ 33 + col * 2 ^ 53
    + b2n (kind ≠ 0) * 2 ^ 60 + b2n (kind = 2) * 2 ^ 61
  let b1 := ((b.setReg (R.T.MX_CAPTURE.OP nn).key cap).wr (R.T.MX_CAPTURE_PERIOD.PERIOD nn) b.period).wr
    (R.T.MX_CAPTURE_PC.BUNDLE nn) (f.pc / 32)
  let head := leBytes 8 cap ++ leBytes 8 b.period ++ leBytes 4 (f.pc / 32 * 32)
  let b2 := (b1.put (sramBase nn + 0x100000) (head ++ f.capture.drop 20)).wr (R.T.MX_STATUS.CAPTURE_VALID nn) 1
  b2.onTile nn (fun t =>
    { t with captureOwned := false, captureOp := f.op, captureLevel := b.tileLevel nn (if kind = 0 then 0 else 1),
             captureKey := (b.ns 0, mxAddress nn f row (chunkBytes fa chunk)) })

/-- The levels at which the sources that an operation's checks raise stand: checksum lane, accumulate stage, plausibility. -/
def Body.failLevels (b : Body) (nn : Nat) (f : MxFlight) : List Nat × List Nat :=
  ((if f.laneMiss then [b.tileLevel nn 0] else []) ++ (if f.accMiss then [b.tileLevel nn 1] else []),
    if f.plaus then [b.tileLevel nn 2] else [])

/-- What R322 makes of an operation that has ended, or was abandoned (`whole` false): the first repeat of an unsettled one settles
it, or fails again and leaves both unsettled; an operation that is no such repeat, or a repeat that settles a mismatch and itself
fails plausibility, is unsettled when it fails.  `ls` gives the levels of the sources raised. -/
def settleMx (us : List Unsettled) (f : MxFlight) (ls : List Nat × List Nat) (whole : Bool) : List Unsettled :=
  let bad := !f.bads.isEmpty
  let fails := bad || f.plaus
  let low := (ls.1 ++ ls.2).foldl min 7
  let high := ls.1.foldl max 0
  let same (u : Unsettled) : Bool := u.word == f.word && u.record == f.record && !u.settled
  let fresh (us : List Unsettled) : List Unsettled :=
    us ++ [{ op := f.op, word := f.word, record := f.record, mismatch := bad, plaus := f.plaus, lowest := low, level := high,
             settled := false, repeats := if (us.filter (fun u => !u.settled)).length < 4 then 0 else 2, again := false }]
  let join (v : Unsettled) : Unsettled := { v with mismatch := v.mismatch || bad, plaus := v.plaus || f.plaus }
  match us.find? (fun u => same u && u.repeats == 0) with
  | some u =>
    let clean := !bad && !(u.plaus && f.plaus)
    if !whole && !fails then us
    else
      let us1 := us.map (fun v =>
        if v = u then
          (if clean then { v with repeats := 1, settled := decide (2 ≤ v.lowest) }
           else { join v with repeats := 1, again := true })
        else v)
      if clean && f.plaus then fresh us1 else us1
  | none =>
    if us.any same then us.map (fun v => if same v then join v else v) else if fails then fresh us else us

/-- What a matrix operation's checks found is recorded (R99 to R106): statuses, capture, plausibility, special values, the repeat
rule and the sources.  `whole` says that the operation ended and was not abandoned. -/
def Body.mxReport (b : Body) (nn : Nat) (f : MxFlight) (whole : Bool) : Body :=
  let b0 := b.onTile nn (fun t => { t with unsettled := settleMx t.unsettled f (b.failLevels nn f) whole })
  let b1 := if f.laneMiss then b0.wr (R.T.MX_STATUS.MISMATCH nn) 1 else b0
  let b2 := if f.accMiss then b1.wr (R.T.MX_STATUS.ACC_MISMATCH nn) 1 else b1
  let b3 := if f.plaus then b2.wr (R.T.MX_STATUS.PLAUS_FAIL nn) 1 else b2
  let b4 := b3.sat (R.T.MX_LANE_SKIPS.COUNT nn) f.skips.length
  let first := firstMismatch f.bads
  let b5 := match first with
    | none => b4
    | some (kind, row, chunk, col) =>
      if b4.on (R.T.MX_STATUS.CAPTURE_VALID nn) then b4.sat (R.T.MX_STATUS.MERGED nn) f.bads.length
      else (b4.captureMismatch nn f kind row chunk col).sat (R.T.MX_STATUS.MERGED nn) (f.bads.length - 1)
  let b6 := match f.plausFirst with
    | some (row, col) =>
      if f.plaus && !b5.on (R.T.MX_PLAUS_FIRST.VALID nn) then
        (((b5.wr (R.T.MX_PLAUS_FIRST.OP nn) (min f.op 65535)).wr (R.T.MX_PLAUS_FIRST.ROW nn) row).wr
          (R.T.MX_PLAUS_FIRST.COL nn) col).wr (R.T.MX_PLAUS_FIRST.VALID nn) 1
      else b5
    | none => b5
  let b7 := match f.special with
    | none => b6
    | some (row, col) =>
      let n := f.acc
      let c := if b6.on (R.T.MX_SV.FLAG nn n) then b6
        else (((b6.wr (R.T.MX_SV.FLAG nn n) 1).wr (R.T.MX_SV.ROW nn n) row).wr (R.T.MX_SV.COL nn n) col).wr
          (R.T.MX_SV.OP nn n) f.op
      let c1 := if f.hasNan then c.wr (R.T.MX_SV.NAN nn n) 1 else c
      let c2 := if f.hasInf then c1.wr (R.T.MX_SV.INF nn n) 1 else c1
      c2.wr (R.T.MX_STATUS.SPECIAL nn) 1
  let fa := bits f.word 20 4
  let at_ := match first with
    | some (_, row, chunk, _) => mxAddress nn f row (chunkBytes fa chunk)
    | none => 0
  let c0 := if f.laneMiss then b7.raiseT nn 0 at_ 1 false 4 else b7
  let c1 := if f.accMiss then c0.raiseT nn 1 at_ 1 false 4 else c0
  let c2 := if f.plaus then c1.raiseT nn 2 (mxAddress nn f ((f.plausFirst.map (·.1)).getD 0) 0) 1 false 4 else c1
  if f.special.isSome then c2.raiseT nn 3 0 0 false 4 else c2

/-- A matrix operation ends. -/
def Body.mxDone (b : Body) (nn op : Nat) : Body :=
  match (b.tile nn).mx.find? (fun f => f.op == op) with
  | none => b
  | some f => (b.onTile nn (fun t => { t with mx := t.mx.filter (fun g => g.op != op) })).mxReport nn f true

/-- The operations in flight are abandoned in cycle `u`: each reports the chunks it has completed (R106). -/
def Body.abandonMx (b : Body) (nn u : Nat) : Body :=
  forEach (b.tile nn).mx (fun f c => c.mxReport nn (f.partial_ u) false) (b.onTile nn (fun t => { t with mx := [] }))

/-! ## Pending writes (R111, R160, R167) -/

/-- A pending write takes effect. -/
def Body.applyWrite (b : Body) (nn : Nat) : TileWrite → Body
  | .s i v => b.onTile nn (fun t => t.putS i v)
  | .v i v mask => b.onTile nn (fun t => t.putV i v mask)
  | .p i v mask => b.onTile nn (fun t => t.putP i v mask)
  | .a i cells => b.onTile nn (fun t => t.putA i cells)
  | .flags f => b.orFlags nn f
  | .putFlags f => b.setFlags nn f
  | .reg key lo w v => b.setReg key (setBits (b.reg key) lo w v)
  | .qadd slot v => b.wr (R.T.SEQ_POS.POS nn slot) (b.rd (R.T.SEQ_POS.POS nn slot) + v)
  | .store off data => b.put (sramBase nn + off) data
  | .storeM1 off data => b.put (sramBase nn + off) data
  | .ccset c v => b.onTile nn (fun t => t.putCC c v)
  | .ccadd c v => b.bump nn c v
  | .mxDone op => b.mxDone nn op

/-- In one cycle a `sput` to FLAGS comes before the flags that are raised in it (R140), and M1's stores after M0's (R160). -/
def TileWrite.order : TileWrite → Nat
  | .putFlags _ => 0
  | .storeM1 _ _ => 2
  | _ => 1

/-- Pending writes in the order in which they take effect: by cycle, then by issue. -/
def orderWrites : List (Nat × TileWrite) → List (Nat × TileWrite)
  | [] => []
  | x :: xs => ins x (orderWrites xs)
where
  ins (x : Nat × TileWrite) : List (Nat × TileWrite) → List (Nat × TileWrite)
    | [] => [x]
    | y :: ys => if 3 * y.1 + y.2.order < 3 * x.1 + x.2.order then y :: ins x ys else x :: y :: ys

/-- The tile's cycle becomes `u`: every write due by then takes effect. -/
def Body.commitTo (b : Body) (nn u : Nat) : Body :=
  let t := b.tile nn
  let due := orderWrites (t.pend.filter (fun w => decide (w.1 ≤ u)))
  let b1 := b.setTile nn { t with pend := t.pend.filter (fun w => !decide (w.1 ≤ u)), cycle := u }
  forEach due (fun w c => c.applyWrite nn w.2) b1

/-- Every write in flight takes effect (R113: instructions already in flight complete). -/
def Body.commitAll (b : Body) (nn : Nat) : Body :=
  let t := b.tile nn
  b.commitTo nn (t.pend.foldl (fun m w => max m w.1) t.cycle)

/-- The tile cycle in which the present instant falls: the first bundle issues 1.5 µs after the departure, at 2.4 GHz (R122, R123). -/
def Body.cycleNow (b : Body) : Nat := (b.ns 0 - (b.job.departAt + 1500)) * 12 / 5

/-- A wait that has not ended by cycle `u` was a stall until then (R383). -/
def Body.stallUntil (b : Body) (nn u : Nat) : Body :=
  let t := b.tile nn
  if t.waiting.isSome then b.add (R.PV.ISL_STALL.COUNT (iT nn)) (u - (t.nextIssue - 1)) else b

/-- Work is cut off in cycle `u`: the array is busy no longer than that, and a wait that had not ended was a stall until then
(R383). -/
def Body.cutWork (b : Body) (nn u : Nat) : Body :=
  let t := b.tile nn
  (if u < t.arrayEnd then b.add (R.PV.ISL_BUSY.COUNT (iT nn)) (2 ^ 64 - (t.arrayEnd - u)) else b).stallUntil nn u

/-- Results in flight are discarded, any array operation included (R122, R125). -/
def Body.discardFlight (b : Body) (nn : Nat) : Body :=
  b.onTile nn (fun t => { t with pend := [], mx := [], accBusy := [], arrayEnd := 0, waiting := none, arriving := none })

/-! ## Stops (R113) -/

/-- A bundle is refused: STOP_CAUSE keeps the first cause, the source is raised with the address involved, and nothing more
issues. -/
def Body.stopTile (b : Body) (nn kind slot file index addr access : Nat) : Body :=
  let pc := b.rd (R.T.PC.BUNDLE nn)
  let names := kind = 1 ∨ kind = 2 ∨ kind = 4
  let b1 := if b.on (R.T.STOP_CAUSE.VALID nn) then b
    else b.setReg (R.T.STOP_CAUSE.KIND nn).key
      (kind + slot * 2 ^ 4 + (if names then file * 2 ^ 8 + index * 2 ^ 11 else 0) + pc * 2 ^ 32 + 2 ^ 47)
  let n := if kind ≤ 5 then 4 else kind - 1
  ((b1.setTileState nn 4).commitAll nn).raiseT nn n addr access (slot = 5 ∨ slot = 6) slot

/-! ## Code region (R58, R117) -/

/-- The active code region of a tile, from offset to offset. -/
def Body.codeRegion (b : Body) (nn : Nat) : Nat × Nat :=
  if b.on (R.T.TILE_STATUS.WIDE nn) then (0, 0x100000)
  else
    let base := b.rd (R.T.TILE_STATUS.BANK nn) * 0x80000
    (base, base + 0x80000)

/-- A bundle may stand at this offset. -/
def Body.codeAt (b : Body) (nn off : Nat) : Bool :=
  let r := b.codeRegion nn
  decide (r.1 ≤ off) && decide (off < r.2) && off % 32 == 0

/-- The bytes of a tile's SRAM. -/
def Body.sram (b : Body) (nn off n : Nat) : Bytes := b.bytes (sramBase nn + off) n

end Sys2Proof.Machine
end

