-- ==== Sys2Proof/Machine/TileVector.lean ====
section
/-! DEFINITION. The vector section (spec/06_spaovoto_reference.md R135 to R152): elements and predicates, the floating-point
operations, reductions, integer and data sub-ops, predicates, accumulator access and conversion.  Each function gives what one
slot writes and with what latency. -/

namespace Sys2Proof.Machine

/-- What a slot does at its issue: the writes with their latencies, and the blocks it draws from a stream (R137). -/
structure SlotOut where
  writes : List (Nat × TileWrite)
  draw : Option (Nat × Nat)
  deriving DecidableEq, Repr

/-- A slot that only writes. -/
def outs (w : List (Nat × TileWrite)) : SlotOut := { writes := w, draw := none }

/-! ## Elements (R135, R136) -/

/-- Element `e` of width `w` of a register value. -/
def elemOf (v w e : Nat) : Nat := bits v (w * e) w

/-- Elements of width `w`, element 0 first, as one number. -/
def packElems (w : Nat) (l : List Nat) : Nat := l.foldr (fun x acc => acc * 2 ^ w + x % 2 ^ w) 0

/-- The bit of predicate `p` that governs element `e` of `n` (R136). -/
def governs (p n e : Nat) : Bool := bit p (e * 1024 / n)

/-- Results for the elements 0 … n − 1, given as code and flags: the register bits, the mask of the governed ones and the flags
these raise. -/
def gather (w n p : Nat) (f : Nat → Fpr) : Nat × Nat × Nat :=
  let rs := (List.range n).map (fun e => if governs p n e then (f e, true) else (⟨0, 0⟩, false))
  (packElems w (rs.map (fun r => r.1.bits)), packElems w (rs.map (fun r => if r.2 then 2 ^ w - 1 else 0)),
    rs.foldl (fun acc r => acc ||| r.1.flags) 0)

/-- A write of a vector register with its flags. -/
def vecOut (lat vd : Nat) (r : Nat × Nat × Nat) : List (Nat × TileWrite) :=
  (lat, .v vd r.1 r.2.1) :: (if r.2.2 = 0 then [] else [(lat, .flags r.2.2)])

/-- All lanes of a register. -/
def allLanes : Nat := 2 ^ 32768 - 1

/-! ## Floating-point operations (R144) -/

/-- The width and format of the codes that the vector FP operations take. -/
def vecFmt (fmt : Nat) : FpFmt := if fmt = 1 then fmtB16 else if fmt = 2 then fmtB64 else fmtB32
def vecWidth (fmt : Nat) : Nat := if fmt = 1 then 16 else if fmt = 2 then 64 else 32

/-- The latency of a vector FP instruction for binary16, binary32 and binary64 (R144). -/
def VaOp.latency (op : VaOp) (fmt : Nat) : Nat :=
  let pick (h s d : Nat) : Nat := if fmt = 1 then h else if fmt = 2 then d else s
  match op with
  | .vadd | .vsub | .vmin | .vmax | .vminn | .vmaxn => pick 4 4 5
  | .vmul | .vfma | .vfms => pick 5 5 7
  | .vdiv | .vsqrt => pick 12 18 30
  | .vrem => pick 14 22 40
  | .vabs | .vneg | .vcsgn => 1
  | .vrint | .vrintx | .vscaleb | .vlogb => 3
  | .vclass => 2
  | .vexp2 | .vexp | .vlog2 | .vlog | .vsinpi | .vcospi | .vtanh | .vsigm | .vrsqrt => pick 10 16 16
  | .vrcpe => 4
  | .vradd | .vrmax => pick 13 12 14

/-- Multiply-class instructions (R143). -/
def VaOp.mulClass : VaOp → Bool
  | .vmul | .vfma | .vfms | .vdiv | .vsqrt | .vrem | .vexp2 | .vexp | .vlog2 | .vlog | .vsinpi | .vcospi | .vtanh | .vsigm
  | .vrsqrt => true
  | _ => false

/-- The operation takes one operand, so VB must be 0. -/
def VaOp.unary : VaOp → Bool
  | .vsqrt | .vabs | .vneg | .vrint | .vrintx | .vlogb | .vclass | .vexp2 | .vexp | .vlog2 | .vlog | .vsinpi | .vcospi
  | .vtanh | .vsigm | .vrsqrt | .vrcpe | .vradd | .vrmax => true
  | _ => false

/-- The transcendental operations and `vrcpe` of R147, which binary64 lacks. -/
def VaOp.short : VaOp → Bool
  | .vexp2 | .vexp | .vlog2 | .vlog | .vsinpi | .vcospi | .vtanh | .vsigm | .vrsqrt | .vrcpe => true
  | _ => false

/-- The rounding fields that an operation accepts (R142, R144, R147, R148). -/
def VaOp.rmOk (op : VaOp) (rm : Nat) : Bool :=
  match op with
  | .vrem | .vabs | .vneg | .vcsgn | .vlogb | .vclass => rm = 0
  | .vrint | .vrintx => rm ≤ 3 || rm = 5
  | .vradd | .vrmax => rm ≤ 3
  | _ => if op.short then rm = 0 else rm ≤ 5

/-- One element of an operation: the codes of VA, VB and VD, the rounding mode and the draw. -/
def VaOp.elem (op : VaOp) (fmt rm u cx cy cz : Nat) : Fpr :=
  let f := vecFmt fmt
  let w := vecWidth fmt
  let x := f.decode cx
  let y := f.decode cy
  let z := f.decode cz
  let sign := 2 ^ (w - 1)
  match op with
  | .vadd => f.add rm u x y
  | .vsub => f.sub rm u x y
  | .vmul => f.mul rm u x y
  | .vfma => f.fma rm u x y z
  | .vfms => f.fma rm u x y z.negate
  | .vdiv => f.div rm u x y
  | .vsqrt => f.sqrt rm u x
  | .vrem => f.rem x y
  | .vmin => f.minMax false false cx cy
  | .vmax => f.minMax true false cx cy
  | .vminn => f.minMax false true cx cy
  | .vmaxn => f.minMax true true cx cy
  | .vabs => ⟨cx % sign, 0⟩
  | .vneg => ⟨if cx < sign then cx + sign else cx - sign, 0⟩
  | .vcsgn => ⟨cx % sign + (if cy < sign then 0 else sign), 0⟩
  | .vrint => f.rint rm false x
  | .vrintx => f.rint rm true x
  | .vscaleb => f.scaleB rm u x (signed cy (if fmt = 2 then 32 else w))
  | .vlogb => logB (if fmt = 2 then 32 else w) x
  | .vclass => ⟨f.classOf cx, 0⟩
  | .vexp2 => f.exp2 x
  | .vexp => f.exp x
  | .vlog2 => f.log true x
  | .vlog => f.log false x
  | .vsinpi => f.trigpi false x
  | .vcospi => f.trigpi true x
  | .vtanh => f.tanh x
  | .vsigm => f.sigm x
  | .vrsqrt => f.rsqrt x
  | .vrcpe => f.rcpe x
  | .vradd => f.add rm u x y
  | .vrmax => f.minMax true true cx cy

/-- One level of the fixed tree of R148: neighbours are combined; results and flags. -/
def pairUp (op : Nat → Nat → Fpr) : List Nat → List Nat × Nat
  | x :: y :: rest =>
    let r := op x y
    let t := pairUp op rest
    (r.bits :: t.1, r.flags ||| t.2)
  | l => (l, 0)

/-- The tree of R148, `n` levels of it: value and flags. -/
def treeLevels (op : Nat → Nat → Fpr) : Nat → List Nat → Nat → Nat × Nat
  | 0, l, fl => (l.headD 0, fl)
  | n + 1, l, fl =>
    let t := pairUp op l
    treeLevels op n t.1 (fl ||| t.2)

/-- The identity of a reduction (R148). -/
def reduceIdentity (add : Bool) (fmt rm : Nat) : Nat :=
  let f := vecFmt fmt
  if add then (if rm = 3 then 0 else f.signBit true) else f.infinity true

/-- A reduction of R148: value and flags. -/
def reduceVec (add : Bool) (fmt rm p v : Nat) : Nat × Nat :=
  let w := vecWidth fmt
  let n := 32768 / w
  let xs := (List.range n).map (fun e => if governs p n e then elemOf v w e else reduceIdentity add fmt rm)
  let f := vecFmt fmt
  let op (a b : Nat) : Fpr := if add then f.add rm 0 (f.decode a) (f.decode b) else f.minMax true true a b
  treeLevels op (if fmt = 1 then 11 else if fmt = 2 then 9 else 10) xs 0

/-- The predicate that governs a VA or VC instruction: under RM 4 it is p0, and P names the stream (R136). -/
def govPred (t : Tile) (p rm : Nat) : Nat := if rm = 4 then t.getP 0 else t.getP p

/-- A vector FP instruction (R142 to R148); `draw` gives the draw of element `i` from stream g. -/
def execVa (t : Tile) (op : VaOp) (vd va vb p fmt rm : Nat) (draw : Nat → Nat → Nat) : SlotOut :=
  let w := vecWidth fmt
  let n := 32768 / w
  let lat := op.latency fmt
  let g := govPred t p rm
  match op with
  | .vradd | .vrmax =>
    let r := reduceVec (op == .vradd) fmt rm (t.getP p) (t.getV va)
    outs (vecOut lat vd (packElems w (List.replicate n r.1), allLanes, r.2))
  | _ =>
    let x := t.getV va
    let y := t.getV vb
    let z := t.getV vd
    let f (e : Nat) : Fpr :=
      op.elem fmt rm (if rm = 4 then draw (p % 8) e else 0) (elemOf x w e) (elemOf y w e) (elemOf z w e)
    { writes := vecOut lat vd (gather w n g f), draw := if rm = 4 then some (p % 8, ceilDiv n 4) else none }

/-! ## Compare, integer lanes, data movement, predicates (R145, R149, R150) -/

/-- The relation of `vicmp` (R149). -/
def intCompare (cond x y : Nat) : Bool :=
  let a := signed x 32
  let c := signed y 32
  if cond = 0 then x = y else if cond = 1 then x ≠ y else if cond = 2 then decide (a < c) else if cond = 3 then decide (a ≤ c)
  else if cond = 4 then decide (x < y) else decide (x ≤ y)

/-- `vcmp` and `vicmp`. -/
def execVk (t : Tile) (int : Bool) (half pd va vb p fmt cond : Nat) : SlotOut :=
  let pv := t.getP p
  let x := t.getV va
  let y := t.getV vb
  if int then
    let rs := (List.range 1024).map (fun e => b2n (intCompare cond (elemOf x 32 e) (elemOf y 32 e)))
    outs [(2, .p pd (packElems 1 rs) pv)]
  else
    let w := vecWidth fmt
    let f := vecFmt fmt
    let n := if fmt = 2 then 512 else 1024
    let idx (l : Nat) : Nat := if fmt = 1 then 2 * l + half else l
    let gov (l : Nat) : Bool := bit pv (if fmt = 2 then 2 * l else l)
    let rs := (List.range n).map (fun l =>
      if gov l then
        let r := fpCompare cond (f.decode (elemOf x w (idx l))) (f.decode (elemOf y w (idx l)))
        (b2n r.1, true, if r.2 then flagInvalid else 0)
      else (0, false, 0))
    let wide (b : Nat) : Nat := if fmt = 2 then 3 * b else b
    let bw := if fmt = 2 then 2 else 1
    let val := packElems bw (rs.map (fun r => wide r.1))
    let mask := packElems bw (rs.map (fun r => wide (b2n r.2.1)))
    let fl := rs.foldl (fun a r => a ||| r.2.2) 0
    outs ((3, .p pd val mask) :: (if fl = 0 then [] else [(3, .flags fl)]))

/-- One lane of a `vint` sub-op (R149). -/
def IntOp.lane (op : IntOp) (x y : Nat) : Nat :=
  let m := 2 ^ 32
  let sx := signed x 32
  let sy := signed y 32
  match op with
  | .viadd => (x + y) % m
  | .visub => (x + m - y) % m
  | .vimul => x * y % m
  | .vand => x &&& y
  | .vor => x ||| y
  | .vxor => x ^^^ y
  | .vandn => x &&& (m - 1 - y)
  | .vshl => x * 2 ^ (y % 32) % m
  | .vshr => x / 2 ^ (y % 32)
  | .vsra => unsigned (sx / ((2 ^ (y % 32) : Nat) : Int)) 32
  | .vimin => if sx ≤ sy then x else y
  | .vimax => if sx ≤ sy then y else x
  | .viminu => min x y
  | .vimaxu => max x y

/-- The latency of a `vint` sub-op. -/
def IntOp.latency : IntOp → Nat
  | .vimul => 4
  | .vand | .vor | .vxor | .vandn => 1
  | _ => 2

def execVint (t : Tile) (op : IntOp) (vd va vb p : Nat) : SlotOut :=
  let x := t.getV va
  let y := t.getV vb
  outs (vecOut op.latency vd (gather 32 1024 (t.getP p) (fun e => ⟨op.lane (elemOf x 32 e) (elemOf y 32 e), 0⟩)))

/-- The latency of a `vdata` sub-op. -/
def DataOp.latency : DataOp → Nat
  | .vsel => 1
  | .vbc32 | .vbc64 => 2
  | .vrot | .pk6 | .up6 => 3
  | .vperm => 6

/-- The value that a `vdata` sub-op writes into VD. -/
def execVdata (t : Tile) (op : DataOp) (vd va vb p : Nat) : SlotOut :=
  let x := t.getV va
  let lanes (f : Nat → Nat) : Nat := packElems 32 ((List.range 1024).map f)
  let v := match op with
    | .vsel => lanes (fun l => if bit (t.getP p) l then elemOf x 32 l else elemOf (t.getV vb) 32 l)
    | .vbc32 => packElems 32 (List.replicate 1024 (t.getS vb))
    | .vbc64 => packElems 64 (List.replicate 512 (t.getS vb))
    | .vrot =>
      let r := t.getS vb % 1024
      lanes (fun l => elemOf x 32 ((l + 1024 - r) % 1024))
    | .vperm =>
      let y := t.getV vb
      lanes (fun l => elemOf x 32 (elemOf y 32 l % 1024))
    | .pk6 => packElems 6 ((List.range 4096).map (fun e => elemOf x 8 e))
    | .up6 => packElems 8 ((List.range 4096).map (fun e => elemOf x 6 e))
  outs [(op.latency, .v vd v allLanes)]

/-- All bits of a predicate. -/
def allBits : Nat := 2 ^ 1024 - 1

/-- The predicate sub-ops of R150. -/
def PredOp.apply (op : PredOp) (x y : Nat) : Nat :=
  match op with
  | .and_ => x &&& y
  | .or_ => x ||| y
  | .xor => x ^^^ y
  | .andn => x &&& (allBits - y)
  | .not_ => allBits - x
  | .zeros => 0
  | .ones => allBits
  | .lowest => match Sys2Proof.Machine.lowest 1024 (bit x) with | some i => 2 ^ i | none => 0

def execVp (t : Tile) (op : PredOp) (pd pa pb : Nat) : SlotOut :=
  outs [(1, .p pd (op.apply (t.getP pa) (t.getP pb)) allBits)]

/-- `vrdacc` and `vwracc` (R151): lane 128r + c is element (8 × BLK + r, c). -/
def execVq (t : Tile) (write : Bool) (vd acc blk : Nat) : SlotOut :=
  if write then outs [(4, .a acc ((List.range 1024).map (fun l => (1024 * blk + l, elemOf (t.getV vd) 32 l))))]
  else outs [(4, .v vd (packElems 32 ((List.range 1024).map (fun l => t.getA acc (1024 * blk + l)))) allLanes)]

/-! ## Conversion (R152) -/

/-- The width of a format in a register: an N6 element takes 8 bits. -/
def regWidth (fmt : Nat) : Nat := if fmt = 6 then 8 else fmtWidth fmt

/-- A conversion to the format `dst`. -/
def execVc (t : Tile) (dst vd va src rm part p : Nat) (draw : Nat → Nat → Nat) : SlotOut :=
  let ws := regWidth src
  let wd := regWidth dst
  let n := 32768 / max ws wd
  let lat := if src = 2 ∨ dst = 2 then 5 else 4
  let x := t.getV va
  let from_ (e : Nat) : Nat :=
    let c := elemOf x ws (if ws < wd then part * n + e else e)
    if src = 6 then c % 64 else c
  let f (e : Nat) : Fpr := convertFmt dst rm (if rm = 4 then draw (p % 8) e else 0) (decodeFmt src (from_ e))
  let r := gather wd n (govPred t p rm) f
  let sh := if wd < ws then part * n * wd else 0
  { writes := vecOut lat vd (r.1 <<< sh, r.2.1 <<< sh, r.2.2), draw := if rm = 4 then some (p % 8, ceilDiv n 4) else none }

end Sys2Proof.Machine
end

