-- ==== Sys2Proof/Machine/TileScalar.lean ====
section
/-! DEFINITION. The scalar section (spec/06_spaovoto_reference.md R138 to R141). -/

namespace Sys2Proof.Machine

/-- The result of a form SR instruction (R138, R139). -/
def SrOp.result (op : SrOp) (x y : Nat) : Nat :=
  let m := 2 ^ 64
  let sx := signed x 64
  let sy := signed y 64
  match op with
  | .add => (x + y) % m
  | .sub => (x + m - y) % m
  | .and_ => x &&& y
  | .or_ => x ||| y
  | .xor => x ^^^ y
  | .shl => x * 2 ^ (y % 64) % m
  | .shr => x / 2 ^ (y % 64)
  | .sra => unsigned (sx / ((2 ^ (y % 64) : Nat) : Int)) 64
  | .slt => b2n (decide (sx < sy))
  | .sltu => b2n (decide (x < y))
  | .seq => b2n (x == y)
  | .min_ => if sx ≤ sy then x else y
  | .max_ => if sx ≤ sy then y else x
  | .minu => Nat.min x y
  | .maxu => Nat.max x y
  | .mul => x * y % m
  | .mulh => unsigned (sx * sy / ((m : Nat) : Int)) 64
  | .mulhu => x * y / m
  | .div => if y = 0 then m - 1 else unsigned (sx.tdiv sy) 64
  | .divu => if y = 0 then m - 1 else x / y
  | .rem_ => if y = 0 then x else unsigned (sx.tmod sy) 64
  | .remu => if y = 0 then x else x % y

/-- The latency of a form SR instruction. -/
def SrOp.latency : SrOp → Nat
  | .mul => 3
  | .mulh | .mulhu => 4
  | .div | .divu | .rem_ | .remu => 20
  | _ => 1

/-- The result of a form SI instruction (R138): IMM is sign-extended but in the logic instructions. -/
def SiOp.result (op : SiOp) (x imm : Nat) : Nat :=
  let sext := unsigned (signed imm 16) 64
  match op with
  | .addi => SrOp.add.result x sext
  | .andi => SrOp.and_.result x imm
  | .ori => SrOp.or_.result x imm
  | .xori => SrOp.xor.result x imm
  | .shli => SrOp.shl.result x imm
  | .shri => SrOp.shr.result x imm
  | .srai => SrOp.sra.result x imm
  | .lui => sext * 2 ^ 16 % 2 ^ 64

def execSr (t : Tile) (op : SrOp) (rd ra rb : Nat) : SlotOut :=
  outs [(op.latency, .s rd (op.result (t.getS ra) (t.getS rb)))]

def execSi (t : Tile) (op : SiOp) (rd ra imm : Nat) : SlotOut := outs [(1, .s rd (op.result (t.getS ra) imm))]

/-- SEL values that `sget` accepts (R140). -/
def sgetSel (sel : Nat) : Bool := sel ≤ 0x0D || (0x11 ≤ sel && sel ≤ 0x17) || (0x19 ≤ sel && sel ≤ 0x1F)

/-- SEL values that `sput` accepts (R140). -/
def sputSel (sel : Nat) : Bool := sel = 1 || (0x11 ≤ sel && sel ≤ 0x17) || (0x19 ≤ sel && sel ≤ 0x1F)

/-- What `sget` reads in its issue cycle `u` (R140). -/
def Body.sget (b : Body) (nn u sel : Nat) : Nat :=
  if sel = 0 then u % 2 ^ 64
  else if sel = 1 then b.flags nn
  else if sel ≤ 3 then b.rd (R.T.SEQ_POS.POS nn (sel - 2))
  else if sel ≤ 5 then b.slotBase nn (sel - 4)
  else if sel ≤ 7 then b.rd (R.T.SEQ_CTRL.ACTIVE nn (sel - 6))
  else if sel = 8 then b.reg (R.T.MX_STATUS.MISMATCH nn).key
  else if sel = 9 then b.reg (R.T.MX_PLAUS_FIRST.OP nn).key
  else if sel ≤ 0x0D then b.reg (R.T.MX_SV.FLAG nn (sel - 0x0A)).key
  else if sel ≤ 0x17 then b.reg (R.T.MX_BOUNDS.LO nn (sel - 0x10)).key
  else b.reg (R.T.MX_BOUNDS_CTRL.MAX_OUT nn (sel - 0x18)).key

/-! ## Bounds registers (R104) -/

/-- A pair of bounds is valid under the value of INT: LO ≤ HI, and no NaN for binary32. -/
def boundsOk (int : Bool) (lo hi : Nat) : Bool :=
  if int then decide (signed lo 32 ≤ signed hi 32)
  else !(b32 lo).isNaN && !(b32 hi).isNaN && decide ((b32 lo).cmp (b32 hi) ≤ 0)

/-- `T.MX_BOUNDS_k` takes a value that its table accepts. -/
def Body.boundsAccepted (b : Body) (nn k v : Nat) : Bool :=
  boundsOk (b.on (R.T.MX_BOUNDS_CTRL.INT nn k)) (bits v 0 32) (bits v 32 32)

/-- `T.MX_BOUNDS_CTRL_k` takes a value that its table accepts. -/
def Body.boundsCtrlAccepted (b : Body) (nn k v : Nat) : Bool :=
  bits v 0 15 ≤ 16384
    && boundsOk (bit v 18) (b.rd (R.T.MX_BOUNDS.LO nn k)) (b.rd (R.T.MX_BOUNDS.HI nn k))

/-- The writes of a `sput`; a refused value writes nothing. -/
def Body.sputWrites (b : Body) (nn sel v : Nat) : List (Nat × TileWrite) :=
  if sel = 1 then [(1, .putFlags (v % 32))]
  else if sel ≤ 0x17 then
    let k := sel - 0x10
    if b.boundsAccepted nn k v then [(1, .reg (R.T.MX_BOUNDS.LO nn k).key 0 64 v)] else []
  else
    let k := sel - 0x18
    if b.boundsCtrlAccepted nn k v then
      [(1, .reg (R.T.MX_BOUNDS_CTRL.MAX_OUT nn k).key 0 15 v), (1, .reg (R.T.MX_BOUNDS_CTRL.MAX_OUT nn k).key 16 3 (v / 2 ^ 16))]
    else []

/-- A refused `sput` to a bounds register is recorded (R140). -/
def Body.sputRefused (b : Body) (nn sel v : Nat) : Body :=
  if sel = 1 then b
  else if sel ≤ 0x17 then
    let k := sel - 0x10
    if b.boundsAccepted nn k v then b else b.cfgEvent .tile (iT nn) (0x2100 + 16 * k) v 0
  else
    let k := sel - 0x18
    if b.boundsCtrlAccepted nn k v then b else b.cfgEvent .tile (iT nn) (0x2108 + 16 * k) (v % 2 ^ 32) 0

/-- The running period's type (R56). -/
def Body.ptype (b : Body) : Option PType :=
  match b.job.active with
  | none => none
  | some im => im.types[b.rd R.TM.DEPART_SEQ.PTYPE]?

/-- A flag of the running period's type: 0 step start, 1 step close, 2 verdict period, 3 commit-gated, 4 snapshot, 5 UE. -/
def Body.ptypeFlag (b : Body) (n : Nat) : Bool :=
  match b.ptype with
  | none => false
  | some t => bit t.flags n

/-- The form SX instructions (R140, R141), issued in cycle `u`. -/
def execSx (b : Body) (nn u : Nat) (op : SxOp) (rg sel : Nat) : SlotOut :=
  let v := (b.tile nn).getS rg
  match op with
  | .sget => outs [(2, .s rg (b.sget nn u sel))]
  | .sput => outs (b.sputWrites nn sel v)
  | .qadv => outs [(1, .qadd sel v)]

end Sys2Proof.Machine
end

