-- ==== Sys2Proof/Machine/TileMatrix.lean ====
section
/-! DEFINITION. The matrix section (spec/04_dot_product.md R90 to R107, spec/06_spaovoto_reference.md R154 to R158): the
operand record and its checks, the exact chunk sums, both rounding paths, the checksum lane, plausibility and special values. -/

namespace Sys2Proof.Machine

/-! ## Operand classes (R90) -/

/-- The class of a format pair: 0 short float, 1 integer, 2 half, 3 single; with the chunk length and the slab depth. -/
def mxClass (fa fb : Nat) : Option (Nat × Nat × Nat) :=
  let short (f : Nat) : Bool := 4 ≤ f && f ≤ 7
  let int (f : Nat) : Bool := 8 ≤ f && f ≤ 10
  let half (f : Nat) : Bool := f = 1 || f = 3
  if short fa && short fb then some (0, 256, if fa = 7 ∧ fb = 7 then 256 else 128)
  else if int fa && int fb then some (1, 256, if fa = 9 ∧ fb = 9 then 256 else 128)
  else if half fa && half fb then some (2, 64, 64)
  else if fa = 0 ∧ fb = 0 then some (3, 16, 8)
  else none

/-- The operand record (R154). -/
structure MxRec where
  a : Nat
  sa : Nat
  b : Nat
  sb : Nat
  k : Nat
  m : Nat
  n : Nat
  strideA : Nat
  strideB : Nat
  reserved : Bool
  deriving DecidableEq, Repr

/-- The fields of the four record registers. -/
def mxRec (r : List Nat) : MxRec :=
  let g (i : Nat) : Nat := (r[i]?).getD 0
  { a := bits (g 0) 0 23, sa := bits (g 0) 23 23, b := bits (g 1) 0 23, sb := bits (g 1) 23 23, k := bits (g 2) 0 25,
    m := bits (g 2) 25 8, n := bits (g 2) 33 8, strideA := bits (g 3) 0 23, strideB := bits (g 3) 23 23,
    reserved := g 0 / 2 ^ 46 ≠ 0 || g 1 / 2 ^ 46 ≠ 0 || g 3 / 2 ^ 46 ≠ 0 || g 2 / 2 ^ 41 ≠ 0 }

/-- M, N or K is 0. -/
def MxRec.zero (r : MxRec) : Bool := r.m = 0 || r.n = 0 || r.k = 0

/-- Bytes of `k` packed elements (R81): I4 and N4 pad to 2, N6 to 4. -/
def packedLen (fmt k : Nat) : Nat :=
  if fmt = 6 then ceilDiv k 4 * 3 else if fmt = 7 ∨ fmt = 9 then ceilDiv k 2 else k * (fmtWidth fmt / 8)

/-- Bytes of a row's scale codes with their padding (R155). -/
def scaleStride (k : Nat) : Nat := 32 * ceilDiv (ceilDiv k 64) 32

/-- The kind that stops an `mx` (R104, R154, R156); 0 for none. -/
def Body.mxKind (b : Body) (nn : Nat) (fa fb rr bnd : Nat) (sa sb : Bool) (r : MxRec) : Nat :=
  match mxClass fa fb with
  | none => 6
  | some (cls, _, _) =>
    let intB := b.on (R.T.MX_BOUNDS_CTRL.INT nn bnd)
    if rr < 1 ∨ 28 < rr ∨ r.reserved ∨ (bnd ≠ 0 ∧ intB ≠ decide (cls = 1)) then 6
    else if r.zero then 0
    else
      let la := packedLen fa r.k
      let lb := packedLen fb r.k
      let off (o : Nat) : Bool := o % 32 ≠ 0
      if 2 ^ 24 < r.k ∨ 128 < r.m ∨ 128 < r.n ∨ ((sa ∨ sb) ∧ cls ≠ 0) ∨ off r.a ∨ off r.b ∨ (sa ∧ off r.sa)
          ∨ (sb ∧ off r.sb) ∨ (1 < r.m ∧ (off r.strideA ∨ r.strideA < la)) ∨ (1 < r.n ∧ (off r.strideB ∨ r.strideB < lb)) then 6
      else
        let blocks := ceilDiv r.k 64
        let beyond (base stride rows len : Nat) : Bool := decide (sramSize < base + (rows - 1) * stride + len)
        if beyond r.a r.strideA r.m la || beyond r.b r.strideB r.n lb
            || (sa && beyond r.sa (scaleStride r.k) r.m blocks) || (sb && beyond r.sb (scaleStride r.k) r.n blocks) then 7
        else 0

/-- The SRAM offset of the first operand of an `mx` that runs past the SRAM. -/
def MxRec.beyond (r : MxRec) (fa fb : Nat) (sa _sb : Bool) : Nat :=
  let past (base stride rows len : Nat) : Bool := decide (sramSize < base + (rows - 1) * stride + len)
  let blocks := ceilDiv r.k 64
  if past r.a r.strideA r.m (packedLen fa r.k) then r.a
  else if past r.b r.strideB r.n (packedLen fb r.k) then r.b
  else if sa && past r.sa (scaleStride r.k) r.m blocks then r.sa else r.sb

/-- Occupancy (R107): `idle` says that the array has been idle for more than 128 cycles. -/
def mxOccupancy (d : Nat) (r : MxRec) (idle : Bool) : Nat :=
  if r.zero then 24 else 24 + ceilDiv r.k d * max r.m 128 + (if idle then 128 else 0)

/-! ## Operands (R81, R83, R155) -/

/-- Element `i` of packed bytes (R81). -/
def packedElem (fmt : Nat) (bs : Bytes) (i : Nat) : Nat :=
  if fmt = 6 then bits (le bs (i / 4 * 3) 3) (6 * (i % 4)) 6
  else if fmt = 7 ∨ fmt = 9 then bits (le bs (i / 2) 1) (4 * (i % 2)) 4
  else le bs (i * (fmtWidth fmt / 8)) (fmtWidth fmt / 8)

/-- The values of `k` packed elements, with the block scales of `scales` when the operand carries them. -/
def operandVals (fmt k : Nat) (bs : Bytes) (scaled : Bool) (scales : Bytes) : List Val :=
  (List.range k).map (fun i =>
    let v := decodeFmt fmt (packedElem fmt bs i)
    if scaled then scaledVal v (le scales (i / 64) 1) else v)

/-- The operand is a NaN or an infinity (an element of a 0xFF block is a NaN). -/
def Val.special : Val → Bool
  | .num _ _ _ => false
  | _ => true

/-- A finite value in units of 2^-149 of one operand; every operand and scale lies on this grid. -/
def Val.grid : Val → Int
  | .num n m e => scaleTo n m e (-149)
  | _ => 0

/-! ## Chunks (R91, R92, R99) -/

/-- The exact sum of a chunk's finite products in units of 2^-298. -/
def chunkSum (xs ys : List Val) : Int :=
  (xs.zip ys).foldl (fun acc p => if p.1.special || p.2.special then acc else acc + p.1.grid * p.2.grid) 0

/-- A product is NaN; it raises invalid. -/
def nanProduct (x y : Val) : Bool × Bool :=
  let sig (v : Val) : Bool := match v with | .nan s _ _ _ => s | _ => false
  let zi := (x.isInf && y.isZero) || (x.isZero && y.isInf)
  (x.isNaN || y.isNaN || zi, sig x || sig y || zi)

/-- The rounding of a chunk whose exact sum is `s` (R92). -/
def roundChunk (xs ys : List Val) (s : Int) : Fpr :=
  let ps := xs.zip ys
  let nans := ps.filter (fun p => (nanProduct p.1 p.2).1)
  let infs := ps.filter (fun p => (p.1.isInf || p.2.isInf) && !(nanProduct p.1 p.2).1)
  let posInf := infs.any (fun p => p.1.neg == p.2.neg)
  let negInf := infs.any (fun p => p.1.neg != p.2.neg)
  if !nans.isEmpty then ⟨0x7FC00000, if ps.any (fun p => (nanProduct p.1 p.2).2) then flagInvalid else 0⟩
  else if posInf && negInf then ⟨0x7FC00000, flagInvalid⟩
  else if posInf then ⟨0x7F800000, 0⟩
  else if negInf then ⟨0xFF800000, 0⟩
  else if s = 0 then
    ⟨if ps.all (fun p => (p.1.isZero || p.2.isZero) && (p.1.neg != p.2.neg)) then 0x80000000 else 0, 0⟩
  else fmtB32.round 0 0 (decide (s < 0)) s.natAbs (-298) false

/-- The faults of one stage at a row and chunk, summed (columns `col` of `none` take every column). -/
def faultSum (fs : List ArrayFault) (st : ArrayStage) (row chunk : Nat) (col : Option Nat) : Int :=
  fs.foldl (fun acc f =>
    if f.stage == st && f.row == row && f.chunk == chunk && (match col with | some c => f.col == c | none => true)
    then acc + f.delta else acc) 0

/-- The flips of one path stage at a row, chunk and column. -/
def faultFlip (fs : List ArrayFault) (st : ArrayStage) (row chunk col : Nat) : Nat :=
  fs.foldl (fun acc f =>
    if f.stage = st ∧ f.row = row ∧ f.chunk = chunk ∧ f.col = col then acc ^^^ f.flip.toNat else acc) 0

/-- The operands of an operation as the array reads them: rows of A, columns of B, chunk length and class. -/
structure MxOperands where
  rows : List (List Val)
  cols : List (List Val)
  chunk : Nat
  chunks : Nat
  cls : Nat
  deriving DecidableEq, Repr

/-- Chunk `j` of a row or column. -/
def MxOperands.part (o : MxOperands) (xs : List Val) (j : Nat) : List Val := (xs.drop (j * o.chunk)).take o.chunk

/-- The weight of a fault's unit on the grid of 2^-298: 1 for the integer classes, the grid's own for the float classes. -/
def MxOperands.unit (o : MxOperands) : Int := if o.cls = 1 then 2 ^ 298 else 1

/-- The sum of a row, chunk and column as the array forms it, faults included. -/
def MxOperands.colSum (o : MxOperands) (fs : List ArrayFault) (i j n : Nat) : Int :=
  chunkSum (o.part ((o.rows[i]?).getD []) j) (o.part ((o.cols[n]?).getD []) j) + faultSum fs .product i j (some n) * o.unit

/-- The checksum lane of row i, chunk j (R99): none where R100 skips it, else whether it mismatches. -/
def MxOperands.lane (o : MxOperands) (fs : List ArrayFault) (i j : Nat) : Option Bool :=
  let xs := o.part ((o.rows[i]?).getD []) j
  let ys := o.cols.map (fun c => o.part c j)
  if xs.any Val.special || ys.any (fun c => c.any Val.special) then none
  else
    let r (k : Nat) : Int := ys.foldl (fun acc col => acc + ((col[k]?).map Val.grid).getD 0) 0
    let l := (List.range xs.length).foldl (fun acc k => acc + ((xs[k]?).map Val.grid).getD 0 * r k) 0
      + faultSum fs .lane i j none * o.unit
    let sum := (List.range o.cols.length).foldl (fun acc n => acc + o.colSum fs i j n) 0
    some (decide (l ≠ sum))

/-- What one element becomes: the written bits, the flags, every chunk in which the two paths differ, ascending, and whether
the addend step differs (R91, R101). -/
structure MxElem where
  bits : Nat
  flags : Nat
  differs : List Nat
  addend : Bool
  deriving DecidableEq, Repr

/-- A float-class element (R91). -/
def MxOperands.floatElem (o : MxOperands) (fs : List ArrayFault) (add : Option Nat) (i n : Nat) : MxElem :=
  let step (acc : Nat × Nat × Nat × List Nat) (j : Nat) : Nat × Nat × Nat × List Nat :=
    let c := roundChunk (o.part ((o.rows[i]?).getD []) j) (o.part ((o.cols[n]?).getD []) j) (o.colSum fs i j n)
    let one (x : Nat) (st : ArrayStage) : Fpr :=
      let r := if j = 0 then ⟨c.bits, 0⟩ else addB32 x c.bits
      ⟨r.bits ^^^ faultFlip fs st i j n, r.flags⟩
    let p1 := one acc.1 .path1
    let p2 := one acc.2.1 .path2
    (p1.bits, p2.bits, acc.2.2.1 ||| c.flags ||| p1.flags,
      if p1.bits = p2.bits then acc.2.2.2 else acc.2.2.2 ++ [j])
  let r := (List.range o.chunks).foldl step (0, 0, 0, [])
  match add with
  | none => { bits := r.1, flags := r.2.2.1, differs := r.2.2.2, addend := false }
  | some t =>
    let last := o.chunks - 1
    let a1 := addB32 r.1 t
    let a2 := addB32 r.2.1 t
    let x1 := a1.bits ^^^ faultFlip fs .addend1 i last n
    let x2 := a2.bits ^^^ faultFlip fs .addend2 i last n
    { bits := x1, flags := r.2.2.1 ||| a1.flags, differs := r.2.2.2, addend := x1 != x2 }

/-- An integer-class element (R98). -/
def MxOperands.intElem (o : MxOperands) (fs : List ArrayFault) (add : Option Nat) (i n : Nat) : MxElem :=
  let s := (List.range o.chunks).foldl (fun acc j => acc + o.colSum fs i j n) 0
  -- the grid of one operand is 2^-149, so a product of integers counts units of 2^-298
  let v := s / ((2 ^ 298 : Nat) : Int) + (match add with | some t => signed t 32 | none => 0)
  let c := clampInt v (-(2 ^ 31 : Nat)) (2 ^ 31 - 1)
  { bits := unsigned c 32, flags := if c = v then 0 else flagOverflow, differs := [], addend := false }

/-- An element is out of bounds (R104). -/
def outOfBounds (int nanOk infOk : Bool) (lo hi x : Nat) : Bool :=
  if int then decide (signed x 32 < signed lo 32) || decide (signed hi 32 < signed x 32)
  else
    let v := b32 x
    if v.isNaN then !nanOk
    else
      let out := decide (v.cmp (b32 lo) < 0) || decide (0 < v.cmp (b32 hi))
      if v.isInf then out && !infOk else out

/-- Scale codes of a chunk, in block order, as `n` bytes. -/
def chunkScales (sc : Bytes) (j chunk n : Nat) (scaled : Bool) : Bytes :=
  if scaled then slice (slice (sc.drop (j * chunk / 64)) 0 (ceilDiv chunk 64)) 0 n else zeros n

/-- The capture area of R102 for a mismatch in row i, chunk j, but for its first 20 bytes.  In a short last chunk every column of
B keeps the room of a full chunk, as its scale codes do, and the rest is zero (DESIGN CHOICE, log 78). -/
def Body.captureArea (b : Body) (nn fa fb : Nat) (sa sb : Bool) (r : MxRec) (chunk i j : Nat) : Bytes :=
  let take (fmt base stride x : Nat) : Bytes :=
    let from_ := packedLen fmt (j * chunk)
    let all := packedLen fmt r.k
    slice (b.sram nn (base + x * stride + from_) (min (packedLen fmt chunk) (all - from_))) 0 (packedLen fmt chunk)
  let scl (base x : Nat) (on : Bool) : Bytes :=
    let blocks := ceilDiv r.k 64
    let from_ := j * chunk / 64
    if on then slice (b.sram nn (base + x * scaleStride r.k + from_) (min (ceilDiv chunk 64) (blocks - from_))) 0 4 else zeros 4
  let head := zeros 20 ++ leBytes 2 r.m ++ leBytes 2 r.n ++ leBytes 4 r.k ++ leBytes 1 (b2n sa + 2 * b2n sb) ++ zeros 35
  let aPart := slice (take fa r.a (if r.m ≤ 1 then 0 else r.strideA) i) 0 256 ++ scl r.sa i sa ++ zeros 60
  let bCols := (List.range r.n).flatMap (fun n => take fb r.b (if r.n ≤ 1 then 0 else r.strideB) n)
  let bScl := (List.range r.n).flatMap (fun n => scl r.sb n sb)
  head ++ aPart ++ slice bCols 0 32768 ++ slice bScl 0 512 ++ zeros 3200

/-- An `mx` that passed its checks, issued in cycle `u` (R157): the array's writes, the flight that records its checks, and
its occupancy.  With K = 0 no range check applies, and M and N above 128 count as 128, the size of an accumulator tile
(DESIGN CHOICE, log 77). -/
def Body.runMx (b : Body) (nn u : Nat) (word acc fa fb bnd : Nat) (add : Bool) (at_ : Nat) (sa sb : Bool) (record : List Nat)
    (fs : List ArrayFault) : List (Nat × TileWrite) × MxFlight × Nat :=
  let t := b.tile nn
  let r := mxRec record
  let c := (mxClass fa fb).getD (0, 256, 128)
  let cls := c.1
  let idle := !t.arrayUsed || decide (t.arrayWork + 128 < u)
  let occ := mxOccupancy c.2.2 r idle
  let m := min r.m 128
  let n := min r.n 128
  let addend (i j : Nat) : Option Nat := if add then some (t.getA at_ (128 * i + j)) else none
  let rows (base stride rows fmt : Nat) (on : Bool) (sbase : Nat) : List (List Val) :=
    (List.range rows).map (fun i =>
      let st := if rows ≤ 1 then 0 else stride
      operandVals fmt r.k (b.sram nn (base + i * st) (packedLen fmt r.k)) on
        (if on then b.sram nn (sbase + i * scaleStride r.k) (ceilDiv r.k 64) else []))
  let o : MxOperands :=
    { rows := if r.zero then [] else rows r.a r.strideA m fa sa r.sa,
      cols := if r.zero then [] else rows r.b r.strideB n fb sb r.sb,
      chunk := c.2.1, chunks := ceilDiv r.k c.2.1, cls := cls }
  let elem (i j : Nat) : MxElem :=
    if r.k = 0 then { bits := (addend i j).getD 0, flags := 0, differs := [], addend := false }
    else if cls = 1 then o.intElem fs (addend i j) i j
    else o.floatElem fs (addend i j) i j
  let cells := (List.range m).flatMap (fun i => (List.range n).map (fun j => (i, j, elem i j)))
  let fl := cells.foldl (fun a x => a ||| x.2.2.flags) 0
  let lanes := if r.zero then [] else (List.range o.chunks).flatMap (fun j => (List.range m).map (fun i => (i, j, o.lane fs i j)))
  let laneBad := lanes.filterMap (fun x => if x.2.2 = some true then some (0, x.1, x.2.1, 0) else none)
  let accBad := cells.flatMap (fun x => x.2.2.differs.map (fun j => (1, x.1, j, x.2.1)))
  let addBad := cells.filterMap (fun x => if x.2.2.addend then some (2, x.1, o.chunks - 1, x.2.1) else none)
  let all := laneBad ++ accBad ++ addBad
  let first := firstMismatch all
  let area (x : Option (Nat × Nat × Nat × Nat)) : Bytes := match x with
    | some (_, i, j, _) => b.captureArea nn fa fb sa sb r c.2.1 i j
    | none => []
  let lo := b.rd (R.T.MX_BOUNDS.LO nn bnd)
  let hi := b.rd (R.T.MX_BOUNDS.HI nn bnd)
  let bad := if bnd = 0 then [] else cells.filter (fun x =>
    outOfBounds (decide (cls = 1)) (b.on (R.T.MX_BOUNDS_CTRL.ALLOW_NAN nn bnd)) (b.on (R.T.MX_BOUNDS_CTRL.ALLOW_INF nn bnd))
      lo hi x.2.2.bits)
  let sp := if cls = 1 then [] else cells.filter (fun x => (b32 x.2.2.bits).isNaN || (b32 x.2.2.bits).isInf)
  let op := t.opIndex
  let f : MxFlight :=
    { op := op, word := word, record := record, acc := acc, at_ := if add then some at_ else none, due := u + occ,
      start := u + occ - ceilDiv r.k c.2.2 * max r.m 128, perChunk := ceilDiv c.2.1 c.2.2 * max r.m 128,
      pc := b.rd (R.T.PC.BUNDLE nn) * 32, bads := all,
      plaus := decide (b.rd (R.T.MX_BOUNDS_CTRL.MAX_OUT nn bnd) < bad.length) && bnd != 0,
      plausFirst := (bad.head?).map (fun x => (x.1, x.2.1)), special := (sp.head?).map (fun x => (x.1, x.2.1)),
      hasNan := sp.any (fun x => (b32 x.2.2.bits).isNaN), hasInf := sp.any (fun x => (b32 x.2.2.bits).isInf),
      skips := lanes.filterMap (fun x => if x.2.2.isNone then some x.2.1 else none),
      capture := area first, pathCapture := area (firstMismatch (laneBad ++ accBad)) }
  let ws := (occ, TileWrite.a acc (cells.map (fun x => (128 * x.1 + x.2.1, x.2.2.bits)))) ::
    (if fl = 0 then [] else [(occ, .flags fl)]) ++ [(occ, .mxDone op)]
  (ws, f, occ)

/-- The array takes an `mx` at its issue: the operation index, `T.MX_OPS`, the occupancy and the tiles in use (R107, R157). -/
def Body.issueMx (b : Body) (nn u : Nat) (f : MxFlight) (occ : Nat) (zero : Bool) : Body :=
  let b1 := b.add (R.T.MX_OPS.COUNT nn) 1
  b1.onTile nn (fun t =>
    { t with opIndex := t.opIndex + 1, mx := t.mx ++ [f], arrayEnd := u + occ,
             arrayWork := if zero then t.arrayWork else u + occ, arrayUsed := t.arrayUsed || !zero,
             accBusy := t.accBusy ++ (f.acc, u + occ) :: (match f.at_ with | some a => [(a, u + occ)] | none => []) })

/-- The array takes an `mxz` (R158). -/
def Body.issueMxz (b : Body) (nn u acc : Nat) : Body :=
  b.onTile nn (fun t => { t with arrayEnd := u + 8, accBusy := t.accBusy ++ [(acc, u + 8)] })

/-- What an `mxz` writes. -/
def execMxzOut (acc : Nat) : SlotOut := outs [(8, .a acc ((List.range 16384).map (fun e => (e, 0))))]

end Sys2Proof.Machine
end

