-- ==== Sys2Proof/Machine/TileMove.lean ====
section
/-! DEFINITION. Loads, stores and accumulator moves (spec/06_spaovoto_reference.md R159 to R161). -/

namespace Sys2Proof.Machine

/-! ## Addresses (R159) -/

/-- The address of a form ML or MV access: RA + IMM × scale, with the slot base under BASE 1 and 2. -/
def Body.moveAddr (b : Body) (nn ra base imm scale : Nat) : Nat :=
  let q := if base = 1 ∨ base = 2 then b.slotBase nn (base - 1) % 2 ^ 23 else 0
  ((b.tile nn).getS ra + imm * scale + q) % 2 ^ 64

/-- The base rule of R159, as transfers use it too. -/
def Body.baseOk (b : Body) (nn s : Nat) : Bool :=
  let base := b.slotBase nn s
  base / 2 ^ 24 = 0xF10000 + b.rd (R.T.TILE_STATUS.LOGICAL nn) && !bit base 23

/-- The kind that stops an access of `n` bytes, aligned to `al`; 0 for none. -/
def Body.accessKind (b : Body) (nn base addr n al : Nat) (store : Bool) : Nat :=
  if base = 3 then 6
  else if (base = 1 ∨ base = 2) ∧ !b.baseOk nn (base - 1) then 7
  else if addr % al ≠ 0 ∨ sramSize < addr + n ∨ (store ∧ addr < 0x200000) then 7
  else 0

/-- Lanes under a predicate as runs of consecutive lanes: first lane and the lane values, ascending. -/
def laneRuns (p v : Nat) : Nat → List (Nat × List Nat)
  | 0 => []
  | n + 1 =>
    let rest := laneRuns p v n
    if bit p n then
      match rest.getLast? with
      | some (f, xs) => if f + xs.length = n then rest.dropLast ++ [(f, xs ++ [elemOf v 32 n])] else rest ++ [(n, [elemOf v 32 n])]
      | none => [(n, [elemOf v 32 n])]
    else rest

/-- The bytes of lane values. -/
def laneBytes (l : List Nat) : Bytes := l.flatMap (leBytes 4)

/-- `lds`, `ldu` and `sts`. -/
def Body.execMl (b : Body) (nn op rd ra base w imm : Nat) : SlotOut :=
  let n := 2 ^ w
  let a := b.moveAddr nn ra base imm n
  if op = 2 then outs [(1, .store a (leBytes n ((b.tile nn).getS rd)))]
  else
    let v := leNat (b.sram nn a n)
    outs [(4, .s rd (if op = 0 then unsigned (signed v (8 * n)) 64 else v))]

/-- `ldv` and `stv`.  A load writes every lane, whatever its P field names (DESIGN CHOICE, log 81). -/
def Body.execMv (b : Body) (nn : Nat) (store : Bool) (vd ra base p imm : Nat) : SlotOut :=
  let a := b.moveAddr nn ra base imm 32
  let t := b.tile nn
  if !store then outs [(6, .v vd (leNat (b.sram nn a 4096)) allLanes)]
  else if t.getP p = allBits then outs [(1, .store a (leBytes 4096 (t.getV vd)))]
  else outs ((laneRuns (t.getP p) (t.getV vd) 1024).map (fun r => (1, .store (a + 4 * r.1) (laneBytes r.2))))

/-- `ldp` and `stp`. -/
def Body.execMp (b : Body) (nn : Nat) (store : Bool) (pd ra base imm : Nat) : SlotOut :=
  let a := b.moveAddr nn ra base imm 32
  if store then outs [(1, .store a (leBytes 128 ((b.tile nn).getP pd)))]
  else outs [(4, .p pd (leNat (b.sram nn a 128)) allBits)]

/-! ## Accumulator moves (R161) -/

/-- The fields of RS: data offset, scale offset and row stride. -/
def maFields (v : Nat) : Nat × Nat × Nat := (bits v 0 23, bits v 23 23, bits v 46 18)

/-- Bytes of a stored row of 128 elements. -/
def staRow (fmt : Nat) : Nat := packedLen fmt 128

/-- The kind that stops `lda` or `sta`; 0 for none. -/
def Body.maKind (b : Body) (nn : Nat) (store : Bool) (blk fmt rm rs sc str srci : Nat) : Nat :=
  let f := maFields ((b.tile nn).getS rs)
  let rows := (List.range 8).map (fun r => 8 * blk + r)
  if f.2.2 % 32 ≠ 0 then 6
  else if !store then
    if (fmt ≠ 0 ∧ fmt ≠ 0xC) ∨ rm ≠ 0 ∨ sc ≠ 0 ∨ str ≠ 0 ∨ srci ≠ 0 then 6
    else if rows.any (fun i => decide (sramSize < f.1 + i * f.2.2 + 512)) then 7
    else 0
  else if 0xC < fmt ∨ fmt = 0xB ∨ !rmAllowed fmt rm ∨ (sc = 1 ∧ (fmt < 4 ∨ 7 < fmt)) then 6
  else
    let bad (a n : Nat) : Bool := decide (a < 0x200000) || decide (sramSize < a + n)
    if rows.any (fun i => bad (f.1 + i * f.2.2) (staRow fmt) || (sc = 1 && bad (f.2.1 + 2 * i) 2)) then 7
    else 0

/-- The SRAM offset of the first row of an `lda` or `sta` that breaks a rule of R117. -/
def Body.maBeyond (b : Body) (nn : Nat) (store : Bool) (blk fmt rs sc : Nat) : Nat :=
  let f := maFields ((b.tile nn).getS rs)
  let bad (a n : Nat) : Bool := (store && decide (a < 0x200000)) || decide (sramSize < a + n)
  ((List.range 8).findSome? (fun r =>
    let i := 8 * blk + r
    if bad (f.1 + i * f.2.2) (if store then staRow fmt else 512) then some (f.1 + i * f.2.2)
    else if store && sc == 1 && bad (f.2.1 + 2 * i) 2 then some (f.2.1 + 2 * i)
    else none)).getD f.1

/-- Bytes that an `lda` or `sta` accesses in its data (R160). -/
def maBytes (store : Bool) (fmt : Nat) : Nat := 8 * (if store then staRow fmt else 512)

/-- One row of an `sta`: element codes, scale codes and flags; `draw` gives the draw of an element of the instruction. -/
def staElems (fmt rm sc : Nat) (xs : List Val) (draw : Nat → Nat) : List Nat × List Nat × Nat :=
  if sc = 1 then
    let q0 := quantise fmt rm draw (xs.take 64)
    let q1 := quantise fmt rm (fun i => draw (64 + i)) (xs.drop 64)
    (q0.2.1 ++ q1.2.1, [q0.1, q1.1], q0.2.2 ||| q1.2.2)
  else
    let rs := (List.range xs.length).map (fun c => convertFmt fmt rm (draw c) ((xs[c]?).getD (.num false 0 0)))
    (rs.map (·.bits), [], rs.foldl (fun a r => a ||| r.flags) 0)

/-- `lda` and `sta`. -/
def Body.execMa (b : Body) (nn : Nat) (store : Bool) (acc blk fmt rm rs sc str srci : Nat) (draw : Nat → Nat → Nat) : SlotOut :=
  let t := b.tile nn
  let f := maFields (t.getS rs)
  if !store then
    outs [(6, .a acc ((List.range 8).flatMap (fun r =>
      let i := 8 * blk + r
      (List.range 128).map (fun c => (128 * i + c, leNat (b.sram nn (f.1 + i * f.2.2 + 4 * c) 4))))))]
  else
    let rows := (List.range 8).map (fun r =>
      let i := 8 * blk + r
      let xs := (List.range 128).map (fun c =>
        let e := t.getA acc (128 * i + c)
        if srci = 1 then valOfInt (signed e 32) else b32 e)
      (i, staElems fmt rm sc xs (fun c => if rm = 4 then draw str (128 * r + c) else 0)))
    let fl := rows.foldl (fun a x => a ||| x.2.2.2) 0
    let ws := rows.flatMap (fun x =>
      (4, TileWrite.store (f.1 + x.1 * f.2.2) (leBytes (staRow fmt) (packElems (fmtWidth fmt) x.2.1))) ::
        (if sc = 1 then [(4, TileWrite.store (f.2.1 + 2 * x.1) (x.2.2.1.map (BitVec.ofNat 8)))] else []))
    { writes := ws ++ (if fl = 0 then [] else [(4, .flags fl)]), draw := if rm = 4 then some (str, 256) else none }

end Sys2Proof.Machine
end

