-- ==== Sys2Proof/Machine/Movement.lean ====
section
/-! DEFINITION. Transfers (spec/07_movement.md R170 to R187): addresses, the descriptor and its checks, the cutting into
writes, transfers in flight, and the acceptance of a write with its counting and reduce-add. -/

namespace Sys2Proof.Machine

/-! ## Addresses (R170, R171) -/

/-- Logical tile window t begins at 0xF100_0000_0000 + t × 2²⁴. -/
def logicalBase : Nat := 0xF10000000000

/-- The physical tile whose SRAM holds a logical tile's bytes now: during a substitution the retired one, until its whole
SRAM has been copied (R132). -/
def Body.dataTile (b : Body) (t : Nat) : Option Nat :=
  match b.cont.substs.find? (fun s => s.logical == t) with
  | some s => some s.old
  | none => b.physOf t

/-- A range in LPDDR or in a logical tile window, as the local address of its first byte in LPDDR or in the physical window. -/
def Body.resolveBase (b : Body) (a n : Nat) : Option Nat :=
  if a + n ≤ lpddrEnd then some a
  else
    let t := (a - logicalBase) / 2 ^ 24
    if logicalBase ≤ a ∧ t < 64 ∧ a % 2 ^ 24 + n ≤ sramSize then (b.dataTile t).map (fun nn => sramBase nn + a % 2 ^ 24)
    else none

/-- An address in the platform window. -/
def isPlatform (a : Nat) : Bool := a / 2 ^ 40 = 0xE0

/-- The pair that a platform address names: base A, base B and size. -/
def Body.platformPair (b : Body) (a : Nat) : Option (Nat × Nat × Nat) :=
  match b.job.active with
  | none => none
  | some im => im.platforms[bits a 33 6]?

/-- A range of the local map that transfers may name (R170), resolved to where its bytes lie. -/
def Body.resolve (b : Body) (a n : Nat) : Option Nat :=
  if isPlatform a then
    match b.platformPair a with
    | none => none
    | some (ba, bb, size) =>
      let off := bits a 0 33
      if size = 0 ∨ size < off + n then none else b.resolveBase ((if bit a 39 then bb else ba) + off) n
  else b.resolveBase a n

/-- Row `d` bytes after a base of a transfer: a platform row keeps the base's pair, however far it lies from it (R171, R177). -/
def Body.resolveRow (b : Body) (a d n : Nat) : Option Nat :=
  if isPlatform a then
    match b.platformPair a with
    | none => none
    | some (ba, bb, size) =>
      let off := bits a 0 33 + d
      if size = 0 ∨ size < off + n then none else b.resolveBase ((if bit a 39 then bb else ba) + off) n
  else b.resolveBase (a + d) n

/-- The straits to the tile whose counter a write names are open (R24): the write's count crosses them. A logical tile that is
bound to none counts nothing, and one that is being substituted has its counts held (R185). -/
def Body.counterReachable (b : Body) (counter : Nat) : Bool :=
  let t := bits counter 6 6
  b.cont.substs.any (fun s => s.logical == t) || (match b.physOf t with
    | some nn => b.inService (iT nn) && b.inService (iJ (junctionOfTile nn))
    | none => true)

/-- The set of islands as a mask. -/
def islandMask (l : List Nat) : Nat := l.foldl (fun m i => m ||| 2 ^ i) 0

/-! ## The descriptor (R174 to R177) -/

/-- A descriptor's fields, its addresses after the slot base and the parities have been put in. -/
structure Descr where
  op : Nat
  cls : Nat
  doubled : Bool
  counter : Nat
  sent : Nat
  /-- Destination place; none for this module. -/
  place : Option Nat
  /-- Source slot and local address. -/
  srcSlot : Nat
  src : Nat
  dst : Nat
  len : Nat
  rows : Nat
  srcStride : Nat
  dstStride : Nat
  deriving DecidableEq, Repr

/-- The module's own tray slot. -/
def Body.ownSlot (b : Body) : Nat := b.place / 2 ^ 8 % 4

/-- The place of the board peer in a tray slot. -/
def Body.peerPlace (b : Body) (slot : Nat) : Nat := setBits b.place 8 2 slot

/-- Bit 39 of a platform address set to a parity. -/
def withParity (a par : Nat) : Nat := if isPlatform a then setBits a 39 1 par else a

/-- The descriptor of 64 bytes under slot base `q` (0 none), for the period of issue. -/
def Body.descr (b : Body) (nn q : Nat) (d : Bytes) : Descr :=
  let fl := le d 1 1
  let par := b.period % 2
  let base := if q = 0 then 0 else b.slotBase nn (q - 1)
  let srcF := le d 16 8
  let dstF := le d 24 8
  let src := if q ≠ 0 ∧ !bit fl 1 then (bits srcF 0 48 + base) % 2 ^ 48 else bits srcF 0 48
  let dst := if q ≠ 0 ∧ bit fl 1 then (bits dstF 0 48 + base) % 2 ^ 48 else bits dstF 0 48
  let ctr := le d 2 2
  let pl := le d 8 4
  let place :=
    if bit fl 3 then (if bits dstF 48 2 = b.ownSlot then none else some (b.peerPlace (bits dstF 48 2)))
    else if pl = 0 ∨ pl = b.place then none else some pl
  { op := le d 0 1 % 16, cls := le d 0 1 / 16, doubled := bit fl 0,
    counter := if bit fl 2 then setBits ctr 0 1 par else ctr, sent := le d 4 2, place := place,
    srcSlot := bits srcF 48 2, src := withParity src (1 - par), dst := withParity dst par, len := le d 32 4, rows := le d 36 4,
    srcStride := if le d 36 4 = 1 then 0 else le d 40 4, dstStride := if le d 36 4 = 1 then 0 else le d 44 4 }

/-- The kind 6 conditions of R177 on a descriptor. -/
def Body.descrIllegal (b : Body) (nn q : Nat) (d : Bytes) : Bool :=
  let x := b.descr nn q d
  let fl := le d 1 1
  let zeros_ (o n : Nat) : Bool := le d o n == 0
  let add := x.op = 1 || x.op = 2
  2 < x.op || x.cls = 0 || 3 < x.cls || 16 ≤ fl || !zeros_ 6 2 || !zeros_ 12 4 || le d 16 8 / 2 ^ 50 ≠ 0
    || le d 24 8 / 2 ^ (if bit fl 3 then 50 else 48) ≠ 0 || !zeros_ 48 16 || le d 2 2 / 2 ^ 12 ≠ 0
    || (x.sent ≠ 0xFFFF && 64 ≤ x.sent) || (!bit fl 3 && le d 8 4 % 256 ≠ 0)
    || (x.op = 0 && x.cls = 3) || (add && x.cls ≠ 3)
    || 16777216 < x.len || 65536 < x.rows || (1 < x.rows && x.dstStride < x.len)
    || (add && (x.len % 4 ≠ 0 || x.srcStride % 4 ≠ 0 || x.dstStride % 4 ≠ 0 || x.src % 4 ≠ 0 || x.dst % 4 ≠ 0))
    || (bit fl 2 && le d 2 2 % 2 = 1)

/-- The transfer moves no byte (R175). -/
def Descr.isZero (x : Descr) : Bool := x.len = 0 || x.rows = 0

/-- A range that the static map of R170 allows at a board peer. -/
def peerMapped (a n : Nat) : Bool :=
  a + n ≤ lpddrEnd || (logicalBase ≤ a && (a - logicalBase) / 2 ^ 24 < 64 && a % 2 ^ 24 + n ≤ sramSize)

/-- A destination in the issuing tile's own SRAM outside its data region (R117). -/
def ownForbidden (nn p n : Nat) : Bool :=
  match tileOfAddr p with
  | some (m, off) => m = nn && (off < 0x200000 || sramSize < off + n)
  | none => false

/-- The first address that breaks a kind 7 condition of R177. -/
def Body.descrAddress (b : Body) (nn q : Nat) (x : Descr) (slotDst : Bool) : Option Nat :=
  let badSrc (r : Nat) : Option Nat :=
    let d := r * x.srcStride
    let bad := if x.srcSlot = b.ownSlot then (b.resolveRow x.src d x.len).isNone else !peerMapped (x.src + d) x.len
    if bad then some (x.src + d) else none
  let badDst (r : Nat) : Option Nat :=
    let d := r * x.dstStride
    match b.resolveRow x.dst d x.len with
    | none => some (x.dst + d)
    | some p => if ownForbidden nn p x.len then some (x.dst + d) else none
  let rows := List.range x.rows
  if q ≠ 0 ∧ !b.baseOk nn (q - 1) then some (if slotDst then x.dst else x.src)
  else if x.isZero then none
  else if q ≠ 0 ∧ !slotDst ∧ x.srcSlot ≠ b.ownSlot then some x.src
  else
    match rows.findSome? badSrc with
    | some a => some a
    | none => if x.place.isNone then rows.findSome? badDst else none

/-- The kind that stops an `xfer` with slot `q` and the descriptor at SRAM offset `off` (R162, R177); 0 for none.  The rules give no
order among several conditions of one descriptor: the model takes kinds 6, 7 and then 5 (DESIGN CHOICE, log 33). -/
def Body.xferKind (b : Body) (nn q off : Nat) : Nat :=
  if q = 3 then 6
  else if off % 64 ≠ 0 ∨ sramSize < off + 64 then 7
  else
    let d := b.sram nn off 64
    if b.descrIllegal nn q d then 6
    else if (b.descrAddress nn q (b.descr nn q d) (bit (le d 1 1) 1)).isSome then 7
    else if 256 ≤ (b.tile nn).inFlight then 5
    else 0

/-! ## Issue (R178, R182) -/

/-- Writes are counted as fenced or voided at a junction in service. -/
def Body.countLost (b : Body) (n c : Nat) : Body :=
  match b.firstJunction with
  | some k => b.cons k n c
  | none => b

/-- A transfer enters flight with `n` writes. -/
def Body.startXfer (b : Body) (nn sent n : Nat) (path : List Nat) : Body :=
  let x : Xfer :=
    { id := b.nextXfer, tile := nn, logical := b.rd (R.T.TILE_STATUS.LOGICAL nn), sent := sent, left := n,
      period := b.period, path := islandMask ([iT nn, iJ (junctionOfTile nn)] ++ path) }
  ({ b with xfers := b.xfers ++ [x], nextXfer := b.nextXfer + 1 }).onTile nn
    (fun t => { t with inFlight := t.inFlight + 1 })

/-- The write of the transfer issued last, to an address with its data, in the period of issue and the job's slice. -/
def Body.writeOf (b : Body) (x : Descr) (addr : Nat) (data : Bytes) (zero : Bool) : Write :=
  { xfer := some (b.nextXfer - 1), source := b.place, counter := x.counter, addr := addr, op := x.op, cls := x.cls,
    period := b.period, data := data, zero := zero, seq := 0, doubled := x.doubled, link := 0,
    tag := (b.job.active.map (·.tag)).getD 0, epoch := (b.job.active.map (·.epoch)).getD 0 }

/-- A write of tile nn's transfer goes on its way: to this module, or as a packet; `last` marks the transfer's last write (R260).
A closed junction of the tile refuses it: it is counted as fenced, and the seal is void, with cause [6] (R24, R26; the cause is
DEDUCED, log 80). -/
def Body.launchWrite (b : Body) (nn : Nat) (w : Write) (place : Option Nat) (last : Bool) : Body :=
  let k := junctionOfTile nn
  if !b.inService (iJ k) then ((b.addCause 6).countLost 2 1).settleXfer w.xfer
  else match place with
  | none => { b with writes := b.writes ++ [w] }
  | some dest =>
    let p : Packet := { dest := dest, source := w.source, tag := w.tag, epoch := w.epoch, cls := w.cls,
                        flags := (if w.doubled then flDoubled else 0) + (if last then flLast else 0)
                          + (if w.cls = 2 then flUnplanned else 0),
                        defl := 0, seq := 0, counter := w.counter, addr := w.addr, period := w.period % 2 ^ 16, op := w.op,
                        payload := w.data }
    b.enqueue k { pkt := p, arrived := none, xfer := w.xfer, entry := (b.entryOf k w.tag).getD 64, period := w.period,
                  counted := false, margins := [], twin := false, order := 0 }

/-- One write of the transfer issued last goes on its way. -/
def Body.issueWrite (b : Body) (nn : Nat) (x : Descr) (addr : Nat) (data : Bytes) (zero last : Bool) : Body :=
  b.launchWrite nn (b.writeOf x addr data zero) x.place last

/-- The source of a write of tile nn's transfer is read and the write goes on its way: a lost unit voids it (R223), a closed island
on the way fences it (R181), and so does the tile's own junction, which leaves the seal void with cause [6] (R26, log 80). -/
def Body.readPiece (b : Body) (nn : Nat) (w : Write) (place : Option Nat) (last : Bool) (src n : Nat) : Body :=
  if !b.inService (iJ (junctionOfTile nn)) then ((b.addCause 6).countLost 2 1).settleXfer w.xfer
  else if !b.reachable src n then (b.countLost 2 1).settleXfer w.xfer
  else if src < lpddrEnd ∧ b.anyLost src n then
    ((((b.activateRange src n).lostAccess src n (iT nn * 64 + 1) 2 3).countLost 3 1).settleXfer w.xfer)
  else (b.activateRange src n).launchWrite nn { w with data := b.bytes src n } place last

/-- A request for a range of resolved addresses waits for its sub-channels (R221, R233). -/
def Body.waitsFor (b : Body) (p n : Nat) : Bool := decide (p < lpddrEnd) && b.memWaits p n

/-- A source read is made, or waits for its sub-channels. -/
def Body.askPiece (b : Body) (nn : Nat) (w : Write) (place : Option Nat) (last : Bool) (src n : Nat) : Body :=
  if b.inService (iJ (junctionOfTile nn)) && b.reachable src n && b.waitsFor src n then
    { b with reads := b.reads ++ [.piece w place last src n] }
  else b.readPiece nn w place last src n

/-- The pieces of a transfer: row, byte offset in the row and length (R182). -/
def Descr.pieces (x : Descr) : List (Nat × Nat × Nat) :=
  (List.range x.rows).flatMap (fun r =>
    (List.range (ceilDiv x.len 512)).map (fun i => (r, 512 * i, min 512 (x.len - 512 * i))))

/-- One piece of a transfer: its source is read, or waits to be. `peer` is what the board peer answered for the whole source, row
after row. -/
def Body.issuePiece (b : Body) (nn : Nat) (x : Descr) (peer : Option Bytes) (last : Bool)
    (piece : Nat × Nat × Nat) : Body :=
  let id := some (b.nextXfer - 1)
  let r := piece.1
  let off := piece.2.1
  let n := piece.2.2
  let dst := x.dst + r * x.dstStride + off
  let void (b : Body) : Body := (b.countLost 3 1).settleXfer id
  if x.srcSlot = b.ownSlot then
    match b.resolveRow x.src (r * x.srcStride + off) n with
    | none => void b
    | some p => b.askPiece nn (b.writeOf x dst [] false) x.place last p n
  else
    match peer with
    | none => void b
    | some bs => b.issueWrite nn x dst (slice bs (r * x.len + off) n) false last

/-- `xfer` with the descriptor at SRAM offset `off` takes effect. -/
def Body.issueXfer (b : Body) (nn q off : Nat) (peer : Option Bytes) : Body :=
  let x := b.descr nn q (b.sram nn off 64)
  let dstIslands := if x.place.isSome || x.isZero then []
    else (List.range x.rows).flatMap (fun r =>
      match b.resolveRow x.dst (r * x.dstStride) x.len with
      | some p => islandsOf p x.len
      | none => [])
  if x.isZero then (b.startXfer nn x.sent 1 dstIslands).issueWrite nn x x.dst [] true true
  else
    let b1 := b.startXfer nn x.sent x.pieces.length dstIslands
    let ps := x.pieces
    forEach ps (fun p t => t.issuePiece nn x peer (ps.getLast? == some p) p) b1

/-- `xsig` (R163): one zero-length write. -/
def Body.issueSignal (b : Body) (nn place counter cls : Nat) : Body :=
  let x : Descr := { op := 0, cls := cls, doubled := false, counter := counter, sent := 0xFFFF,
                     place := if place = 0 ∨ place = b.place then none else some place, srcSlot := 0, src := 0, dst := 0,
                     len := 0, rows := 0, srcStride := 0, dstStride := 0 }
  (b.startXfer nn 0xFFFF 1 []).issueWrite nn x 0 [] true true

/-- The kind that stops an `xsig`; 0 for none.  R163 is silent on RP beside a place address: nonzero reserved bits of the address
(R17) give kind 6, and RP's bits above 31 are part of the value and not ignored (DESIGN CHOICE, log 128). -/
def Body.xsigKind (b : Body) (nn place counter cls : Nat) : Nat :=
  if (cls ≠ 1 ∧ cls ≠ 2) ∨ counter % 2 ^ 16 / 2 ^ 12 ≠ 0 ∨ place % 256 ≠ 0 then 6
  else if 256 ≤ (b.tile nn).inFlight then 5
  else 0

/-! ## Acceptance (R183 to R186) -/

/-- The increment of a completion counter id (R185): held while the logical tile's substitution is in progress. -/
def Body.countAt (b : Body) (counter : Nat) : Body :=
  let t := bits counter 6 6
  let cc := counter % 64
  if b.cont.substs.any (fun s => s.logical == t) then
    { b with cont := { b.cont with substs := b.cont.substs.map (fun s =>
        if s.logical = t then { s with held := s.held ++ [(cc, 1)] } else s) } }
  else
    match b.physOf t with
    | some nn => b.bump nn cc 1
    | none => b

/-- The sums of a reduce-add: 4-byte elements of the destination and the source; bytes and flags (R186). -/
def reduceBytes (op : Nat) (dst src : Bytes) : Bytes × Nat :=
  (List.range (src.length / 4)).foldl (fun acc i =>
    let d := le dst (4 * i) 4
    let s := le src (4 * i) 4
    if op = 1 then
      let r := addB32 d s
      (acc.1 ++ leBytes 4 r.bits, acc.2 ||| r.flags)
    else (acc.1 ++ leBytes 4 (d + s), acc.2)) ([], 0)

/-- The bytes that a reduce-add finds at its destination: those of a lost unit are no data, and free values here (R186, R224; the
spec states no result, log 98). -/
def Body.oldBytes (b : Body) (p n : Nat) : Bytes × Body :=
  if decide (p < lpddrEnd) && b.anyLost p n then
    ((List.range n).map (fun i => if b.isLost (p + i) then (Config.freeValue 8 (b.free + i) : Byte) else b.byte (p + i)),
      { b with free := b.free + n })
  else (b.bytes p n, b)

/-- The tile whose transfer a write belongs to. -/
def Body.writerOf (b : Body) (w : Write) : Option Nat :=
  (w.xfer.bind (fun id => b.xfers.find? (fun x => x.id == id))).map (·.tile)

/-- The master of a write as records name it (R319): the move section of the tile, or the link island. -/
def Body.writeMaster (b : Body) (w : Write) (j : Nat) : Nat :=
  match b.writerOf w with
  | some nn => iT nn * 64 + 1
  | none => if w.xfer.isSome then iJ j * 64 else iL (w.link / 8) * 64

/-- The bytes of an accepted write reach their destination; a reduce-add over a whole lost unit replaces it (R224). -/
def Body.landBytes (b : Body) (w : Write) (p : Nat) : Body :=
  let mst := b.writeMaster w (junctionOf p)
  let req := if w.xfer.isSome then 2 else 10
  let lp := decide (p < lpddrEnd)
  if w.op = 0 then (if lp then b.writeUnits p w.data mst req else b.put p w.data)
  else
    let n := w.data.length
    let old := b.oldBytes p n
    let b0 := old.2
    let r := reduceBytes w.op old.1 w.data
    let b1 :=
      if lp then
        forEach (unitsOf p n) (fun u t =>
          let lo := max p u
          let hi := min (p + n) (u + 32)
          let new := (r.1.drop (lo - p)).take (hi - lo)
          if t.isLost u && decide (hi - lo < 32) then (if t.copyOnly u then t.put lo new else t).lostAccess lo (hi - lo) mst req 2
          else ((t.activateWrite u).unlose u).put lo new) b0
      else b0.put p r.1
    match b1.physOf (bits w.counter 6 6) with
    | some nn => b1.orFlags nn r.2
    | none => b1

/-- The address test 4 of R183: where an accepted write lands. -/
def Body.addressTest (b : Body) (w : Write) : Option Nat :=
  match b.resolve w.addr w.data.length with
  | none => none
  | some p =>
    let okTile := match tileOfAddr p with
      | some (_, off) => decide (0x200000 ≤ off)
      | none => true
    if !okTile || (w.op ≠ 0 && w.xfer.isNone && !isPlatform w.addr) then none else some p

/-- Counter 0x0FFE rises for data that landed in a half: the time of R348 runs from its first rise.  A buddy half that begins to
receive loses its mark first (R345); a harbour half receives only what `SN.LOAD_CTRL` has ordered (R354). -/
def Body.mirrorRise (b : Body) (w : Write) : Body :=
  match b.halfOf w.addr with
  | none => b
  | some (region, half) =>
    match b.snap.receive with
    | none =>
      if region = 0 then b
      else
        let b1 := (b.storeZeros (b.rd (R.SN.BUDDY_BASE.ADDR half) * 4096 + 4092) 4 (iSN * 64) 4).wr (R.SN.BUDDY_HALF.VALID half) 0
        { b1 with snap := { b1.snap with receive := some ⟨1, half, b1.ns 2, true, w.source⟩ } }
    | some r =>
      if r.risen then b else { b with snap := { b.snap with receive := some { r with at_ := b.ns 2, risen := true, source := w.source } } }

/-- The header fields of the packet that carried a write, as its return needs them (R276). -/
def Write.header (w : Write) (place : Nat) : Packet :=
  { dest := place, source := w.source, tag := w.tag, epoch := w.epoch, cls := w.cls, flags := 0, defl := 0,
    seq := w.seq, counter := w.counter, addr := w.addr, period := 0, op := w.op, payload := [] }

/-- A write is counted as accepted. -/
def Body.counted (b : Body) (w : Write) : Body :=
  let b0 := (b.countAt w.counter).settleXfer w.xfer
  let b1 := if w.counter = mirrorCounter && !w.zero then b0.mirrorRise w else b0
  if w.xfer.isSome then b1
  else
    let k := junctionOfLink w.link
    let key := (w.source, w.period * 4 + k)
    let acc := b1.job.acceptedFrom
    let acc' := match acc.find? (fun e => e.1 == key) with
      | some _ => acc.map (fun e => if e.1 = key then (e.1, e.2 + 1) else e)
      | none => acc ++ [(key, 1)]
    let b2 : Body := { b1 with job := { b1.job with acceptedFrom := acc' } }
    ((b2.cons k 0 1).fate k w.cls 1).owe (w.header b.place)

/-- A write that is refused at its destination is counted as fenced; a link's also leaves the balance (R278). -/
def Body.refuseWrite (b : Body) (w : Write) : Body :=
  let b1 := b.settleXfer w.xfer
  if w.xfer.isSome then b1.countLost 2 1
  else
    let k := junctionOfLink w.link
    ((b1.cons k 2 1).fate k w.cls 3).owe (w.header b.place)

/-- `TRANSFER_WRITE_ACCEPT` (R183, R184): the write at position `i` of those that wait.  A write to a sub-channel whose queue
holds requests waits on (R221, R233). -/
def transferWriteAccept (i : Nat) (b : Body) : Body :=
  match takeAt b.writes i with
  | none => b
  | some (w, rest) =>
    let b0 : Body := { b with writes := rest }
    if !(w.counter == mirrorCounter && (b.halfOf w.addr).isSome) && !b.counterReachable w.counter then b0.refuseWrite w
    else if w.zero then b0.counted w
    else
      match b.addressTest w with
      | none =>
        let k := match b.writerOf w with
          | some nn => junctionOfTile nn
          | none => if w.xfer.isSome then (b.firstJunction).getD 0 else junctionOfLink w.link
        ((b0.refuseWrite w).dropped k 8).raiseOcc
          { source := iJ k * 64 + 6, addr := w.addr, master := b.writeMaster w k, reqType := if w.xfer.isSome then 2 else 10,
            access := if w.xfer.isSome then 3 else 5 }
          (if w.xfer.isSome then 0 else portOfLink w.link)
      | some p =>
        if !b.crosses (b.writeMaster w (junctionOf p) / 64) p w.data.length then b0.refuseWrite w
        else if p < lpddrEnd ∧ b.memWaits p w.data.length then b
        else (b0.landBytes w p).counted w

/-- `TRANSFER_LEAVES_FLIGHT` (R178): its source has been read and every write accepted, transmitted or dropped. -/
def transferLeavesFlight (id : Nat) (b : Body) : Body :=
  match b.xfers.find? (fun x => x.id == id) with
  | none => b
  | some x =>
    if x.left ≠ 0 then b
    else
      let b1 := ({ b with xfers := b.xfers.filter (fun y => y.id != id) }).onTile x.tile
        (fun t => { t with inFlight := t.inFlight - 1 })
      if x.sent = 0xFFFF then b1 else b1.countAt (x.logical * 64 + x.sent)

/-- The transfer that a waiting source read belongs to. -/
def SourceRead.xfer : SourceRead → Option Nat
  | .piece w _ _ _ _ => w.xfer
  | .board _ _ _ => none

/-- Every transfer in flight through island `i` ends as its straits close (R181): writes not yet accepted or transmitted are
counted as fenced, and the sent counter does not increment. -/
def Body.fenceThrough (b : Body) (i : Nat) : Body :=
  let touches (w : Write) : Bool :=
    (w.counter != mirrorCounter && match b.physOf (bits w.counter 6 6) with
      | some nn => iT nn == i || iJ (junctionOfTile nn) == i
      | none => false)
    || (w.xfer.isNone && iJ (junctionOfLink w.link) == i)
    || (!w.zero && (match b.resolve w.addr w.data.length with
      | some p => (islandsOf p w.data.length).contains i
      | none => false))
  let reads (r : SourceRead) : Bool := match r with
    | .piece _ _ _ src n => (islandsOf src n).contains i
    | .board _ _ _ => false
  let dead := (b.xfers.filter (fun x => bit x.path i)).map (·.id) ++ (b.writes.filter touches).filterMap (·.xfer)
    ++ (b.reads.filter reads).filterMap SourceRead.xfer
  let isDead (x : Option Nat) : Bool := match x with | some id => dead.contains id | none => false
  let hits (w : Write) : Bool := isDead w.xfer || touches w
  let lostW := b.writes.filter hits
  let lostR := b.reads.filter (fun r => isDead r.xfer)
  let lostP := (List.range 4).foldl (fun n k =>
    n + ((b.jn k).local_.filter (fun w => isDead w.xfer)).length + ((b.jn k).transit.filter (fun w => isDead w.xfer)).length) 0
  let b1 := forEach [0, 1, 2, 3] (fun k t =>
    let j := t.jn k
    (t.setJn k { j with local_ := j.local_.filter (fun w => !isDead w.xfer) }).setTransit k
      (j.transit.filter (fun w => !isDead w.xfer))) b
  let b2 : Body := { b1 with writes := b1.writes.filter (fun w => !hits w), reads := b1.reads.filter (fun r => !isDead r.xfer) }
  let b3 := forEach (lostW.filter (fun w => w.xfer.isNone)) (fun w t => t.refuseWrite w) b2
  let own := (lostW.filter (fun w => w.xfer.isSome)).length + lostP + lostR.length
  let b4 := if own = 0 then b3 else b3.countLost 2 own
  let b5 := forEach (b4.xfers.filter (fun x => dead.contains x.id)) (fun x t =>
    t.onTile x.tile (fun u => { u with inFlight := u.inFlight - 1 })) b4
  { b5 with xfers := b5.xfers.filter (fun x => !dead.contains x.id) }

/-- A board peer reads `n` bytes at a local address of this module; the data goes back over the board links. A range that is not
mapped, or that a lost unit or a closed island makes unreadable, answers nothing. -/
def Body.boardRead (b : Body) (slot a n : Nat) : Body :=
  if slot = b.ownSlot ∨ !peerMapped a n then b.emit (.port "board read refused" [])
  else
    match b.resolve a n with
    | none => b.emit (.port "board read refused" [])
    | some p =>
      if !b.reachable p n then b.emit (.port "board read refused" [])
      else if b.waitsFor p n then { b with reads := b.reads ++ [.board slot a n] }
      else if p < lpddrEnd ∧ b.anyLost p n then
        ((b.activateRange p n).lostAccess p n (iJ (junctionOf p) * 64) 10 1).emit (.port "board read uncorrectable" [])
      else (b.activateRange p n).emit (.port "board read" (b.bytes p n))

/-- `BOARD_PEER_READ` (R172). -/
def boardPeerRead (slot a n : Nat) (b : Body) : Body := b.boardRead slot a n

/-- The source and board reads that waited are made in their order, as far as their sub-channels are ready (R221, R233). -/
def Body.serveSources (b : Body) : Body :=
  forEach b.reads (fun r t => match r with
    | .piece w place last src n => t.askPiece ((t.writerOf w).getD 0) w place last src n
    | .board slot a n => t.boardRead slot a n) { b with reads := [] }

/-! ## The meanings -/

def execTransferWriteAccept (i : Nat) (s : State) := run (transferWriteAccept i) s
def execTransferLeavesFlight (id : Nat) (s : State) := run (transferLeavesFlight id) s
def execBoardPeerRead (slot : Fin 4) (a : BitVec 48) (n : BitVec 25) (s : State) :=
  run (boardPeerRead slot.val a.toNat n.toNat) s

end Sys2Proof.Machine
end

