-- ==== Sys2Proof/Machine/TileIssue.lean ====
section
/-! DEFINITION. The issue of a bundle (spec/05_spaovoto_model.md R109 to R113, R120, R121; spec/06_spaovoto_reference.md R133 to
R168): what each slot reads and writes, the checks, the control section, and the step of a tile by one bundle. -/

namespace Sys2Proof.Machine

/-! ## Registers that a slot reads and writes -/

/-- Register files as `T.STOP_CAUSE.FILE` numbers them: 0 s, 1 v, 2 p, 3 a, 4 cc. s0 and p0 are no registers that can wait. -/
def regsOf (l : List (Nat × Nat)) : List (Nat × Nat) := l.filter (fun r => !((r.1 = 0 || r.1 = 2) && r.2 = 0))

/-- The registers that an instruction reads. -/
def SInstr.reads : SInstr → List (Nat × Nat)
  | .nop => []
  | .sr _ _ ra rb => regsOf [(0, ra.toNat), (0, rb.toNat)]
  | .si op _ ra _ => if op = .lui then [] else regsOf [(0, ra.toNat)]
  | .sx op rg _ => if op = .sget then [] else regsOf [(0, rg.toNat)]
  | .va op vd xa vb p _ rm =>
    let y := if op.unary then [] else [(1, vb.toNat)]
    let z := if op = .vfma ∨ op = .vfms then [(1, vd.toNat)] else []
    let g := if rm.toNat = 4 then [] else [(2, p.toNat)]
    regsOf ([(1, xa.toNat)] ++ y ++ z ++ g)
  | .vint _ _ xa vb p _ => regsOf [(1, xa.toNat), (1, vb.toNat), (2, p.toNat)]
  | .vdata op _ xa vb p _ =>
    match op with
    | .vsel => regsOf [(1, xa.toNat), (1, vb.toNat), (2, p.toNat)]
    | .vbc32 | .vbc64 => regsOf [(0, vb.toNat)]
    | .vrot => regsOf [(1, xa.toNat), (0, vb.toNat)]
    | .vperm => [(1, xa.toNat), (1, vb.toNat)]
    | .pk6 | .up6 => [(1, xa.toNat)]
  | .vk _ _ _ xa vb p _ _ => regsOf [(1, xa.toNat), (1, vb.toNat), (2, p.toNat)]
  | .vc dst vd xa src rm _ p =>
    let d := if regWidth dst.toNat < regWidth src.toNat then [(1, vd.toNat)] else []
    regsOf ([(1, xa.toNat)] ++ d ++ (if rm.toNat = 4 then [] else [(2, p.toNat)]))
  | .vp op _ pa pb =>
    match op with
    | .zeros | .ones => []
    | .not_ | .lowest => regsOf [(2, pa.toNat)]
    | _ => regsOf [(2, pa.toNat), (2, pb.toNat)]
  | .vq write vd acc _ => if write then [(1, vd.toNat)] else [(3, acc.toNat)]
  | .mx _ _ _ rr _ add at_ _ _ =>
    regsOf ((List.range 4).map (fun i => (0, rr.toNat + i))) ++ (if add = 1 then [(3, at_.toNat)] else [])
  | .mxz _ => []
  | .ml op rd ra _ _ _ => regsOf ((0, ra.toNat) :: (if op = 2 then [(0, rd.toNat)] else []))
  | .mv store vd ra _ p _ => regsOf ((0, ra.toNat) :: (if store then [(1, vd.toNat), (2, p.toNat)] else []))
  | .mp store pd ra _ _ _ => regsOf ((0, ra.toNat) :: (if store then [(2, pd.toNat)] else []))
  | .ma store acc _ _ _ rs _ _ _ => regsOf ((0, rs.toNat) :: (if store then [(3, acc.toNat)] else []))
  | .xfer ra _ _ => regsOf [(0, ra.toNat)]
  | .xsig rp rc _ => regsOf [(0, rp.toNat), (0, rc.toNat)]
  | .cb op ra _ => if op = .br ∨ op = .jal then [] else regsOf [(0, ra.toNat)]
  | .cbp _ pa _ => regsOf [(2, pa.toNat)]
  | .wait cc ra => regsOf [(4, cc.toNat), (0, ra.toNat)]
  | .waiti cc _ => [(4, cc.toNat)]
  | .arrive => []
  | .cn op cc rg => if op = 2 then [(4, cc.toNat)] else regsOf [(0, rg.toNat)]
  | .cg op rg _ rb _ => if op = 2 then regsOf [(0, rg.toNat), (0, rb.toNat)] else []

/-- The registers that an instruction writes, with the latency `occ` for an `mx`. -/
def SInstr.dests (occ : Nat) : SInstr → List (Nat × Nat × Nat)
  | .nop | .xfer _ _ _ | .xsig _ _ _ | .cbp _ _ _ | .wait _ _ | .waiti _ _ | .arrive => []
  | .sr op rd _ _ => [(0, rd.toNat, op.latency)]
  | .si _ rd _ _ => [(0, rd.toNat, 1)]
  | .sx op rg _ => if op = .sget then [(0, rg.toNat, 2)] else []
  | .va op vd _ _ _ fmt _ => [(1, vd.toNat, op.latency fmt.toNat)]
  | .vint op vd _ _ _ _ => [(1, vd.toNat, op.latency)]
  | .vdata op vd _ _ _ _ => [(1, vd.toNat, op.latency)]
  | .vk int _ pd _ _ _ _ _ => [(2, pd.toNat, if int then 2 else 3)]
  | .vc dst vd _ src _ _ _ => [(1, vd.toNat, if src.toNat = 2 ∨ dst.toNat = 2 then 5 else 4)]
  | .vp _ pd _ _ => [(2, pd.toNat, 1)]
  | .vq write vd acc _ => if write then [(3, acc.toNat, 4)] else [(1, vd.toNat, 4)]
  | .mx acc _ _ _ _ _ _ _ _ => [(3, acc.toNat, occ)]
  | .mxz acc => [(3, acc.toNat, 8)]
  | .ml op rd _ _ _ _ => if op = 2 then [] else [(0, rd.toNat, 4)]
  | .mv store vd _ _ _ _ => if store then [] else [(1, vd.toNat, 6)]
  | .mp store pd _ _ _ _ => if store then [] else [(2, pd.toNat, 4)]
  | .ma store acc _ _ _ _ _ _ _ => if store then [] else [(3, acc.toNat, 6)]
  | .cb op ra _ => if op = .jal ∨ op = .lp then [(0, ra.toNat, 1)] else []
  | .cn op cc rg => if op = 2 then [(0, rg.toNat, 2)] else [(4, cc.toNat, 1)]
  | .cg op rg _ _ _ =>
    if op = 0 then [(1, rg.toNat, 12)] else if op = 1 then [(0, rg.toNat, 6)] else if op = 3 then [(0, rg.toNat, 2)] else []

/-- The writes of an instruction that can wait: those to s0 and p0 are discarded (R114). -/
def SInstr.targets (occ : Nat) (i : SInstr) : List (Nat × Nat × Nat) :=
  (i.dests occ).filter (fun r => !((r.1 = 0 || r.1 = 2) && r.2.1 = 0))

/-- The register that a pending write goes to. -/
def TileWrite.target : TileWrite → Option (Nat × Nat)
  | .s i _ => some (0, i)
  | .v i _ _ => some (1, i)
  | .p i _ _ => some (2, i)
  | .a i _ => some (3, i)
  | .ccset c _ => some (4, c)
  | .ccadd c _ => some (4, c)
  | _ => none

/-- The latest cycle in which a pending write to a register completes. -/
def Tile.busyUntil (t : Tile) (r : Nat × Nat) : Option Nat :=
  t.pend.foldl (fun m w => if w.2.target = some r then some (max (m.getD 0) w.1) else m) none

/-! ## Operand checks (kinds 6, 7 and 5) -/

/-- The instruction is multiply-class (R143). -/
def SInstr.mulClass : SInstr → Bool
  | .va op _ _ _ _ _ _ => op.mulClass
  | .vint op _ _ _ _ _ => op = .vimul
  | _ => false

/-- A multiply-class binary64 instruction holds the multiplier for two cycles (R143). -/
def SInstr.mul64 : SInstr → Bool
  | .va op _ _ _ _ fmt _ => op.mulClass && fmt.toNat = 2
  | _ => false

/-- Bytes of tile SRAM that a move accesses (R160). -/
def SInstr.accessBytes : SInstr → Nat
  | .mv _ _ _ _ _ _ => 4096
  | .ma store _ _ fmt _ _ _ _ _ => maBytes store fmt.toNat
  | _ => 0

/-- The record registers' values of an `mx`. -/
def Tile.record (t : Tile) (rr : Nat) : List Nat := (List.range 4).map (fun i => t.getS (rr + i))

/-- Where a branch goes, if it is taken (R164, R165); `pc` is the branch bundle's own offset. -/
def SInstr.branch (t : Tile) (pc : Nat) : SInstr → Option Int
  | .cb op ra off =>
    let x := t.getS ra.toNat
    let tgt : Int := (pc : Int) + 32 * off.toInt
    match op with
    | .br | .jal => some tgt
    | .bz => if x = 0 then some tgt else none
    | .bnz => if x ≠ 0 then some tgt else none
    | .jr => some (x : Int)
    | .lp => if (x + 2 ^ 64 - 1) % 2 ^ 64 ≠ 0 then some tgt else none
  | .cbp noneSet pa off =>
    let x := t.getP pa.toNat
    if noneSet = decide (x = 0) then some ((pc : Int) + 32 * off.toInt) else none
  | _ => none

/-- A branch target is a bundle of the active code region. -/
def Body.targetOk (b : Body) (nn : Nat) (tgt : Int) : Bool := 0 ≤ tgt && b.codeAt nn tgt.toNat

/-- The kind 6, 7 or 5 that an instruction's operands raise; 0 for none.  R168 does not say that RB and SEL of `gdraw` and `gdraws`,
or RB of `gget`, must be 0: the model ignores them (DESIGN CHOICE, log 129). -/
def Body.operandKind (b : Body) (nn : Nat) (i : SInstr) : Nat :=
  let t := b.tile nn
  let pc := b.rd (R.T.PC.BUNDLE nn) * 32
  let bad (c : Bool) : Nat := if c then 6 else 0
  match i with
  | .nop | .arrive | .wait _ _ | .waiti _ _ | .cn _ _ _ | .vq _ _ _ _ | .mxz _ | .sr _ _ _ _ => 0
  | .si op _ ra imm =>
    bad (((op = .shli || op = .shri || op = .srai) && 64 ≤ imm.toNat) || (op = .lui && ra ≠ 0))
  | .sx op _ sel =>
    match op with
    | .sget => bad (!sgetSel sel.toNat)
    | .sput => bad (!sputSel sel.toNat)
    | .qadv => bad (1 < sel.toNat || !b.ptypeFlag 3)
  | .va op _ _ vb p fmt rm =>
    bad (2 < fmt.toNat || !op.rmOk rm.toNat || (op.unary && vb ≠ 0) || (op.short && fmt.toNat = 2)
      || (rm.toNat = 4 && 8 ≤ p.toNat))
  | .vint _ _ _ _ _ rm => bad (rm ≠ 0)
  | .vdata op _ _ vb p rm => bad (rm ≠ 0 || (op ≠ .vsel && p ≠ 0) || ((op = .pk6 || op = .up6) && vb ≠ 0))
  | .vk int half _ _ _ _ fmt cond =>
    if int then bad (fmt.toNat ≠ 0xC || half ≠ 0 || 5 < cond.toNat)
    else bad (2 < fmt.toNat || (half ≠ 0 && fmt.toNat ≠ 1))
  | .vc dst _ _ src rm part p =>
    let ws := regWidth src.toNat
    let wd := regWidth dst.toNat
    let ratio := max ws wd / min ws wd
    bad (0xC < src.toNat || !rmAllowed dst.toNat rm.toNat || (rm.toNat = 4 && 8 ≤ p.toNat) || 8 < ratio
      || ratio ≤ part.toNat)
  | .vp op _ pa pb =>
    match op with
    | .not_ | .lowest => bad (pb ≠ 0)
    | .zeros | .ones => bad (pa ≠ 0 || pb ≠ 0)
    | _ => 0
  | .mx _ fa fb rr bnd _ _ sa sb =>
    b.mxKind nn fa.toNat fb.toNat rr.toNat bnd.toNat (sa = 1) (sb = 1) (mxRec (t.record rr.toNat))
  | .ml op _ ra base w imm =>
    let n := 2 ^ w.toNat
    b.accessKind nn base.toNat (b.moveAddr nn ra.toNat base.toNat imm.toNat n) n n (op = 2)
  | .mv store _ ra base _ imm =>
    b.accessKind nn base.toNat (b.moveAddr nn ra.toNat base.toNat imm.toNat 32) 4096 32 store
  | .mp store _ ra base p imm =>
    if store && p ≠ 0 then 6
    else b.accessKind nn base.toNat (b.moveAddr nn ra.toNat base.toNat imm.toNat 32) 128 32 store
  | .ma store _ blk fmt rm rs sc str srci =>
    b.maKind nn store blk.toNat fmt.toNat rm.toNat rs.toNat sc.toNat str.toNat srci.toNat
  | .xfer ra q imm => b.xferKind nn q.toNat ((t.getS ra.toNat + imm.toNat * 64) % 2 ^ 64)
  | .xsig rp rc cls => b.xsigKind nn (t.getS rp.toNat) (t.getS rc.toNat) cls.toNat
  | .cb op ra off =>
    if (op = .br && ra ≠ 0) || (op = .jr && off ≠ 0) then 6
    else
      match i.branch t pc with
      | some tgt => if b.targetOk nn tgt then 0 else 7
      | none => 0
  | .cbp _ _ _ =>
    match i.branch t pc with
    | some tgt => if b.targetOk nn tgt then 0 else 7
    | none => 0
  | .cg op _ _ _ sel => bad ((op = 2 && 2 < sel.toNat) || (op = 3 && 5 < sel.toNat))

/-- The address involved in a kind 7 stop (R319), in the tile's physical window: what the instruction would access, the branch
target, or an address of the descriptor (DEDUCED, log 82). -/
def Body.faultAddr (b : Body) (nn : Nat) (i : SInstr) : Nat :=
  let t := b.tile nn
  let here (off : Nat) : Nat := (sramBase nn + off) % 2 ^ 64
  match i with
  | .mx _ fa fb rr _ _ _ sa sb => here ((mxRec (t.record rr.toNat)).beyond fa.toNat fb.toNat (sa = 1) (sb = 1))
  | .ml _ _ ra base w imm => here (b.moveAddr nn ra.toNat base.toNat imm.toNat (2 ^ w.toNat))
  | .mv _ _ ra base _ imm => here (b.moveAddr nn ra.toNat base.toNat imm.toNat 32)
  | .mp _ _ ra base _ imm => here (b.moveAddr nn ra.toNat base.toNat imm.toNat 32)
  | .ma store _ blk fmt _ rs sc _ _ => here (b.maBeyond nn store blk.toNat fmt.toNat rs.toNat sc.toNat)
  | .xfer ra q imm =>
    let off := (t.getS ra.toNat + imm.toNat * 64) % 2 ^ 64
    if off % 64 ≠ 0 ∨ sramSize < off + 64 then here off
    else
      let d := b.sram nn off 64
      (b.descrAddress nn q.toNat (b.descr nn q.toNat d) (bit (le d 1 1) 1)).getD 0
  | .cb _ _ _ | .cbp _ _ _ =>
    match i.branch t (b.rd (R.T.PC.BUNDLE nn) * 32) with
    | some x => unsigned ((sramBase nn : Int) + x) 64
    | none => 0
  | _ => 0

/-- An instruction issues a transfer. -/
def SInstr.transfers : SInstr → Bool
  | .xfer _ _ _ | .xsig _ _ _ => true
  | _ => false

/-! ## The checks of R113 -/

/-- A stop: kind, file and index. -/
abbrev StopKind := Nat × Nat × Nat

/-- The latency that kind 2 sees for an `mx`. -/
def Body.mxLatency (b : Body) (nn u : Nat) : SInstr → Nat
  | .mx _ fa fb rr _ _ _ _ _ =>
    let t := b.tile nn
    let d := ((mxClass fa.toNat fb.toNat).getD (0, 256, 128)).2.2
    mxOccupancy d (mxRec (t.record rr.toNat)) (!t.arrayUsed || decide (t.arrayWork + 128 < u))
  | _ => 0

/-- The first condition of R113 that slot `i` of a bundle meets in cycle `u`: the array and the accumulators in use, then the
schedule of registers, then the operands. -/
def Body.slotStop (b : Body) (nn u : Nat) (slots : List (Nat × Option SInstr)) (slot : Nat) (ins : SInstr) : Option StopKind :=
  let t := b.tile nn
  let ws := ins.targets (b.mxLatency nn u ins)
  let others := slots.filterMap (fun s => match s.2 with
    | some x => if s.1 = slot then none else some (x.targets (b.mxLatency nn u x))
    | none => none)
  let accUse := (ins.reads ++ ws.map (fun w => (w.1, w.2.1))).find? (fun r =>
    r.1 == 3 && t.accBusy.any (fun x => x.1 == r.2 && decide (u < x.2)))
  let early := ins.reads.find? (fun r => (t.busyUntil r).isSome)
  let order := ws.find? (fun w =>
    (match t.busyUntil (w.1, w.2.1) with | some d => decide (u + w.2.2 ≤ d) | none => false)
      || others.any (fun o => o.any (fun x => x.1 == w.1 && x.2.1 == w.2.1 && decide (w.2.2 ≤ x.2.2))))
  let big := 4096 ≤ ins.accessBytes && slots.any (fun s => s.1 < slot && (match s.2 with
    | some x => decide (4096 ≤ x.accessBytes)
    | none => false))
  if slot = 4 ∧ ins ≠ .nop ∧ u < t.arrayEnd then some (3, 0, 0)
  else if slot ≠ 4 ∧ accUse.isSome then some (4, 3, (accUse.getD (0, 0)).2)
  else
    match early with
    | some r => some (1, r.1, r.2)
    | none =>
      match order with
      | some w => some (2, w.1, w.2.1)
      | none =>
        if ins.mulClass && (slot = 3 || t.mul64 == some (u - 1) && u != 0) then some (6, 0, 0)
        else if big then some (6, 0, 0)
        else
          let k := b.operandKind nn ins
          let earlier := (slots.filter (fun s => s.1 < slot && (match s.2 with | some x => x.transfers | none => false))).length
          if k ≠ 0 then some (k, 0, 0)
          else if ins.transfers && 256 ≤ t.inFlight + earlier then some (5, 0, 0)
          else none

/-- The first offending slot of a bundle, with its condition. -/
def Body.bundleStop (b : Body) (nn u : Nat) (slots : List (Nat × Option SInstr)) : Option (Nat × StopKind) :=
  slots.findSome? (fun s =>
    match s.2 with
    | none => some (s.1, (6, 0, 0))
    | some ins => (b.slotStop nn u slots s.1 ins).map (fun k => (s.1, k)))

/-! ## Execution -/

/-- The control instructions that write registers (R164, R167, R168). -/
def Body.execControl (b : Body) (nn : Nat) (i : SInstr) (draw : Nat → Nat → Nat) : SlotOut :=
  let t := b.tile nn
  let pc := b.rd (R.T.PC.BUNDLE nn) * 32
  match i with
  | .cb op ra _ =>
    match op with
    | .jal => outs [(1, .s ra.toNat (pc + 32))]
    | .lp => outs [(1, .s ra.toNat ((t.getS ra.toNat + 2 ^ 64 - 1) % 2 ^ 64))]
    | _ => outs []
  | .cn op cc rg =>
    let v := t.getS rg.toNat % 2 ^ 32
    if op = 0 then outs [(1, .ccset cc.toNat v)]
    else if op = 1 then outs [(1, .ccadd cc.toNat v)]
    else outs [(2, .s rg.toNat (t.getCC cc.toNat))]
  | .cg op rg g rb sel =>
    let gg := g.toNat
    let v := t.getS rg.toNat + t.getS rb.toNat * 2 ^ 64
    let pair_ (lo hi : Field) : List (Nat × TileWrite) := [(1, .reg lo.key 0 64 v), (1, .reg hi.key 0 64 (v / 2 ^ 64))]
    if op = 0 then
      { writes := [(12, .v rg.toNat (packElems 32 ((List.range 1024).map (fun l => draw gg l))) allLanes)], draw := some (gg, 256) }
    else if op = 1 then { writes := [(6, .s rg.toNat (draw gg 0 + draw gg 1 * 2 ^ 32))], draw := some (gg, 1) }
    else if op = 2 then
      outs (if sel.toNat = 0 then pair_ (R.T.GEN_KEY_LO.KEY nn gg) (R.T.GEN_KEY_HI.KEY nn gg)
        else if sel.toNat = 1 then pair_ (R.T.GEN_CTR_LO.CTR nn gg) (R.T.GEN_CTR_HI.CTR nn gg)
        else pair_ (R.T.GEN_ANCHOR_LO.ANCHOR nn gg) (R.T.GEN_ANCHOR_HI.ANCHOR nn gg))
    else
      let x := if sel.toNat / 2 = 0 then b.genKey nn gg else if sel.toNat / 2 = 1 then b.genCtr nn gg else b.genAnchor nn gg
      outs [(2, .s rg.toNat (if sel.toNat % 2 = 0 then x % 2 ^ 64 else x / 2 ^ 64))]
  | _ => outs []

/-- What a slot writes and draws at its issue in cycle `u`, but for the matrix section. -/
def Body.execSlot (b : Body) (nn u : Nat) (i : SInstr) (draw : Nat → Nat → Nat) : SlotOut :=
  let t := b.tile nn
  match i with
  | .sr op rd ra rb => execSr t op rd.toNat ra.toNat rb.toNat
  | .si op rd ra imm => execSi t op rd.toNat ra.toNat imm.toNat
  | .sx op rg sel => execSx b nn u op rg.toNat sel.toNat
  | .va op vd va vb p fmt rm => execVa t op vd.toNat va.toNat vb.toNat p.toNat fmt.toNat rm.toNat draw
  | .vint op vd va vb p _ => execVint t op vd.toNat va.toNat vb.toNat p.toNat
  | .vdata op vd va vb p _ => execVdata t op vd.toNat va.toNat vb.toNat p.toNat
  | .vk int half pd va vb p fmt cond =>
    execVk t int half.toNat pd.toNat va.toNat vb.toNat p.toNat fmt.toNat cond.toNat
  | .vc dst vd va src rm part p => execVc t dst.toNat vd.toNat va.toNat src.toNat rm.toNat part.toNat p.toNat draw
  | .vp op pd pa pb => execVp t op pd.toNat pa.toNat pb.toNat
  | .vq write vd acc blk => execVq t write vd.toNat acc.toNat blk.toNat
  | .mxz acc => execMxzOut acc.toNat
  | .ml op rd ra base w imm => b.execMl nn op.val rd.toNat ra.toNat base.toNat w.toNat imm.toNat
  | .mv store vd ra base p imm => b.execMv nn store vd.toNat ra.toNat base.toNat p.toNat imm.toNat
  | .mp store pd ra base _ imm => b.execMp nn store pd.toNat ra.toNat base.toNat imm.toNat
  | .ma store acc blk fmt rm rs sc str srci =>
    b.execMa nn store acc.toNat blk.toNat fmt.toNat rm.toNat rs.toNat sc.toNat str.toNat srci.toNat draw
  | .cb _ _ _ | .cn _ _ _ | .cg _ _ _ _ _ => b.execControl nn i draw
  | .nop | .mx _ _ _ _ _ _ _ _ _ | .xfer _ _ _ | .xsig _ _ _ | .cbp _ _ _ | .wait _ _ | .waiti _ _ | .arrive => outs []

/-- Writes join the tile's pending ones. -/
def Body.pendWrites (b : Body) (nn u : Nat) (ws : List (Nat × TileWrite)) : Body :=
  b.onTile nn (fun t => { t with pend := t.pend ++ ws.map (fun w => (u + w.1, w.2)) })

/-- Blocks that earlier slots of the bundle have taken from a stream (R137). -/
def takenOf (taken : List (Nat × Nat)) (g : Nat) : Nat :=
  taken.foldl (fun n x => if x.1 = g then n + x.2 else n) 0

/-- What happens outside the register files when a slot issues: a transfer, a signal, the array's use. -/
def Body.slotEffect (b : Body) (nn u : Nat) (faults : List ArrayFault) (peer : Option Bytes) (i : SInstr) : Body :=
  let t := b.tile nn
  match i with
  | .xfer ra q imm => b.issueXfer nn q.toNat ((t.getS ra.toNat + imm.toNat * 64) % 2 ^ 64) peer
  | .xsig rp rc cls => b.issueSignal nn (t.getS rp.toNat) (t.getS rc.toNat % 2 ^ 16) cls.toNat
  | .mx acc fa fb rr bnd add at_ sa sb =>
    let rec_ := t.record rr.toNat
    let r := b.runMx nn u (encodeSlot i) acc.toNat fa.toNat fb.toNat bnd.toNat (add = 1) at_.toNat (sa = 1) (sb = 1) rec_ faults
    (b.issueMx nn u r.2.1 r.2.2 (mxRec rec_).zero).pendWrites nn u r.1
  | .mxz acc => b.issueMxz nn u acc.toNat
  | .sx op rg sel => if op = .sput then b.sputRefused nn sel.toNat (t.getS rg.toNat) else b
  | _ => b

/-- The island's busy cycles of R384: the issue cycle, or the array's occupancy. -/
def Body.countBusy (b : Body) (nn u : Nat) (slots : List (Nat × Option SInstr)) : Body :=
  let t := b.tile nn
  let occ := slots.foldl (fun n s => match s.2 with
    | some (.mxz _) => n + 8
    | some i => n + b.mxLatency nn u i
    | none => n) 0
  b.add (R.PV.ISL_BUSY.COUNT (iT nn)) (if occ ≠ 0 then occ else if u < t.arrayEnd then 0 else 1)

/-- Where the sequencer goes after a bundle that issued in cycle `u` (R120, R121, R165, R166). -/
def Body.afterIssue (b : Body) (nn u : Nat) (before : Tile) (slots : List (Nat × Option SInstr)) : Body :=
  let pc := b.rd (R.T.PC.BUNDLE nn) * 32
  let ctl := slots.findSome? (fun s => if s.1 = 7 then s.2 else none)
  let tgt := match ctl with
    | some i => i.branch before pc
    | none => none
  let next := match tgt with
    | some x => x.toNat
    | none => pc + 32
  let b1 := (b.wr (R.T.PC.BUNDLE nn) (next / 32)).onTile nn (fun t =>
    { t with nextIssue := if tgt.isSome then u + 2 else u + 1, offEnd := decide (0x100000 ≤ next),
             mul64 := if slots.any (fun s => match s.2 with | some i => i.mul64 | none => false) then some u else t.mul64 })
  let unsatisfied (cc v : Nat) : Bool := decide (before.getCC cc < v)
  match ctl with
  | some .arrive =>
    b1.onTile nn (fun t => { t with arriving := some (t.pend.foldl (fun m w => max m w.1) (max u t.arrayEnd)) })
  | some (.wait cc ra) =>
    let v := before.getS ra.toNat % 2 ^ 32
    if unsatisfied cc.toNat v then (b1.onTile nn (fun t => { t with waiting := some (cc.toNat, v) })).setTileState nn 3 else b1
  | some (.waiti cc imm) =>
    if unsatisfied cc.toNat imm.toNat then
      (b1.onTile nn (fun t => { t with waiting := some (cc.toNat, imm.toNat) })).setTileState nn 3
    else b1
  | _ => b1

/-- A store as slot M1 makes it (R160). -/
def TileWrite.fromM1 : TileWrite → TileWrite
  | .store off data => .storeM1 off data
  | w => w

/-- What the slots of a bundle write and draw: all read the state as it stands, and draw in slot order (R111, R137). -/
def Body.slotResults (b : Body) (nn u : Nat) : List (Nat × Option SInstr) → List (Nat × TileWrite) → List (Nat × Nat) →
    List (Nat × TileWrite) × List (Nat × Nat)
  | [], ws, taken => (ws, taken)
  | (_, none) :: rest, ws, taken => b.slotResults nn u rest ws taken
  | (slot, some i) :: rest, ws, taken =>
    let o := b.execSlot nn u i (fun g e => drawAt (b.genKey nn g) (b.genCtr nn g + takenOf taken g) e)
    b.slotResults nn u rest (ws ++ (if slot = 6 then o.writes.map (fun w => (w.1, w.2.fromM1)) else o.writes)) (taken ++ o.draw.toList)

/-- The counters of the eight streams move on by the blocks that a bundle took (R137). -/
def Body.advanceStreams (b : Body) (nn : Nat) (taken : List (Nat × Nat)) : Body :=
  forEach (List.range 8) (fun g t =>
    let n := takenOf taken g
    if n = 0 then t else t.setGenCtr nn g ((t.genCtr nn g + n) % 2 ^ 128)) b

/-- The slots of a bundle issue in cycle `u`. -/
def Body.issueSlots (b : Body) (nn u : Nat) (faults : List ArrayFault) (peers : List (Option Bytes))
    (slots : List (Nat × Option SInstr)) : Body :=
  let r := b.slotResults nn u slots [] []
  let b3 := ((b.countBusy nn u slots).advanceStreams nn r.2).pendWrites nn u r.1
  let b4 := forEach slots (fun s t =>
    match s.2 with
    | some i => t.slotEffect nn u faults (((if s.1 = 6 ∧ peers.length = 2 then peers[1]? else peers[0]?).getD none)) i
    | none => t) b3
  b4.afterIssue nn u (b.tile nn) slots

/-- The tile may issue: in service, running, entered, its next cycle not barred by a wait, an `arrive` or a stop. -/
def Body.mayIssue (b : Body) (nn : Nat) : Bool :=
  let t := b.tile nn
  b.inService (iT nn) && b.jobRuns && t.entered && b.tileState nn = 1 && t.waiting.isNone && t.arriving.isNone && !t.out
    && !t.recovering && !t.wasReset

/-- One bundle with the given slots issues, or stops the tile (R113). -/
def Body.issueBundle (b : Body) (nn : Nat) (faults : List ArrayFault) (peers : List (Option Bytes))
    (slots : List (Nat × Option SInstr)) : Body :=
  if !b.mayIssue nn then b
  else
    let t := b.tile nn
    let u := max t.cycle t.nextIssue
    let b1 := b.commitTo nn u
    match b1.bundleStop nn u slots with
    | some (slot, kind, file, index) =>
      let ins := (slots.find? (fun s => s.1 == slot)).bind (·.2)
      let access := match ins with
        | some (.xfer _ _ _) => 3
        | some (.ml op _ _ _ _ _) => if op = 2 then 2 else 1
        | some (.mv st _ _ _ _ _) => if st then 2 else 1
        | some (.mp st _ _ _ _ _) => if st then 2 else 1
        | some (.ma st _ _ _ _ _ _ _ _) => if st then 2 else 1
        | some (.mx _ _ _ _ _ _ _ _ _) => 1
        | _ => 4
      b1.stopTile nn kind slot file index (if kind = 7 then (ins.map (b1.faultAddr nn)).getD 0 else 0)
        (if kind = 7 then access else 0)
    | none => b1.issueSlots nn u faults peers slots

/-- The slots of 32 bundle bytes (R109). -/
def bundleSlots (bs : Bytes) : List (Nat × Option SInstr) :=
  (List.range 8).map (fun i => (i, decodeSlot (slotSection i) (le bs (4 * i) 4)))

/-- `BUNDLE_ISSUE` (R110): the tile fetches the bundle at `T.PC` and issues it; a fetch outside the active code region is an
address fault (R117). -/
def bundleIssue (nn : Nat) (faults : List ArrayFault) (peers : List (Option Bytes)) (b : Body) : Body :=
  if !b.mayIssue nn then b
  else
    let pc := b.rd (R.T.PC.BUNDLE nn) * 32
    let t := b.tile nn
    if t.offEnd || !b.codeAt nn pc then
      (b.commitTo nn (max t.cycle t.nextIssue)).stopTile nn 7 0 0 0 (sramBase nn + (if t.offEnd then 0x100000 else pc)) 4
    else b.issueBundle nn faults peers (bundleSlots (b.sram nn pc 32))

/-- One instruction in a bundle of no-ops: it stands in the first slot of its section. -/
def SInstr.slot (i : SInstr) : Nat :=
  match i.section_ with
  | .scalar => 0
  | .vector => 2
  | .matrix => 4
  | .move => 5
  | .control => 7

/-- A tile issues a bundle that holds one instruction. -/
def issueOne (nn : Nat) (i : SInstr) (b : Body) : Body := b.issueBundle nn [] [] [(i.slot, some i)]

/-- A tile issues an `mx` under the given faults of its array. -/
def issueMxOne (nn : Nat) (faults : List ArrayFault) (i : SInstr) (b : Body) : Body :=
  b.issueBundle nn faults [] [(4, some i)]

/-- A tile issues an `xfer` whose descriptor has the given OP; an `xfer` of another OP is another command's. Reserved values
of OP belong to the copy's. -/
def issueXferOne (nn : Nat) (op : Nat) (ra : BitVec 5) (q : BitVec 2) (imm : BitVec 16) (peer : Option Bytes) (b : Body) : Body :=
  let c := b.commitTo nn (max (b.tile nn).cycle (b.tile nn).nextIssue)
  let off := ((c.tile nn).getS ra.toNat + imm.toNat * 64) % 2 ^ 64
  let o := le (c.sram nn off 1) 0 1 % 16
  if o = op ∨ (op = 0 ∧ 2 < o) then b.issueBundle nn [] [peer] [(5, some (.xfer ra q imm))] else b

/-! ## Waiting and arrival (R120, R121, R166) -/

/-- `WAIT_SATISFIED` (R166): after `n` further cycles the counter has reached the value; the next bundle issues one cycle
later. -/
def waitSatisfied (nn n : Nat) (b : Body) : Body :=
  let t := b.tile nn
  match t.waiting with
  | none => b
  | some (cc, v) =>
    let u := (t.nextIssue - 1) + n
    let b1 := b.commitTo nn (max t.cycle u)
    if v ≤ (b1.tile nn).getCC cc then
      ((b1.onTile nn (fun t => { t with waiting := none, nextIssue := u + 1 })).setTileState nn 1).add
        (R.PV.ISL_STALL.COUNT (iT nn)) n
    else b

/-- `ARRIVAL` (R121): every write of the bundles issued has landed and the array is free. -/
def arrival (nn : Nat) (b : Body) : Body :=
  match (b.tile nn).arriving with
  | none => b
  | some c =>
    let b1 := (b.commitTo nn c).onTile nn (fun t => { t with arriving := none })
    ((b1.wr (R.T.LAST_ARRIVE.CYCLES nn) (min c (2 ^ 31 - 1))).wr (R.T.LAST_ARRIVE.LATE nn) 0).setTileState nn 2

/-- `MX_RELEASE` (R102, R321): a write of `T.MX_RELEASE`, honoured from MG and CT only. -/
def Body.releaseCapture (b : Body) (nn : Nat) : Body :=
  let b1 := (((b.setReg (R.T.MX_CAPTURE.OP nn).key 0).wr (R.T.MX_CAPTURE_PERIOD.PERIOD nn) 0).wr
    (R.T.MX_CAPTURE_PC.BUNDLE nn) 0).wr (R.T.MX_STATUS.CAPTURE_VALID nn) 0
  (b1.wr (R.T.MX_STATUS.MERGED nn) 0).onTile nn (fun t => { t with captureOwned := false })

def mxRelease (m : Master) (nn : Nat) (b : Body) : Body :=
  if !b.inService (iT nn) then b.cfgEvent m (iT nn) 0x2004 1 3
  else if m ≠ .mg ∧ m ≠ .ct then b.cfgEvent m (iT nn) 0x2004 1 2
  else b.releaseCapture nn

end Sys2Proof.Machine
end

