-- ==== Sys2Proof/Machine/TileRows.lean ====
section
/-! DEFINITION. The meanings of the instructions of a tile (spec/06_spaovoto_reference.md): each command is one tile issuing a
bundle that holds the one instruction, with no-ops in the other slots (R109, R110). -/

namespace Sys2Proof.Machine

/-- `ADD` (R138): Scalar add of RA and RB into RD. -/
def execAdd (t : Fin 68) (rd ra rb : BitVec 5) (s : State) :
    Host.Outcome State Fault Refusal :=
  run (issueOne t (.sr .add rd ra rb)) s

/-- `SUB` (R138): Scalar subtract of RB from RA into RD. -/
def execSub (t : Fin 68) (rd ra rb : BitVec 5) (s : State) :
    Host.Outcome State Fault Refusal :=
  run (issueOne t (.sr .sub rd ra rb)) s

/-- `AND` (R138): Scalar bitwise AND. -/
def execAnd (t : Fin 68) (rd ra rb : BitVec 5) (s : State) :
    Host.Outcome State Fault Refusal :=
  run (issueOne t (.sr .and_ rd ra rb)) s

/-- `OR` (R138): Scalar bitwise OR. -/
def execOr (t : Fin 68) (rd ra rb : BitVec 5) (s : State) :
    Host.Outcome State Fault Refusal :=
  run (issueOne t (.sr .or_ rd ra rb)) s

/-- `XOR` (R138): Scalar bitwise XOR. -/
def execXor (t : Fin 68) (rd ra rb : BitVec 5) (s : State) :
    Host.Outcome State Fault Refusal :=
  run (issueOne t (.sr .xor rd ra rb)) s

/-- `SHL` (R138): Scalar shift left by RB modulo 64. -/
def execShl (t : Fin 68) (rd ra rb : BitVec 5) (s : State) :
    Host.Outcome State Fault Refusal :=
  run (issueOne t (.sr .shl rd ra rb)) s

/-- `SHR` (R138): Scalar logical shift right. -/
def execShr (t : Fin 68) (rd ra rb : BitVec 5) (s : State) :
    Host.Outcome State Fault Refusal :=
  run (issueOne t (.sr .shr rd ra rb)) s

/-- `SRA` (R138): Scalar arithmetic shift right. -/
def execSra (t : Fin 68) (rd ra rb : BitVec 5) (s : State) :
    Host.Outcome State Fault Refusal :=
  run (issueOne t (.sr .sra rd ra rb)) s

/-- `SLT` (R138): Scalar signed less-than compare. -/
def execSlt (t : Fin 68) (rd ra rb : BitVec 5) (s : State) :
    Host.Outcome State Fault Refusal :=
  run (issueOne t (.sr .slt rd ra rb)) s

/-- `SLTU` (R138): Scalar unsigned less-than compare. -/
def execSltu (t : Fin 68) (rd ra rb : BitVec 5) (s : State) :
    Host.Outcome State Fault Refusal :=
  run (issueOne t (.sr .sltu rd ra rb)) s

/-- `SEQ` (R138): Scalar equality compare. -/
def execSeq (t : Fin 68) (rd ra rb : BitVec 5) (s : State) :
    Host.Outcome State Fault Refusal :=
  run (issueOne t (.sr .seq rd ra rb)) s

/-- `MIN` (R138): Scalar signed minimum. -/
def execMin (t : Fin 68) (rd ra rb : BitVec 5) (s : State) :
    Host.Outcome State Fault Refusal :=
  run (issueOne t (.sr .min_ rd ra rb)) s

/-- `MAX` (R138): Scalar signed maximum. -/
def execMax (t : Fin 68) (rd ra rb : BitVec 5) (s : State) :
    Host.Outcome State Fault Refusal :=
  run (issueOne t (.sr .max_ rd ra rb)) s

/-- `MINU` (R138): Scalar unsigned minimum. -/
def execMinu (t : Fin 68) (rd ra rb : BitVec 5) (s : State) :
    Host.Outcome State Fault Refusal :=
  run (issueOne t (.sr .minu rd ra rb)) s

/-- `MAXU` (R138): Scalar unsigned maximum. -/
def execMaxu (t : Fin 68) (rd ra rb : BitVec 5) (s : State) :
    Host.Outcome State Fault Refusal :=
  run (issueOne t (.sr .maxu rd ra rb)) s

/-- `MUL` (R138): Scalar low 64-bit product. -/
def execMul (t : Fin 68) (rd ra rb : BitVec 5) (s : State) :
    Host.Outcome State Fault Refusal :=
  run (issueOne t (.sr .mul rd ra rb)) s

/-- `MULH` (R138): Scalar high 64 bits of the signed product. -/
def execMulh (t : Fin 68) (rd ra rb : BitVec 5) (s : State) :
    Host.Outcome State Fault Refusal :=
  run (issueOne t (.sr .mulh rd ra rb)) s

/-- `MULHU` (R138): Scalar high 64 bits of the unsigned product. -/
def execMulhu (t : Fin 68) (rd ra rb : BitVec 5) (s : State) :
    Host.Outcome State Fault Refusal :=
  run (issueOne t (.sr .mulhu rd ra rb)) s

/-- `DIV` (R139): Scalar signed division rounded toward zero, with the defined results for zero divisors and overflow.
-/
def execDiv (t : Fin 68) (rd ra rb : BitVec 5) (s : State) :
    Host.Outcome State Fault Refusal :=
  run (issueOne t (.sr .div rd ra rb)) s

/-- `DIVU` (R139): Scalar unsigned division. -/
def execDivu (t : Fin 68) (rd ra rb : BitVec 5) (s : State) :
    Host.Outcome State Fault Refusal :=
  run (issueOne t (.sr .divu rd ra rb)) s

/-- `REM` (R139): Scalar signed remainder with the sign of RA. -/
def execRem (t : Fin 68) (rd ra rb : BitVec 5) (s : State) :
    Host.Outcome State Fault Refusal :=
  run (issueOne t (.sr .rem_ rd ra rb)) s

/-- `REMU` (R139): Scalar unsigned remainder. -/
def execRemu (t : Fin 68) (rd ra rb : BitVec 5) (s : State) :
    Host.Outcome State Fault Refusal :=
  run (issueOne t (.sr .remu rd ra rb)) s

/-- `ADDI` (R138): Scalar add of a sign-extended immediate. -/
def execAddi (t : Fin 68) (rd ra : BitVec 5) (imm : BitVec 16) (s : State) :
    Host.Outcome State Fault Refusal :=
  run (issueOne t (.si .addi rd ra imm)) s

/-- `ANDI` (R138): Scalar AND with a zero-extended immediate. -/
def execAndi (t : Fin 68) (rd ra : BitVec 5) (imm : BitVec 16) (s : State) :
    Host.Outcome State Fault Refusal :=
  run (issueOne t (.si .andi rd ra imm)) s

/-- `ORI` (R138): Scalar OR with a zero-extended immediate. -/
def execOri (t : Fin 68) (rd ra : BitVec 5) (imm : BitVec 16) (s : State) :
    Host.Outcome State Fault Refusal :=
  run (issueOne t (.si .ori rd ra imm)) s

/-- `XORI` (R138): Scalar XOR with a zero-extended immediate. -/
def execXori (t : Fin 68) (rd ra : BitVec 5) (imm : BitVec 16) (s : State) :
    Host.Outcome State Fault Refusal :=
  run (issueOne t (.si .xori rd ra imm)) s

/-- `SHLI` (R138): Scalar shift left by an immediate. -/
def execShli (t : Fin 68) (rd ra : BitVec 5) (imm : BitVec 16) (s : State) :
    Host.Outcome State Fault Refusal :=
  run (issueOne t (.si .shli rd ra imm)) s

/-- `SHRI` (R138): Scalar logical shift right by an immediate. -/
def execShri (t : Fin 68) (rd ra : BitVec 5) (imm : BitVec 16) (s : State) :
    Host.Outcome State Fault Refusal :=
  run (issueOne t (.si .shri rd ra imm)) s

/-- `SRAI` (R138): Scalar arithmetic shift right by an immediate. -/
def execSrai (t : Fin 68) (rd ra : BitVec 5) (imm : BitVec 16) (s : State) :
    Host.Outcome State Fault Refusal :=
  run (issueOne t (.si .srai rd ra imm)) s

/-- `LUI` (R138): Scalar load of a sign-extended immediate shifted left by 16. -/
def execLui (t : Fin 68) (rd ra : BitVec 5) (imm : BitVec 16) (s : State) :
    Host.Outcome State Fault Refusal :=
  run (issueOne t (.si .lui rd ra imm)) s

/-- `SGET` (R140): Reads the tile state that SEL names into RG. -/
def execSget (t : Fin 68) (rg : BitVec 5) (sel : BitVec 8) (s : State) :
    Host.Outcome State Fault Refusal :=
  run (issueOne t (.sx .sget rg sel)) s

/-- `SPUT_FLAGS` (R140): sput with SEL 0x01 writes the sticky flags before the flags of the same cycle are ORed in. -/
def execSputFlags (t : Fin 68) (rg : BitVec 5) (s : State) :
    Host.Outcome State Fault Refusal :=
  run (issueOne t (.sx .sput rg 1)) s

/-- `SPUT_BOUNDS` (R140): sput writes a T.MX_BOUNDS_k register under its refusal rules. -/
def execSputBounds (t : Fin 68) (rg : BitVec 5) (k : BitVec 3) (s : State) :
    Host.Outcome State Fault Refusal :=
  run (issueOne t (.sx .sput rg (0x10#8 + k.setWidth 8))) s

/-- `SPUT_BOUNDS_CTRL` (R140): sput writes a T.MX_BOUNDS_CTRL_k register under its refusal rules. -/
def execSputBoundsCtrl (t : Fin 68) (rg : BitVec 5) (k : BitVec 3) (s : State) :
    Host.Outcome State Fault Refusal :=
  run (issueOne t (.sx .sput rg (0x18#8 + k.setWidth 8))) s

/-- `QADV` (R141): Adds RG to a sequence slot's position, raising kind 6 outside commit-gated periods. -/
def execQadv (t : Fin 68) (rg : BitVec 5) (sel : BitVec 8) (s : State) :
    Host.Outcome State Fault Refusal :=
  run (issueOne t (.sx .qadv rg sel)) s

/-- `VADD` (R144): Vector IEEE addition per element. -/
def execVadd (t : Fin 68) (vd va vb : BitVec 5) (p fmt : BitVec 4) (rm : BitVec 3) (s : State) :
    Host.Outcome State Fault Refusal :=
  run (issueOne t (.va .vadd vd va vb p fmt rm)) s

/-- `VSUB` (R144): Vector IEEE subtraction per element. -/
def execVsub (t : Fin 68) (vd va vb : BitVec 5) (p fmt : BitVec 4) (rm : BitVec 3) (s : State) :
    Host.Outcome State Fault Refusal :=
  run (issueOne t (.va .vsub vd va vb p fmt rm)) s

/-- `VMUL` (R144): Vector IEEE multiplication, multiply class. -/
def execVmul (t : Fin 68) (vd va vb : BitVec 5) (p fmt : BitVec 4) (rm : BitVec 3) (s : State) :
    Host.Outcome State Fault Refusal :=
  run (issueOne t (.va .vmul vd va vb p fmt rm)) s

/-- `VFMA` (R144): Vector fused multiply-add with one rounding. -/
def execVfma (t : Fin 68) (vd va vb : BitVec 5) (p fmt : BitVec 4) (rm : BitVec 3) (s : State) :
    Host.Outcome State Fault Refusal :=
  run (issueOne t (.va .vfma vd va vb p fmt rm)) s

/-- `VFMS` (R144): Vector fused multiply-subtract with one rounding. -/
def execVfms (t : Fin 68) (vd va vb : BitVec 5) (p fmt : BitVec 4) (rm : BitVec 3) (s : State) :
    Host.Outcome State Fault Refusal :=
  run (issueOne t (.va .vfms vd va vb p fmt rm)) s

/-- `VDIV` (R144): Vector IEEE division. -/
def execVdiv (t : Fin 68) (vd va vb : BitVec 5) (p fmt : BitVec 4) (rm : BitVec 3) (s : State) :
    Host.Outcome State Fault Refusal :=
  run (issueOne t (.va .vdiv vd va vb p fmt rm)) s

/-- `VSQRT` (R144): Vector IEEE square root. -/
def execVsqrt (t : Fin 68) (vd va vb : BitVec 5) (p fmt : BitVec 4) (rm : BitVec 3) (s : State) :
    Host.Outcome State Fault Refusal :=
  run (issueOne t (.va .vsqrt vd va vb p fmt rm)) s

/-- `VREM` (R144): Vector IEEE remainder, exact. -/
def execVrem (t : Fin 68) (vd va vb : BitVec 5) (p fmt : BitVec 4) (rm : BitVec 3) (s : State) :
    Host.Outcome State Fault Refusal :=
  run (issueOne t (.va .vrem vd va vb p fmt rm)) s

/-- `VMIN` (R144): Vector IEEE minimum. -/
def execVmin (t : Fin 68) (vd va vb : BitVec 5) (p fmt : BitVec 4) (rm : BitVec 3) (s : State) :
    Host.Outcome State Fault Refusal :=
  run (issueOne t (.va .vmin vd va vb p fmt rm)) s

/-- `VMAX` (R144): Vector IEEE maximum. -/
def execVmax (t : Fin 68) (vd va vb : BitVec 5) (p fmt : BitVec 4) (rm : BitVec 3) (s : State) :
    Host.Outcome State Fault Refusal :=
  run (issueOne t (.va .vmax vd va vb p fmt rm)) s

/-- `VMINN` (R144): Vector IEEE minimumNumber. -/
def execVminn (t : Fin 68) (vd va vb : BitVec 5) (p fmt : BitVec 4) (rm : BitVec 3) (s : State) :
    Host.Outcome State Fault Refusal :=
  run (issueOne t (.va .vminn vd va vb p fmt rm)) s

/-- `VMAXN` (R144): Vector IEEE maximumNumber. -/
def execVmaxn (t : Fin 68) (vd va vb : BitVec 5) (p fmt : BitVec 4) (rm : BitVec 3) (s : State) :
    Host.Outcome State Fault Refusal :=
  run (issueOne t (.va .vmaxn vd va vb p fmt rm)) s

/-- `VABS` (R144): Vector absolute value without flags. -/
def execVabs (t : Fin 68) (vd va vb : BitVec 5) (p fmt : BitVec 4) (rm : BitVec 3) (s : State) :
    Host.Outcome State Fault Refusal :=
  run (issueOne t (.va .vabs vd va vb p fmt rm)) s

/-- `VNEG` (R144): Vector negation without flags. -/
def execVneg (t : Fin 68) (vd va vb : BitVec 5) (p fmt : BitVec 4) (rm : BitVec 3) (s : State) :
    Host.Outcome State Fault Refusal :=
  run (issueOne t (.va .vneg vd va vb p fmt rm)) s

/-- `VCSGN` (R144): Vector copySign without flags. -/
def execVcsgn (t : Fin 68) (vd va vb : BitVec 5) (p fmt : BitVec 4) (rm : BitVec 3) (s : State) :
    Host.Outcome State Fault Refusal :=
  run (issueOne t (.va .vcsgn vd va vb p fmt rm)) s

/-- `VRINT` (R144): Vector roundToIntegral without inexact. -/
def execVrint (t : Fin 68) (vd va vb : BitVec 5) (p fmt : BitVec 4) (rm : BitVec 3) (s : State) :
    Host.Outcome State Fault Refusal :=
  run (issueOne t (.va .vrint vd va vb p fmt rm)) s

/-- `VRINTX` (R144): Vector roundToIntegralExact. -/
def execVrintx (t : Fin 68) (vd va vb : BitVec 5) (p fmt : BitVec 4) (rm : BitVec 3) (s : State) :
    Host.Outcome State Fault Refusal :=
  run (issueOne t (.va .vrintx vd va vb p fmt rm)) s

/-- `VSCALEB` (R144): Vector scaleB by a signed integer from VB. -/
def execVscaleb (t : Fin 68) (vd va vb : BitVec 5) (p fmt : BitVec 4) (rm : BitVec 3) (s : State) :
    Host.Outcome State Fault Refusal :=
  run (issueOne t (.va .vscaleb vd va vb p fmt rm)) s

/-- `VLOGB` (R144): Vector logB as a signed integer, with defined values and invalid for NaN, infinity and zero. -/
def execVlogb (t : Fin 68) (vd va vb : BitVec 5) (p fmt : BitVec 4) (rm : BitVec 3) (s : State) :
    Host.Outcome State Fault Refusal :=
  run (issueOne t (.va .vlogb vd va vb p fmt rm)) s

/-- `VCLASS` (R146): Vector class code per element. -/
def execVclass (t : Fin 68) (vd va vb : BitVec 5) (p fmt : BitVec 4) (rm : BitVec 3) (s : State) :
    Host.Outcome State Fault Refusal :=
  run (issueOne t (.va .vclass vd va vb p fmt rm)) s

/-- `VEXP2` (R147): Vector 2^x, correctly rounded. -/
def execVexp2 (t : Fin 68) (vd va vb : BitVec 5) (p fmt : BitVec 4) (rm : BitVec 3) (s : State) :
    Host.Outcome State Fault Refusal :=
  run (issueOne t (.va .vexp2 vd va vb p fmt rm)) s

/-- `VEXP` (R147): Vector e^x, correctly rounded. -/
def execVexp (t : Fin 68) (vd va vb : BitVec 5) (p fmt : BitVec 4) (rm : BitVec 3) (s : State) :
    Host.Outcome State Fault Refusal :=
  run (issueOne t (.va .vexp vd va vb p fmt rm)) s

/-- `VLOG2` (R147): Vector log2, correctly rounded. -/
def execVlog2 (t : Fin 68) (vd va vb : BitVec 5) (p fmt : BitVec 4) (rm : BitVec 3) (s : State) :
    Host.Outcome State Fault Refusal :=
  run (issueOne t (.va .vlog2 vd va vb p fmt rm)) s

/-- `VLOG` (R147): Vector natural logarithm, correctly rounded. -/
def execVlog (t : Fin 68) (vd va vb : BitVec 5) (p fmt : BitVec 4) (rm : BitVec 3) (s : State) :
    Host.Outcome State Fault Refusal :=
  run (issueOne t (.va .vlog vd va vb p fmt rm)) s

/-- `VSINPI` (R147): Vector sin(π x), correctly rounded. -/
def execVsinpi (t : Fin 68) (vd va vb : BitVec 5) (p fmt : BitVec 4) (rm : BitVec 3) (s : State) :
    Host.Outcome State Fault Refusal :=
  run (issueOne t (.va .vsinpi vd va vb p fmt rm)) s

/-- `VCOSPI` (R147): Vector cos(π x), correctly rounded. -/
def execVcospi (t : Fin 68) (vd va vb : BitVec 5) (p fmt : BitVec 4) (rm : BitVec 3) (s : State) :
    Host.Outcome State Fault Refusal :=
  run (issueOne t (.va .vcospi vd va vb p fmt rm)) s

/-- `VTANH` (R147): Vector tanh, correctly rounded. -/
def execVtanh (t : Fin 68) (vd va vb : BitVec 5) (p fmt : BitVec 4) (rm : BitVec 3) (s : State) :
    Host.Outcome State Fault Refusal :=
  run (issueOne t (.va .vtanh vd va vb p fmt rm)) s

/-- `VSIGM` (R147): Vector sigmoid with its defined special cases. -/
def execVsigm (t : Fin 68) (vd va vb : BitVec 5) (p fmt : BitVec 4) (rm : BitVec 3) (s : State) :
    Host.Outcome State Fault Refusal :=
  run (issueOne t (.va .vsigm vd va vb p fmt rm)) s

/-- `VRSQRT` (R147): Vector reciprocal square root, correctly rounded. -/
def execVrsqrt (t : Fin 68) (vd va vb : BitVec 5) (p fmt : BitVec 4) (rm : BitVec 3) (s : State) :
    Host.Outcome State Fault Refusal :=
  run (issueOne t (.va .vrsqrt vd va vb p fmt rm)) s

/-- `VRCPE` (R147): Vector reciprocal estimate to 9 significant bits. -/
def execVrcpe (t : Fin 68) (vd va vb : BitVec 5) (p fmt : BitVec 4) (rm : BitVec 3) (s : State) :
    Host.Outcome State Fault Refusal :=
  run (issueOne t (.va .vrcpe vd va vb p fmt rm)) s

/-- `VRADD` (R148): Vector tree sum of all governed elements broadcast to VD. -/
def execVradd (t : Fin 68) (vd va vb : BitVec 5) (p fmt : BitVec 4) (rm : BitVec 3) (s : State) :
    Host.Outcome State Fault Refusal :=
  run (issueOne t (.va .vradd vd va vb p fmt rm)) s

/-- `VRMAX` (R148): Vector tree maximumNumber broadcast to VD. -/
def execVrmax (t : Fin 68) (vd va vb : BitVec 5) (p fmt : BitVec 4) (rm : BitVec 3) (s : State) :
    Host.Outcome State Fault Refusal :=
  run (issueOne t (.va .vrmax vd va vb p fmt rm)) s

/-- `VCMP` (R145): Vector compare under COND writing predicate PD. -/
def execVcmp (t : Fin 68) (half : BitVec 1) (pd : BitVec 4) (va vb : BitVec 5) (p fmt : BitVec 4) (cond : BitVec 3) (s : State) :
    Host.Outcome State Fault Refusal :=
  run (issueOne t (.vk false half pd va vb p fmt cond)) s

/-- `VICMP` (R149): I32 compare writing a predicate. -/
def execVicmp (t : Fin 68) (half : BitVec 1) (pd : BitVec 4) (va vb : BitVec 5) (p fmt : BitVec 4) (cond : BitVec 3) (s : State) :
    Host.Outcome State Fault Refusal :=
  run (issueOne t (.vk true half pd va vb p fmt cond)) s

/-- `VIADD` (R149): Lane-wise I32 addition modulo 2^32. -/
def execViadd (t : Fin 68) (vd va vb : BitVec 5) (p : BitVec 4) (rm : BitVec 3) (s : State) :
    Host.Outcome State Fault Refusal :=
  run (issueOne t (.vint .viadd vd va vb p rm)) s

/-- `VISUB` (R149): Lane-wise I32 subtraction modulo 2^32. -/
def execVisub (t : Fin 68) (vd va vb : BitVec 5) (p : BitVec 4) (rm : BitVec 3) (s : State) :
    Host.Outcome State Fault Refusal :=
  run (issueOne t (.vint .visub vd va vb p rm)) s

/-- `VIMUL` (R149): Lane-wise low 32 bits of the product, multiply class. -/
def execVimul (t : Fin 68) (vd va vb : BitVec 5) (p : BitVec 4) (rm : BitVec 3) (s : State) :
    Host.Outcome State Fault Refusal :=
  run (issueOne t (.vint .vimul vd va vb p rm)) s

/-- `VAND` (R149): Lane-wise bitwise AND. -/
def execVand (t : Fin 68) (vd va vb : BitVec 5) (p : BitVec 4) (rm : BitVec 3) (s : State) :
    Host.Outcome State Fault Refusal :=
  run (issueOne t (.vint .vand vd va vb p rm)) s

/-- `VOR` (R149): Lane-wise bitwise OR. -/
def execVor (t : Fin 68) (vd va vb : BitVec 5) (p : BitVec 4) (rm : BitVec 3) (s : State) :
    Host.Outcome State Fault Refusal :=
  run (issueOne t (.vint .vor vd va vb p rm)) s

/-- `VXOR` (R149): Lane-wise bitwise XOR. -/
def execVxor (t : Fin 68) (vd va vb : BitVec 5) (p : BitVec 4) (rm : BitVec 3) (s : State) :
    Host.Outcome State Fault Refusal :=
  run (issueOne t (.vint .vxor vd va vb p rm)) s

/-- `VANDN` (R149): Lane-wise VA AND NOT VB. -/
def execVandn (t : Fin 68) (vd va vb : BitVec 5) (p : BitVec 4) (rm : BitVec 3) (s : State) :
    Host.Outcome State Fault Refusal :=
  run (issueOne t (.vint .vandn vd va vb p rm)) s

/-- `VSHL` (R149): Lane-wise shift left by VB mod 32. -/
def execVshl (t : Fin 68) (vd va vb : BitVec 5) (p : BitVec 4) (rm : BitVec 3) (s : State) :
    Host.Outcome State Fault Refusal :=
  run (issueOne t (.vint .vshl vd va vb p rm)) s

/-- `VSHR` (R149): Lane-wise logical shift right. -/
def execVshr (t : Fin 68) (vd va vb : BitVec 5) (p : BitVec 4) (rm : BitVec 3) (s : State) :
    Host.Outcome State Fault Refusal :=
  run (issueOne t (.vint .vshr vd va vb p rm)) s

/-- `VSRA` (R149): Lane-wise arithmetic shift right. -/
def execVsra (t : Fin 68) (vd va vb : BitVec 5) (p : BitVec 4) (rm : BitVec 3) (s : State) :
    Host.Outcome State Fault Refusal :=
  run (issueOne t (.vint .vsra vd va vb p rm)) s

/-- `VIMIN` (R149): Lane-wise signed minimum. -/
def execVimin (t : Fin 68) (vd va vb : BitVec 5) (p : BitVec 4) (rm : BitVec 3) (s : State) :
    Host.Outcome State Fault Refusal :=
  run (issueOne t (.vint .vimin vd va vb p rm)) s

/-- `VIMAX` (R149): Lane-wise signed maximum. -/
def execVimax (t : Fin 68) (vd va vb : BitVec 5) (p : BitVec 4) (rm : BitVec 3) (s : State) :
    Host.Outcome State Fault Refusal :=
  run (issueOne t (.vint .vimax vd va vb p rm)) s

/-- `VIMINU` (R149): Lane-wise unsigned minimum. -/
def execViminu (t : Fin 68) (vd va vb : BitVec 5) (p : BitVec 4) (rm : BitVec 3) (s : State) :
    Host.Outcome State Fault Refusal :=
  run (issueOne t (.vint .viminu vd va vb p rm)) s

/-- `VIMAXU` (R149): Lane-wise unsigned maximum. -/
def execVimaxu (t : Fin 68) (vd va vb : BitVec 5) (p : BitVec 4) (rm : BitVec 3) (s : State) :
    Host.Outcome State Fault Refusal :=
  run (issueOne t (.vint .vimaxu vd va vb p rm)) s

/-- `VSEL` (R149): Selects VA or VB per lane by predicate P. -/
def execVsel (t : Fin 68) (vd va vb : BitVec 5) (p : BitVec 4) (rm : BitVec 3) (s : State) :
    Host.Outcome State Fault Refusal :=
  run (issueOne t (.vdata .vsel vd va vb p rm)) s

/-- `VBC32` (R149): Broadcasts RB[31:0] to every lane. -/
def execVbc32 (t : Fin 68) (vd va vb : BitVec 5) (p : BitVec 4) (rm : BitVec 3) (s : State) :
    Host.Outcome State Fault Refusal :=
  run (issueOne t (.vdata .vbc32 vd va vb p rm)) s

/-- `VBC64` (R149): Broadcasts RB to every lane pair. -/
def execVbc64 (t : Fin 68) (vd va vb : BitVec 5) (p : BitVec 4) (rm : BitVec 3) (s : State) :
    Host.Outcome State Fault Refusal :=
  run (issueOne t (.vdata .vbc64 vd va vb p rm)) s

/-- `VROT` (R149): Rotates lanes by RB. -/
def execVrot (t : Fin 68) (vd va vb : BitVec 5) (p : BitVec 4) (rm : BitVec 3) (s : State) :
    Host.Outcome State Fault Refusal :=
  run (issueOne t (.vdata .vrot vd va vb p rm)) s

/-- `VPERM` (R149): Permutes lanes by indices in VB. -/
def execVperm (t : Fin 68) (vd va vb : BitVec 5) (p : BitVec 4) (rm : BitVec 3) (s : State) :
    Host.Outcome State Fault Refusal :=
  run (issueOne t (.vdata .vperm vd va vb p rm)) s

/-- `PK6` (R149): Packs 4,096 N6 containers into 3,072 bytes. -/
def execPk6 (t : Fin 68) (vd va vb : BitVec 5) (p : BitVec 4) (rm : BitVec 3) (s : State) :
    Host.Outcome State Fault Refusal :=
  run (issueOne t (.vdata .pk6 vd va vb p rm)) s

/-- `UP6` (R149): Unpacks 3,072 bytes into 4,096 N6 containers. -/
def execUp6 (t : Fin 68) (vd va vb : BitVec 5) (p : BitVec 4) (rm : BitVec 3) (s : State) :
    Host.Outcome State Fault Refusal :=
  run (issueOne t (.vdata .up6 vd va vb p rm)) s

/-- `PRED_AND` (R150): Predicate AND. -/
def execPredAnd (t : Fin 68) (pd pa pb : BitVec 4) (s : State) :
    Host.Outcome State Fault Refusal :=
  run (issueOne t (.vp .and_ pd pa pb)) s

/-- `PRED_OR` (R150): Predicate OR. -/
def execPredOr (t : Fin 68) (pd pa pb : BitVec 4) (s : State) :
    Host.Outcome State Fault Refusal :=
  run (issueOne t (.vp .or_ pd pa pb)) s

/-- `PRED_XOR` (R150): Predicate XOR. -/
def execPredXor (t : Fin 68) (pd pa pb : BitVec 4) (s : State) :
    Host.Outcome State Fault Refusal :=
  run (issueOne t (.vp .xor pd pa pb)) s

/-- `PRED_ANDN` (R150): Predicate PA AND NOT PB. -/
def execPredAndn (t : Fin 68) (pd pa pb : BitVec 4) (s : State) :
    Host.Outcome State Fault Refusal :=
  run (issueOne t (.vp .andn pd pa pb)) s

/-- `PRED_NOT` (R150): Predicate NOT PA. -/
def execPredNot (t : Fin 68) (pd pa pb : BitVec 4) (s : State) :
    Host.Outcome State Fault Refusal :=
  run (issueOne t (.vp .not_ pd pa pb)) s

/-- `PRED_ZEROS` (R150): Predicate set to all zeros. -/
def execPredZeros (t : Fin 68) (pd pa pb : BitVec 4) (s : State) :
    Host.Outcome State Fault Refusal :=
  run (issueOne t (.vp .zeros pd pa pb)) s

/-- `PRED_ONES` (R150): Predicate set to all ones. -/
def execPredOnes (t : Fin 68) (pd pa pb : BitVec 4) (s : State) :
    Host.Outcome State Fault Refusal :=
  run (issueOne t (.vp .ones pd pa pb)) s

/-- `PRED_LOWEST` (R150): Predicate keeps only the lowest set bit of PA. -/
def execPredLowest (t : Fin 68) (pd pa pb : BitVec 4) (s : State) :
    Host.Outcome State Fault Refusal :=
  run (issueOne t (.vp .lowest pd pa pb)) s

/-- `VRDACC` (R151): Moves eight accumulator rows into a vector register. -/
def execVrdacc (t : Fin 68) (vd : BitVec 5) (acc : BitVec 2) (blk : BitVec 4) (s : State) :
    Host.Outcome State Fault Refusal :=
  run (issueOne t (.vq false vd acc blk)) s

/-- `VWRACC` (R151): Moves a vector register into eight accumulator rows. -/
def execVwracc (t : Fin 68) (vd : BitVec 5) (acc : BitVec 2) (blk : BitVec 4) (s : State) :
    Host.Outcome State Fault Refusal :=
  run (issueOne t (.vq true vd acc blk)) s

/-- `CONVERT_TO_BINARY32` (R152): Opcode 0x30 converts elements to binary32. -/
def execConvertToBinary32 (t : Fin 68) (vd va : BitVec 5) (src : BitVec 4) (rm part : BitVec 3) (p : BitVec 4) (s : State) :
    Host.Outcome State Fault Refusal :=
  run (issueOne t (.vc 0#4 vd va src rm part p)) s

/-- `CONVERT_TO_BINARY16` (R152): Opcode 0x31 converts elements to binary16. -/
def execConvertToBinary16 (t : Fin 68) (vd va : BitVec 5) (src : BitVec 4) (rm part : BitVec 3) (p : BitVec 4) (s : State) :
    Host.Outcome State Fault Refusal :=
  run (issueOne t (.vc 1#4 vd va src rm part p)) s

/-- `CONVERT_TO_BINARY64` (R152): Opcode 0x32 converts elements to binary64. -/
def execConvertToBinary64 (t : Fin 68) (vd va : BitVec 5) (src : BitVec 4) (rm part : BitVec 3) (p : BitVec 4) (s : State) :
    Host.Outcome State Fault Refusal :=
  run (issueOne t (.vc 2#4 vd va src rm part p)) s

/-- `CONVERT_TO_W16` (R152): Opcode 0x33 converts elements to W16. -/
def execConvertToW16 (t : Fin 68) (vd va : BitVec 5) (src : BitVec 4) (rm part : BitVec 3) (p : BitVec 4) (s : State) :
    Host.Outcome State Fault Refusal :=
  run (issueOne t (.vc 3#4 vd va src rm part p)) s

/-- `CONVERT_TO_N8` (R152): Opcode 0x34 converts elements to N8. -/
def execConvertToN8 (t : Fin 68) (vd va : BitVec 5) (src : BitVec 4) (rm part : BitVec 3) (p : BitVec 4) (s : State) :
    Host.Outcome State Fault Refusal :=
  run (issueOne t (.vc 4#4 vd va src rm part p)) s

/-- `CONVERT_TO_G8` (R152): Opcode 0x35 converts elements to G8. -/
def execConvertToG8 (t : Fin 68) (vd va : BitVec 5) (src : BitVec 4) (rm part : BitVec 3) (p : BitVec 4) (s : State) :
    Host.Outcome State Fault Refusal :=
  run (issueOne t (.vc 5#4 vd va src rm part p)) s

/-- `CONVERT_TO_N6` (R152): Opcode 0x36 converts elements to N6. -/
def execConvertToN6 (t : Fin 68) (vd va : BitVec 5) (src : BitVec 4) (rm part : BitVec 3) (p : BitVec 4) (s : State) :
    Host.Outcome State Fault Refusal :=
  run (issueOne t (.vc 6#4 vd va src rm part p)) s

/-- `CONVERT_TO_N4` (R152): Opcode 0x37 converts elements to N4. -/
def execConvertToN4 (t : Fin 68) (vd va : BitVec 5) (src : BitVec 4) (rm part : BitVec 3) (p : BitVec 4) (s : State) :
    Host.Outcome State Fault Refusal :=
  run (issueOne t (.vc 7#4 vd va src rm part p)) s

/-- `CONVERT_TO_I8` (R152): Opcode 0x38 converts elements to I8. -/
def execConvertToI8 (t : Fin 68) (vd va : BitVec 5) (src : BitVec 4) (rm part : BitVec 3) (p : BitVec 4) (s : State) :
    Host.Outcome State Fault Refusal :=
  run (issueOne t (.vc 8#4 vd va src rm part p)) s

/-- `CONVERT_TO_I4` (R152): Opcode 0x39 converts elements to I4. -/
def execConvertToI4 (t : Fin 68) (vd va : BitVec 5) (src : BitVec 4) (rm part : BitVec 3) (p : BitVec 4) (s : State) :
    Host.Outcome State Fault Refusal :=
  run (issueOne t (.vc 9#4 vd va src rm part p)) s

/-- `CONVERT_TO_U8` (R152): Opcode 0x3A converts elements to U8. -/
def execConvertToU8 (t : Fin 68) (vd va : BitVec 5) (src : BitVec 4) (rm part : BitVec 3) (p : BitVec 4) (s : State) :
    Host.Outcome State Fault Refusal :=
  run (issueOne t (.vc 10#4 vd va src rm part p)) s

/-- `CONVERT_TO_I32` (R152): Opcode 0x3C converts elements to I32. -/
def execConvertToI32 (t : Fin 68) (vd va : BitVec 5) (src : BitVec 4) (rm part : BitVec 3) (p : BitVec 4) (s : State) :
    Host.Outcome State Fault Refusal :=
  run (issueOne t (.vc 12#4 vd va src rm part p)) s

/-- `MX` (R91): The matrix array computes C = A × B + T into an accumulator tile by the chunked procedure, with
checksum lane, accumulate comparison, plausibility and special-value checks. -/
def execMx (t : Fin 68) (acc : BitVec 2) (fa fb : BitVec 4) (rr : BitVec 5) (bnd : BitVec 3) (add : BitVec 1)
    (at_ : BitVec 2) (sa sb : BitVec 1) (faults : List ArrayFault) (s : State) :
    Host.Outcome State Fault Refusal :=
  run (issueMxOne t faults (.mx acc fa fb rr bnd add at_ sa sb)) s

/-- `MXZ` (R158): Writes +0 to every element of an accumulator tile. -/
def execMxz (t : Fin 68) (acc : BitVec 2) (s : State) :
    Host.Outcome State Fault Refusal :=
  run (issueOne t (.mxz acc)) s

/-- `LDS` (R159): Loads 2^W bytes from tile SRAM sign-extended. -/
def execLds (t : Fin 68) (rd ra : BitVec 5) (base w : BitVec 2) (imm : BitVec 12) (s : State) :
    Host.Outcome State Fault Refusal :=
  run (issueOne t (.ml 0 rd ra base w imm)) s

/-- `LDU` (R159): Loads 2^W bytes from tile SRAM zero-extended. -/
def execLdu (t : Fin 68) (rd ra : BitVec 5) (base w : BitVec 2) (imm : BitVec 12) (s : State) :
    Host.Outcome State Fault Refusal :=
  run (issueOne t (.ml 1 rd ra base w imm)) s

/-- `STS` (R160): Stores the low 2^W bytes of RD to tile SRAM. -/
def execSts (t : Fin 68) (rd ra : BitVec 5) (base w : BitVec 2) (imm : BitVec 12) (s : State) :
    Host.Outcome State Fault Refusal :=
  run (issueOne t (.ml 2 rd ra base w imm)) s

/-- `LDV` (R159): Loads 4,096 bytes into a vector register. -/
def execLdv (t : Fin 68) (vd ra : BitVec 5) (base : BitVec 2) (p : BitVec 4) (imm : BitVec 10) (s : State) :
    Host.Outcome State Fault Refusal :=
  run (issueOne t (.mv false vd ra base p imm)) s

/-- `STV` (R160): Stores a vector register, lanes enabled by P only. -/
def execStv (t : Fin 68) (vd ra : BitVec 5) (base : BitVec 2) (p : BitVec 4) (imm : BitVec 10) (s : State) :
    Host.Outcome State Fault Refusal :=
  run (issueOne t (.mv true vd ra base p imm)) s

/-- `LDP` (R159): Loads 128 bytes into a predicate register. -/
def execLdp (t : Fin 68) (pd : BitVec 4) (ra : BitVec 5) (base : BitVec 2) (p : BitVec 4) (imm : BitVec 10) (s : State) :
    Host.Outcome State Fault Refusal :=
  run (issueOne t (.mp false pd ra base p imm)) s

/-- `STP` (R160): Stores a predicate register. -/
def execStp (t : Fin 68) (pd : BitVec 4) (ra : BitVec 5) (base : BitVec 2) (p : BitVec 4) (imm : BitVec 10) (s : State) :
    Host.Outcome State Fault Refusal :=
  run (issueOne t (.mp true pd ra base p imm)) s

/-- `LDA` (R161): Loads eight rows of an accumulator tile from memory. -/
def execLda (t : Fin 68) (acc : BitVec 2) (blk fmt : BitVec 4) (rm : BitVec 3) (rs : BitVec 5) (sc : BitVec 1)
    (str : BitVec 3) (srci : BitVec 1) (s : State) :
    Host.Outcome State Fault Refusal :=
  run (issueOne t (.ma false acc blk fmt rm rs sc str srci)) s

/-- `STA` (R161): Converts and stores eight accumulator rows, optionally with block scales. -/
def execSta (t : Fin 68) (acc : BitVec 2) (blk fmt : BitVec 4) (rm : BitVec 3) (rs : BitVec 5) (sc : BitVec 1)
    (str : BitVec 3) (srci : BitVec 1) (s : State) :
    Host.Outcome State Fault Refusal :=
  run (issueOne t (.ma true acc blk fmt rm rs sc str srci)) s

/-- `XFER_COPY` (R174): xfer with descriptor OP 0 issues a copy transfer after the issue checks. -/
def execXferCopy (t : Fin 68) (ra : BitVec 5) (q : BitVec 2) (imm : BitVec 16) (peer : Option Bytes) (s : State) :
    Host.Outcome State Fault Refusal :=
  run (issueXferOne t 0 ra q imm peer) s

/-- `XFER_REDUCE_BINARY32` (R186): xfer with descriptor OP 1 issues a binary32 reduce-add transfer. -/
def execXferReduceBinary32 (t : Fin 68) (ra : BitVec 5) (q : BitVec 2) (imm : BitVec 16) (peer : Option Bytes) (s : State) :
    Host.Outcome State Fault Refusal :=
  run (issueXferOne t 1 ra q imm peer) s

/-- `XFER_REDUCE_I32` (R186): xfer with descriptor OP 2 issues an I32 reduce-add transfer. -/
def execXferReduceI32 (t : Fin 68) (ra : BitVec 5) (q : BitVec 2) (imm : BitVec 16) (peer : Option Bytes) (s : State) :
    Host.Outcome State Fault Refusal :=
  run (issueXferOne t 2 ra q imm peer) s

/-- `XSIG` (R163): Sends one zero-length write that increments a counter once. -/
def execXsig (t : Fin 68) (rp rc : BitVec 5) (cls : BitVec 4) (s : State) :
    Host.Outcome State Fault Refusal :=
  run (issueOne t (.xsig rp rc cls)) s

/-- `BR` (R165): Unconditional branch. -/
def execBr (t : Fin 68) (ra : BitVec 5) (off : BitVec 21) (s : State) :
    Host.Outcome State Fault Refusal :=
  run (issueOne t (.cb .br ra off)) s

/-- `BZ` (R165): Branch if RA is zero. -/
def execBz (t : Fin 68) (ra : BitVec 5) (off : BitVec 21) (s : State) :
    Host.Outcome State Fault Refusal :=
  run (issueOne t (.cb .bz ra off)) s

/-- `BNZ` (R165): Branch if RA is nonzero. -/
def execBnz (t : Fin 68) (ra : BitVec 5) (off : BitVec 21) (s : State) :
    Host.Outcome State Fault Refusal :=
  run (issueOne t (.cb .bnz ra off)) s

/-- `JAL` (R165): Writes the return offset and branches. -/
def execJal (t : Fin 68) (ra : BitVec 5) (off : BitVec 21) (s : State) :
    Host.Outcome State Fault Refusal :=
  run (issueOne t (.cb .jal ra off)) s

/-- `JR` (R165): Branches to the offset in RA. -/
def execJr (t : Fin 68) (ra : BitVec 5) (off : BitVec 21) (s : State) :
    Host.Outcome State Fault Refusal :=
  run (issueOne t (.cb .jr ra off)) s

/-- `LP` (R164): Decrements RA and branches while it is nonzero. -/
def execLp (t : Fin 68) (ra : BitVec 5) (off : BitVec 21) (s : State) :
    Host.Outcome State Fault Refusal :=
  run (issueOne t (.cb .lp ra off)) s

/-- `BPA` (R165): Branch if any bit of PA is set. -/
def execBpa (t : Fin 68) (pa : BitVec 4) (off : BitVec 21) (s : State) :
    Host.Outcome State Fault Refusal :=
  run (issueOne t (.cbp false pa off)) s

/-- `BPN` (R165): Branch if every bit of PA is clear. -/
def execBpn (t : Fin 68) (pa : BitVec 4) (off : BitVec 21) (s : State) :
    Host.Outcome State Fault Refusal :=
  run (issueOne t (.cbp true pa off)) s

/-- `WAIT` (R120): Stops issue until a counter reaches the value in RA. -/
def execWait (t : Fin 68) (cc : BitVec 6) (ra : BitVec 5) (s : State) :
    Host.Outcome State Fault Refusal :=
  run (issueOne t (.wait cc ra)) s

/-- `WAITI` (R120): Stops issue until a counter reaches an immediate. -/
def execWaiti (t : Fin 68) (cc : BitVec 6) (imm : BitVec 20) (s : State) :
    Host.Outcome State Fault Refusal :=
  run (issueOne t (.waiti cc imm)) s

/-- `WAIT_SATISFIED` (R166): The waited counter reaches its value and the next bundle issues in the following cycle.
-/
def execWaitSatisfied (t : Fin 68) (n : Nat) (s : State) :
    Host.Outcome State Fault Refusal :=
  run (waitSatisfied t n) s

/-- `ARRIVE` (R121): Ends issue for the period. -/
def execArrive (t : Fin 68) (s : State) :
    Host.Outcome State Fault Refusal :=
  run (issueOne t (.arrive)) s

/-- `ARRIVAL` (R121): All issued results are written and the array is free, so the tile has arrived and T.LAST_ARRIVE
is recorded. -/
def execArrival (t : Fin 68) (s : State) :
    Host.Outcome State Fault Refusal :=
  run (arrival t) s

/-- `CCSET` (R167): Sets a completion counter. -/
def execCcset (t : Fin 68) (cc : BitVec 6) (rg : BitVec 5) (s : State) :
    Host.Outcome State Fault Refusal :=
  run (issueOne t (.cn 0 cc rg)) s

/-- `CCADD` (R167): Adds to a completion counter modulo 2^32. -/
def execCcadd (t : Fin 68) (cc : BitVec 6) (rg : BitVec 5) (s : State) :
    Host.Outcome State Fault Refusal :=
  run (issueOne t (.cn 1 cc rg)) s

/-- `CCGET` (R167): Reads a completion counter before the changes of its cycle. -/
def execCcget (t : Fin 68) (cc : BitVec 6) (rg : BitVec 5) (s : State) :
    Host.Outcome State Fault Refusal :=
  run (issueOne t (.cn 2 cc rg)) s

/-- `GDRAW` (R168): Draws 256 generator blocks into a vector register. -/
def execGdraw (t : Fin 68) (rg : BitVec 5) (g : BitVec 3) (s : State) :
    Host.Outcome State Fault Refusal :=
  run (issueOne t (.cg 0 rg g 0 0)) s

/-- `GDRAWS` (R168): Draws one generator block into a scalar register. -/
def execGdraws (t : Fin 68) (rg : BitVec 5) (g : BitVec 3) (s : State) :
    Host.Outcome State Fault Refusal :=
  run (issueOne t (.cg 1 rg g 0 0)) s

/-- `GSET_KEY` (R168): Sets a stream's key. -/
def execGsetKey (t : Fin 68) (rg : BitVec 5) (g : BitVec 3) (rb : BitVec 5) (s : State) :
    Host.Outcome State Fault Refusal :=
  run (issueOne t (.cg 2 rg g rb 0)) s

/-- `GSET_COUNTER` (R168): Sets a stream's counter. -/
def execGsetCounter (t : Fin 68) (rg : BitVec 5) (g : BitVec 3) (rb : BitVec 5) (s : State) :
    Host.Outcome State Fault Refusal :=
  run (issueOne t (.cg 2 rg g rb 1)) s

/-- `GSET_ANCHOR` (R168): Sets a stream's anchor. -/
def execGsetAnchor (t : Fin 68) (rg : BitVec 5) (g : BitVec 3) (rb : BitVec 5) (s : State) :
    Host.Outcome State Fault Refusal :=
  run (issueOne t (.cg 2 rg g rb 2)) s

/-- `GGET` (R168): Reads a stream's key, counter or anchor. -/
def execGget (t : Fin 68) (rg : BitVec 5) (g : BitVec 3) (sel : BitVec 3) (s : State) :
    Host.Outcome State Fault Refusal :=
  run (issueOne t (.cg 3 rg g 0 sel)) s

/-- `BUNDLE_ISSUE` (R110): The tile issues one bundle, checking it against the hazard conditions and issuing all eight
slots in the same cycle. -/
def execBundleIssue (t : Fin 68) (faults : List ArrayFault) (peers : List (Option Bytes)) (s : State) :
    Host.Outcome State Fault Refusal :=
  run (bundleIssue t faults peers) s

/-- `MX_RELEASE` (R321): A write of T.MX_RELEASE.RELEASE from MG or CT clears the tile's capture. -/
def execMxRelease (t : Fin 68) (m : Master) (s : State) :
    Host.Outcome State Fault Refusal :=
  run (Body.written [iT t] 0x2004 (mxRelease m t)) s

end Sys2Proof.Machine
end

