-- ==== Sys2Proof/Machine/Images.lean ====
section
/-! DEFINITION. Departure images, the entry registers, the late path and context recovery (spec/05_spaovoto_model.md R118 to
R128, R467): what a tile does between a departure and its first bundle. -/

namespace Sys2Proof.Machine

/-! ## The image (R124) -/

/-- Where in tile SRAM the image half of a period lies (R115). -/
def imageHalf (n : Nat) : Nat := if n % 2 = 0 then 0x110000 else 0x180000

/-- Bytes of an image. -/
def imageSize : Nat := 0x62000

/-- The valid mark. -/
def imageMark : Nat := 0x4D494744

/-- The register that shows the half of a period. -/
def imageReg (nn n : Nat) : Nat := if n % 2 = 0 then (R.T.IMAGE_A.all nn).key else (R.T.IMAGE_B.all nn).key

/-- The valid mark of the half of period `n` is cleared (R124). -/
def Body.clearMark (b : Body) (nn n : Nat) : Body :=
  (b.clearRange (sramBase nn + imageHalf n + 0x3C) 4).setReg (imageReg nn n) 0

/-- The tile's state is written into the half of period `n`, the valid mark last. -/
def Body.captureImage (b : Body) (nn n : Nat) : Body :=
  let t := b.tile nn
  let base := sramBase nn + imageHalf n
  let b0 := b.clearRange base imageSize
  let b1 := b0.put base (leBytes 8 n ++ leBytes 4 (b.rd R.TM.SERIAL.ACTIVE))
  let b2 := forEach t.s (fun e c => c.put (base + 0x40 + 8 * e.1) (leBytes 8 e.2)) b1
  let b3 := b2.put (base + 0x140) (leBytes 8 (b.flags nn))
  let b4 := forEach (List.range 8) (fun g c =>
    c.put (base + 0x180 + 48 * g) (leBytes 16 (b.genKey nn g) ++ leBytes 16 (b.genCtr nn g) ++ leBytes 16 (b.genAnchor nn g))) b3
  let b5 := forEach [0, 1] (fun q c =>
    c.put (base + 0x300 + 32 * q) (leBytes 8 (b.rd (R.T.SEQ_POS.POS nn q)) ++ leBytes 8 (b.slotBase nn q)
      ++ leBytes 8 (b.rd (R.T.SEQ_CTRL.all nn q)))) b4
  let b6 := forEach t.cc (fun e c => c.put (base + 0x340 + 4 * e.1) (leBytes 4 e.2)) b5
  let b7 := forEach (List.range 16) (fun i c =>
    let v := t.getP i
    if v = 0 then c else c.put (base + 0x1000 + 128 * i) (leBytes 128 v)) b6
  let b8 := forEach t.v (fun e c => c.put (base + 0x2000 + 4096 * e.1) (leBytes 4096 e.2)) b7
  let b9 := forEach t.a (fun e c => c.put (base + 0x22000 + 4 * e.1) (leBytes 4 e.2)) b8
  (b9.put (base + 0x3C) (leBytes 4 imageMark)).setReg (imageReg nn n) (n % 2 ^ 63 + 2 ^ 63)

/-- The half of period `n` holds that period's image under its valid mark (R126). -/
def Body.imageOk (b : Body) (nn n : Nat) : Bool :=
  let base := sramBase nn + imageHalf n
  b.leAt (base + 0x3C) 4 == imageMark && b.leAt base 8 == n % 2 ^ 64

/-- Registers `i` below `n` as a sparse map. -/
def regMap (n : Nat) (f : Nat → Nat) : SMap Nat :=
  (List.range n).foldl (fun m i => SMap.set m i (f i) 0) []

/-- s, v, p, a, FLAGS, streams and sequence slots take what the half of period `n` holds (R126). -/
def Body.restoreImage (b : Body) (nn n : Nat) : Body :=
  let base := sramBase nn + imageHalf n
  let at_ (off k : Nat) : Nat := b.leAt (base + off) k
  let cells := b.mem.filter (fun c => decide (base + 0x22000 ≤ c.1) && decide (c.1 < base + imageSize))
  let acc := cells.foldl (fun m c =>
    let e := (c.1 - (base + 0x22000)) / 4
    let i := (c.1 - (base + 0x22000)) % 4
    SMap.set m e (SMap.getD m e 0 + c.2.toNat * 2 ^ (8 * i)) 0) ([] : SMap Nat)
  let b1 := b.onTile nn (fun t =>
    { t with s := regMap 32 (fun i => if i = 0 then 0 else at_ (0x40 + 8 * i) 8),
             p := regMap 16 (fun i => if i = 0 then 0 else at_ (0x1000 + 128 * i) 128),
             v := regMap 32 (fun i => at_ (0x2000 + 4096 * i) 4096),
             a := acc })
  let b2 := b1.setFlags nn (at_ 0x140 8)
  let b3 := forEach (List.range 8) (fun g c =>
    ((c.setGenKey nn g (at_ (0x180 + 48 * g) 16)).setGenCtr nn g (at_ (0x190 + 48 * g) 16)).setGenAnchor nn g
      (at_ (0x1A0 + 48 * g) 16)) b2
  forEach [0, 1] (fun q c =>
    ((c.wr (R.T.SEQ_POS.POS nn q) (at_ (0x300 + 32 * q) 8)).wr (R.T.SEQ_BASE.BASE nn q) (at_ (0x308 + 32 * q) 8 / 32)).wr
      (R.T.SEQ_CTRL.ACTIVE nn q) (at_ (0x310 + 32 * q) 8)) b3

/-! ## Streams at a departure (R128) -/

/-- Every stream's counter goes into its anchor. -/
def Body.anchorStreams (b : Body) (nn : Nat) : Body :=
  forEach (List.range 8) (fun g c => c.setGenAnchor nn g (b.genCtr nn g)) b

/-- Every anchor goes back into its counter. -/
def Body.rewindStreams (b : Body) (nn : Nat) : Body :=
  forEach (List.range 8) (fun g c => c.setGenCtr nn g (b.genAnchor nn g)) b

/-- What the streams owe at this departure happens, after a restore; both, when a step begins where a void one was left (R68). -/
def Body.settleStreams (b : Body) (nn : Nat) : Body :=
  let op := (b.tile nn).anchorOp
  let b1 := b.onTile nn (fun t => { t with anchorOp := 0 })
  let b2 := if op = 2 ∨ op = 3 then b1.rewindStreams nn else b1
  if op = 1 ∨ op = 3 then b2.anchorStreams nn else b2

/-! ## Entry registers (R118) -/

/-- The value of the running type's cursor, or 0 where the type names none. -/
def Body.cursorValue (b : Body) : Nat :=
  match b.ptype with
  | some p => if p.cursor < 16 then b.rd (R.TM.CURSOR.POS p.cursor) else 0
  | none => 0

/-- s2 of the new period: type, sequence index, parity, replay and resumed. -/
def Body.entryWord (b : Body) (resumed : Bool) : Nat :=
  b.rd R.TM.DEPART_SEQ.PTYPE + b.rd R.TM.DEPART_SEQ.INDEX * 2 ^ 8 + b.period % 2 * 2 ^ 20
    + b.rd R.TM.TT_STATUS.REPLAYING * 2 ^ 21 + b2n resumed * 2 ^ 22

/-- The entry registers of the new period are written. -/
def Body.writeEntry (b : Body) (nn : Nat) : Body :=
  let w := b.entryWord (b.tile nn).resumedNext
  b.onTile nn (fun t =>
    { ((((((t.putS 1 b.period).putS 2 w).putS 3 (b.rd R.TM.STEP_NUMBER.STEP)).putS 4 b.cursorValue).putS 5
        (b.rd (R.T.TILE_STATUS.LOGICAL nn))).putS 6 (b.rd R.TM.SERIAL.ACTIVE)) with entryDue := false, resumedNext := false })

/-! ## The late path and recovery -/

/-- The half cannot be restored (R126): `T.RECOVER.FAILED` and the tile's source 9. -/
def Body.recoverFailed (b : Body) (nn : Nat) : Body :=
  (((b.wr (R.T.RECOVER.FAILED nn) 1).wr (R.T.RECOVER.DONE nn) 0).onTile nn (fun t =>
    { t with recovering := false, restore := none, restoreFailed := true, entryDue := false, capturing := false,
             out := t.out || t.wasReset })).raiseT nn 9 0 0 false

/-- The restore of a late tile, if one is owed, and the entry registers of the new period (R122, t0 + 0.70 µs). A restore
that fails leaves `restoreFailed` set; the order of an island reset follows where the tile was not reset before (R467). -/
def Body.enterPeriod (b : Body) (nn : Nat) (r : Result) : Body :=
  let t := b.tile nn
  if !t.entryDue || !b.inService (iT nn) then b
  else
    let b0 := b.toPod (b.job.departAt + 700)
    match t.restore with
    | none => ((b0.settleStreams nn).writeEntry nn).clearMark nn b.period
    | some n =>
      if r = .pass ∧ b0.imageOk nn n then
        let b1 := (b0.restoreImage nn n).onTile nn (fun u => { u with restore := none, wasReset := false })
        ((b1.settleStreams nn).writeEntry nn).clearMark nn b.period
      else b0.recoverFailed nn

/-- `DEPARTURE_IMAGE_CAPTURE` (R122, R124; t0 + 1.40 µs): the capture completes and the valid mark is written.  Where it
fails, source 11 is raised and no mark is written. -/
def departureImageCapture (nn : Nat) (r : Result) (b : Body) : Body :=
  let t := b.tile nn
  if !t.capturing || !b.inService (iT nn) || t.entryDue then b
  else
    let b1 := (b.toPod (b.job.departAt + 1400)).onTile nn (fun u => { u with capturing := false })
    match r with
    | .pass => b1.captureImage nn b.period
    | .fail => b1.raiseT nn 11 0 0 false

/-- The entry of a logical tile in the running period type (R58): none where the tile is idle. -/
def Body.entryOffset (b : Body) (t : Nat) : Option Nat :=
  match b.job.active with
  | none => none
  | some im =>
    match im.entries[b.rd R.TM.DEPART_SEQ.PTYPE * 64 + t]? with
    | some e => if e = 0xFFFFFFFF then none else some e
    | none => none

/-- `TILE_PERIOD_START` (R122, t0 + 1.50 µs): the tile stands at the new period's entry and its first bundle may issue; an
idle tile has arrived.  A recovery ordered since the departure begins now (R125). -/
def tilePeriodStart (nn : Nat) (b : Body) : Body :=
  let t := b.tile nn
  if t.capturing || t.entryDue || t.entered || t.out || !b.jobRuns || !b.inService (iT nn) || t.began != some b.period
      || t.restoreFailed then b
  else
    let b0 := b.toPod (b.job.departAt + 1500)
    let base := if b.on (R.T.TILE_STATUS.WIDE nn) then 0 else b.rd (R.T.TILE_STATUS.BANK nn) * 0x80000
    let b1 := b0.onTile nn (fun u =>
      { u with entered := true, lastEntry := some b.period, cycle := 0, nextIssue := 0, pend := [], arrayEnd := 0, arrayWork := 0, arrayUsed := false,
               accBusy := [], mul64 := none, waiting := none, arriving := none, opIndex := 0, mx := [], offEnd := false })
    match b.entryOffset (b.rd (R.T.TILE_STATUS.LOGICAL nn)) with
    | none => b1.setTileState nn 2
    | some e => (b1.wr (R.T.PC.BUNDLE nn) ((base + e) / 32)).setTileState nn 1

/-- A recovery order reaches the tile (R125): issue stops; results due within 0.1 µs are written, the others discarded, and
any array operation is abandoned.  Between a departure and the first bundle it waits for that bundle's instant. -/
def Body.startRecovery (b : Body) (nn : Nat) : Body :=
  let t := b.tile nn
  if !b.inService (iT nn) || !b.jobRuns || t.out || t.wasReset || t.restoreFailed then b
  else
    let u := max t.cycle b.cycleNow + 240
    let b1 := if t.entered then ((b.commitTo nn u).cutWork nn u).discardFlight nn else b
    (b1.onTile nn (fun u => { u with recovering := true })).wr (R.T.RECOVER.DONE nn) 0 |>.wearBy nn 64

/-- The restore of a recovery ends (R125, R126). -/
def Body.endRecovery (b : Body) (nn : Nat) (r : Result) : Body :=
  let t := b.tile nn
  if !t.recovering || !t.entered || !b.inService (iT nn) then b
  else if r = .pass ∧ b.imageOk nn b.period then
    let b1 := (b.restoreImage nn b.period).onTile nn (fun u => { u with recovering := false, resumedNext := true })
    ((b1.setTileState nn 5).wr (R.T.RECOVER.DONE nn) 1).wr (R.T.RECOVER.FAILED nn) 0
  else b.recoverFailed nn

/-- `RECOVER` (R125): a write of `T.RECOVER.RECOVER`, honoured from CT and MG. -/
def recover (m : Master) (nn : Nat) (b : Body) : Body :=
  if !b.inService (iT nn) then b.cfgEvent m (iT nn) 0x28 1 3
  else if m ≠ .mg ∧ m ≠ .ct then b.cfgEvent m (iT nn) 0x28 1 2
  else b.startRecovery nn

/-! ## The meanings -/

def execRecover (m : Master) (t : Fin 68) (s : State) :=
  run (Body.written [iT t.val] 0x28 (recover m t.val)) s
def execDepartureImageCapture (t : Fin 68) (r : Result) (s : State) := run (departureImageCapture t.val r) s
def execTilePeriodStart (t : Fin 68) (s : State) := run (tilePeriodStart t.val) s

end Sys2Proof.Machine
end

