-- ==== Sys2Proof/Machine/Lighthouse.lean ====
section
/-! DEFINITION. The lighthouse (spec/13_continuity.md R326 to R328): beacons, the modules watched, misses and suspicion. -/

namespace Sys2Proof.Machine

/-! ## The beacon (R326) -/

/-- Free memory spares of the module. -/
def Body.freeSpares (b : Body) : Nat := (List.range 8).foldl (fun n k => n + b.rd (R.M.STATUS.SPARES_FREE k)) 0

/-- A part of `CT.WEAR_p` stands at or above THRESH. -/
def Body.wornOut (b : Body) : Bool :=
  let th := b.rd R.CT.WEAR_CTRL.THRESH
  th != 0 && (List.range 1172).any (fun p => decide (th ≤ b.rd (R.CT.WEAR.SCORE p)))

/-- The health bits of the beacon. -/
def Body.health (b : Body) : Nat :=
  let bits_ : List Bool :=
    [ b.rd R.CT.TILE_RETIRED.RETIRED != 0,
      (List.range 8).any (fun k => decide (b.rd (R.M.STATUS.SPARES_FREE k) < 2)),
      (List.range 6).any (fun p => (b.portUp p false).isEmpty != (b.portUp p true).isEmpty),
      (match b.cont.pvAt with | some t => decide (b.ns 2 ≤ t + 10 ^ 9) | none => false),
      b.on R.CT.STATUS.CAPTURE_VALID &&
        (match b.cont.cap with | some c => decide (c.rep.at_ + 10 ^ 7 < b.ns 0) | none => false),
      b.on R.CT.STATUS.SELF_FENCE,
      (match b.cont.fullResetAt with | some t => decide (b.ns 2 ≤ t + 60 * 10 ^ 9) | none => false),
      b.wornOut ]
  (List.range 8).foldl (fun n i => n + b2n (bits_[i]?.getD false) * 2 ^ i) 0

/-- The 32 bytes of a beacon sent now. -/
def Body.beacon (b : Body) : Bytes :=
  leBytes 4 b.place ++ leBytes 4 b.cont.beaconSeq ++ leBytes 4 (b.rd R.MG.DSP_EPOCHS.MAP_EPOCH) ++ leBytes 2 b.health
    ++ leBytes 1 b.cont.highest ++ leBytes 1 (b.rd R.CT.STATUS.SIDINGS_FREE) ++ leBytes 1 b.freeSpares ++ zeros 3
    ++ leBytes 12 (b.stamp 0 iCT)

/-- A beacon has been sent: the sequence rises and the highest level starts anew. -/
def Body.beaconSent (b : Body) : Body :=
  ({ b with cont := { b.cont with beaconSeq := (b.cont.beaconSeq + 1) % 2 ^ 32, highest := 0 } } : Body).sampled iCT

/-! ## Watched modules (R327) -/

/-- The producers of this module's seal-graph edges. -/
def Body.producers (b : Body) : List Nat :=
  match b.job.active with
  | none => []
  | some im => distinct ((im.edges.filter (fun e => e.consumer == b.place && e.producer != b.place)).map (·.producer))

/-- A module not watched before. -/
def Watched.new (place : Nat) : Watched :=
  { place := place, misses := 0, suspected := false, bySeal := false, byNeighbour := false, voids := 0, heard := false,
    lastSuspect := none, missesSince := 0 }

/-- The state of a watched module as `CT.LH_STATE_w` shows it. -/
def Watched.word (w : Watched) : Nat :=
  w.place + min w.misses 255 * 2 ^ 32 + b2n w.suspected * 2 ^ 40 + b2n w.bySeal * 2 ^ 41 + b2n w.byNeighbour * 2 ^ 42
    + min w.voids 255 * 2 ^ 48

/-- The registers show the first 128 watched modules in ascending place address. -/
def Body.showWatched (b : Body) : Body :=
  forEach (List.range 128) (fun i c =>
    c.setReg (R.CT.LH_STATE.PLACE i).key ((b.cont.watched[i]?.map Watched.word).getD 0)) b

/-- The watched modules follow the seal graph and the map. -/
def Body.syncWatched (b : Body) : Body :=
  let ps := b.producers
  let ns := b.neighbours.map (·.2)
  let l := (sortNat (distinct (ps ++ ns))).map (fun p =>
    let w := (b.cont.watched.find? (fun w => w.place == p)).getD (Watched.new p)
    { w with bySeal := ps.contains p, byNeighbour := ns.contains p })
  ({ b with cont := { b.cont with watched := l } } : Body).showWatched

/-- A change of one watched module's state. -/
def Body.onWatched (b : Body) (place : Nat) (f : Watched → Watched) : Body :=
  ({ b with cont := { b.cont with watched := b.cont.watched.map (fun w => if w.place = place then f w else w) } } : Body).showWatched

/-- The state of a watched module. -/
def Body.watchedAt (b : Body) (place : Nat) : Option Watched := b.cont.watched.find? (fun w => w.place == place)

/-- A message to every roster member; a copy for this module itself waits to be served. -/
def Body.toRoster (b : Body) (type : Nat) (body : Bytes) : Body :=
  forEach b.roster (fun p c =>
    if p = b.place then { c with fab := { c.fab with inbox := c.fab.inbox ++ [(p, 7, c.msgPayload type body)] } }
    else c.sendMsg p type body) b

/-- A message to the chief (R291); this module's own copy waits to be served; before a chief is known none is sent. -/
def Body.toChief (b : Body) (type : Nat) (body : Bytes) : Body :=
  if b.disp.chief = 0 then b
  else if b.disp.chief = b.place then
    { b with fab := { b.fab with inbox := b.fab.inbox ++ [(b.place, 7, b.msgPayload type body)] } }
  else b.sendMsg b.disp.chief type body

/-- SUSPECT (R291): the subject, the reason and the number of periods affected. -/
def Body.sendSuspect (b : Body) (subject reason periods : Nat) : Body :=
  b.toRoster 0x1C (leBytes 4 subject ++ leBytes 1 reason ++ zeros 3 ++ leBytes 4 periods)

/-- The vote window in ns. -/
def Body.voteWindow (b : Body) : Nat := b.rd R.MG.DSP_VOTE_CTRL.WINDOW * 10 ^ 6

/-- A miss of a watched module (R327, R328). -/
def Body.missed (b : Body) (place : Nat) : Body :=
  let b := b.syncWatched
  let lim := b.rd R.CT.LH_CTRL.MISS_LIMIT
  match b.watchedAt place with
  | none => b
  | some w0 =>
    let w := { w0 with misses := min (w0.misses + 1) 255, missesSince := w0.missesSince + 1 }
    let b1 := b.onWatched place (fun _ => w)
    if !w.suspected && lim ≤ w.misses then
      ((b1.onWatched place (fun _ => { w with suspected := true, missesSince := 0, lastSuspect := some (b.ns 0) })).raiseN
        iCT 5).sendSuspect place 1 0
    else if w.suspected && lim ≤ w.missesSince
        && (match w.lastSuspect with | some t => decide (t + b.voteWindow ≤ b.ns 0) | none => true) then
      (b1.onWatched place (fun _ => { w with missesSince := 0, lastSuspect := some (b.ns 0) })).sendSuspect place 1 0
    else b1

/-- A seal or a beacon of a watched module has been heard: its count is 0; a beacon ends a suspicion (R328). -/
def Body.heardFrom (b : Body) (place : Nat) (beacon : Bool) : Body :=
  let b := b.syncWatched
  match b.watchedAt place with
  | none => b
  | some w =>
    let b1 := b.onWatched place (fun w =>
      { w with misses := 0, missesSince := 0, heard := w.heard || beacon, suspected := w.suspected && !beacon })
    if w.suspected && beacon then b1.event 0xA441 iCT (leBytes 4 place) else b1

/-- A seal of a producer was good, or void or late (R328): at VOID_REPORT consecutive ones the roster hears of it, with
their number, which is exact although the register shows 255 at most. -/
def Body.sealHeard (b : Body) (place : Nat) (bad : Bool) : Body :=
  let lim := b.rd R.CT.LH_CTRL.VOID_REPORT
  match b.watchedAt place with
  | none => b
  | some w =>
    let v := if bad then w.voids + 1 else 0
    let b1 := b.onWatched place (fun w => { w with voids := v })
    if bad && !w.suspected && lim != 0 && v % lim == 0 then b1.sendSuspect place 2 v else b1

/-! ## The commands -/

/-- `BEACON_SEND` (R327): a standalone beacon to each torus neighbour that is present and unfenced. -/
def beaconSend (b : Body) : Body :=
  if !b.inService iCT then b
  else
    forEach (distinct (b.neighbours.map (·.2))) (fun p c =>
      match c.firstJunction with
      | some k => (c.sendPacket k (c.plainPacket p 0 4 0 (c.rd (R.J.SLICE.EPOCH 3 0)) c.beacon)).beaconSent
      | none => c) b

/-- `BEACON` (R327, R328): a beacon of `source` has been accepted. -/
def beaconReceive (source : Nat) (pl : Bytes) (b : Body) : Body :=
  if !b.inService iCT then b else (b.served source 4 pl).heardFrom source true

/-- `BEACON_WINDOW` (R327, R328): an INTERVAL window ends; a watched neighbour that sent no beacon in it has missed one. -/
def beaconWindow (b : Body) : Body :=
  if !b.inService iCT then b
  else
    let b := b.syncWatched
    let b1 := forEach (b.cont.watched.filter (fun w => w.byNeighbour && !w.heard)) (fun w c => c.missed w.place) b
    { b1 with cont := { b1.cont with watched := b1.cont.watched.map (fun w => { w with heard := false }) } }

/-! ## The meanings -/

def execBeaconSend (s : State) := run beaconSend s
def execBeacon (source : BitVec 32) (pl : Bytes) (s : State) := run (beaconReceive source.toNat pl) s
def execBeaconWindow (s : State) := run beaconWindow s

end Sys2Proof.Machine
end

