-- ==== Sys2Proof/Machine/Timetable.lean ====
section
/-! DEFINITION. The timetable image (spec/02_timetable.md R55 to R64, R464, R465; spec/01_architecture.md R32;
spec/14_checkpoint.md R340): its reading and its checks, in the order of R465, and loading, unloading and departing a job. -/

namespace Sys2Proof.Machine

/-! ## Checks -/

/-- The failure of a check: status code, period type and index (R465). -/
abbrev LoadFail := Nat × Nat × Nat

/-- A reading of the image, which may fail. -/
abbrev Check (α : Type) := Except LoadFail α

/-- A condition that must hold. -/
def need (c : Bool) (code ptype index : Nat) : Check Unit := if c then .ok () else .error (code, ptype, index)

/-- Checks one after another. -/
def checkAll {α : Type} (l : List α) (f : α → Check Unit) : Check Unit := l.forM f

/-- Ranges that no platform half may overlap (R61): the harbour and buddy halves and the dump harbour. -/
def Body.keptRanges (b : Body) : List (Nat × Nat) :=
  let size := b.rd R.SN.HARBOUR_SIZE.MIB * 2 ^ 20
  let halves := [b.rd (R.SN.HARBOUR_BASE.ADDR 0), b.rd (R.SN.HARBOUR_BASE.ADDR 1), b.rd (R.SN.BUDDY_BASE.ADDR 0),
    b.rd (R.SN.BUDDY_BASE.ADDR 1)]
  if b.rd R.SC.STATUS.CONFIG = 0 then []
  else (halves.map (fun a => (a * 4096, a * 4096 + size))) ++ [(b.rd R.DB.DUMP_BASE.ADDR * 2 ^ 28, (b.rd R.DB.DUMP_BASE.ADDR + 1) * 2 ^ 28)]

/-- Two ranges share a byte. -/
def overlaps (a b : Nat × Nat) : Bool := decide (a.1 < b.2) && decide (b.1 < a.2)

/-- A platform half lies in LPDDR or in the data region of one logical tile window (R61). -/
def halfPlaced (base size : Nat) : Bool :=
  decide (base + size ≤ lpddrEnd)
    || (decide (logicalBase ≤ base) && decide ((base - logicalBase) / 2 ^ 24 < 64)
        && decide (0x200000 ≤ (base - logicalBase) % 2 ^ 24) && decide ((base - logicalBase) % 2 ^ 24 + size ≤ sramSize))

/-! ## Sections -/

/-- The header's own checks after the digest, in ascending offset; `len` is the image's length (R55). -/
def checkHeader (d : Bytes) (len : Nat) : Check Unit := do
  let f (off n : Nat) : Nat := le d off n
  let sec (at_ size : Nat) : Check Unit := need (f at_ 4 % 64 == 0 && decide (f at_ 4 + size ≤ len)) 0x12 0 at_
  let p := f 16 2
  let l := f 18 2
  let w := f 20 2
  need (p != 0) 0x13 0 16
  need (decide (p ≤ 256)) 0x72 0 16
  need (l != 0) 0x13 0 18
  need (decide (l ≤ 4096)) 0x72 0 18
  need (w != 0) 0x13 0 20
  need (decide (100 ≤ w) && decide (w ≤ 6400)) 0x15 0 20
  need (decide (f 22 1 ≤ 15)) 0x72 0 22
  need (f 23 1 == 0) 0x72 0 23
  sec 24 (32 * p)
  sec 28 l
  sec 32 (256 * p)
  sec 36 512
  sec 40 0
  sec 44 (16 * f 48 4)
  need (decide (f 48 4 ≤ 4096)) 0x72 0 48
  sec 52 (24 * f 56 2)
  need (decide (f 56 2 ≤ 64)) 0x72 0 56
  need (f 62 2 == 0) 0x72 0 62
  sec 64 (4 * f 68 4)
  need (f 68 4 != 0) 0x13 0 68
  need (decide (f 68 4 ≤ 1048576)) 0x72 0 68
  need (f 72 4 == 0 || (f 72 4 % 64 == 0 && decide (f 72 4 + 12 ≤ len))) 0x12 0 72
  need ((slice d 76 20).all (· == 0)) 0x72 0 76

/-- The period type at index `t` (R56), without its slot lists.  An energy segment count of 0, which R56 does not say is refused,
shows 0x13 like the other counts that must not be 0 (DESIGN CHOICE, log 88). -/
def readType (d : Bytes) (len t : Nat) : Check PType := do
  let o := le d 24 4 + 32 * t
  let f (off n : Nat) : Nat := le d (o + off) n
  need (f 0 4 != 0) 0x13 t t
  need (decide (2000 ≤ f 0 4) && decide (f 0 4 ≤ 400000000)) 0x14 t t
  need (decide (f 4 1 ≤ 2) && decide (f 5 1 < 64) && (decide (f 6 1 < 16) || f 6 1 == 0xFF) && f 7 1 == 0) 0x72 t t
  need (f 16 2 != 0) 0x13 t t
  need (decide (f 12 4 + f 16 2 ≤ le d 68 4)) 0x12 t t
  need (f 18 2 == 0) 0x72 t t
  need (decide (f 20 4 < len)) 0x12 t t
  need ((slice d (o + 24) 8).all (· == 0)) 0x72 t t
  return { length := f 0 4, policy := f 4 1, flags := f 5 1, cursor := f 6 1, stride := f 8 4, segFirst := f 12 4,
           segCount := f 16 2, slots := [] }

/-- The entries of one link's slot list (R59): `left` entries from `pos`; `idx` counts entries through the block. -/
def readSlots (d : Bytes) (len t length : Nat) : Nat → Nat → Nat → List SlotEntry → Check (List SlotEntry × Nat × Nat)
  | 0, pos, idx, acc => .ok (acc, pos, idx)
  | left + 1, pos, idx, acc => do
    need (decide (pos + 16 ≤ len)) 0x12 t idx
    let e : SlotEntry := { first := le d pos 4, count := le d (pos + 4) 2, tag := le d (pos + 6) 2,
                           source := le d (pos + 8) 4, dest := le d (pos + 12) 4 }
    need (e.count == 0 || decide ((e.first + e.count) * 12 ≤ length * 10)) 0x31 t idx
    need (e.count == 0 || !acc.any (fun x => x.count != 0 && overlaps (x.first, x.first + x.count) (e.first, e.first + e.count)))
      0x30 t idx
    readSlots d len t length left (pos + 16) (idx + 1) (acc ++ [e])

/-- The lists of a type's slot block, link by link. -/
def readLinks (d : Bytes) (len t length : Nat) : Nat → Nat → Nat → List (List SlotEntry) → Check (List (List SlotEntry))
  | 0, _, _, acc => .ok acc
  | left + 1, pos, idx, acc => do
    need (decide (pos + 4 ≤ len)) 0x12 t idx
    let r ← readSlots d len t length (le d pos 4) (pos + 4) idx []
    readLinks d len t length left r.2.1 r.2.2 (acc ++ [r.1])

/-- The seal graph entry at index `i` (R60). -/
def readEdge (d : Bytes) (place i : Nat) : Check Edge := do
  let o := le d 44 4 + 16 * i
  let f (off n : Nat) : Nat := le d (o + off) n
  need (f 0 4 == place || f 4 4 == place) 0x40 0 i
  need (f 8 2 % 2 == 0 && decide (f 8 2 < 2 ^ 12)) 0x41 0 i
  need ((decide (f 10 2 ≤ 255) || f 10 2 == 0xFFFF) && decide (f 12 1 ≤ 1) && f 13 3 == 0) 0x72 0 i
  return { producer := f 0 4, consumer := f 4 4, gate := f 8 2, ptype := f 10 2, propagate := f 12 1 == 1 }

/-- The platform pairs in order, none overlapping an earlier half or a kept range (R61). -/
def readPlatforms (d : Bytes) (kept : List (Nat × Nat)) :
    Nat → Nat → List (Nat × Nat) → List (Nat × Nat × Nat) → Check (List (Nat × Nat × Nat))
  | 0, _, _, acc => .ok acc
  | left + 1, i, spans, acc => do
    let o := le d 52 4 + 24 * i
    let ba := le d o 8
    let bb := le d (o + 8) 8
    let n := le d (o + 16) 8
    let ra := (ba, ba + n)
    let rb := (bb, bb + n)
    need (n == 0 || (halfPlaced ba n && halfPlaced bb n && !(kept ++ spans).any (overlaps ra)
      && !(kept ++ ra :: spans).any (overlaps rb))) 0x50 0 i
    readPlatforms d kept left (i + 1) (if n = 0 then spans else spans ++ [ra, rb]) (acc ++ [(ba, bb, n)])

/-! ## Step structure (R464) and energy (R32) -/

/-- The scan of the sequence: the first index at which the step structure fails. -/
def scanSteps (flagsAt : Nat → Nat) (l : Nat) : Option Nat :=
  let r := (List.range l).foldl (fun (acc : Option Nat × Bool) i =>
    match acc.1 with
    | some _ => acc
    | none =>
      let f := flagsAt i
      let afterClose := i != 0 && bit (flagsAt (i - 1)) 1
      if bit f 2 != afterClose then (some i, false)
      else
        let opened := acc.2
        if bit f 0 && opened then (some i, false)
        else
          let o1 := opened || bit f 0
          if bit f 1 && (!o1 || i + 1 == l) then (some i, false)
          else (none, o1 && !bit f 1)) (none, false)
  match r.1 with
  | some i => some i
  | none => if r.2 then some (l - 1) else none

/-- A type's planned power from its departure: pieces of (10 ns units, watts), cut at the period's end (R62). -/
def powerPieces (t : PType) (segs : List (Nat × Nat)) : List (Nat × Nat) :=
  (((segs.drop t.segFirst).take t.segCount).foldl (fun (acc : Nat × List (Nat × Nat)) s =>
    let u := min (s.1 * 1000) acc.1
    if u = 0 then acc else (acc.1 - u, acc.2 ++ [(u, s.2)])) (t.length, [])).2

/-- The planned energy (10 ns × W) of the cyclic sequence from its start to `y`; `pieces` are (start, units, watts). -/
def energyTo (pieces : List (Nat × Nat × Nat)) (cycle total y : Nat) : Nat :=
  let r := y % cycle
  (y / cycle) * total + pieces.foldl (fun e p => e + p.2.2 * min p.2.1 (r - p.1)) 0

/-- The sequence index at which the first 1 ms window above 1.8 J begins: windows that begin or end at a change of the planned
power, where the energy of a window has its maxima, in the order of their starts. -/
def energyWindow (types : List PType) (seq : List Nat) (segs : List (Nat × Nat)) : Option Nat :=
  let built := seq.foldl (fun (acc : Nat × Nat × List (Nat × Nat × Nat × Nat)) t =>
    let r := ((types[t]?.map (fun p => powerPieces p segs)).getD []).foldl
      (fun (a : Nat × List (Nat × Nat × Nat × Nat)) p => (a.1 + p.1, a.2 ++ [(a.1, p.1, p.2, acc.2.1)])) (acc.1, acc.2.2)
    (r.1, acc.2.1 + 1, r.2)) (0, 0, [])
  let cycle := built.1
  let pieces := built.2.2.map (fun p => (p.1, p.2.1, p.2.2.1))
  let total := pieces.foldl (fun e p => e + p.2.1 * p.2.2) 0
  let starts := built.2.2.map (·.1)
  let ms := 100000
  let cands := sortNat (starts ++ starts.map (fun s => (s + cycle * (ms / cycle + 1) - ms) % cycle))
  let bad (s : Nat) : Bool := decide (1800 * ms < energyTo pieces cycle total (s + ms) - energyTo pieces cycle total s)
  match cands.find? bad with
  | none => none
  | some s => (built.2.2.find? (fun p => decide (p.1 ≤ s) && decide (s < p.1 + p.2.1))).map (fun p => p.2.2.2)

/-! ## The whole check (R465) -/

/-- The image of `len` bytes at the start of `d`, checked against the module's place and the kept ranges.  `bank` is how many
bytes of code one tile may have, `active` the active serial for a stage.  A sequence with a step and no verdict tree shows 0x70,
PTYPE 0 and INDEX 0 (DESIGN CHOICE, log 89), and 0x71 shows INDEX 8, 0x64 INDEX 0 (DESIGN CHOICE, log 90). -/
def readImage (d : Bytes) (len place bank : Nat) (kept : List (Nat × Nat)) (active : Option Nat) : Check Image := do
  need (len != 0) 0x13 0 12
  need (le d 0 4 == 0x49545446) 0x10 0 0
  need (le d 4 2 == 0x0100) 0x10 0 4
  need (le d 6 2 == 128) 0x10 0 6
  need (decide (128 ≤ len) && le d 12 4 == len && decide (len ≤ d.length)) 0x12 0 12
  need (sha256 (overlay (slice d 0 len) 96 (zeros 32)) == slice d 96 32) 0x11 0 96
  checkHeader d len
  let p := le d 16 2
  let l := le d 18 2
  let types ← (List.range p).mapM (readType d len)
  let seq := (List.range l).map (fun i => le d (le d 28 4 + i) 1)
  checkAll (List.range l) (fun i => need (decide ((seq[i]?).getD 0 < p)) 0x72 0 i)
  let code := (List.range 64).map (fun t => (le d (le d 36 4 + 8 * t) 4, le d (le d 36 4 + 8 * t + 4) 4))
  let entries := (List.range (64 * p)).map (fun i => le d (le d 32 4 + 4 * i) 4)
  checkAll (List.range (64 * p)) (fun i =>
    let e := (entries[i]?).getD 0
    need (e == 0xFFFFFFFF || (e % 32 == 0 && decide (e < ((code[i % 64]?).getD (0, 0)).2))) 0x20 (i / 64) (i % 64))
  checkAll (List.range 64) (fun t => do
    let c := (code[t]?).getD (0, 0)
    need (c.2 == 0 || decide (c.1 + c.2 ≤ len)) 0x12 0 t
    need (decide (c.2 ≤ bank)) 0x21 0 t)
  let slotted ← (List.range p).mapM (fun t => do
    match types[t]? with
    | some pt =>
      let s ← readLinks d len t pt.length 64 (le d (le d 24 4 + 32 * t + 20) 4) 0 []
      return { pt with slots := s }
    | none => .error (0x12, t, t))
  let edges ← (List.range (le d 48 4)).mapM (readEdge d place)
  let platforms ← readPlatforms d kept (le d 56 2) 0 [] []
  let segs := (List.range (le d 68 4)).map (fun i => (le d (le d 64 4 + 4 * i) 2, le d (le d 64 4 + 4 * i + 2) 2))
  checkAll (List.range p) (fun t =>
    match types[t]? with
    | none => .ok ()
    | some pt => do
      let mine := (segs.drop pt.segFirst).take pt.segCount
      checkAll (List.range mine.length) (fun j =>
        let s := (mine[j]?).getD (0, 0)
        need (s.1 == 0 || decide (400 ≤ s.2)) 0x63 t j)
      need (decide (pt.length ≤ mine.foldl (fun n s => n + s.1 * 1000) 0)) 0x64 t 0)
  let vo := le d 72 4
  let vtree : Option VTree :=
    if vo = 0 then none else some { parent := le d vo 4, height := le d (vo + 4) 2, children := le d (vo + 6) 2 }
  need (match vtree with
    | some v => decide (v.height ≤ 15) && decide (v.children ≤ 16) && le d (vo + 8) 4 == 0
    | none => true) 0x72 0 0
  let flagsAt (i : Nat) : Nat := ((types[(seq[i]?).getD 0]?).map (·.flags)).getD 0
  need ((scanSteps flagsAt l).isNone) 0x70 (((scanSteps flagsAt l).bind (fun i => seq[i]?)).getD 0) ((scanSteps flagsAt l).getD 0)
  let stepped := (List.range l).any (fun i => flagsAt i % 8 != 0)
  need (!stepped || vtree.isSome) 0x70 0 0
  checkAll (List.range p) (fun t =>
    match types[t]? with
    | none => .ok ()
    | some pt => do
      let h := (vtree.map (·.height)).getD 0
      need (!(bit pt.flags 2 && seq.contains t)
        || (decide ((2 * h + 3) * le d 20 2 ≤ pt.length)
          && (List.range 64).all (fun k => (entries[64 * t + k]?).getD 0 == 0xFFFFFFFF))) 0x70 t 0
      need (!bit pt.flags 4 || (bit pt.flags 3 && !bit pt.flags 5)) 0x70 t 0)
  checkAll (List.range p) (fun t =>
    match types[t]? with
    | none => .ok ()
    | some pt =>
      let mine := (segs.drop pt.segFirst).take pt.segCount
      checkAll (List.range mine.length) (fun j =>
        let s := (mine[j]?).getD (0, 0)
        need (s.1 == 0 || decide (s.2 ≤ 2100)) 0x60 t j))
  checkAll (List.range p) (fun t =>
    match types[t]? with
    | none => .ok ()
    | some pt => need (decide ((powerPieces pt segs).foldl (fun e x => e + x.1 * x.2) 0 ≤ 1800 * pt.length)) 0x61 t 0)
  let w := energyWindow types seq segs
  need w.isNone 0x62 ((w.bind (fun i => seq[i]?)).getD 0) (w.getD 0)
  need (active != some (le d 8 4)) 0x71 0 8
  return { serial := le d 8 4, window := le d 20 2, replayLimit := le d 22 1, tag := le d 58 2, epoch := le d 60 2,
           types := slotted, seq := seq, entries := entries, code := code, edges := edges, platforms := platforms,
           segments := segs, vtree := vtree, wide := code.any (fun c => decide (0x80000 < c.2)), digest := slice d 96 32 }

/-- The image at a local address, checked; an address range outside LPDDR fails as a length outside the image, and one of which a unit
is lost or behind a closed strait fails its digest (DESIGN CHOICE, log 116). -/
def Body.checkImage (b : Body) (addr len bank : Nat) (active : Option Nat) : Check Image :=
  if lpddrEnd < addr + max len 128 then .error (0x12, 0, 12)
  else if b.denied iTM addr (max len 128) then .error (0x11, 0, 96)
  else readImage (b.bytes addr (max len 128)) len b.place bank b.keptRanges active

/-- TM reads the image: the lost units that it meets raise their sources (R223). -/
def Body.readsImage (b : Body) (addr len : Nat) : Body :=
  if lpddrEnd < addr + max len 128 then b else (b.fetch iTM 0 addr (max len 128)).2

/-! ## Loading (R58, R64) -/

/-- The status of a load or stage: shown, announced to the host, and recorded when it is a refusal. -/
def Body.loadStatus (b : Body) (f : LoadFail) : Body :=
  let b1 := (((b.wr R.TM.LOAD_STATUS.CODE f.1).wr R.TM.LOAD_STATUS.PTYPE f.2.1).wr R.TM.LOAD_STATUS.INDEX f.2.2).irq 3
  if f.1 = 1 then b1 else b1.event 0xA141 iTM (leBytes 1 f.1 ++ leBytes 1 f.2.1 ++ leBytes 2 f.2.2)

/-- The code of an image at `addr` goes into each bound tile's SRAM at `base`, where no closed strait refuses it (R24). -/
def Body.copyCode (b : Body) (im : Image) (addr base : Nat) : Body :=
  forEach (List.range 64) (fun t c =>
    match im.code[t]?, c.physOf t with
    | some (off, n), some nn => if n = 0 || !c.reachable (sramBase nn) 1 then c else c.copyRange (addr + off) n (sramBase nn + base)
    | _, _ => c) b

/-- The active bank of every tile, and whether the image is wide. -/
def Body.setBanks (b : Body) (bank : Nat) (wide : Bool) : Body :=
  forEach (List.range 68) (fun nn c => (c.wr (R.T.TILE_STATUS.BANK nn) bank).wr (R.T.TILE_STATUS.WIDE nn) (b2n wide)) b

/-- A staged image is dropped. -/
def Body.dropStaged (b : Body) : Body :=
  ((((({ b with job := { b.job with staged := none } } : Body).wr R.TM.TT_STATUS.STAGED 0).wr R.TM.TT_STATUS.ANNOUNCED 0).wr
    R.TM.SERIAL.STAGED 0).wr R.TM.ANNOUNCED_PERIOD.N 0)

/-- A checked image becomes the loaded timetable. -/
def Body.installImage (b : Body) (im : Image) (addr : Nat) : Body :=
  let b1 : Body := { b with job := { b.job with active := some im } }
  let b2 := (((b1.wr R.TM.TT_STATUS.STATE 1).wr R.TM.SERIAL.ACTIVE im.serial).wr R.TM.SEAL_WINDOW.WINDOW im.window).wr
    R.TM.VOID_COUNTS.VOID_SENT 0
  let b3 := forEach (List.range 68) (fun nn c => c.wr (R.T.LATE_COUNT.COUNT nn) 0) b2
  ((b3.setBanks 0 im.wide).copyCode im addr 0).syncWatched

/-- `LOAD` (R64): a write of `TM.LOAD_CTRL.LOAD`. -/
def load (m : Master) (b : Body) : Body :=
  if m ≠ .host ∧ m ≠ .mg then b.cfgEvent m iTM 0x8014 1 2
  else if b.jobRuns then b.loadStatus (0x02, 0, 0)
  else
    let addr := b.rd R.TM.IMAGE_ADDR.ADDR * 64
    let len := b.rd R.TM.IMAGE_LEN.LEN
    match b.checkImage addr len 0x100000 none with
    | .error f => (b.readsImage addr len).loadStatus f
    | .ok im => ((b.readsImage addr len).dropStaged.installImage im addr).loadStatus (0x01, 0, 0)

/-- `UNLOAD` (R64): the loaded timetable is dropped; refused while a job runs. -/
def unload (m : Master) (b : Body) : Body :=
  if m ≠ .host ∧ m ≠ .mg then b.cfgEvent m iTM 0x8014 4 2
  else if b.jobRuns then b.cfgEvent m iTM 0x8014 4 0
  else
    let b1 := (({ b with job := { b.job with active := none } } : Body).wr R.TM.TT_STATUS.STATE 0).wr R.TM.SERIAL.ACTIVE 0
    forEach (List.range 68) (fun nn c =>
      let s := c.tileState nn
      if s = 6 ∨ s = 7 then c else c.setTileState nn 0) b1.dropStaged.syncWatched

/-! ## Departing and ending a job (R35, `TM.STOP`) -/

/-- `JOB_DEPART` (R35): a write of `TM.JOB_DEPART` with GO; the origin is in units of 10 ns. -/
def jobDepart (m : Master) (origin : Nat) (b : Body) : Body :=
  let v := origin + 2 ^ 63
  if m ≠ .host ∧ m ≠ .mg then b.cfgEvent m iTM 0x8020 v 2
  else if b.jobRuns ∨ b.job.active.isNone ∨ origin * 10 < b.ns 0 + 100000 then b.cfgEvent m iTM 0x8020 v 0
  else
    let j := { Job.init with active := b.job.active, staged := b.job.staged, stageDeadline := b.job.stageDeadline,
                             origin := origin * 10, nextAt := origin * 10, change := b.job.change,
                             closing := b.job.closing }
    ((({ b with job := j } : Body).wr R.TM.JOB_DEPART.ORIGIN origin).wr R.TM.TT_STATUS.STATE 2).wr R.TM.TT_STATUS.REPLAYING 0

/-- `TM_STOP`: a write of `TM.STOP.STOP`; with no job running there is nothing to end. -/
def tmStop (m : Master) (b : Body) : Body :=
  if m ≠ .host ∧ m ≠ .mg then b.cfgEvent m iTM 0x8058 1 2
  else if b.jobRuns then { b with job := { b.job with stopping := true } }
  else b

/-- The job has ended: the timetable stays loaded, the tiles idle, the host is told (R435), and what waited for a departure
takes effect (R330, R425, R428). -/
def Body.jobEnded (b : Body) : Body :=
  let j := b.job
  let b1 : Body := { b with job := { j with departed := false, stopping := false, anchor := none, replays := 0, combined := none,
                                            children := [], verdictSent := false } }
  let b2 := ((b1.wr R.TM.TT_STATUS.STATE (if j.active.isSome then 1 else 0)).wr R.TM.TT_STATUS.REPLAYING 0).dropStaged
  let b3 := forEach (List.range 68) (fun nn c =>
    let s := c.tileState nn
    let c1 := ((c.stallUntil nn c.cycleNow).commitAll nn).onTile nn (fun t =>
      { t with entered := false, restore := none, wasReset := false, out := false, recovering := false, restoreFailed := false,
               capturing := false, entryDue := false, anchorOp := 0, waiting := none, arriving := none, lastEntry := none, began := none })
    if s = 1 ∨ s = 3 then c1.setTileState nn 2 else c1) b2
  let b4 := b3.irq 4
  let b5 := if b4.on R.CT.STATUS.EXPELLED then (b4.wr R.CT.STATUS.STOPPED 1).alertPin else b4
  let b6 := b5.applySwitch (fun _ => true)
  if b6.sb.calPending then b6.calApply else b6

/-! ## The meanings -/

def execLoad (m : Master) (s : State) :=
  run (Body.written [iTM] 0x8014 (load m)) s
def execUnload (m : Master) (s : State) :=
  run (Body.written [iTM] 0x8014 (unload m)) s
def execJobDepart (m : Master) (origin : BitVec 63) (s : State) :=
  run (Body.written [iTM] 0x8020 (jobDepart m origin.toNat)) s
def execTmStop (m : Master) (s : State) :=
  run (Body.written [iTM] 0x8058 (tmStop m)) s

end Sys2Proof.Machine
end

