-- ==== Sys2Proof/Machine/Seals.lean ====
section
/-! DEFINITION. Seals and step verdicts (spec/02_timetable.md R40 to R53): gate counters, the seal and its causes, what a
consumer does with one, and the verdict tree. -/

namespace Sys2Proof.Machine

/-! ## Gate counters (R43) -/

/-- A completion counter id is set to zero, increments that a substitution holds for it included. -/
def Body.zeroCounter (b : Body) (id : Nat) : Body :=
  let t := bits id 6 6
  let cc := id % 64
  let b1 : Body := { b with cont := { b.cont with substs := b.cont.substs.map (fun s =>
    if s.logical = t then { s with held := s.held.filter (fun h => h.1 != cc) } else s) } }
  match b1.physOf t with
  | some nn => b1.onTile nn (fun x => x.putCC cc 0)
  | none => b1

/-- An edge of the seal graph counts for a period type. -/
def Edge.covers (e : Edge) (ptype : Nat) : Bool := e.ptype == 0xFFFF || e.ptype == ptype

/-- At the departure that ends period `n` of type `pt`, the gates of every edge to this module are zeroed, whatever type the edge
covers, and the producers of the edges that cover `pt` are awaited. -/
def Body.openGates (b : Body) (im : Image) (n pt : Nat) (stepPeriod : Bool) : Body :=
  let mine := im.edges.filter (fun e => e.consumer == b.place)
  let es := mine.filter (fun e => e.covers pt)
  let b1 := forEach mine (fun e c => (c.zeroCounter e.gate).zeroCounter (e.gate + 1)) b
  let new := es.map (fun e =>
    { producer := e.producer, period := n, gate := e.gate, propagate := e.propagate, heard := false, resolved := false,
      stepPeriod := stepPeriod : Awaited })
  { b1 with job := { b1.job with awaited := b1.job.awaited ++ new } }

/-! ## What a void or missing seal does (R47, R48, R51) -/

/-- Writes accepted from a producer in a period move from the accepted count to the voided count; those past ingress that wait for
their address test are dropped as voided.  `J.CONS_0` falls by the writes moved, and the open period's accepted count, which the
seal carries, stays as it was (DESIGN CHOICE, log 85). -/
def Body.moveVoided (b : Body) (source n : Nat) : Body :=
  let mine (e : (Nat × Nat) × Nat) : Bool := e.1.1 == source && e.1.2 / 4 == n
  let b1 := forEach (b.job.acceptedFrom.filter mine) (fun e c =>
    let k := e.1.2 % 4
    (c.cons k 3 e.2).wr (R.J.CONS.COUNT k 0) (c.rd (R.J.CONS.COUNT k 0) + 2 ^ 64 - e.2)) b
  let waits (w : Write) : Bool :=
    w.xfer.isNone && w.source == source && w.period == n && !(w.counter == mirrorCounter && (b.halfOf w.addr).isSome)
  let b1 := forEach (b1.writes.filter waits) (fun w c =>
    ((c.cons (junctionOfLink w.link) 3 1).fate (junctionOfLink w.link) w.cls 4).owe (w.header c.place)) b1
  { b1 with
    writes := b1.writes.filter (fun w => !waits w)
    job := { b1.job with acceptedFrom := b1.job.acceptedFrom.filter (fun e => !mine e),
                         voided := (source, n) :: b1.job.voided.filter (fun v => decide (n < v.2 + 8)) } }

/-- A producer's period was void or missing, for the edges `es`. -/
def Body.inputVoid (b : Body) (source n : Nat) (es : List Awaited) : Body :=
  let b1 := if es.any (·.stepPeriod) then { b with job := { b.job with stepVoid := true } } else b
  let b2 := if es.any (·.propagate) ∧ b1.period = n + 1 ∧ b1.jobRuns then b1.addCause 5 else b1
  b2.moveVoided source n

/-- The gates of the edges `es` rise by one, and their void counters too when the seal is void or missing. -/
def Body.raiseGates (b : Body) (es : List Awaited) (bad : Bool) : Body :=
  forEach es (fun e c =>
    let c1 := c.countAt e.gate
    if bad then c1.countAt (e.gate + 1) else c1) b

/-- Entries of the awaited list for a producer and a period are marked. -/
def Body.markAwaited (b : Body) (source n : Nat) (f : Awaited → Awaited) : Body :=
  { b with job := { b.job with awaited := b.job.awaited.map (fun a => if a.producer = source ∧ a.period = n then f a else a) } }

/-- A seal of `source` for period `n` is applied to the edges that await it (R43). -/
def Body.applySeal (b : Body) (source n : Nat) (pl : Bytes) (es : List Awaited) : Body :=
  let v := le pl 12 1
  let mismatch := decide (1 < v) || le pl 8 4 != b.rd R.TM.SERIAL.ACTIVE || le pl 40 8 != b.rd R.TM.STEP_NUMBER.STEP
  let bad := v != 0 || mismatch
  let b1 := if mismatch then b.raiseN iCT 2 else b
  let b2 := (b1.markAwaited source n (fun a => { a with heard := true })).raiseGates es bad
  let b3 := if bad && le pl 13 1 == 0x20 then b2 else b2.sealHeard source bad
  if bad then b3.inputVoid source n es else b3

/-- `SEAL_RECEIVE` (R43, R44): a consumer's CT receives a seal. -/
def sealReceive (source : Nat) (pl : Bytes) (b : Body) : Body :=
  if !b.inService iCT then b
  else
    let b := (b.served source 3 pl).heardFrom source true
    let n := le pl 0 8
    if !b.jobRuns then b
    else if !b.job.departed || b.period ≤ n then
      if b.job.heldSeals.any (fun h => h.producer == source && le h.payload 0 8 == n) then b
      else { b with job := { b.job with heldSeals := b.job.heldSeals ++ [⟨source, pl⟩] } }
    else
      let mine := b.job.awaited.filter (fun a => a.producer == source && a.period == n)
      let open_ := mine.filter (fun a => !a.heard && !a.resolved)
      if mine.isEmpty then b.raiseN iCT 2
      else if !open_.isEmpty then b.applySeal source n pl open_
      else if mine.any (fun a => a.resolved && !a.heard) then
        ((((b.markAwaited source n (fun a => { a with heard := true })).sat R.TM.VOID_COUNTS.LATE_SEALS 1).raiseN iCT 4)).sealHeard
          source true
      else b

/-- The seals held for period `n` are applied at its departure, or discarded where no edge exists (R43, R44). -/
def Body.applyHeld (b : Body) (n : Nat) : Body :=
  let mine := b.job.heldSeals.filter (fun h => le h.payload 0 8 == n)
  let b1 : Body := { b with job := { b.job with heldSeals := b.job.heldSeals.filter (fun h => decide (n < le h.payload 0 8)) } }
  forEach mine (fun h c =>
    let es := c.job.awaited.filter (fun a => a.producer == h.producer && a.period == n && !a.heard)
    if es.isEmpty then c.raiseN iCT 2 else c.applySeal h.producer n h.payload es) b1

/-! ## Missing seals (R44) -/

/-- Every producer that has not sealed for period `n` is resolved as missing. -/
def Body.resolveMissing (b : Body) (n : Nat) : Body :=
  let due := b.job.awaited.filter (fun a => a.period == n && !a.heard && !a.resolved)
  let b1 := forEach (distinct (due.map (·.producer))) (fun p c =>
    let es := due.filter (fun a => a.producer == p)
    let c1 := (((c.raiseGates es true).sat R.TM.VOID_COUNTS.MISSING 1).acc (fun a => { a with missing := a.missing + 1 })).raiseN iCT 3
    (c1.missed p).inputVoid p n es) b
  { b1 with job := { b1.job with awaited := b1.job.awaited.map (fun a => if a.period = n then { a with resolved := true } else a) } }

/-- The oldest period whose producers are still awaited. -/
def Body.oldestAwaited (b : Body) : Option Nat := (sortNat ((b.job.awaited.filter (fun a => !a.resolved)).map (·.period))).head?

/-- The instant at which the producers of period `n` are resolved. -/
def Body.resolveAt (b : Body) (n : Nat) : Option Nat := (b.departedAt (n + 1)).map (· + b.windowNs)

/-- Periods whose resolution instant has passed are resolved, the oldest first. -/
def Body.resolveDue (b : Body) : Body :=
  repeatN 8 (fun c =>
    match c.oldestAwaited with
    | none => c
    | some n =>
      match c.resolveAt n with
      | some t => if t ≤ c.ns 0 ∧ c.inService iCT then c.resolveMissing n else c
      | none => c) b

/-- `SEAL_WINDOW_EXPIRY` (R44): W after the departure, the producers of the oldest awaited period are resolved. -/
def sealWindowExpiry (b : Body) : Body :=
  if !b.inService iCT then b
  else
    match b.oldestAwaited with
    | none => b
    | some n =>
      match b.resolveAt n with
      | some t => (b.toPod t).resolveMissing n
      | none => b

/-! ## The seal (R40 to R42) -/

/-- A change of what CT holds of the ended period. -/
def Body.onClosing (b : Body) (f : Closing → Closing) : Body :=
  { b with job := { b.job with closing := b.job.closing.map f } }

/-- Cause [3] from the occurrences at level 4 or above raised in the period (R42, R315). -/
def Body.decideFaults (b : Body) : Body :=
  match b.job.closing with
  | none => b
  | some c =>
    let raised := b.job.faulted.contains c.period
      || b.cont.tree.any (fun r => r.inJob && r.period == c.period && decide (4 ≤ r.level))
    if raised && !c.closed then b.onClosing (fun c => { c with causes := c.causes ||| 8 }) else b

/-- `VERDICT_FAULT_DECIDE` (R42): at t0 + 0.1 µs. -/
def verdictFaultDecide (b : Body) : Body :=
  match b.job.closing with
  | none => b
  | some c => if c.closed || !b.inService iCT then b else (b.toPod (c.t0 + 100)).decideFaults

/-- The token law of R277 fails for an entry of junction k in state active or draining. -/
def Body.tokensOff (b : Body) (k : Nat) : Bool :=
  (List.range 64).any (fun e =>
    let st := b.rd (R.J.SLICE.STATE k e)
    (st == 1 || st == 2) && b.rd (R.J.SLICE.HELD k e) + b.outstanding e != b.rd (R.J.SLICE.GRANT k e))

/-- Writes that arrived at junction k in class c and still wait for their address test. -/
def Body.arrivalsWaiting (b : Body) (k c : Nat) : Nat :=
  (b.writes.filter (fun w => w.xfer.isNone && junctionOfLink w.link == k && w.cls == c)).length

/-- Arrivals of some class do not balance at junction k (R278): what has arrived is accepted, a duplicate, fenced or voided, or
still waits. -/
def Body.arrivalsOff (b : Body) (k : Nat) : Bool :=
  (List.range 6).any (fun c =>
    let g (i : Nat) : Nat := SMap.getD (b.jn k).balance (8 * c + i) 0
    g 0 != g 1 + g 2 + g 3 + g 4 + b.arrivalsWaiting k c)

/-- The balance with which junction k's next period begins: the arrivals that still wait. -/
def Body.balanceCarried (b : Body) (k : Nat) : SMap Nat :=
  (List.range 6).foldl (fun m c => SMap.set m (8 * c) (b.arrivalsWaiting k c) 0) []

/-- A count of the period over the four junctions. -/
def Body.periodCount (b : Body) (n : Nat) : Nat :=
  (List.range 4).foldl (fun s k => s + SMap.getD (b.jn k).periodCounts n 0) 0

/-- The verdict is final: a cursor that waits for a good verdict advances, also in the anchor of a step that has just begun
(R49, R50), and a void own period of the step voids the step verdict (R51). -/
def Body.settleVerdict (b : Body) : Body :=
  match b.job.closing with
  | none => b
  | some c =>
    if c.causes ≠ 0 then (if c.stepPeriod then { b with job := { b.job with stepVoid := true } } else b)
    else
      match c.advance with
      | none => b
      | some (k, stride) =>
        let b1 := b.add (R.TM.CURSOR.POS k) stride
        if b1.ptypeFlag 0 && !b1.on R.TM.TT_STATUS.REPLAYING then
          { b1 with job := { b1.job with anchor := b1.job.anchor.map (fun a =>
              (a.1, (List.range 16).map (fun i => b1.rd (R.TM.CURSOR.POS i)))) } }
        else b1

/-- The counts of the ended period are closed and the balances checked (R278); a new period of counting begins. -/
def Body.closeCounts (b : Body) : Body :=
  match b.job.closing with
  | none => b
  | some c =>
    if c.closed then b
    else
      let off := (List.range 4).filter (fun k => b.inService (iJ k) && (b.tokensOff k || b.arrivalsOff k))
      let b1 := (if off.isEmpty then b else b.onClosing (fun c => { c with causes := c.causes ||| 128 }))
      let b2 := forEach off (fun k t => t.raiseN (iJ k) 5) b1
      let counts := [0, 1, 2, 3, 5].map b.periodCount
      let b3 := b2.onClosing (fun c => { c with counts := counts, closed := true })
      (forEach [0, 1, 2, 3] (fun k t => t.setJn k { t.jn k with balance := t.balanceCarried k, periodCounts := [] }) b3).settleVerdict

/-- The steps that precede `t` on the timeline of the ended period have happened (R42, R45). -/
def Body.closeDue (b : Body) : Body :=
  match b.job.closing with
  | none => b
  | some c => if c.closed || !b.inService iCT then b else b.decideFaults.closeCounts

/-- `CONSERVATION_CLOSE` (R278): at t0 + 0.2 µs. -/
def conservationClose (b : Body) : Body :=
  match b.job.closing with
  | none => b
  | some c => if c.closed || !b.inService iCT then b else (b.toPod (c.t0 + 200)).closeDue

/-- The 128 bytes of the seal of the ended period (R41).  Byte 104 outside a step, which R51 leaves open, is the last step's value
(DESIGN CHOICE, log 112). -/
def Body.sealPayload (b : Body) (c : Closing) : Bytes :=
  let n4 (i : Nat) : Bytes := leBytes 4 ((c.counts[i]?).getD 0)
  leBytes 8 c.period ++ leBytes 4 (b.rd R.TM.SERIAL.ACTIVE) ++ leBytes 1 (if c.causes = 0 then 0 else 1) ++ leBytes 1 c.causes
    ++ zeros 2 ++ leBytes 8 c.laneMask ++ leBytes 8 c.plausMask ++ leBytes 8 c.lateMask
    ++ leBytes 8 (b.rd R.TM.STEP_NUMBER.STEP) ++ n4 0 ++ n4 1 ++ n4 2 ++ n4 3 ++ leBytes 4 c.tokens ++ n4 4 ++ b.beacon
    ++ leBytes 1 (b2n b.job.stepVoid) ++ zeros 23

/-- A seal goes to one consumer: doubled in the control class through junction k; this module's own copy waits here. -/
def Body.sendSeal (b : Body) (k : Nat) (c : Closing) (dest : Nat) : Body :=
  let pl := b.sealPayload c
  (if dest = b.place then { b with fab := { b.fab with inbox := b.fab.inbox ++ [(dest, 3, pl)] } }
   else b.sendPacket k (b.plainPacket dest 0 3 c.tag c.epoch pl)).beaconSent

/-- `SEAL_SEND` (R40): at t0 + 0.5 µs, unless every junction is closed, CT was closed since t0, the period has no producer
edges, or the module has seen its own expulsion (R330). -/
def sealSend (b : Body) : Body :=
  match b.job.closing with
  | none => b
  | some c0 =>
    if c0.sent then b
    else
      let b1 := (b.closeDue).toPod (c0.t0 + 500)
      let c := b1.job.closing.getD c0
      let b2 := b1.onClosing (fun c => { c with sent := true })
      match b2.firstJunction with
      | none => b2
      | some k =>
        if !b2.inService iCT || c.ctClosed || c.consumers.isEmpty || b2.on R.CT.STATUS.EXPELLED || !c.closed then b2
        else
          let b3 := if c.causes = 0 then b2
            else (b2.sat R.TM.VOID_COUNTS.VOID_SENT 1).acc (fun a => { a with voidSeals := a.voidSeals + 1 })
          forEach c.consumers (fun p t => t.sendSeal k c p) b3

/-! ## The verdict tree (R52) -/

/-- The verdict tree of the running image while its verdict period runs. -/
def Body.vtree (b : Body) : Option VTree :=
  if b.jobRuns && b.job.departed && b.ptypeFlag 2 && b.inService iCT then b.job.active.bind (·.vtree) else none

/-- The parent address of the root. -/
def noPlace : Nat := 0xFFFFFFFF

/-- The payload of a verdict message: one byte, encoded as byte 12 of a seal (DESIGN CHOICE, log 87). -/
def verdictPayload (good : Bool) : Bytes := [if good then 0 else 1]

/-- A verdict message goes to one module: doubled, in the control class of the job's slice, through the lowest-numbered
junction in service; while every junction is closed none is sent. -/
def Body.verdictTo (b : Body) (dest : Nat) (good : Bool) : Body :=
  match b.firstJunction, b.job.active with
  | some k, some im => b.sendPacket k (b.plainPacket dest 0 7 im.tag im.epoch (verdictPayload good))
  | _, _ => b

/-- The combined verdict is known at this node and goes to each child. The image gives the number of children and no places:
those that have reported are known, and one that has not takes the verdict as void by R52 (log 87). -/
def Body.combinedKnown (b : Body) (good : Bool) : Body :=
  forEach (b.job.children.map (·.1)) (fun p c => c.verdictTo p good) { b with job := { b.job with combined := some good } }

/-- A node sends the AND of its own verdict and its children's; the root decides. -/
def Body.sendVerdict (b : Body) (v : VTree) : Body :=
  let good := !b.job.stepVoid && decide (v.children ≤ b.job.children.length) && b.job.children.all (·.2)
  let b1 : Body := { b with job := { b.job with verdictSent := true } }
  if v.parent = noPlace then b1.combinedKnown good else b1.verdictTo v.parent good

/-- `VERDICT_LEAF_SEND` (R52): a leaf sends at t_v + W + 0.5 µs. -/
def verdictLeafSend (b : Body) : Body :=
  match b.vtree with
  | none => b
  | some v =>
    if v.children ≠ 0 || b.job.verdictSent then b
    else ((b.closeDue.toPod (b.job.departAt + b.windowNs + 500)).resolveDue).sendVerdict v

/-- `VERDICT_CHILD_RECEIVE` (R52): a child's verdict; once all have reported, and not before t_v + W, the node sends. A child
that reports after that is told the combined verdict, now or when it is known. -/
def verdictChildReceive (child : Nat) (good : Bool) (b : Body) : Body :=
  let b := b.served child 7 (verdictPayload good)
  match b.vtree with
  | none => b
  | some v =>
    if (SMap.find b.job.children child).isSome then b
    else
      let b1 : Body := { b with job := { b.job with children := SMap.insert b.job.children child good } }
      if b.job.verdictSent then
        match b.job.combined with
        | some g => b1.verdictTo child g
        | none => b1
      else if b1.job.children.length < v.children then b1
      else ((b1.closeDue.toPod (b.job.departAt + b.windowNs)).resolveDue).sendVerdict v

/-- `VERDICT_NODE_TIMEOUT` (R52): a node of height h sends at t_v + W + (h + 1) × W. -/
def verdictNodeTimeout (b : Body) : Body :=
  match b.vtree with
  | none => b
  | some v =>
    if v.children = 0 || b.job.verdictSent then b
    else ((b.closeDue.toPod (b.job.departAt + b.windowNs + (v.height + 1) * b.windowNs)).resolveDue).sendVerdict v

/-- `COMBINED_VERDICT_RECEIVE` (R52): the first copy of the combined verdict is taken and relayed. -/
def combinedVerdictReceive (good : Bool) (b : Body) : Body :=
  match b.vtree with
  | none => b
  | some v =>
    let b := b.served v.parent 7 (verdictPayload good)
    if b.job.combined.isSome || v.parent = noPlace then b else b.combinedKnown good

/-! ## The meanings -/

def execSealReceive (source : BitVec 32) (pl : Bytes) (s : State) := run (sealReceive source.toNat pl) s
def execSealWindowExpiry (s : State) := run sealWindowExpiry s
def execVerdictFaultDecide (s : State) := run verdictFaultDecide s
def execConservationClose (s : State) := run conservationClose s
def execSealSend (s : State) := run sealSend s
def execVerdictLeafSend (s : State) := run verdictLeafSend s
def execVerdictChildReceive (child : BitVec 32) (good : Bool) (s : State) := run (verdictChildReceive child.toNat good) s
def execVerdictNodeTimeout (s : State) := run verdictNodeTimeout s
def execCombinedVerdictReceive (good : Bool) (s : State) := run (combinedVerdictReceive good) s

end Sys2Proof.Machine
end

