-- ==== Sys2Proof/Machine/Change.lean ====
section
/-! DEFINITION. Changing the timetable at a named departure (spec/02_timetable.md R65 to R68): STAGE, ACK, ANNOUNCE, CANCEL and
what follows them. -/

namespace Sys2Proof.Machine

/-! ## The modules of a slice (R300, R301) -/

/-- The parts of a create record's body: origin and extents, empty parts left out. -/
def recordParts (body : Bytes) : List (Nat × Nat × Nat × Nat × Nat × Nat) :=
  ((List.range 4).map (fun i =>
    let f (j : Nat) : Nat := le body (6 * i + j) 1
    (f 0, f 1, f 2, f 3, f 4, f 5))).filter (fun p => p.2.2.2.1 != 0 && p.2.2.2.2.1 != 0 && p.2.2.2.2.2 != 0)

/-- A coordinate lies within `ext` of `org` around an axis of size `dim`. -/
def onAxis (dim org ext c : Nat) : Bool := dim != 0 && decide ((c + dim - org % dim) % dim < ext)

/-- A module's coordinates lie in a part. -/
def inPart (dims : Nat → Nat) (p : Nat × Nat × Nat × Nat × Nat × Nat) (e : MapEntry) : Bool :=
  onAxis (dims 0) p.1 p.2.2.2.1 e.x && onAxis (dims 1) p.2.1 p.2.2.2.2.1 e.y && onAxis (dims 2) p.2.2.1 p.2.2.2.2.2 e.z

/-- The newest create record of a tag in the ledger. -/
def Body.createRecord (b : Body) (tag : Nat) : Option Record :=
  (b.disp.ledger.filter (fun r => r.type == 1 && r.tag == tag)).getLast?

/-- The present, unfenced modules of a slice, by the ledger and the map. -/
def Body.sliceModules (b : Body) (tag : Nat) : List Nat :=
  match b.createRecord tag with
  | none => []
  | some r =>
    (b.disp.map.filter (fun e => e.usable && (recordParts r.body).any (fun p => inPart b.dims p e))).map (·.place)

/-- The tag of the running or loaded image. -/
def Body.jobTag (b : Body) : Nat := (b.job.active.map (·.tag)).getD 0

/-- MG holds the chief's role. -/
def Body.isChief (b : Body) : Bool := b.rd R.MG.DSP_STATUS.ROLE = 2

/-- A message to every module of the job's slice; a copy for this module itself waits to be served. -/
def Body.toSlice (b : Body) (type : Nat) (body : Bytes) : Body :=
  forEach (b.sliceModules b.jobTag) (fun p c =>
    if p = b.place then { c with fab := { c.fab with inbox := c.fab.inbox ++ [(p, 7, c.msgPayload type body)] } }
    else c.sendMsg p type body) b

/-! ## Staging (R58, R65) -/

/-- The bodies of the four messages: their fields in the order in which R65 names them. -/
def stageBody (serial addr : Nat) (digest : Bytes) (d : Nat) : Bytes :=
  leBytes 4 serial ++ leBytes 8 addr ++ slice digest 0 32 ++ leBytes 8 d
def ackBody (serial code : Nat) : Bytes := leBytes 4 serial ++ leBytes 1 code
def announceBody (serial n : Nat) : Bytes := leBytes 4 serial ++ leBytes 8 n
def cancelBody (serial : Nat) : Bytes := leBytes 4 serial

/-- The bank that the running image leaves free. -/
def Body.freeBank (b : Body) : Nat := 1 - b.rd (R.T.TILE_STATUS.BANK 0)

/-- The staged image's check: as a load's, with no bank free beside a wide image, and then against the digest of the message, after
every check of R465 (DESIGN CHOICE, log 45).
The 0x21 beside a wide image shows INDEX 0 (DESIGN CHOICE, log 90). -/
def Body.checkStage (b : Body) (addr len : Nat) (digest : Bytes) : Check Image :=
  let wide := (b.job.active.map (·.wide)).getD false
  match b.checkImage addr len (if wide then 0 else 0x80000) (b.job.active.map (·.serial)) with
  | .error f => .error f
  | .ok im => if wide then .error (0x21, 0, 0) else if im.digest != slice digest 0 32 then .error (0x11, 0, 96) else .ok im

/-- TM checks an image and stages it (R64, R65): the module after it, and the code. -/
def Body.stageNow (b : Body) (at_ len : Nat) (digest : Bytes) (d : Nat) : Body × Nat :=
  match b.checkStage at_ len digest with
  | .error f => ((b.readsImage at_ len).loadStatus f, f.1)
  | .ok im =>
    let b := b.readsImage at_ len
    let j := { b.job with staged := some im, stageDeadline := d }
    let b1 := (((({ b with job := j } : Body).wr R.TM.TT_STATUS.STAGED 1).wr R.TM.TT_STATUS.ANNOUNCED 0).wr R.TM.SERIAL.STAGED
      im.serial).copyCode im at_ (b.freeBank * 0x80000)
    (b1.loadStatus (0x01, 0, 0), 0x01)

/-- `STAGE` (R65): MG has TM check and stage the image that the message names, and acknowledges with the code. -/
def stage (source serial addr : Nat) (digest : Bytes) (d : Nat) (b : Body) : Body :=
  if !b.inService iMG then b
  else
    let b0 := b.servedMsg source 0x20 (stageBody serial addr digest d)
    let at_ := addr / 64 * 64
    let len := leNat (b0.dataFor iTM (at_ + 12) 4)
    let b0 : Body := if b0.isChief then { b0 with job := { b0.job with change := some (serial, [], d, false) } } else b0
    let r := ((b0.wr R.TM.IMAGE_ADDR.ADDR (at_ / 64)).wr R.TM.IMAGE_LEN.LEN len).stageNow at_ len digest d
    r.1.toRoster 0x21 (ackBody serial r.2)

/-- The chief's change as it knows it: the serial, the acknowledgements, D, and whether ANNOUNCE was sent. -/
def Body.chiefChange (b : Body) (serial : Nat) : Nat × List (Nat × Nat) × Nat × Bool :=
  match b.job.change with
  | some c => if c.1 = serial then c else (serial, [], b.job.stageDeadline, false)
  | none => (serial, [], b.job.stageDeadline, false)

/-- `ACK` (R65 step 3): the chief gathers the acknowledgements, and once every module of the slice has sent 0x01 before
departure D it announces the switch two periods ahead. -/
def ack (source serial code : Nat) (b : Body) : Body :=
  let b := b.servedMsg source 0x21 (ackBody serial code)
  if !b.isChief || !b.inService iMG then b
  else
    let c := b.chiefChange serial
    let acks := c.2.1.filter (fun a => a.1 != source) ++ [(source, code)]
    let all := !(b.sliceModules b.jobTag).isEmpty && (b.sliceModules b.jobTag).all (fun p => acks.contains (p, 0x01))
    if all && !c.2.2.2 && b.jobRuns && decide (b.period < c.2.2.1) then
      let b1 : Body := { b with job := { b.job with change := some (serial, acks, c.2.2.1, true) } }
      b1.toSlice 0x22 (announceBody serial (b.period + 2))
    else { b with job := { b.job with change := some (serial, acks, c.2.2.1, c.2.2.2) } }

/-- `ACK_DEADLINE` (R66): at departure D with an acknowledgement missing or failed the chief cancels the change. -/
def ackDeadline (b : Body) : Body :=
  match b.job.change with
  | none => b
  | some c =>
    if c.2.2.2 || b.period < c.2.2.1 || !b.isChief then b
    else ({ b with job := { b.job with change := none } } : Body).toSlice 0x23 (cancelBody c.1)

/-- `ANNOUNCE` (R66): accepted before the departure of N − 1, otherwise ignored and recorded. -/
def announce (source serial n : Nat) (b : Body) : Body :=
  let b := b.servedMsg source 0x22 (announceBody serial n)
  match b.job.staged with
  | none => b
  | some im =>
    if im.serial ≠ serial ∨ !b.inService iMG then b
    else if n ≤ b.period + 1 then b.event 0xA142 iTM (leBytes 8 n)
    else (b.wr R.TM.TT_STATUS.ANNOUNCED 1).wr R.TM.ANNOUNCED_PERIOD.N n

/-- `CANCEL` (R66): the staged image is discarded. -/
def cancel (source serial : Nat) (b : Body) : Body :=
  let b := b.servedMsg source 0x23 (cancelBody serial)
  match b.job.staged with
  | none => b
  | some im => if im.serial = serial ∧ b.inService iMG then b.dropStaged else b

/-- `STAGE_EXPIRY` (R66): at departure D + 64, with neither ANNOUNCE nor CANCEL, the module discards its staged image. -/
def stageExpiry (b : Body) : Body :=
  if b.job.staged.isSome && !b.on R.TM.TT_STATUS.ANNOUNCED && decide (b.job.stageDeadline + 64 ≤ b.period) then b.dropStaged
  else b

/-! ## The meanings -/

def execStage (source : BitVec 32) (serial : BitVec 32) (addr : BitVec 48) (digest : Bytes) (d : BitVec 64) (s : State) :=
  run (stage source.toNat serial.toNat addr.toNat digest d.toNat) s
def execAck (source : BitVec 32) (serial : BitVec 32) (code : BitVec 8) (s : State) :=
  run (ack source.toNat serial.toNat code.toNat) s
def execAckDeadline (s : State) := run ackDeadline s
def execAnnounce (source : BitVec 32) (serial : BitVec 32) (n : BitVec 64) (s : State) :=
  run (announce source.toNat serial.toNat n.toNat) s
def execCancel (source : BitVec 32) (serial : BitVec 32) (s : State) := run (cancel source.toNat serial.toNat) s
def execStageExpiry (s : State) := run stageExpiry s

end Sys2Proof.Machine
end

