-- ==== Sys2Proof/Machine/Links.lean ====
section
/-! DEFINITION. Optical links (spec/10_optical_links.md R235 to R259): frames and retry, the link states, identity and time
frames, lasers, engines and recalibration. -/

namespace Sys2Proof.Machine

/-! ## States and their display (R245) -/

/-- Source m of a link (R259). -/
def Body.raiseL (b : Body) (n m : Nat) : Body := b.raiseOcc (occ (iL (n / 8) * 64 + 8 * (n % 8) + m)) (n % 8)

/-- `L.STATUS` of an island follows the states of its links and the laser inputs. -/
def Body.showLinks (b : Body) (k : Nat) : Body :=
  let mask (st : Nat) : Nat := (List.range 8).foldl (fun acc j => acc + (if b.linkState (8 * k + j) = st then 2 ^ j else 0)) 0
  ((b.wr (R.L.STATUS.IN_SERVICE k) (mask 6)).wr (R.L.STATUS.FAILED k) (mask 7)).wr (R.L.STATUS.LASER_OK k)
    (bits b.sb.lasers (2 * k) 2)

/-- Link n enters a state. -/
def Body.setLinkState (b : Body) (n st : Nat) : Body :=
  ((b.wr (R.L.LINK_STATUS.STATE (n / 8) (n % 8)) st).setLnk n { b.lnk n with since := b.ns 2 }).showLinks (n / 8)

/-- The engine of a link (R256). -/
def engineOf (n : Nat) : Nat := n / 4
def engineLinks (e : Nat) : List Nat := (List.range 4).map (4 * e + ·)

/-- ENABLE of an engine. -/
def Body.engineEnabled (b : Body) (e : Nat) : Bool :=
  if e % 2 = 0 then b.on (R.L.ENGINE_CTRL.ENABLE_E0 (e / 2)) else b.on (R.L.ENGINE_CTRL.ENABLE_E1 (e / 2))

/-- A link of the engine may leave state 0: its island is in service, the engine powered and enabled, its laser input in
range. -/
def Body.engineReady (b : Body) (e : Nat) : Bool :=
  b.inService (iL (e / 2)) && bit (b.rd R.SB.DOMAIN_ON.ON) (108 + e) && b.engineEnabled e && bit b.sb.lasers e

/-- The cause shown for a link. -/
def Body.setCause (b : Body) (n c : Nat) : Body := b.wr (R.L.LINK_STATUS.CAUSE (n / 8) (n % 8)) c

/-- The links of an engine leave state 0 where they may (R245); one that is disabled, or whose engine is drained, is in state 9
again, as before a reset of its island (R257). -/
def Body.wakeEngine (b : Body) (e : Nat) : Body :=
  forEach (engineLinks e) (fun n t =>
    if t.linkState n ≠ 0 || !t.inService (iL (e / 2)) then t
    else if t.engineEnabled e && (t.on (R.L.LINK_CTRL.DISABLE (n / 8) (n % 8)) || bit t.sb.drained e) then (t.setLinkState n 9).setCause n 8
    else if t.engineReady e then t.setLinkState n 1
    else t) b

/-- A PORT_STATE goes to the chief when `f` changes one of the module's port-alive bits (R296). -/
def Body.portsAround (b : Body) (f : Body → Body) : Body :=
  let c := f b
  if c.aliveMask = b.aliveMask then c
  else c.toChief 0x16 (leBytes 2 (c.aliveMask % 2 ^ 10) ++ leBytes 2 (c.aliveMask / 2 ^ 10))

/-- The packet copies that end in frames of the replay buffer. -/
def Link.inReplay (l : Link) : Nat := (l.replay.map (fun f => f.packets.length)).foldl (· + ·) 0

/-- Every packet copy in the replay buffer is dropped: fenced, with cause link failure, and in doubt (R248); those not yet wholly
framed are fenced.  The frames of a link that goes on sending in state 8 keep their numbers and are idle (log 91). -/
def Body.dropReplay (b : Body) (n st : Nat) : Body :=
  let l := b.lnk n
  let b := if st = 8 then b else b.onLinkSource n [1] Capture.settled
  let kept := if st = 8 then l.replay.map (fun f => { f with kind := 1, first := noFirst, body := [], packets := [] }) else []
  ((b.setLnk n { l with replay := kept, sending := [], sendPos := 0, stream := [], resync := true, nacked := false, exchanges := [],
                        debt := 0 }).cons
    (junctionOfLink n) 2 (l.inReplay + l.sending.length)).cons (junctionOfLink n) 10 l.inReplay

/-- The far end's place and key digest as the registers hold them. -/
def Body.farEnd (b : Body) (n : Nat) : Nat × Nat := (b.rd (R.L.LINK_PEER.PLACE (n / 8) (n % 8)), (b.lnk n).peerDigest)

/-- Link n leaves state 6 for another state; what it holds is dropped, and the far end it had is kept (R247). -/
def Body.leaveService (b : Body) (n st cause : Nat) : Body :=
  if b.linkState n ≠ 6 then (b.setLinkState n st).setCause n cause
  else
    b.portsAround (fun b =>
      let b1 := b.dropReplay n st
      let b2 := b1.setLnk n { b1.lnk n with known := some (b.farEnd n), drain := false, retrain := false, recal := false }
      (((b2.setLinkState n st).setCause n cause).irq 9))

/-- The source of a failure by its cause (R259). -/
def failSource (cause : Nat) : Nat := if cause = 7 then 5 else if cause = 3 then 3 else if cause = 4 then 6 else 2

/-- A link fails: state 7, its cause, its count and its source; out of service it wears too (R248, R331). -/
def Body.failLink (b : Body) (n cause : Nat) : Body :=
  let b1 := (b.leaveService n 7 cause).sat (R.L.LINK_CNT.COUNT (n / 8) (n % 8) 7) 1
  let b2 := (b1.setLnk n { b1.lnk n with shortQual := false }).onLinkSource n [1, 4] Capture.settled
  (if b.linkUp n then b2.wearBy (1092 + n) 1024 else b2).raiseL n (failSource cause)

/-- A dispatcher message goes one hop on a link (R27, R293), with the next sequence number. -/
def Body.sendHop (b : Body) (n type : Nat) (body : Bytes) : Body :=
  (b.sendOneHop n (b.plainPacket 0 0 7 0 (b.rd (R.J.SLICE.EPOCH 3 0)) (b.msgPayload type body))).stepSeq 0 0

/-- DISCOVER on one link (R291): rank, charter serial, hop count. -/
def Body.sendDiscover (b : Body) (n rank serial hops : Nat) : Body :=
  b.sendHop n 0x10 (leBytes 4 rank ++ leBytes 4 serial ++ leBytes 4 hops)

/-- A discovering candidate floods its own DISCOVER on a link that has just entered service (R293). -/
def Body.discoverOn (b : Body) (n : Nat) : Body :=
  if b.disp.discovery.candidate then
    b.sendDiscover n (charterRank b.disp.charter b.place) (charterSerial b.disp.charter) 0
  else b

/-- Link n enters service (R245, R247). -/
def Body.enterService (b : Body) (n : Nat) : Body :=
  (b.portsAround (fun b =>
    let b1 := ((b.setLinkState n 6).setCause n 0).wr (R.L.LINK_STATUS.HOLD (n / 8) (n % 8)) 0
    (b1.setLnk n { b1.lnk n with wasInService := true, known := some (b1.farEnd n), sending := [], sendPos := 0, stream := [], resync := true,
                                 uncorrectable := [], debt := 0 }).irq 9)).discoverOn n

/-- A ready link without HOLD enters service: at once if no job runs, else the departure calls this (R245). -/
def Body.joinReady (b : Body) (n : Nat) : Body :=
  if b.linkState n = 5 && !b.on (R.L.LINK_STATUS.HOLD (n / 8) (n % 8)) then b.enterService n else b

/-- The module holds an agreed map (R247). -/
def Body.mapAgreed (b : Body) : Bool := 2 ≤ b.rd R.MG.DSP_STATUS.MAP_STATE

/-! ## Actions at departures (R245, R257, R258) -/

/-- A retrain takes effect: state 1 with cause 10. -/
def Body.retrainLink (b : Body) (n : Nat) : Body :=
  if b.linkState n = 6 then b.leaveService n 1 10 else b.setLnk n { b.lnk n with retrain := false }

/-- A retrain is ordered: at once if no job runs, else at the next departure. -/
def Body.orderRetrain (b : Body) (n : Nat) : Body :=
  if b.linkState n ≠ 6 then b
  else if b.jobRuns then b.setLnk n { b.lnk n with retrain := true } else b.retrainLink n

/-- A drain takes effect at one link: state 9, cause disabled. -/
def Body.drainLink (b : Body) (n : Nat) : Body :=
  let b1 := b.leaveService n 9 8
  b1.setLnk n { b1.lnk n with drain := false }

/-- An engine is drained (R257). -/
def Body.drainEngineNow (b : Body) (e : Nat) : Body :=
  forEach (engineLinks e) (fun n t => t.drainLink n)
    { b with sb := { b.sb with drained := b.sb.drained ||| 2 ^ e } }

/-- The rail-mates of a link, itself excepted. -/
def railMates (n : Nat) : List Nat := (portLinks (portOfLink n) (linkRailB n)).filter (· != n)

/-- A recalibration may start: every rail-mate is in service and none of the group recalibrates (R258). -/
def Body.mayRecal (b : Body) (n : Nat) : Bool :=
  b.linkUp n && (railMates n).all (fun x => b.linkUp x && !(b.lnk x).recal)

/-- A recalibration takes effect: the link leaves service and re-adapts. -/
def Body.recalLink (b : Body) (n : Nat) : Body :=
  if b.mayRecal n then b.leaveService n 8 0
  else b.setLnk n { b.lnk n with recal := false, recalAsked := true }

/-- What the links do at a departure: drains, retrains and recalibrations take effect, and ready links join (R245, R247,
R257, R258). -/
def Body.linksDepart (b : Body) : Body :=
  let b1 := forEach (List.range 16) (fun e t =>
    if (engineLinks e).any (fun n => (t.lnk n).drain) then t.drainEngineNow e else t) b
  let b2 := forEach (List.range 64) (fun n t => if (t.lnk n).retrain then t.retrainLink n else t) b1
  let b3 := forEach (List.range 64) (fun n t => if (t.lnk n).recal then t.recalLink n else t) b2
  forEach (List.range 64) (fun n t => t.joinReady n) b3

/-! ## Identity (R235, R254) -/

/-- Index of a link island whose slots 6 and 7 lead to board peers over offsets 1 and 3 (R235). -/
def boardIsland (k : Nat) : Bool := k % 4 < 2

/-- The far end that link n must report (R235): an uplink accepts any uplink. -/
def cabledRight (n far : Nat) : Bool :=
  let k := n / 8
  let j := n % 8
  if j = 7 && !boardIsland k then far % 8 = 7 && !boardIsland (far / 8)
  else
    let fj := if j < 6 then (if j % 2 = 0 then j + 1 else j - 1) else if boardIsland k then (if j = 6 then 7 else 6) else 6
    far = 8 * k + fj

/-- An identity frame's body reaches link n (R254). -/
def Body.identityFrom (b : Body) (n : Nat) (body : Bytes) : Body :=
  let k := n / 8
  let j := n % 8
  let st := b.linkState n
  if !b.inService iSC || st < 3 || 5 < st then b
  else if st = 3 then
    let far := le body 4 1
    if far < 64 && !cabledRight n far then b.failLink n 4
    else if 64 ≤ far || !Config.identityValid body || !b.sec.flash.unwrapOk then b.failLink n 3
    else
      let b1 := ((b.wr (R.L.LINK_STATUS.PEER_LINK k j) far).wr (R.L.LINK_PEER.PLACE k j) (le body 0 4)).wr
        (R.L.LINK_PEER.KEYID k j) (le body 24 4)
      let b2 := b1.setLnk n { b1.lnk n with peerNonce := le body 8 8, verified := true, peerDigest := beNat (slice body 24 32) }
      let b3 := b2.sendIdentity n
      if bit (le body 5 1) 0 && le body 16 8 == (b.lnk n).nonce then b3.setLinkState n 4 else b3
  else if bit (le body 5 1) 0 then b
  else b.sendIdentity n

/-! ## Time exchanges (R255) -/

/-- The instant of a stamp in 2⁻⁸ ns; a short one is the nearest to TB0 (R13). -/
def Body.stampInstant (b : Body) (v : Nat) : Int :=
  let ns := bits v 48 32
  if bit v 92 then
    let cur := b.ns 0
    let d := signed (ns + 2 ^ 32 - cur % 2 ^ 32) 32
    ((cur : Int) + d) * 256
  else (((bits v 0 48) * 10 ^ 9 + ns : Nat) : Int) * 256

/-- The body of a time frame. -/
def timeBody (kind seq t1 t2 t3 : Nat) : Bytes :=
  leBytes 1 kind ++ leBytes 3 seq ++ leBytes 12 t1 ++ leBytes 12 t2 ++ leBytes 12 t3 ++ zeros 1268

/-- `TIME_EXCHANGE_START`: a link in service sends a request. -/
def timeExchangeStart (n : Nat) (b : Body) : Body :=
  if !b.linkUp n || b.rd (R.L.TIME_CTRL.INTERVAL (n / 8)) = 0 then b
  else
    let l := b.lnk n
    let seq := (l.exchangeSeq + 1) % 2 ^ 24
    let t1 := b.stamp 0 (iL (n / 8))
    let b1 := b.setLnk n { l with exchangeSeq := seq, exchanges := l.exchanges ++ [(seq, b.stampInstant t1)] }
    (b1.sampled (iL (n / 8))).sendFrame n 3 noFirst (timeBody 0 seq t1 0 0) []

/-- A request has arrived: it is answered with t2 and t3, both taken now. -/
def Body.timeRequested (b : Body) (n : Nat) (body : Bytes) : Body :=
  let t := b.stamp 0 (iL (n / 8))
  (b.sampled (iL (n / 8))).sendFrame n 3 noFirst (timeBody 1 (le body 1 3) (le body 4 12) t t) []

/-- A response has arrived at t4: the offset and the round trip are handed to TM (R255, R378). -/
def Body.timeResponded (b : Body) (n : Nat) (body : Bytes) : Body :=
  let l := b.lnk n
  let seq := le body 1 3
  match l.exchanges.find? (fun x => x.1 == seq) with
  | none => b
  | some (_, t1) =>
    let t4 := b.stampInstant (b.stamp 0 (iL (n / 8)))
    let t2 := b.stampInstant (le body 16 12)
    let t3 := b.stampInstant (le body 28 12)
    let asym := signed (b.rd (R.L.TIME_ASYM.ASYM (n / 8) (n % 8))) 32
    let offset := ((t2 - t1) - (t4 - t3)) * 1000 - asym * 256
    let rtt := (t4 - t1) - (t3 - t2)
    let b1 := (b.setLnk n { l with exchanges := l.exchanges.filter (fun x => x.1 != seq) }).sampled (iL (n / 8))
    if !b.linkUp n then b1
    else
      { b1 with time := { b1.time with offsets := b1.time.offsets ++ [⟨n, offset, rtt⟩]
                                       neighbours := b1.time.neighbours ++ [(n % 8, offset.natAbs / 2000, b1.ns 2)] } }

/-- A time frame of either kind. -/
def Body.timeFrom (b : Body) (n : Nat) (body : Bytes) : Body :=
  if le body 0 1 = 0 then b.timeRequested n body else if le body 0 1 = 1 then b.timeResponded n body else b

/-- `TIME_EXCHANGE_ABANDONED`: 100 µs after its request an exchange without an answer is abandoned. -/
def timeExchangeAbandoned (n : Nat) (b : Body) : Body :=
  match (b.lnk n).exchanges with
  | [] => b
  | (_, t1) :: rest =>
    let b1 := b.toPod ((t1 / 256).toNat + 100000)
    (b1.setLnk n { b1.lnk n with exchanges := rest }).raiseL n 7

/-! ## Frames (R238 to R243) -/

/-- The symbols corrected in one codeword are counted (R259, R331). -/
def Body.corrected (b : Body) (n c : Nat) : Body :=
  if c = 0 then b
  else
    let old := b.rd (R.L.LINK_CNT.COUNT (n / 8) (n % 8) 0)
    let b1 := ((b.sat (R.L.LINK_CNT.COUNT (n / 8) (n % 8) 0) 1).sat (R.L.LINK_CNT.COUNT (n / 8) (n % 8) 1) c).acc
      (fun a => { a with codewords := a.codewords + 1 })
    let b2 := if (old + 1) % 65536 = 0 then b1.wearBy (1092 + n) 1 else b1
    b2.raiseL n 0

/-- A breach of qualification restarts the run (R246). -/
def Body.restartRun (b : Body) (n : Nat) : Body :=
  if b.linkState n ≠ 4 then b
  else
    (((b.setLnk n { b.lnk n with since := b.ns 2 }).sat (R.L.LINK_CNT.COUNT (n / 8) (n % 8) 6) 1).wearBy (1092 + n) 128).raiseL
      n 4

/-- An uncorrectable codeword: counted, and past the limit in one second of TB2 a link in service fails (R248). -/
def Body.uncorrectable (b : Body) (n : Nat) : Body :=
  let l := b.lnk n
  let recent := (l.uncorrectable.filter (fun t => decide (b.ns 2 < t + 10 ^ 9))) ++ [b.ns 2]
  let b1 := (b.setLnk n { l with uncorrectable := recent }).sat (R.L.LINK_CNT.COUNT (n / 8) (n % 8) 2) 1
  if b.linkUp n && decide (b.rd (R.L.FAIL_CTRL.UNC_LIMIT (n / 8)) < recent.length) then b1.failLink n 6 else b1

/-- A frame's number is at most the acknowledgement, in sequence order modulo 65,536. -/
def ackedBy (ack seq : Nat) : Bool := (ack + 2 ^ 16 - seq) % 2 ^ 16 < 2 ^ 15

/-- A frame in the replay buffer has been sent again. -/
def Link.retrying (l : Link) : Bool := l.replay.any (fun f => decide (2 ≤ f.sends))

/-- The far end has acknowledged up to a sequence: those frames leave the replay buffer (R242). With the last of the frames that
were sent again, the repeat of a retried frame has come through (R332). -/
def Body.acknowledged (b : Body) (n ack : Nat) : Body :=
  let l := b.lnk n
  let b1 := b.setLnk n { l with replay := l.replay.filter (fun f => !ackedBy ack f.seq) }
  if l.retrying && !(b1.lnk n).retrying then b1.onLinkSource n [1] Capture.repeated else b1

/-- A NACK has arrived (R242): every unacknowledged frame is sent again, its time taken from the link's slots (R244), or the link
fails at the retry limit. -/
def Body.nackFrom (b : Body) (n ack : Nat) : Body :=
  let b1 := b.acknowledged n ack
  let l := b1.lnk n
  let lim := b1.rd (R.L.FAIL_CTRL.RETRY_LIMIT (n / 8))
  if l.replay.isEmpty then b1
  else if l.replay.any (fun f => decide (lim ≤ f.sends)) then b1.failLink n 5
  else
    let again := l.replay.map (fun f => { f with sends := f.sends + 1 })
    forEach again (fun f t =>
      ((((t.emitFrame n f).sat (R.L.LINK_CNT.COUNT (n / 8) (n % 8) 3) 1).acc (fun a => { a with retried := a.retried + 1 })).wearBy
        (1092 + n) 8).raiseL n 1)
      (b1.setLnk n { l with replay := again, debt := l.debt + (if b1.linkUp n then 1308 * again.length else 0) }) |>.restartRun n

/-- A frame is discarded; on the first since an accepted one the next outgoing frame carries NACK (R241). -/
def Body.discardFrame (b : Body) (n : Nat) : Body :=
  let l := b.lnk n
  if l.nacked then b
  else b.setLnk n { l with nacked := true, nackDue := true }

/-- Packets are delimited in the stream by their length fields and delivered (R239).  `left` bytes of the stream come from
the frame whose first-packet offset is `first`; a header that fails its CRC ends the stream up to the next offset.  A tail of fewer
than 32 zeros may be fill or the start of a packet to place 0 (R27): `dataFrom` tells them apart by the next frame's offset. -/
def Body.delimit (n first : Nat) (body : Bytes) : Nat → Bytes → Body → Body
  | 0, _, b => b
  | fuel + 1, s, b =>
    let keep (s : Bytes) (b : Body) : Body := b.setLnk n { b.lnk n with stream := s, resync := false }
    if !b.linkUp n then b
    else if s.length < 32 then keep s b
    else if s.all (· == 0) then keep [] b
    else if !headerCrcOk s then
      let b1 := packetIngress n (slice s 0 32) b
      if first < 1308 && decide (1308 < first + s.length) then Body.delimit n 1308 body fuel (body.drop first) b1
      else b1.setLnk n { b1.lnk n with stream := [], resync := true }
    else
      let len := 36 + le s 14 2
      if s.length < len then keep s b
      else Body.delimit n first body fuel (s.drop len) (packetIngress n (s.take len) b)

/-- The body of an accepted data frame joins the packet stream (R238, R239). -/
def Body.dataFrom (b : Body) (n first : Nat) (body : Bytes) : Body :=
  let l := b.lnk n
  let fuel := 2 + (l.stream.length + body.length)
  if l.resync || l.stream.isEmpty then
    if first < 1308 then Body.delimit n 1308 body fuel (body.drop first) b else b
  else if l.stream.all (· == 0) && (decide (1308 ≤ first) || (body.take first).all (· == 0)) && decide (first < 1308) then
    Body.delimit n 1308 body fuel (body.drop first) b
  else Body.delimit n first body fuel (l.stream ++ body) b

/-- A frame has been accepted (R241): its acknowledgement, its NACK and its body take effect. -/
def Body.frameAccepted (b : Body) (n : Nat) (f : Bytes) : Body :=
  let type := le f 4 1 % 8
  let nack := bit (le f 4 1) 3
  let l := b.lnk n
  let b1 := b.setLnk n { l with rxNext := (l.rxNext + 1) % 2 ^ 16, nacked := false }
  let b2 := if nack then b1.nackFrom n (le f 2 2) else b1.acknowledged n (le f 2 2)
  let body := slice f 8 1308
  if type = 0 then (if b2.linkUp n then b2.dataFrom n (le f 5 2 % 2 ^ 11) body else b2)
  else if type = 2 then b2.identityFrom n body
  else if type = 3 then b2.timeFrom n body
  else b2

/-- `FRAME_RECEIVE` (R237 to R243): the 1,088 symbols of a frame arrive on a link whose receiver is locked. -/
def frameReceive (n : Nat) (syms : List Nat) (b : Body) : Body :=
  let st := b.linkState n
  if !b.inService (iL (n / 8)) || !((3 ≤ st && st ≤ 6) || st = 8) then b
  else
    let d0 := rsDecode (frameWord syms 0)
    let d1 := rsDecode (frameWord syms 1)
    let count (d : Option (List Nat × Nat)) (b : Body) : Body :=
      match d with
      | some (_, c) => b.corrected n c
      | none => b.uncorrectable n
    let b1 := count d1 (count d0 b)
    let past (d : Option (List Nat × Nat)) : Bool :=
      match d with
      | some (_, c) => decide (b.rd (R.L.QUAL_CTRL.QUAL_T (n / 8)) < c)
      | none => true
    match d0, d1 with
    | some (w0, _), some (w1, _) =>
      let f := frameBytes w0 w1
      let ok := le f 1316 4 == crc32 (slice f 0 1316) && le f 0 2 == (b.lnk n).rxNext
      let b2 := if past d0 || past d1 || decide (16 ≤ le f 4 1) then b1.restartRun n else b1
      if b2.linkState n = 7 then b2 else if ok then b2.frameAccepted n f else b2.discardFrame n
    | _, _ =>
      let b2 := b1.restartRun n
      if b2.linkState n = 7 then b2 else b2.discardFrame n

/-- `NACK` (R242): a NACK naming an acknowledgement reaches the sender. -/
def nack (n ack : Nat) (b : Body) : Body := if b.linkState n = 7 || b.linkState n = 0 then b else b.nackFrom n ack

/-! ## Training (R245, R246, R247) -/

/-- `LINK_FAILURE` (R248): loss of light or lock on a lane of a link in service. -/
def linkFailure (n : Nat) (b : Body) : Body := if b.linkUp n then b.failLink n 1 else b

/-- `LIGHT_DETECTED`: light on all four lanes takes a link from state 1 to training. -/
def lightDetected (n : Nat) (b : Body) : Body := if b.linkState n = 1 then b.setLinkState n 2 else b

/-- `TRAINING_COMPLETE`: the link enters identity exchange with a fresh nonce (R254); its frames are numbered afresh, and it keeps the
short qualification that a full reset leaves it (R421). -/
def trainingComplete (n : Nat) (b : Body) : Body :=
  if b.linkState n ≠ 2 then b
  else
    let nonce := (Config.freeValue 64 b.free).toNat
    let b1 := (b.takeFree).setLinkState n 3
    (b1.setLnk n { b1.lnk n with
      nonce := nonce, peerNonce := 0, verified := false, rxNext := 0, txNext := 0, nacked := false, nackDue := false, replay := [], sending := [],
      sendPos := 0, stream := [],
      resync := true, uncorrectable := [], exchanges := [], trainedAt := b1.ns 2 }).sendIdentity n

/-- `TRAINING_TIMEOUT`: 50 ms in state 2. -/
def trainingTimeout (n : Nat) (b : Body) : Body :=
  if b.linkState n ≠ 2 then b else (b.toLocal ((b.lnk n).since + 50000000)).failLink n 2

/-- `IDENTITY_FRAME`: an identity frame's body reaches a link. -/
def identityFrame (n : Nat) (body : Bytes) (b : Body) : Body := b.identityFrom n (slice body 0 1308)

/-- `IDENTITY_TIMEOUT`: 5 ms in state 3. -/
def identityTimeout (n : Nat) (b : Body) : Body :=
  if b.linkState n ≠ 3 then b else (b.toLocal ((b.lnk n).since + 5000000)).failLink n 3

/-- HOLD is cleared: without a job the link enters service at once (R245, R247). -/
def Body.releaseHold (b : Body) (n : Nat) : Body :=
  let b1 := b.wr (R.L.LINK_STATUS.HOLD (n / 8) (n % 8)) 0
  if b1.jobRuns then b1 else b1.joinReady n

/-- The far end of link n is expelled (R311). -/
def Body.farFenced (b : Body) (n : Nat) : Bool := b.isExpelled (b.farEnd n).1

/-- The far end of link n agrees with its map entry, which is usable: the chief orders RELEASE (R312). -/
def Body.farAgrees (b : Body) (n : Nat) : Bool :=
  match b.disp.map.find? (fun e => e.place == (b.farEnd n).1) with
  | some e => e.usable && e.digest == b.rd (R.L.LINK_PEER.KEYID (n / 8) (n % 8)) && !b.farFenced n
  | none => false

/-- Held links whose far ends agree with the map in force are released. -/
def Body.releaseMatching (b : Body) : Body :=
  forEach (List.range 64) (fun n t =>
    if t.linkState n = 5 && t.on (R.L.LINK_STATUS.HOLD (n / 8) (n % 8)) && t.farAgrees n then t.releaseHold n else t) b

/-- A held link (R312): it is released if its far end agrees with the map. No message carries the chief's order, so the
module's MG carries it out on the agreed map (DESIGN CHOICE, log 94). A far end that does not agree is an identity conflict,
and one that claims the place of another present module is reported to the roster with reason 3. -/
def Body.checkHeld (b : Body) (n : Nat) : Body :=
  let far := b.farEnd n
  match b.disp.map.find? (fun e => e.place == far.1) with
  | some e =>
    if e.digest = b.rd (R.L.LINK_PEER.KEYID (n / 8) (n % 8)) then (if b.farAgrees n then b.releaseHold n else b)
    else
      let b1 := b.event 0x8343 iMG (leBytes 4 far.1 ++ leBytes 1 n)
      if e.usable then b1.sendSuspect far.1 3 0 else b1
  | none => b.event 0x8343 iMG (leBytes 4 far.1 ++ leBytes 1 n)

/-- `QUALIFICATION_COMPLETE` (R246, R247, R421): the error-free run ends, short after a recalibration or a full reset with the far end
unchanged; the link is ready, held or in service. -/
def qualificationComplete (n : Nat) (b : Body) : Body :=
  let k := n / 8
  let l := b.lnk n
  if b.linkState n ≠ 4 then b
  else
    let t := if l.shortQual && l.known == some (b.farEnd n) then b.rd (R.L.QUAL_CTRL.RECAL_QUAL k) * 10 ^ 7 else b.rd (R.L.QUAL_CTRL.QUAL_TIME k) * 10 ^ 9
    let b1 := ((b.toLocal (l.since + t)).setLinkState n 5).onPart 3 n Capture.repeated
    if !b1.mapAgreed then b1.enterService n
    else if l.wasInService && l.known == some (b1.farEnd n) && !b1.farFenced n then
      if b1.jobRuns then b1 else b1.joinReady n
    else (b1.wr (R.L.LINK_STATUS.HOLD k (n % 8)) 1).checkHeld n

/-- `RETRAIN_DELAY_EXPIRY`: a failed link returns to state 1, unless its laser input is out of range (R256). -/
def retrainDelayExpiry (n : Nat) (b : Body) : Body :=
  if b.linkState n ≠ 7 then b
  else
    let b1 := b.toLocal ((b.lnk n).since + b.rd (R.L.FAIL_CTRL.RETRAIN_DELAY (n / 8)) * 10 ^ 6)
    if bit b1.sb.lasers (engineOf n) then b1.setLinkState n 1 else b1

/-! ## Lasers and engines (R256, R257) -/

/-- `LASER_LOSS`: a wavelength stayed below range for 10 µs; the engine's four links fail. -/
def laserLoss (e : Nat) (b : Body) : Body :=
  let b1 := (({ b with sb := { b.sb with lasers := b.sb.lasers - (if bit b.sb.lasers e then 2 ^ e else 0) } } : Body).showLinks
    (e / 2)).wearBy (1156 + e) 1024
  forEach (engineLinks e) (fun n t =>
    let st := t.linkState n
    if st = 0 || st = 7 || st = 9 then t else t.failLink n 7) b1

/-- `LASER_INPUT_RESTORED`: the input is back in range; links leave state 0, and failed ones whose delay has run return
through state 1. -/
def laserInputRestored (e : Nat) (b : Body) : Body :=
  let b1 := (({ b with sb := { b.sb with lasers := b.sb.lasers ||| 2 ^ e } } : Body).showLinks (e / 2)).wakeEngine e
  forEach (engineLinks e) (fun n t =>
    if t.linkState n = 7 && decide ((t.lnk n).since + t.rd (R.L.FAIL_CTRL.RETRAIN_DELAY (n / 8)) * 10 ^ 6 ≤ t.ns 2) then
      t.setLinkState n 1
    else t) b1

/-- `DRAIN_ENGINE`: a write of `L.ENGINE_CTRL.DRAIN_En`, honoured from MG only. -/
def drainEngine (m : Master) (e : Nat) (b : Body) : Body :=
  let k := e / 2
  if !b.inService (iL k) then b.cfgEvent m (iL k) 0x20 (2 ^ (e % 2)) 3
  else if m ≠ .mg then b.cfgEvent m (iL k) 0x20 (2 ^ (e % 2)) 2
  else if b.jobRuns then forEach (engineLinks e) (fun n t => t.setLnk n { t.lnk n with drain := true }) b
  else b.drainEngineNow e

/-- The engine's power is gone: its links are off. -/
def Body.engineOff (b : Body) (e : Nat) : Body :=
  forEach (engineLinks e) (fun n t => if t.linkState n = 0 then t else t.leaveService n 0 0) b

/-- The enable bit of an engine. -/
def Body.setEnable (b : Body) (e v : Nat) : Body :=
  if e % 2 = 0 then b.wr (R.L.ENGINE_CTRL.ENABLE_E0 (e / 2)) v else b.wr (R.L.ENGINE_CTRL.ENABLE_E1 (e / 2)) v

/-- A link of an undrained, enabled engine leaves state 9 when DISABLE is clear (R245). -/
def Body.releaseDisabled (b : Body) (n : Nat) : Body :=
  if b.linkState n = 9 && !b.on (R.L.LINK_CTRL.DISABLE (n / 8) (n % 8)) && !bit b.sb.drained (engineOf n) then
    b.setLinkState n (if b.engineEnabled (engineOf n) then 1 else 0)
  else b

/-- `ENABLE_ENGINE`: ENABLE written with 1 powers the engine and ends a drain. -/
def enableEngine (m : Master) (e : Nat) (b : Body) : Body :=
  let k := e / 2
  if !b.inService (iL k) then b.cfgEvent m (iL k) 0x20 (2 ^ (2 + e % 2)) 3
  else
    let b1 := b.setEnable e 1
    let b2 := ({ b1 with sb := { b1.sb with drained := b1.sb.drained - (if bit b1.sb.drained e then 2 ^ e else 0) } } : Body).wr
      R.SB.DOMAIN_ON.ON (b1.rd R.SB.DOMAIN_ON.ON ||| 2 ^ (108 + e))
    (forEach (engineLinks e) (fun n t => t.releaseDisabled n) b2).wakeEngine e

/-- `DISABLE_ENGINE`: ENABLE cleared switches the engine's domain off; SB refuses it for an engine that is not drained
(R415). -/
def disableEngine (m : Master) (e : Nat) (b : Body) : Body :=
  let k := e / 2
  if !b.inService (iL k) then b.cfgEvent m (iL k) 0x20 0 3
  else if !bit b.sb.drained e then b.cfgEvent m iSB 0x20 (108 + e + 2 * 2 ^ 8) 0
  else
    let b1 := b.setEnable e 0
    (b1.wr R.SB.DOMAIN_ON.ON (b1.rd R.SB.DOMAIN_ON.ON - (if bit (b1.rd R.SB.DOMAIN_ON.ON) (108 + e) then 2 ^ (108 + e) else 0))
      ).engineOff e

/-! ## Link control (R245, R247, R258) -/

/-- `LINK_DISABLE`: DISABLE set holds the link in state 9; cleared, it lets the link go. -/
def linkDisable (m : Master) (n : Nat) (on_ : Bool) (b : Body) : Body :=
  let k := n / 8
  let off := 0x1010 + 0x100 * (n % 8)
  if !b.inService (iL k) then b.cfgEvent m (iL k) off (b2n on_) 3
  else
    let b1 := b.wr (R.L.LINK_CTRL.DISABLE k (n % 8)) (b2n on_)
    if on_ then (if b1.linkState n = 9 then b1 else b1.leaveService n 9 8) else b1.releaseDisabled n

/-- `LINK_RELEASE`: a write of RELEASE, honoured from MG only, clears HOLD; a far end that is expelled stays held until its
readmission (R311). -/
def linkRelease (m : Master) (n : Nat) (b : Body) : Body :=
  let k := n / 8
  let off := 0x1010 + 0x100 * (n % 8)
  if !b.inService (iL k) then b.cfgEvent m (iL k) off 2 3
  else if m ≠ .mg then b.cfgEvent m (iL k) off 2 2
  else if b.farFenced n then b.cfgEvent m (iL k) off 2 0
  else b.releaseHold n

/-- `LINK_RETRAIN`: a write of RETRAIN, honoured from MG only. -/
def linkRetrain (m : Master) (n : Nat) (b : Body) : Body :=
  let k := n / 8
  let off := 0x1010 + 0x100 * (n % 8)
  if !b.inService (iL k) then b.cfgEvent m (iL k) off 4 3
  else if m ≠ .mg then b.cfgEvent m (iL k) off 4 2
  else b.orderRetrain n

/-- The link whose turn it is (R258): one named by NOW first, then the link longest without training. -/
def Body.recalTurn (b : Body) (k : Nat) : Option Nat :=
  let up := ((List.range 8).map (8 * k + ·)).filter b.linkUp
  match up.find? (fun n => (b.lnk n).recalAsked) with
  | some n => some n
  | none =>
    if b.rd (R.L.RECAL_CTRL.INTERVAL k) = 0 then none
    else up.foldl (fun best n =>
      match best with
      | none => some n
      | some x => if (b.lnk n).trainedAt < (b.lnk x).trainedAt then some n else some x) none

/-- `RECALIBRATION_START` (R258): at a departure, or at once without a job; a link whose rail-mates do not allow it waits. -/
def recalibrationStart (k : Nat) (b : Body) : Body :=
  if !b.inService (iL k) then b
  else
    match b.recalTurn k with
    | none => b
    | some n =>
      if !b.mayRecal n then b.setLnk n { b.lnk n with recalAsked := true }
      else
        let b1 := b.setLnk n { b.lnk n with recalAsked := false, recal := true }
        if b.jobRuns then b1 else b1.recalLink n

/-- `RECALIBRATION_END`: the link re-adapted and qualifies over the short run (R246, R258). -/
def recalibrationEnd (n : Nat) (b : Body) : Body :=
  if b.linkState n ≠ 8 then b
  else
    let b1 := b.setLinkState n 4
    b1.setLnk n { b1.lnk n with shortQual := true, trainedAt := b1.ns 2 }

/-! ## The meanings -/

def execFrameReceive (link : Fin 64) (syms : Vector (BitVec 10) 1088) (s : State) :=
  run (frameReceive link.val (syms.toList.map (·.toNat))) s
def execNack (link : Fin 64) (ack : BitVec 16) (s : State) := run (nack link.val ack.toNat) s
def execLinkFailure (link : Fin 64) (s : State) := run (linkFailure link.val) s
def execLightDetected (link : Fin 64) (s : State) := run (lightDetected link.val) s
def execTrainingComplete (link : Fin 64) (s : State) := run (trainingComplete link.val) s
def execTrainingTimeout (link : Fin 64) (s : State) := run (trainingTimeout link.val) s
def execIdentityFrame (link : Fin 64) (body : Bytes) (s : State) := run (identityFrame link.val body) s
def execIdentityTimeout (link : Fin 64) (s : State) := run (identityTimeout link.val) s
def execQualificationComplete (link : Fin 64) (s : State) := run (qualificationComplete link.val) s
def execRetrainDelayExpiry (link : Fin 64) (s : State) := run (retrainDelayExpiry link.val) s
def execTimeExchangeStart (link : Fin 64) (s : State) := run (timeExchangeStart link.val) s
def execTimeRequest (link : Fin 64) (seq : BitVec 24) (t1 : BitVec 96) (s : State) :=
  run (fun b => if (3 ≤ b.linkState link.val && b.linkState link.val ≤ 6) || b.linkState link.val = 8 then
    b.timeFrom link.val (timeBody 0 seq.toNat t1.toNat 0 0) else b) s
def execTimeResponse (link : Fin 64) (seq : BitVec 24) (t1 t2 t3 : BitVec 96) (s : State) :=
  run (fun b => b.timeFrom link.val (timeBody 1 seq.toNat t1.toNat t2.toNat t3.toNat)) s
def execTimeExchangeAbandoned (link : Fin 64) (s : State) := run (timeExchangeAbandoned link.val) s
def execLaserLoss (e : Fin 16) (s : State) := run (laserLoss e.val) s
def execLaserInputRestored (e : Fin 16) (s : State) := run (laserInputRestored e.val) s
def execDrainEngine (m : Master) (e : Fin 16) (s : State) :=
  run (Body.written [iL (e.val / 2)] 0x20 (drainEngine m e.val)) s
def execEnableEngine (m : Master) (e : Fin 16) (s : State) :=
  run (Body.written [iL (e.val / 2)] 0x20 (enableEngine m e.val)) s
def execDisableEngine (m : Master) (e : Fin 16) (s : State) :=
  run (Body.written [iL (e.val / 2)] 0x20 (disableEngine m e.val)) s
def execLinkDisable (m : Master) (link : Fin 64) (on_ : Bool) (s : State) :=
  run (Body.written [iL (link.val / 8)] (0x1010 + 0x100 * (link.val % 8)) (linkDisable m link.val on_)) s
def execLinkRelease (m : Master) (link : Fin 64) (s : State) :=
  run (Body.written [iL (link.val / 8)] (0x1010 + 0x100 * (link.val % 8)) (linkRelease m link.val)) s
def execLinkRetrain (m : Master) (link : Fin 64) (s : State) :=
  run (Body.written [iL (link.val / 8)] (0x1010 + 0x100 * (link.val % 8)) (linkRetrain m link.val)) s
def execRecalibrationStart (k : Fin 8) (s : State) := run (recalibrationStart k.val) s
def execRecalibrationEnd (link : Fin 64) (s : State) := run (recalibrationEnd link.val) s

end Sys2Proof.Machine
end

