-- ==== Sys2Proof/Machine/UpdateEngine.lean ====
section
/-! DEFINITION. The update engine (spec/08_update_engine.md R189 to R210): command lists, gates and grants, the layer update,
hyper sets, schedule channels and control charts. -/

namespace Sys2Proof.Machine

/-! ## Arithmetic with collected flags -/

/-- A binary32 operation's result, its flags collected. -/
def fl (r : Fpr) : StateM Nat Nat := do
  modify (· ||| r.flags)
  return r.bits

def ueAdd (x y : Nat) : StateM Nat Nat := fl (fmtB32.add 0 0 (b32 x) (b32 y))
def ueSub (x y : Nat) : StateM Nat Nat := fl (fmtB32.sub 0 0 (b32 x) (b32 y))
def ueMul (x y : Nat) : StateM Nat Nat := fl (fmtB32.mul 0 0 (b32 x) (b32 y))
def ueDiv (x y : Nat) : StateM Nat Nat := fl (fmtB32.div 0 0 (b32 x) (b32 y))
def ueSqrt (x : Nat) : StateM Nat Nat := fl (fmtB32.sqrt 0 0 (b32 x))
def ueMax (x y : Nat) : StateM Nat Nat := fl (fmtB32.minMax true true x y)
def ueMin (x y : Nat) : StateM Nat Nat := fl (fmtB32.minMax false true x y)
/-- An integer entering binary32 arithmetic (R84). -/
def ueCvt (n : Nat) : StateM Nat Nat := fl (fmtB32.round 0 0 false n 0 false)

/-- 1.0 in binary32. -/
def one32 : Nat := 0x3F800000
def two32 : Nat := 0x40000000

def isFinite32 (x : Nat) : Bool := !(b32 x).special
def isZero32 (x : Nat) : Bool := (b32 x).isZero
/-- A finite value with its sign bit clear: "finite and at least +0". -/
def atLeastZero32 (x : Nat) : Bool := isFinite32 x && x < 2 ^ 31
/-- x ≤ y for values that are no NaN. -/
def le32 (x y : Nat) : Bool := decide ((b32 x).cmp (b32 y) ≤ 0)

/-- `pow_b32` (R197): the bits of `e` from `n` − 1 down. -/
def uePowFrom (x e : Nat) : Nat → Nat → StateM Nat Nat
  | 0, r => return r
  | n + 1, r => do
    let r2 ← ueMul r r
    let r3 ← if bit e n then ueMul r2 x else pure r2
    uePowFrom x e n r3

def uePow (x e : Nat) : StateM Nat Nat := uePowFrom x e 64 one32

/-! ## Status and errors -/

/-- Fault sources of UE by the cause of `UE.LAST_ERROR`: the cause's number less one; the address is the command's index. -/
def Body.ueError (b : Body) (cause idx : Nat) : Body :=
  let b1 := if b.on R.UE.LAST_ERROR.VALID then b
    else ((b.wr R.UE.LAST_ERROR.CAUSE cause).wr R.UE.LAST_ERROR.VALID 1).wr R.UE.LAST_ERROR.CMD idx
  b1.raiseOcc { source := iUE * 64 + (cause - 1), addr := idx, master := iUE * 64, reqType := 3, access := 0 } 0

/-- `UE.STATUS` follows the run. -/
def Body.showUe (b : Body) : Body :=
  let st := match b.ue.phase with
    | .idle => 0
    | .gate => 2
    | _ => 1
  ((b.wr R.UE.STATUS.STATE st).wr R.UE.STATUS.PASS (b2n (b.ue.phase == .second))).wr R.UE.STATUS.CMD b.ue.idx

def Body.uePhase (b : Body) (p : UePhase) : Body := ({ b with ue := { b.ue with phase := p } } : Body).showUe

/-- The flags of operations join `UE.FLAGS`. -/
def Body.ueFlags (b : Body) (f : Nat) : Body := b.wr R.UE.FLAGS.FLAGS (b.rd R.UE.FLAGS.FLAGS ||| f)

/-! ## Lists, gates and admission (R189 to R193) -/

/-- A field of a command. -/
def cmdOp (c : Bytes) : Nat := le c 0 1
def cmdCounter (c : Bytes) : Nat := le c 4 2
def cmdGate (c : Bytes) : Nat := le c 6 2
def cmdCount (c : Bytes) : Nat := le c 12 4

/-- A counter id of R114. -/
def counterIdOk (i : Nat) : Bool := i < 2 ^ 12

/-- The current value of a completion counter of this module (R131). -/
def Body.counterValue (b : Body) (i : Nat) : Nat :=
  match b.physOf (bits i 6 6) with
  | some nn => (b.tile nn).getCC (i % 64)
  | none => 0

/-- The gate of a command is satisfied, or it names none. -/
def Body.gateOpen (b : Body) (c : Bytes) : Bool := !counterIdOk (cmdGate c) || decide (le c 8 4 ≤ b.counterValue (cmdGate c))

/-- The completion of a command is sent, if it names one (R191). -/
def Body.ueComplete (b : Body) (c : Bytes) : Body := if counterIdOk (cmdCounter c) then b.countAt (cmdCounter c) else b

/-- Bytes that a command reads, both passes (R193).  They are taken from its fields at admission, also where R192 refuses the command
afterwards (DESIGN CHOICE, log 115). -/
def cmdReads (c : Bytes) : Nat :=
  if cmdOp c = 1 then
    let fl_ := le c 1 1
    let w := if bit fl_ 0 then 2 else 4
    let m := if bit fl_ 1 then 2 else 4
    2 * cmdCount c * (4 + w + 2 * m) + (if 248 ≤ le c 2 1 ∧ cmdCount c ≠ 0 then 8 else 0)
  else if cmdOp c = 2 then 40 * cmdCount c
  else 0

/-- Now plus the bound 0.5 µs + B / (3.6 TB/s) is not later than the next departure. -/
def Body.ueFits (b : Body) (c : Bytes) : Bool :=
  decide (b.time.tb0 * 3600 + (500 * 3600 + cmdReads c) * 2 ^ 40 ≤ b.job.nextAt * 3600 * 2 ^ 40)

/-- The list ends with the overrun source; every command not started sends its completion (R193, R195). -/
def Body.ueOverrun (b : Body) : Body :=
  let rest := b.ue.list.drop b.ue.idx
  let b1 := b.ueError 4 b.ue.idx
  let b2 := forEach rest (fun c t => t.ueComplete c) b1
  ({ b2 with ue := { b2.ue with list := [] } } : Body).uePhase .idle

/-- The current command is admitted, or the list ends (R193). -/
def Body.ueAdmit (b : Body) (c : Bytes) : Body := if b.ueFits c then b.uePhase .admitted else b.ueOverrun

/-- UE takes up the command at its index: it waits on the gate, is admitted, or the list has ended. -/
def Body.ueTake (b : Body) : Body :=
  match b.ue.list[b.ue.idx]? with
  | none => ({ b with ue := { b.ue with list := [] } } : Body).uePhase .idle
  | some c => if b.gateOpen c then b.ueAdmit c else b.uePhase .gate

/-- The running period's type. -/
def Body.runningType (b : Body) : Option PType :=
  match b.job.active with
  | none => none
  | some im => if b.jobRuns && b.job.departed then im.types[b.rd R.TM.DEPART_SEQ.PTYPE]? else none

/-- `UE_LIST_START` (R189): at t0 + 1.5 µs of a UE-granted period UE reads the list-table entry and the list.  An entry
whose address is misaligned or outside LPDDR starts nothing and counts as an invalid command; one that a lost unit or a closed strait
keeps from UE starts nothing, and a count above 65,535 is run as it stands (DESIGN CHOICE, log 115). -/
def ueListStart (b : Body) : Body :=
  match b.runningType with
  | none => b
  | some pt =>
    if !bit pt.flags 5 || !b.inService iUE || b.ue.started == some b.period || b.ue.phase != .idle then b
    else
      let b := b.toPod (b.job.departAt + 1500)
      let e := b.rd R.UE.LIST_TABLE.ADDR * 64 + 16 * b.rd R.TM.DEPART_SEQ.PTYPE
      let a := b.leAt e 8
      let n := b.leAt (e + 8) 4
      let b0 : Body := { b with ue := { UeRun.init with started := some b.period } }
      if b.memWaits e 16 || (!b.denied iUE e 16 && b.memWaits a (128 * n)) then b
      else if b.denied iUE e 16 then (b0.fetch iUE 3 e 16).2
      else if n = 0 then b0.activateRange e 16
      else if lpddrEnd < e + 16 || a % 64 ≠ 0 || lpddrEnd < a + 128 * n then (b0.activateRange e 16).ueError 1 0
      else if b.denied iUE a (128 * n) then ((b0.activateRange e 16).fetch iUE 3 a (128 * n)).2
      else
        let b0 := (b0.activateRange e 16).activateRange a (128 * n)
        let t := signed (b.rd R.TM.STEP_NUMBER.STEP + 2 ^ 64 - b.rd R.UE.T_BASE.BASE) 64
        ({ b0 with ue := { b0.ue with
            list := (List.range n).map (fun i => b.bytes (a + 128 * i) 128), t := t, gated := bit pt.flags 3 } } : Body).ueTake

/-- `UE_GATE_SATISFIED` (R191): the gate counter has reached its value. -/
def ueGateSatisfied (b : Body) : Body :=
  match b.ue.list[b.ue.idx]? with
  | none => b
  | some c => if b.ue.phase = .gate && b.gateOpen c then b.ueAdmit c else b

/-- `UE_GATE_OVERRUN` (R193): a gate is still unsatisfied at the first instant at which the bound no longer fits. -/
def ueGateOverrun (b : Body) : Body :=
  match b.ue.list[b.ue.idx]? with
  | none => b
  | some c =>
    if b.ue.phase ≠ .gate || b.gateOpen c then b
    else (b.toPod (b.job.nextAt + 1 - 500 - ceilDiv (cmdReads c) 3600)).ueOverrun

/-- `UE_COMMAND_COMPLETE` (R191): the command's completion is sent and UE takes up the next. -/
def ueCommandComplete (b : Body) : Body :=
  match b.ue.list[b.ue.idx]? with
  | none => b
  | some c =>
    if b.ue.phase ≠ .executed then b
    else
      let b1 := b.ueComplete c
      ({ b1 with ue := { b1.ue with idx := b1.ue.idx + 1 } } : Body).ueTake

/-! ## Validity (R190, R192) -/

/-- A 64-byte aligned range of LPDDR. -/
def ueRange (a n : Nat) : Bool := a % 64 = 0 && a < lpddrEnd && a + n ≤ lpddrEnd

/-- The ids of a command have the form of R114 or are absent. -/
def idsOk (c : Bytes) : Bool :=
  (counterIdOk (cmdCounter c) || cmdCounter c = 0xFFFF) && (counterIdOk (cmdGate c) || cmdGate c = 0xFFFF)

/-- Bytes of a stored element. -/
def wBytes (c : Bytes) : Nat := if bit (le c 1 1) 0 then 2 else 4
def mBytes (c : Bytes) : Nat := if bit (le c 1 1) 1 then 2 else 4

/-- The bytes from the first to the last one written of `k` lines of `n` bytes at a stride: padding is never written (R201). -/
def linesEnd (k stride n : Nat) : Nat := if k = 0 then 0 else (k - 1) * stride + n

/-- An OP 1 command is valid (R192). -/
def Body.layerValid (b : Body) (c : Bytes) : Bool :=
  let n := cmdCount c
  let emit := bit (le c 1 1) 2
  let kl := le c 64 4
  let stride := le c 68 4
  !bit (le c 1 1) 7 && idsOk c && le c 3 1 < 64 && (slice c 72 56).all (· == 0)
    && ueRange (le c 16 8) (n * wBytes c) && ueRange (le c 24 8) (4 * n)
    && ueRange (le c 32 8) (n * mBytes c) && ueRange (le c 40 8) (n * mBytes c)
    && (!emit || (kl ≠ 0 && kl ≤ 2 ^ 24 && n % kl = 0 && stride % 32 = 0 && decide (kl ≤ stride)
        && ueRange (le c 48 8) (linesEnd (n / max kl 1) stride kl)
        && ueRange (le c 56 8) (linesEnd (n / max kl 1) (32 * ceilDiv (ceilDiv kl 64) 32) (ceilDiv kl 64))))
    && b.ue.gated && decide (1 ≤ b.ue.t)

/-- An OP 2 command is valid (R192). -/
def chartValid (c : Bytes) : Bool :=
  let n := cmdCount c
  (slice c 1 3).all (· == 0) && idsOk c && le c 32 8 ≤ 65536 && (slice c 40 88).all (· == 0)
    && ueRange (le c 16 8) (8 * n) && ueRange (le c 24 8) (32 * le c 32 8)

/-- The current command, if it is admitted and its operation is one of those given. -/
def Body.ueCurrent (b : Body) (ok : Nat → Bool) : Option Bytes :=
  match b.ue.list[b.ue.idx]? with
  | some c => if b.ue.phase = .admitted && b.inService iUE && ok (cmdOp c) then some c else none
  | none => none

/-- `UE_NOTHING` (R190, R192): OP 0 does nothing; a reserved operation, or one with a bit set that is reserved in every command,
is refused as invalid. -/
def ueNothing (b : Body) : Body :=
  match b.ueCurrent (fun o => o = 0 || 3 ≤ o) with
  | none => b
  | some c => (if cmdOp c = 0 && idsOk c && !bit (le c 1 1) 7 && (slice c 72 56).all (· == 0) then b else b.ueError 1 b.ue.idx).uePhase .executed

/-! ## Schedule channels (R204 to R206) -/

/-- The cosine table, entry 1,024 included (R205). -/
def Body.cosQ (b : Body) (i : Nat) : Nat := if i = 1024 then 0 else b.rd (R.UE.COS.Q i)

/-- The integer part of a binary32 value in 0 … 1,024. -/
def floor32 (x : Nat) : Nat :=
  match b32 x with
  | .num false m e => if 0 ≤ e then m * 2 ^ e.toNat else m / 2 ^ (-e).toNat
  | _ => 0

def Body.cosw (b : Body) (f : Nat) : StateM Nat Nat := do
  let x ← ueMul f 0x44800000
  let i := floor32 x
  if 1024 ≤ i then return 0
  let r ← ueSub x (← ueCvt i)
  ueAdd (b.cosQ i) (← ueMul r (← ueSub (b.cosQ (i + 1)) (b.cosQ i)))

/-- Warm restarts with a multiplier above 1: cycles run, position and length (R204). -/
def restartCycle (mult : Nat) : Nat → Nat → Nat → Nat → Nat × Nat × Nat
  | 0, k, d, len => (k, d, len)
  | fuel + 1, k, d, len =>
    if len = 0 ∨ d < len then (k, d, len) else restartCycle mult fuel (k + 1) (d - len) (min (len * mult) (2 ^ 63))

/-- k, p and len of R204. -/
def Body.cycleOf (b : Body) (c d : Nat) : Nat × Nat × Nat :=
  let decay := b.rd (R.UE.SCHED.DECAY c)
  let mult := b.rd (R.UE.SCHED.LEN_MULT c)
  if !b.on (R.UE.SCHED.RESTART c) then (0, min d decay, decay)
  else if decay = 0 then (0, d, 0)
  else if mult = 1 then (d / decay, d % decay, decay)
  else restartCycle mult 70 0 d decay

/-- η = rate(c, t) for an unprivileged channel (R204). -/
def Body.ueRate (b : Body) (c t : Nat) : StateM Nat Nat := do
  let t0 := b.rd (R.UE.SCHED.T0 c)
  let warm := b.rd (R.UE.SCHED.WARMUP c)
  let peak := b.rd (R.UE.SCHED.PEAK c)
  let endR := b.rd (R.UE.SCHED.END c)
  if t ≤ t0 then return 0
  let s := t - t0 - 1
  if s < warm then ueMul peak (← ueDiv (← ueCvt (s + 1)) (← ueCvt warm))
  else
    let (k, p, len) := b.cycleOf c (s - warm)
    let pk ← ueMul peak (← uePow (b.rd (R.UE.SCHED.PEAK_MULT c)) k)
    let f ← if len = 0 then pure one32 else ueDiv (← ueCvt p) (← ueCvt len)
    match b.rd (R.UE.SCHED.SHAPE c) with
    | 0 => return pk
    | 1 => ueAdd endR (← ueMul (← ueSub pk endR) (← ueSub one32 f))
    | 2 => ueMax endR (← ueMul pk (← uePow (b.rd (R.UE.SCHED.GAMMA c)) p))
    | _ => ueAdd endR (← ueMul (← ueSub pk endR) (← b.cosw f))

/-- The rate word of a privileged channel (R206). -/
def Body.privWord (b : Body) (c : Nat) : Nat := b.leAt (b.rd R.UE.PRIV_BASE.ADDR * 64 + 8 * (c - 248)) 8

/-- The rate word is stale, negative or non-finite. -/
def Body.privStale (b : Body) (c t : Nat) : Bool :=
  let w := b.privWord c
  let r := w % 2 ^ 32
  w / 2 ^ 32 ≠ t % 2 ^ 32 || !isFinite32 r || ((b32 r).neg && !isZero32 r)

/-! ## The layer update (R196 to R201) -/

/-- A stored element widened to binary32 (R86). -/
def widen (w16 : Bool) (code : Nat) : Nat := if w16 then code * 2 ^ 16 else code

/-- Element `i` of an array of 2- or 4-byte elements. -/
def Body.elemAt (b : Body) (a size i : Nat) : Nat := widen (size = 2) (b.leAt (a + size * i) size)

/-- What a layer update uses of its hyper set and its command, set up once (R197). -/
structure Layer where
  w : Nat
  g : Nat
  m : Nat
  v : Nat
  ws : Nat
  ms : Nat
  b1 : Nat
  b2 : Nat
  ob1 : Nat
  ob2 : Nat
  c1 : Nat
  c2 : Nat
  eps : Nat
  lambda : Nat

def Body.layer (b : Body) (c : Bytes) : StateM Nat Layer := do
  let h := le c 3 1
  let b1 := b.rd (R.UE.HYP.BETA1 h)
  let b2 := b.rd (R.UE.HYP.BETA2 h)
  let t := b.ue.t.toNat
  let ob1 ← ueSub one32 b1
  let ob2 ← ueSub one32 b2
  let c1 ← ueSub one32 (← uePow b1 t)
  let c2 ← ueSub one32 (← uePow b2 t)
  return { w := le c 16 8, g := le c 24 8, m := le c 32 8, v := le c 40 8, ws := wBytes c, ms := mBytes c,
           b1 := b1, b2 := b2, ob1 := ob1, ob2 := ob2, c1 := c1, c2 := c2,
           eps := b.rd (R.UE.HYP.EPS h), lambda := b.rd (R.UE.HYP.LAMBDA h) }

/-- One element: w, g, m1, v1 and u (R197). -/
def Body.layerElem (b : Body) (l : Layer) (i : Nat) : StateM Nat (Nat × Nat × Nat × Nat × Nat) := do
  let g := b.elemAt l.g 4 i
  let w := b.elemAt l.w l.ws i
  let m1 ← ueAdd (← ueMul l.b1 (b.elemAt l.m l.ms i)) (← ueMul l.ob1 g)
  let v1 ← ueAdd (← ueMul l.b2 (b.elemAt l.v l.ms i)) (← ueMul l.ob2 (← ueMul g g))
  let mh ← ueDiv m1 l.c1
  let vh ← ueDiv v1 l.c2
  let u ← ueAdd (← ueDiv mh (← ueAdd (← ueSqrt vh) l.eps)) (← ueMul l.lambda w)
  return (w, g, m1, v1, u)

/-- The exact sum of squares of finite values in units of 2⁻²⁹⁸. -/
def squares (xs : List Nat) : Int := xs.foldl (fun acc x => let v := (b32 x).grid; acc + v * v) 0

/-- `norm_sq` over chunks of 4,096 (R198); `k` chunks are left. -/
def normSq : Nat → List Nat → Nat → StateM Nat Nat
  | 0, _, acc => return acc
  | k + 1, xs, acc => do
    let r ← fl (fmtB32.round 0 0 false (squares (xs.take 4096)).toNat (-298) false)
    normSq k (xs.drop 4096) (← ueAdd acc r)

/-- `norm_sq` of a list; +0 for none.  The first chunk's result is taken as it is. -/
def normOf (xs : List Nat) : StateM Nat Nat := do
  match ceilDiv xs.length 4096 with
  | 0 => return 0
  | k + 1 =>
    let r ← fl (fmtB32.round 0 0 false (squares (xs.take 4096)).toNat (-298) false)
    normSq k (xs.drop 4096) r

/-- Pass 1: the factor s, or none when the layer is skipped (R197, R199). -/
def Body.passOne (b : Body) (c : Bytes) (l : Layer) : StateM Nat (Option Nat) := do
  let h := le c 3 1
  let n := cmdCount c
  let eta ← if 248 ≤ le c 2 1 then pure (b.privWord (le c 2 1) % 2 ^ 32) else b.ueRate (le c 2 1) b.ue.t.toNat
  let xs ← (List.range n).mapM (b.layerElem l)
  let bad := xs.any (fun x => !(isFinite32 x.1 && isFinite32 x.2.1 && isFinite32 x.2.2.1 && isFinite32 x.2.2.2.1
    && isFinite32 x.2.2.2.2))
  if bad then return none
  let nw ← ueSqrt (← normOf (xs.map (·.1)))
  let nu ← ueSqrt (← normOf (xs.map (·.2.2.2.2)))
  let trust := b.on (R.UE.HYP.TRUST h)
  let rho0 ← if !trust || isZero32 nw || isZero32 nu then pure one32 else ueDiv nw nu
  let rho ← if trust then ueMax (b.rd (R.UE.HYP.RHO_MIN h)) (← ueMin (b.rd (R.UE.HYP.RHO_MAX h)) rho0) else pure rho0
  let s ← ueMul eta rho
  if isFinite32 rho0 && isFinite32 rho && isFinite32 s then return some s else return none

/-- Generator key and counter of a UE stream. -/
def Body.ueKey (b : Body) (u : Nat) : Nat := b.pair (R.UE.GEN_KEY_LO.VALUE u) (R.UE.GEN_KEY_HI.VALUE u)
def Body.ueCtr (b : Body) (u : Nat) : Nat := b.pair (R.UE.GEN_CTR_LO.VALUE u) (R.UE.GEN_CTR_HI.VALUE u)
def Body.setUeCtr (b : Body) (u v : Nat) : Body :=
  (b.wr (R.UE.GEN_CTR_LO.VALUE u) v).wr (R.UE.GEN_CTR_HI.VALUE u) (v / 2 ^ 64)

/-- The command rounds W16 stores stochastically. -/
def stochastic (c : Bytes) : Bool := bit (le c 1 1) 3
def cmdStream (c : Bytes) : Nat := bits (le c 1 1) 4 3

/-- Blocks drawn before the array of number `k` (0 W, 1 m, 2 v) of a second pass, and by all three at k = 3 (R200). -/
def drawOffset (c : Bytes) (k : Nat) : Nat :=
  let q := ceilDiv (cmdCount c) 4
  let w := if wBytes c = 2 then q else 0
  let m := if mBytes c = 2 then q else 0
  if k = 0 then 0 else if k = 1 then w else if k = 2 then w + m else w + 2 * m

/-- `store_w` and `store_m` (R200): the stored code of element `i` of array `k`. -/
def Body.storeCode (b : Body) (c : Bytes) (k size i x : Nat) : StateM Nat Nat :=
  if size = 4 then pure x
  else
    let rm := if stochastic c then 4 else 0
    fl (fmtW16.convert rm (drawAt (b.ueKey (cmdStream c)) (b.ue.ctr + drawOffset c k) i) (b32 x))

/-- A UE write to LPDDR. -/
def Body.ueWrite (b : Body) (a : Nat) (bs : Bytes) : Body := b.writeUnits a bs (iUE * 64) 3

/-- One element of pass 2 is recomputed and written in place. -/
def Body.storeElem (b : Body) (c : Bytes) (l : Layer) (i : Nat) : Body :=
  let r := (do
    let (w, _, m1, v1, u) ← b.layerElem l i
    let w2 ← ueSub w (← ueMul b.ue.scale u)
    let cw ← b.storeCode c 0 l.ws i w2
    let cm ← b.storeCode c 1 l.ms i m1
    let cv ← b.storeCode c 2 l.ms i v1
    return (cw, cm, cv) : StateM Nat (Nat × Nat × Nat)).run 0
  let x := r.1
  (((b.ueFlags r.2).ueWrite (l.w + l.ws * i) (leBytes l.ws x.1)).ueWrite (l.m + l.ms * i) (leBytes l.ms x.2.1)).ueWrite
    (l.v + l.ms * i) (leBytes l.ms x.2.2)

/-- A line of the N8 working copy (R201): the weights as stored, quantised in blocks of 64.  The line's elements are one write and its
scale codes another: how UE cuts them is not stated (DESIGN CHOICE, log 115). -/
def Body.emitLine (b : Body) (c : Bytes) (l : Layer) (r : Nat) : Body :=
  let kl := le c 64 4
  let ss := 32 * ceilDiv (ceilDiv kl 64) 32
  let data := le c 48 8 + r * le c 68 4
  let scale := le c 56 8 + r * ss
  let qs := (List.range (ceilDiv kl 64)).map (fun blk =>
    quantise 4 0 (fun _ => 0) ((List.range (min 64 (kl - 64 * blk))).map (fun i => b32 (b.elemAt l.w l.ws (r * kl + 64 * blk + i)))))
  ((b.ueFlags (qs.foldl (fun f q => f ||| q.2.2) 0)).ueWrite data ((qs.flatMap (·.2.1)).map (fun x => BitVec.ofNat 8 x))).ueWrite scale
    (qs.map (fun q => BitVec.ofNat 8 q.1))

/-- The ranges that a layer update reads: weights, gradients, moments and the rate word of a privileged channel. -/
def Body.layerReads (b : Body) (c : Bytes) : List (Nat × Nat) :=
  let n := cmdCount c
  [(le c 16 8, n * wBytes c), (le c 24 8, 4 * n), (le c 32 8, n * mBytes c), (le c 40 8, n * mBytes c)]
    ++ (if 248 ≤ le c 2 1 then [(b.rd R.UE.PRIV_BASE.ADDR * 64 + 8 * (le c 2 1 - 248), 8)] else [])

/-- The element's arrays hold a lost unit, or one behind a closed strait (R195; the latter DESIGN CHOICE, log 115). -/
def Body.elemLost (b : Body) (l : Layer) (i : Nat) : Bool :=
  let f := b.denied iUE
  f (l.w + l.ws * i) l.ws || f (l.g + 4 * i) 4 || f (l.m + l.ms * i) l.ms || f (l.v + l.ms * i) l.ms

/-- The reads of `n` elements of the arrays from element `i`. -/
def Body.activateElems (b : Body) (l : Layer) (i n : Nat) : Body :=
  (((b.activateRange (l.w + l.ws * i) (l.ws * n)).activateRange (l.g + 4 * i) (4 * n)).activateRange (l.m + l.ms * i)
    (l.ms * n)).activateRange (l.v + l.ms * i) (l.ms * n)

/-- The lost units that an element's reads meet are reported. -/
def Body.reportElem (b : Body) (l : Layer) (i : Nat) : Body :=
  let f (a n : Nat) (t : Body) : Body := t.lostAccess a n (iUE * 64) 3 1
  f (l.v + l.ms * i) l.ms (f (l.m + l.ms * i) l.ms (f (l.g + 4 * i) 4 (f (l.w + l.ws * i) l.ws b)))

/-- Pass 2 goes on to element `stop` (R197, R201): at its end the layer is done; a lost unit stops it as commit
incomplete (R194). -/
def Body.passTwo (b : Body) (c : Bytes) (l : Layer) (stop : Nat) : Body :=
  let n := cmdCount c
  let from_ := b.ue.pos
  let end_ := max from_ (min stop n)
  let todo := (List.range (end_ - from_)).map (from_ + ·)
  let firstBad := todo.find? (fun i => b.elemLost l i)
  let upTo := firstBad.getD end_
  let b1 := forEach ((List.range (upTo - from_)).map (from_ + ·)) (fun i t => t.storeElem c l i) (b.activateElems l from_ (upTo - from_))
  let kl := max (le c 64 4) 1
  let lines := if bit (le c 1 1) 2 then (List.range (n / kl)).filter (fun r => decide (from_ < (r + 1) * kl) && decide ((r + 1) * kl ≤ upTo))
    else []
  let b2 := forEach lines (fun r t => t.emitLine c l r) b1
  match firstBad with
  | some i => ((b2.reportElem l i).ueError 5 b.ue.idx).uePhase .executed
  | none =>
    if upTo = n then (b2.add R.UE.LAYERS_DONE.COUNT 1).uePhase .executed
    else ({ b2 with ue := { b2.ue with pos := upTo } } : Body).showUe

/-- `LAYER_UPDATE` (R197): an admitted OP 1 command runs; `stop` is the element at which its second pass stands when the
world interrupts it (all of them run it to its end), and the next such command goes on from there.  It waits while a sub-channel
keeps its reads waiting (R221, R233); a rate word in a lost unit stops it (R195).  A layer of no elements counts in `UE.LAYERS_DONE`,
and the stream has moved on by all the command's blocks once its second pass begins (DESIGN CHOICE, log 115). -/
def layerUpdate (stop : Nat) (b : Body) : Body :=
  match b.ue.list[b.ue.idx]? with
  | none => b
  | some c =>
    let n := cmdCount c
    let priv := b.rd R.UE.PRIV_BASE.ADDR * 64 + 8 * (le c 2 1 - 248)
    if cmdOp c ≠ 1 || !b.inService iUE || (b.layerReads c).any (fun r => b.memWaits r.1 r.2) then b
    else if b.ue.phase = .second then
      b.passTwo c ((b.layer c).run 0).1 stop
    else if b.ue.phase ≠ .admitted then b
    else if !b.layerValid c then (b.ueError 1 b.ue.idx).uePhase .executed
    else if n = 0 then (b.add R.UE.LAYERS_DONE.COUNT 1).uePhase .executed
    else if 248 ≤ le c 2 1 && b.denied iUE priv 8 then (b.fetch iUE 3 priv 8).2.uePhase .executed
    else if 248 ≤ le c 2 1 && b.privStale (le c 2 1) b.ue.t.toNat then (b.ueError 3 b.ue.idx).uePhase .executed
    else
      let ls := (b.layer c).run 0
      let l := ls.1
      match (List.range n).find? (fun i => b.elemLost l i) with
      | some i => (b.reportElem l i).uePhase .executed
      | none =>
        let r := (b.passOne c l).run ls.2
        let b1 := ((if 248 ≤ le c 2 1 then b.activateRange priv 8 else b).activateElems l 0 n).ueFlags r.2
        match r.1 with
        | none => (b1.ueError 2 b.ue.idx).uePhase .executed
        | some s =>
          let u := cmdStream c
          let ctr := b1.ueCtr u
          let b2 := if stochastic c then b1.setUeCtr u ((ctr + drawOffset c 3) % 2 ^ 128) else b1
          (({ b2 with ue := { b2.ue with pos := 0, scale := s, ctr := ctr } } : Body).uePhase .second).passTwo c l stop

/-! ## Control charts (R207 to R210) -/

/-- A channel record is valid (R207). -/
def chartRecordOk (r : Bytes) : Bool :=
  let lam := le r 0 4
  isFinite32 lam && !isZero32 lam && decide (lam < 2 ^ 31) && le32 lam one32
    && atLeastZero32 (le r 4 4) && isFinite32 (le r 8 4) && atLeastZero32 (le r 12 4)

/-- An alarm (R209): the entry, then `UE.ALARM_WR`, then the host's vector; a full or absent list drops it. -/
def Body.alarm (b : Body) (c flag x z t : Nat) : Body :=
  let size := b.rd R.UE.ALARM_SIZE.SIZE
  let wr := b.rd R.UE.ALARM_WR.VALUE
  let rd := b.rd R.UE.ALARM_RD.VALUE
  if size ≤ (wr + 2 ^ 32 - rd) % 2 ^ 32 then b.sat R.UE.ALARM_DROPPED.VALUE 1
  else
    let e := leBytes 2 c ++ leBytes 1 (2 ^ flag) ++ [0] ++ leBytes 4 x ++ leBytes 4 z ++ leBytes 4 t
    ((b.ueWrite (b.rd R.UE.ALARM_BASE.ADDR * 64 + 16 * (wr % size)) e).wr R.UE.ALARM_WR.VALUE (wr + 1)).irq 6

/-- The new z, V, q and limit of a point (R208): z, V, hl. -/
def chartStep (lam k sg z v x t : Nat) : StateM Nat (Nat × Nat × Nat) := do
  let be ← ueSub one32 lam
  let d ← ueSub x z
  let z1 ← ueAdd (← ueMul be z) (← ueMul lam x)
  let v1 ← ueAdd (← ueMul be v) (← ueMul lam (← ueMul d d))
  let q ← ueMul (← ueDiv lam (← ueSub two32 lam)) (← ueSub one32 (← uePow be (2 * t)))
  let hl ← ueMul k (← ueMul sg (← ueSqrt q))
  return (z1, v1, hl)

/-- One point; the flag says that an invalid record was met: one that fails a condition of R207, not a channel out of range. -/
def Body.chartPoint (b : Body) (cmd : Bytes) (p : Nat) : Body × Bool :=
  let a := le cmd 16 8 + 8 * p
  let c := b.leAt a 2
  let x := b.leAt (a + 4) 4
  let ra := le cmd 24 8 + 32 * c
  let r := b.bytes ra 32
  let t := le r 24 4
  let done (b : Body) : Body := b.add R.UE.POINTS_DONE.COUNT 1
  if le cmd 32 8 ≤ c then (done (b.alarm c 3 x 0 0), false)
  else if !chartRecordOk r then (done (b.alarm c 3 x 0 t), true)
  else if !bit (le r 28 1) 0 then (b.add R.UE.POINTS_SKIPPED.COUNT 1, false)
  else if !isFinite32 x then (done (b.alarm c 2 x 0 t), false)
  else
    let lam := le r 0 4
    let mu := le r 8 4
    let z := le r 16 4
    let v := le r 20 4
    let t1 := (t + 1) % 2 ^ 32
    let res := (do
      let sg ← if bit (le r 28 1) 1 then ueSqrt v else pure (le r 12 4)
      let (z1, v1, hl) ← chartStep lam (le r 4 4) sg z v x t1
      let hi ← ueAdd mu hl
      return (z1, v1, hi, hl) : StateM Nat (Nat × Nat × Nat × Nat)).run 0
    let z1 := res.1.1
    let v1 := res.1.2.1
    let above := !(b32 z1).isNaN && !(b32 res.1.2.2.1).isNaN && !le32 z1 res.1.2.2.1
    let lo := if above then (0, res.2) else (ueSub mu res.1.2.2.2).run res.2
    let below := !(b32 z1).isNaN && !(b32 lo.1).isNaN && !le32 lo.1 z1
    let b1 := b.ueFlags lo.2
    let b2 := if above then b1.alarm c 0 x z1 t1 else if below then b1.alarm c 1 x z1 t1 else b1
    (done (b2.ueWrite (ra + 16) (leBytes 4 z1 ++ leBytes 4 v1 ++ leBytes 4 t1)), false)

/-- The range that a point reads and that a lost unit or a closed strait keeps from UE. -/
def Body.pointLost (b : Body) (cmd : Bytes) (p : Nat) : Option (Nat × Nat) :=
  let a := le cmd 16 8 + 8 * p
  let c := b.leAt a 2
  if b.denied iUE a 8 then some (a, 8)
  else if c < le cmd 32 8 && b.denied iUE (le cmd 24 8 + 32 * c) 32 then some (le cmd 24 8 + 32 * c, 32)
  else none

/-- The points from `p` on, `left` of them; `bad` says that an invalid record was met before.  A lost unit stops the
command (R195). -/
def Body.chartPoints (cmd : Bytes) : Nat → Nat → Bool → Body → Body
  | 0, _, bad, b => if bad then b.ueError 6 b.ue.idx else b
  | left + 1, p, bad, b =>
    match b.pointLost cmd p with
    | some (a, n) =>
      let b1 := (b.fetch iUE 3 a n).2
      if bad then b1.ueError 6 b.ue.idx else b1
    | none =>
      let a := le cmd 16 8 + 8 * p
      let c := b.leAt a 2
      let b0 := b.activateRange a 8
      let r := (if c < le cmd 32 8 then b0.activateRange (le cmd 24 8 + 32 * c) 32 else b0).chartPoint cmd p
      Body.chartPoints cmd left (p + 1) (bad || r.2) r.1

/-- `CHART_BATCH` (R208): an admitted OP 2 command processes its points in array order. -/
def chartBatch (b : Body) : Body :=
  match b.ueCurrent (· = 2) with
  | none => b
  | some c =>
    if b.memWaits (le c 16 8) (8 * cmdCount c) || b.memWaits (le c 24 8) (32 * le c 32 8) then b
    else if !chartValid c then (b.ueError 1 b.ue.idx).uePhase .executed
    else (Body.chartPoints c (cmdCount c) 0 false b).uePhase .executed

/-! ## Ends from outside (R194, R195) -/

/-- A departure passes while a list runs: a second pass is abandoned as commit incomplete; the abandoned or executed
command's completion is sent, and the commands not started end with the overrun (R193 to R195). -/
def Body.ueDepart (b : Body) : Body :=
  match b.ue.list[b.ue.idx]? with
  | none => b
  | some c =>
    if b.ue.phase = .gate then b.ueOverrun
    else
      let b1 := if b.ue.phase = .second then b.ueError 5 b.ue.idx else b
      let b2 := b1.ueComplete c
      let b3 : Body := { b2 with ue := { b2.ue with idx := b2.ue.idx + 1 } }
      if b3.ue.idx < b3.ue.list.length then b3.ueOverrun
      else ({ b3 with ue := { b3.ue with list := [] } } : Body).uePhase .idle

/-- A reset or power cycle of UE stops a list: no further completion is sent, and the commit-incomplete or the overrun
source names the command (R194, R195). -/
def Body.ueReset (b : Body) : Body :=
  match b.ue.list[b.ue.idx]? with
  | none => { b with ue := { UeRun.init with started := b.ue.started } }
  | some _ =>
    let b1 := b.ueError (if b.ue.phase = .second then 5 else 4) b.ue.idx
    { b1 with ue := { UeRun.init with started := b1.ue.started } }

/-! ## The meanings -/

def execUeListStart (s : State) := run ueListStart s
def execUeGateSatisfied (s : State) := run ueGateSatisfied s
def execUeNothing (s : State) := run ueNothing s
def execLayerUpdate (stop : BitVec 32) (s : State) := run (layerUpdate stop.toNat) s
def execChartBatch (s : State) := run chartBatch s
def execUeCommandComplete (s : State) := run ueCommandComplete s
def execUeGateOverrun (s : State) := run ueGateOverrun s

end Sys2Proof.Machine
end

