-- ==== Sys2Proof/Machine/Checkpoint.lean ====
section
/-! DEFINITION. Checkpoint, restore and spares (spec/14_checkpoint.md R335 to R359): the shard, snapshots, mirroring, the ferry,
loads and the restore decision. -/

namespace Sys2Proof.Machine

/-! ## The shard (R335, R336) -/

/-- Bytes of the state block. -/
def blockSize : Nat := 45056

/-- Where a half begins: region 0 harbour, 1 buddy. -/
def Body.halfBase (b : Body) (region half : Nat) : Nat :=
  4096 * (if region = 0 then b.rd (R.SN.HARBOUR_BASE.ADDR half) else b.rd (R.SN.BUDDY_BASE.ADDR half))

def Body.sectionBase (b : Body) (k : Nat) : Nat := b.rd (R.SN.SECTION.BASE k) * 4096
/-- The length of section k; section 0 is the state block.  A range that does not lie in LPDDR is no section: tile SRAM is never
part of a shard (R335; DEDUCED, log 122). -/
def Body.sectionLen (b : Body) (k : Nat) : Nat :=
  if k = 0 then blockSize
  else
    let n := b.rd (R.SN.SECTION.LENGTH k)
    if lpddrEnd < b.sectionBase k + n then 0 else n

/-- The sections of the shard in ascending number. -/
def Body.sections (b : Body) : List Nat := (List.range 64).filter (fun k => b.sectionLen k != 0)

/-- A length rounded up to 4 KiB. -/
def page (n : Nat) : Nat := 4096 * ceilDiv n 4096

/-- The offset in a half of each section, by the lengths given (R338). -/
def sectionOffsets (len : Nat → Nat) : List (Nat × Nat) :=
  ((List.range 64).foldl (fun (acc : List (Nat × Nat) × Nat) k =>
    if len k = 0 then acc else (acc.1 ++ [(k, acc.2)], acc.2 + page (len k))) ([], 8192)).1

/-- Bytes that a copy with the lengths given takes. -/
def copySize (len : Nat → Nat) : Nat := (List.range 64).foldl (fun n k => n + page (len k)) 8192

/-- The tile registers of a logical tile in the state block. -/
def Body.tileBlock (b : Body) (nn : Nat) : Bytes :=
  (List.range 8).flatMap (fun g => leBytes 16 (b.genKey nn g) ++ leBytes 16 (b.genCtr nn g) ++ leBytes 16 (b.genAnchor nn g))
    ++ [0, 1].flatMap (fun q => leBytes 8 (b.rd (R.T.SEQ_POS.POS nn q)) ++ leBytes 8 (b.slotBase nn q)
      ++ leBytes 8 (b.rd (R.T.SEQ_CTRL.all nn q)) ++ zeros 8)

/-- SN stores bytes, zeros or a copy of a range in LPDDR (R224). -/
def Body.snStore (b : Body) (a : Nat) (bs : Bytes) : Body := b.storeBytes a bs (iSN * 64) 4
def Body.snClear (b : Body) (a n : Nat) : Body := b.storeZeros a n (iSN * 64) 4
def Body.snCopy (b : Body) (src n dst : Nat) : Body := b.storeCopy src n dst (iSN * 64) 4

/-- The state block written at a local address (R336). -/
def Body.putBlock (b : Body) (a : Nat) : Body :=
  b.storeWith a blockSize (iSN * 64) 4 (fun t =>
    let b0 := t.clearRange a blockSize
    let b1 := b0.put a (leBytes 8 (b.rd R.TM.STEP_NUMBER.STEP))
    let b2 := b1.put (a + 0x40) ((List.range 16).flatMap (fun i => leBytes 8 (b.rd (R.TM.CURSOR.POS i))))
    let b3 := b2.put (a + 0x100) (leBytes 8 (b.rd R.UE.T_BASE.BASE) ++ leBytes 8 (b.rd R.UE.LIST_TABLE.ADDR * 64)
      ++ leBytes 8 (b.rd R.UE.PRIV_BASE.ADDR * 64))
    let b4 := b3.put (a + 0x200) ((List.range 8).flatMap (fun u => leBytes 16 (b.ueKey u) ++ leBytes 16 (b.ueCtr u)))
    let b5 := b4.put (a + 0x400) ((List.range 64).flatMap (fun h => leBytes 32 (b.rd (R.UE.HYP.all h))))
    let b6 := b5.put (a + 0x1000) ((List.range 256).flatMap (fun c => leBytes 32 (b.rd (R.UE.SCHED.all c))))
    forEach (List.range 64) (fun l c =>
      match c.physOf l with
      | some nn => c.put (a + 0x4000 + 0x1C0 * l) (c.tileBlock nn)
      | none => c) b6)

/-- The registers of a logical tile take what the state block holds. -/
def Body.setTileBlock (b : Body) (nn a : Nat) : Body :=
  let b1 := forEach (List.range 8) (fun g c =>
    ((c.setGenKey nn g (b.leAt (a + 48 * g) 16)).setGenCtr nn g (b.leAt (a + 48 * g + 16) 16)).setGenAnchor nn g
      (b.leAt (a + 48 * g + 32) 16)) b
  forEach [0, 1] (fun q c =>
    ((c.wr (R.T.SEQ_POS.POS nn q) (b.leAt (a + 0x180 + 32 * q) 8)).wr (R.T.SEQ_BASE.BASE nn q)
      (b.leAt (a + 0x180 + 32 * q + 8) 8 / 32)).wr (R.T.SEQ_CTRL.all nn q) (b.leAt (a + 0x180 + 32 * q + 16) 8)) b1

/-- The registers of R336 take what the state block at a local address holds (R355). -/
def Body.setBlock (b : Body) (a : Nat) : Body :=
  let b1 := b.wr R.TM.STEP_NUMBER.STEP (b.leAt a 8)
  let b2 := forEach (List.range 16) (fun i c => c.wr (R.TM.CURSOR.POS i) (b.leAt (a + 0x40 + 8 * i) 8)) b1
  let b3 := ((b2.wr R.UE.T_BASE.BASE (b.leAt (a + 0x100) 8)).wr R.UE.LIST_TABLE.ADDR (b.leAt (a + 0x108) 8 / 64)).wr
    R.UE.PRIV_BASE.ADDR (b.leAt (a + 0x110) 8 / 64)
  let b4 := forEach (List.range 8) (fun u c =>
    let k := b.leAt (a + 0x200 + 32 * u) 16
    ((c.wr (R.UE.GEN_KEY_LO.VALUE u) k).wr (R.UE.GEN_KEY_HI.VALUE u) (k / 2 ^ 64)).setUeCtr u
      (b.leAt (a + 0x210 + 32 * u) 16)) b3
  let b5 := forEach (List.range 64) (fun h c => c.wr (R.UE.HYP.all h) (b.leAt (a + 0x400 + 32 * h) 32)) b4
  let b6 := forEach (List.range 256) (fun i c => c.wr (R.UE.SCHED.all i) (b.leAt (a + 0x1000 + 32 * i) 32)) b5
  forEach (List.range 64) (fun t c =>
    match c.physOf t with
    | some nn => c.setTileBlock nn (a + 0x4000 + 0x1C0 * t)
    | none => c) b6

/-! ## Certificates, manifests and copies (R339, R344, R345) -/

/-- An identity certificate is right for a 388-byte key under the root key in flash (R444, R448). -/
def certValid (f : FlashContent) (key cert : Bytes) : Bool :=
  flashRootOk f && le cert 0 4 = 0x54434449 && le cert 4 2 = 0x0100 && le cert 6 2 = 448 && le cert 48 2 = 0xF107
    && slice cert 16 32 == keyDigest key && keyVerifies f.rootKey (slice cert 0 64) (slice cert 64 384)

/-- Magic and valid mark of a manifest. -/
def manifestMagic : Nat := 0x54534E4D
def validMark : Nat := 0x4B52414D

/-- The modules of a create record's parts that are not sidings, by the map in force. -/
def Body.mappedShards (b : Body) (r : Record) : List Nat :=
  (b.disp.map.filter (fun e => !bit e.flags 3 && (recordParts r.body).any (fun p => inPart b.dims p e))).map (·.place)

/-- The modules of the slice that are not sidings, in ascending place address, as its create record found them, whatever became of
them or of the map since (R344). -/
def Body.sliceShards (b : Body) (tag : Nat) : List Nat :=
  match b.createRecord tag with
  | none => []
  | some r =>
    match b.disp.members.find? (fun x => x.1 == tag && x.2.1 == r.epoch) with
    | some x => x.2.2
    | none => b.mappedShards r

/-- A create record takes effect: its members are noted, once. -/
def Body.noteMembers (b : Body) (r : Record) : Body :=
  let l := b.mappedShards r
  if l.isEmpty || b.disp.members.any (fun x => x.1 == r.tag && x.2.1 == r.epoch) then b
  else { b with disp := { b.disp with members := b.disp.members.filter (fun x => x.1 != r.tag) ++ [(r.tag, r.epoch, l)] } }

/-- The module whose shard a module carries: admissions of sidings apply in ledger order (R344). -/
def Body.shardOwner (b : Body) (tag place : Nat) : Nat :=
  (b.disp.ledger.reverse.filter (fun r => r.type == 9 && r.tag == tag)).foldl
    (fun p r => if le r.body 0 4 = p then le r.body 4 4 else p) place

/-- This module was admitted as a siding (R357). -/
def Body.isAdmitted (b : Body) : Bool := b.disp.ledger.any (fun r => r.type == 9 && le r.body 0 4 == b.place)

/-- Shard index and shard count (R344). -/
def Body.shard (b : Body) : Nat × Nat :=
  let l := b.sliceShards b.jobTag
  ((l.findIdx? (· == b.shardOwner b.jobTag b.place)).getD 0, l.length)

/-- Bytes 0 to 3,199 of the manifest of a copy in a half, its sections' digests taken from the copy. -/
def Body.manifestHead (b : Body) (base step : Nat) : Bytes :=
  let im := b.job.active
  let offs := sectionOffsets b.sectionLen
  let ents := (List.range 64).flatMap (fun k =>
    match offs.find? (fun o => o.1 == k) with
    | some (_, o) =>
      leBytes 8 (if k = 0 then 0 else b.sectionBase k) ++ leBytes 8 (b.sectionLen k) ++ sha256 (b.bytes (base + o) (b.sectionLen k))
    | none => zeros 48)
  leBytes 4 manifestMagic ++ leBytes 2 0x0100 ++ leBytes 2 b.sections.length ++ leBytes 8 step
    ++ leBytes 4 ((im.map (·.serial)).getD 0) ++ leBytes 2 ((im.map (·.tag)).getD 0) ++ leBytes 2 ((im.map (·.epoch)).getD 0)
    ++ leBytes 4 b.shard.1 ++ leBytes 4 b.shard.2 ++ leBytes 4 b.place ++ leBytes 4 (b.rd R.SN.BUDDY.PLACE)
    ++ leBytes 12 (b.stamp 0 iSN) ++ leBytes 4 b.snap.snapSeq ++ zeros 8 ++ keyDigest b.sec.flash.identity ++ zeros 32 ++ ents

/-- The key block (R339). -/
def Body.keyBlock (b : Body) : Bytes :=
  slice (slice b.sec.flash.identity 0 388 ++ leBytes 2 448 ++ slice b.sec.flash.certificate 0 448) 0 4096

/-- The length that the manifest of a copy gives section k. -/
def Body.manifestLen (b : Body) (base k : Nat) : Nat := b.leAt (base + 128 + 48 * k + 8) 8

/-- The digest of section k in a copy is the one its manifest names. -/
def Body.sectionOk (b : Body) (base k off : Nat) : Bool :=
  sha256 (b.bytes (base + off) (b.manifestLen base k)) == b.bytes (base + 128 + 48 * k + 16) 32

/-- The first of tests 1 to 4 of R345 that a copy fails, as a code of R356. -/
def Body.copyFault (b : Body) (base : Nat) : Option Nat :=
  if b.leAt (base + 4092) 4 ≠ validMark ∨ b.leAt base 4 ≠ manifestMagic ∨ b.leAt (base + 4) 2 ≠ 0x0100 then some 0x10
  else
    let key := b.bytes (base + 4096) 388
    let cert := b.bytes (base + 4096 + 390) 448
    if !certValid b.sec.flash key cert || keyDigest key != b.bytes (base + 64) 32
        || !keyVerifies key (b.bytes base 3200) (b.bytes (base + 3200) 384) then some 0x11
    else none

/-- A lost unit lies in a range. -/
def Body.lostIn (b : Body) (a n : Nat) : Bool := b.lost.any (fun u => decide (a < u + 32) && decide (u < a + n))

/-- SN is denied a range that it reads or writes: a closed strait refuses words of it (R24), or a unit of it is lost (R223). -/
def Body.snDenied (b : Body) (a n : Nat) : Bool := !b.readable iSN a n || b.lostIn a n
def Body.snShut (b : Body) (a n : Nat) : Bool := !b.crosses iSN a n || b.lostIn a n

/-! ## Snapshots (R340 to R343) -/

/-- The running type is a snapshot type. -/
def Body.snapshotType (b : Body) : Bool :=
  match b.runningType with
  | some pt => bit pt.flags 4
  | none => false

/-- The half with the newest of two valid copies: the one that the last snapshot made the current half, whatever step it holds, so
that the current half is never a target (R343); before any snapshot the higher step, and with equal steps `SN.STATUS.CURRENT`
(DEDUCED, log 123). -/
def Body.newestHalf (b : Body) : Nat :=
  b.snap.newest.getD
    (if b.rd (R.SN.HALF.STEP 0) < b.rd (R.SN.HALF.STEP 1) then 1
     else if b.rd (R.SN.HALF.STEP 1) < b.rd (R.SN.HALF.STEP 0) then 0 else b.rd R.SN.STATUS.CURRENT)

/-- The half that a snapshot writes: not the one with the newest valid copy; half 0 when neither is valid (R341). -/
def Body.snapTarget (b : Body) : Nat :=
  let v (h : Nat) : Bool := b.on (R.SN.HALF.VALID h)
  if v 0 && v 1 then 1 - b.newestHalf else if v 0 then 1 else 0

/-- `SN.HALF_h` or `SN.BUDDY_HALF_h` shows the mark that stands in a half, and the step of its manifest. -/
def Body.showHalf (b : Body) (region h : Nat) : Body :=
  let base := b.halfBase region h
  let marked := b.leAt (base + 4092) 4 == validMark
  let step := b.leAt (base + 8) 8
  if region = 0 then (b.wr (R.SN.HALF.VALID h) (b2n marked)).when marked (fun c => c.wr (R.SN.HALF.STEP h) step)
  else (b.wr (R.SN.BUDDY_HALF.VALID h) (b2n marked)).when marked (fun c => c.wr (R.SN.BUDDY_HALF.STEP h) step)

/-- The halves whose manifest a write of `n` bytes at `a` has touched show their mark (R345, R354). -/
def Body.showHalves (b : Body) (a n : Nat) : Body :=
  forEach [(0, 0), (0, 1), (1, 0), (1, 1)] (fun r c =>
    let base := c.halfBase r.1 r.2
    if a < base + 4096 ∧ base < a + n then c.showHalf r.1 r.2 else c) b

/-- The valid mark of a harbour half is cleared. -/
def Body.clearHalf (b : Body) (h : Nat) : Body := (b.snClear (b.halfBase 0 h + 4092) 4).wr (R.SN.HALF.VALID h) 0

/-- A snapshot fails (R342). -/
def Body.snapFailed (b : Body) : Body :=
  ((({ b with snap := { b.snap with snap := none } } : Body).sat R.SN.COUNTS.FAILED 1).wr R.SN.STATUS.STATE 0).raiseN iSN 0

/-- A drain ends. -/
def Body.endFerry (b : Body) : Body := ({ b with snap := { b.snap with ferry := none } } : Body).wr R.SN.STATUS.FERRY 0

/-- `SNAPSHOT_START` (R341, R343): at t0 + 1.5 µs of a run the target's mark is cleared and the state block is read.  A target
that is being drained is skipped; a drain that has stalled gives way (R351).  While a sub-channel of the target is not ready the read
waits (R221, R233). -/
def snapshotStart (b : Body) : Body :=
  if !b.snapshotType || !b.inService iSN || b.snap.runOpen || b.memWaits (b.halfBase 0 b.snapTarget) (8192 + blockSize) then b
  else
    let b := b.toPod (b.job.departAt + 1500)
    let b0 : Body := { b with snap := { b.snap with runOpen := true } }
    let b0 := if b0.snap.snap.isSome then b0.snapFailed else b0
    let h := b0.snapTarget
    let drained := match b0.snap.ferry with | some f => f.half == h && !f.stalled | none => false
    if drained then (b0.sat R.SN.COUNTS.SKIPPED 1).event 0xC941 iSN (leBytes 1 h)
    else
      let gives := match b0.snap.ferry with | some f => f.half == h | none => false
      let b1 := (if gives then b0.endFerry else b0).clearHalf h
      let b2 := (({ b1 with snap := { b1.snap with snap := some ⟨h, b1.rd R.TM.STEP_NUMBER.STEP⟩ } } : Body).wr
        R.SN.STATUS.STATE 1)
      if b2.rd R.SN.HARBOUR_SIZE.MIB * 2 ^ 20 < copySize b2.sectionLen then b2.snapFailed
      else b2.putBlock (b2.halfBase 0 h + 8192)

/-- A copy of the shard waits for a sub-channel of its sections or of its half (R221, R233). -/
def Body.copyWaits (b : Body) (base : Nat) : Bool :=
  b.memWaits base (copySize b.sectionLen) || b.sections.any (fun k => k != 0 && b.memWaits (b.sectionBase k) (b.sectionLen k))

/-- `SNAPSHOT_COPY_COMPLETE` (R341): the sections are copied, the manifest and the key block written without the mark.  A refused
word of a source or of the target fails the snapshot as lost data does (log 124). -/
def snapshotCopyComplete (b : Body) : Body :=
  match b.snap.snap with
  | none => b
  | some s =>
    let base := b.halfBase 0 s.half
    if b.rd R.SN.STATUS.STATE ≠ 1 || b.copyWaits base then b
    else
      let offs := sectionOffsets b.sectionLen
      let lostOnes := offs.filter (fun o => o.1 != 0 && b.snDenied (b.sectionBase o.1) (b.sectionLen o.1))
      if !lostOnes.isEmpty then
        (forEach lostOnes (fun o c => c.lostAccess (c.sectionBase o.1) (c.sectionLen o.1) (iSN * 64) 4 1) b).snapFailed
      else
        let b1 := forEach (offs.filter (·.1 != 0)) (fun o c => c.snCopy (c.sectionBase o.1) (c.sectionLen o.1) (base + o.2)) b
        if !b1.crosses iSN base (copySize b1.sectionLen) || offs.any (fun o => b1.lostIn (base + o.2) (b1.sectionLen o.1)) then b1.snapFailed
        else
          let b2 := (b1.snClear base 8192).snStore base (b1.manifestHead base s.step)
          ((b2.sampled iSN).snStore (base + 4096) b2.keyBlock).wr R.SN.STATUS.STATE 2

/-- `SNAPSHOT_SIGNED` (R341): the manifest is signed, the mark written, and the target is the current half. -/
def snapshotSigned (b : Body) : Body :=
  match b.snap.snap with
  | none => b
  | some s =>
    let base := b.halfBase 0 s.half
    if b.rd R.SN.STATUS.STATE ≠ 2 || b.memWaits base 4096 then b
    else if !b.inService iSC || !b.sec.flash.unwrapOk || b.snShut base 4096 then b.snapFailed
    else
      let b1 := (b.snStore (base + 3200) (Config.identitySign (b.bytes base 3200)).toList).snStore (base + 4092) (leBytes 4 validMark)
      let b2 := (((b1.wr (R.SN.HALF.STEP s.half) s.step).wr (R.SN.HALF.VALID s.half) 1).wr R.SN.STATUS.CURRENT s.half).wr
        R.SN.STATUS.STATE 0
      let b3 := b2.sat R.SN.COUNTS.SNAPSHOTS 1
      let seq := (b3.snap.snapSeq + 1) % 2 ^ 32
      { b3 with snap := { b3.snap with snap := none, flipped := true, newest := some s.half, snapSeq := seq } }

/-- The departure that ends a run of snapshot periods arrives before the copy ends (R342). -/
def Body.snapDepart (b : Body) : Body :=
  if b.snapshotType then b
  else
    let b1 := if b.snap.snap.isSome && b.rd R.SN.STATUS.STATE = 1 then b.snapFailed else b
    { b1 with snap := { b1.snap with runOpen := false } }

/-! ## Mirrors and sends (R346 to R349, R354) -/

/-- A class 2 packet of SN with a counter, an address and data; the last of a transfer says so (R260). -/
def Body.snPacket (b : Body) (dest counter addr : Nat) (data : Bytes) (last : Bool) : Packet :=
  { dest := dest, source := b.place, tag := b.jobTag, epoch := (b.job.active.map (·.epoch)).getD 0, cls := 2,
    flags := flUnplanned + (if last then flLast else 0), defl := 0, seq := 0, counter := counter, addr := addr, period := b.period % 2 ^ 16, op := 0,
    payload := data }

/-- A packet of SN waits for injection (R275): at the first junction in service, or at J0 where none is. -/
def Body.snSend (b : Body) (p : Packet) : Body :=
  let k := b.firstJunction.getD 0
  b.enqueue k { pkt := p, arrived := none, xfer := none, entry := (b.entryOf k p.tag).getD 64, period := b.period, counted := false,
                twin := false, order := 0, margins := [] }

/-- A write of a copy on its way: where it is read, its address at the far end, its length, and whether it is its transfer's last. -/
structure SnWrite where
  src : Nat
  dst : Nat
  n : Nat
  last : Bool
  deriving DecidableEq, Repr

/-- The writes of one transfer, cut under R182. -/
def snPieces (src dst n : Nat) : List SnWrite :=
  let c := ceilDiv n 512
  (List.range c).map (fun i => ⟨src + 512 * i, dst + 512 * i, min 512 (n - 512 * i), i + 1 == c⟩)

/-- The transfers of a copy (R348): manifest without its mark, key block, sections. -/
def Body.copyWrites (b : Body) (base dst : Nat) : List SnWrite :=
  snPieces base dst 4092 ++ snPieces (base + 4096) (dst + 4096) 4096
    ++ (sectionOffsets (b.manifestLen base)).flatMap (fun o => snPieces (base + o.2) (dst + o.2) (b.manifestLen base o.1))

/-- The writes of those transfers, counted from the manifest as it stands: E of R348. -/
def Body.copyCount (b : Body) (base : Nat) : Nat :=
  (List.range 64).foldl (fun n k => n + ceilDiv (b.manifestLen base k) 512) 16

/-- The writes of a copy wait for injection; one that would carry a lost unit, or whose source a closed strait refuses, is not sent
and counted as voided (R223, R24). -/
def Body.sendCopy (b : Body) (dest base dst : Nat) : Body :=
  forEach (b.copyWrites base dst) (fun w c =>
    if c.snDenied w.src w.n then (c.lostAccess w.src w.n (iSN * 64) 4 1).countLost 3 1
    else c.snSend (c.snPacket dest mirrorCounter w.dst (c.bytes w.src w.n) w.last)) b

/-- A copy cannot set out yet: every junction is closed, or a sub-channel of the half is not ready (R26, R221, R233). -/
def Body.sendWaits (b : Body) (base : Nat) : Bool := b.firstJunction.isNone || b.memWaits base (copySize (b.manifestLen base))

/-- A send that waited sets out, as soon as it can. -/
def Body.serveSends (b : Body) : Body :=
  match b.snap.unsent with
  | none => b
  | some (dest, base, dst) =>
    if !b.inService iSN || b.sendWaits base then b
    else ({ b with snap := { b.snap with unsent := none } } : Body).sendCopy dest base dst

/-- `MIRROR_START` (R348): after a flip, with mirroring enabled and none outstanding, the current half goes to the buddy half
not last completed; while every junction is closed the mirror waits (R26), and while the half's memory is not ready. -/
def mirrorStart (b : Body) : Body :=
  let buddy := b.rd R.SN.BUDDY.PLACE
  if !b.inService iSN || !b.snap.flipped || b.snap.mirror.isSome || !b.on R.SN.MIRROR_CTRL.ENABLE || buddy = 0
      || b.sendWaits (b.halfBase 0 (b.rd R.SN.STATUS.CURRENT)) then b
  else
    let h := 1 - b.snap.lastBuddy
    let b1 := ({ b with snap := { b.snap with flipped := false, mirror := some (h, false) } } : Body).wr R.SN.STATUS.MIRROR 1
    b1.sendCopy buddy (b1.halfBase 0 (b1.rd R.SN.STATUS.CURRENT)) (b1.halfBase 1 h)

/-- SN sets counter 0x0FFE to zero. -/
def Body.clearMirrorCounter (b : Body) (cc : Nat) : Body :=
  match b.physOf 63 with
  | some nn => b.onTile nn (fun t => t.putCC cc 0)
  | none => b

/-- The value of counter 0x0FFE. -/
def Body.mirrorCount (b : Body) : Nat := b.counterValue mirrorCounter

/-- The outcome goes to the sender's counter 0x0FFF as a zero-length write: 1 complete, 2 failed (R348 step 4). -/
def Body.sendOutcome (b : Body) (dest outcome : Nat) : Body :=
  if dest = 0 then b else b.snSend (b.snPacket dest 0x0FFF outcome [] true)

/-- `SN.LOAD_STATUS` takes a code; every change raises vector 7 (R435). -/
def Body.loadCode (b : Body) (code index : Nat) : Body :=
  ((b.wr R.SN.LOAD_STATUS.CODE code).wr R.SN.LOAD_STATUS.INDEX index).irq 7

/-- SN can read the copy in a half, and every section's digest agrees with its manifest. -/
def Body.sectionsOk (b : Body) (base : Nat) : Bool :=
  !b.snDenied base 8192
    && (sectionOffsets (b.manifestLen base)).all (fun o => !b.snDenied (base + o.2) (b.manifestLen base o.1) && b.sectionOk base o.1 o.2)

/-- `MIRROR_COMPLETE` (R348, R354): counter 0x0FFE has reached E and every digest matches; the mark is written, the copy of
the other buddy half loses its own, and the sender is told. -/
def mirrorComplete (b : Body) : Body :=
  match b.snap.receive with
  | none => b
  | some r =>
    let base := b.halfBase r.region r.half
    if !b.inService iSN || b.memWaits base (copySize (b.manifestLen base)) || b.mirrorCount ≠ b.copyCount base || !b.sectionsOk base then b
    else
      let step := b.leAt (base + 8) 8
      let b1 := (b.snStore (base + 4092) (leBytes 4 validMark)).clearMirrorCounter 62
      let b2 : Body := { b1 with snap := { b1.snap with receive := none } }
      let b3 := b2.sendOutcome r.source 1
      if r.region = 1 then
        let o := 1 - r.half
        ((((b3.wr (R.SN.BUDDY_HALF.STEP r.half) step).wr (R.SN.BUDDY_HALF.VALID r.half) 1).snClear (b3.halfBase 1 o + 4092) 4).wr
          (R.SN.BUDDY_HALF.VALID o) 0)
      else ((b3.wr (R.SN.HALF.STEP r.half) step).wr (R.SN.HALF.VALID r.half) 1).loadCode 0x01 0

/-- An incomplete copy is given up: its magic is cleared, the counter set to zero and the sender told. -/
def Body.giveUpReceive (b : Body) (r : Receive) : Body :=
  let b1 := (b.snClear (b.halfBase r.region r.half) 4).clearMirrorCounter 62
  ({ b1 with snap := { b1.snap with receive := none } } : Body).sendOutcome r.source 2

/-- Every harbour half and every section reads zero (R358). -/
def Body.zeroShard (b : Body) : Body :=
  let size := b.rd R.SN.HARBOUR_SIZE.MIB * 2 ^ 20
  let b1 := forEach [0, 1] (fun h c => (c.snClear (c.halfBase 0 h) size).wr (R.SN.HALF.VALID h) 0) b
  forEach (b1.sections.filter (· != 0)) (fun k c => c.snClear (c.sectionBase k) (c.sectionLen k)) b1

/-- A siding whose load was abandoned or timed out holds zeros only (R358). -/
def Body.loadLost (b : Body) : Body := if b.isAdmitted then b.zeroShard else b

/-- The sender of a load is fenced: the load is abandoned (R358). -/
def Body.senderFenced (b : Body) (place : Nat) : Body :=
  match b.snap.receive with
  | some r =>
    if r.region = 0 && r.source = place && place ≠ 0 && b.inService iSN then
      (((b.giveUpReceive { r with source := 0 }).loadLost).loadCode 0x16 0)
    else b
  | none => b

/-- The instant at which a copy that arrives times out. -/
def Body.receiveDue (b : Body) (r : Receive) : Nat := r.at_ + b.rd R.SN.MIRROR_CTRL.TIMEOUT * 10 ^ 6

/-- `MIRROR_TIMEOUT` (R348 step 3). -/
def mirrorTimeout (b : Body) : Body :=
  match b.snap.receive with
  | none => b
  | some r =>
    if r.region ≠ 1 || !b.inService iSN || b.memWaits (b.halfBase r.region r.half) 4096 then b
    else ((b.toLocal (b.receiveDue r)).giveUpReceive r).raiseN iSN 1

/-- `RECEIVE_TIMEOUT` (R354): a receive not complete in time ends with code 0x15. -/
def receiveTimeout (b : Body) : Body :=
  match b.snap.receive with
  | none => b
  | some r =>
    if r.region ≠ 0 || !b.inService iSN || b.memWaits (b.halfBase r.region r.half) 4096 then b
    else (((b.toLocal (b.receiveDue r)).giveUpReceive r).loadLost).loadCode 0x15 0

/-- `MIRROR_ACKNOWLEDGEMENT` (R348 step 5): the outcome has counted on 0x0FFF. -/
def mirrorAcknowledgement (outcome : Nat) (b : Body) : Body :=
  match b.snap.mirror with
  | none => b
  | some (h, send) =>
    let b1 := (({ b with snap := { b.snap with mirror := none } } : Body).wr R.SN.STATUS.MIRROR 0).clearMirrorCounter 63
    let good := outcome = 1
    let b2 := if good then b1 else b1.sat R.SN.COUNTS.MIRRORS_FAILED 1
    if send then (if good then b2.loadCode 0x01 0 else b2.loadCode 0x15 0)
    else if good then { b2 with snap := { b2.snap with lastBuddy := h } } else b2

/-! ## The ferry (R350, R351) -/

/-- `FERRY_START`: a write of START with HALF; one drain runs at a time. -/
def ferryStart (m : Master) (half : Nat) (b : Body) : Body :=
  let v := b.rd R.SN.FERRY_CTRL.SLOTS + b.rd R.SN.FERRY_CTRL.SLOT_MIB * 2 ^ 8 + 2 ^ 24 + half * 2 ^ 25
  if !b.inService iSN then b.cfgEvent m iSN 0x68 v 3
  else if m ≠ .host ∧ m ≠ .mg then b.cfgEvent m iSN 0x68 v 2
  else if b.snap.ferry.isSome then b.cfgEvent m iSN 0x68 v 0
  else
    let b1 := ((b.wr R.SN.FERRY_CTRL.HALF half).wr R.SN.STATUS.FERRY 1).wr R.SN.STATUS.FERRY_HALF half
    { b1 with snap := { b1.snap with ferry := some ⟨half, 4096, false, b1.ns 2, false⟩ } }

/-- `FERRY_SLOT_FILL` (R350): the next slot takes its header and data while the window has room; the manifest comes last. -/
def ferrySlotFill (b : Body) : Body :=
  match b.snap.ferry with
  | none => b
  | some f =>
    let slots := b.rd R.SN.FERRY_CTRL.SLOTS
    let size := b.rd R.SN.FERRY_CTRL.SLOT_MIB * 2 ^ 20
    let filled := b.rd R.SN.FERRY_FILLED.COUNT
    let base := b.halfBase 0 f.half
    let total := copySize (b.manifestLen base)
    if f.last || !b.inService iSN || !b.inService iHI || !b.hi.linkUp
        || b.memWaits base 4096 || slots ≤ (filled + 2 ^ 32 - b.rd R.SN.FERRY_DONE.COUNT) % 2 ^ 32 then b
    else
      let man := total ≤ f.pos
      let off := if man then 0 else f.pos
      let n := if man then 4096 else min (size - 64) (total - f.pos)
      if b.memWaits (base + off) n then b
      else if b.snDenied (base + off) n then (b.lostAccess (base + off) n (iSN * 64) 5 1).endFerry
      else
        let head := leBytes 8 off ++ leBytes 8 n ++ leBytes 8 (b.leAt (base + 8) 8) ++ leBytes 4 (b.leAt (base + 24) 4)
          ++ leBytes 1 (b2n man) ++ zeros 35
        let b1 := b.emit (.hostWrite (b.rd R.SN.FERRY_BASE.ADDR * 4096 + filled % slots * size) (head ++ b.bytes (base + off) n))
        let b2 : Body := { b1 with snap := { b1.snap with ferry := some { f with pos := f.pos + n, last := man } } }
        (b2.add R.SN.FERRY_FILLED.COUNT 1).irq 1

/-- DONE has moved (R350, R351): the drain ends when it has passed the manifest slot. -/
def Body.ferryDone (b : Body) : Body :=
  match b.snap.ferry with
  | none => b
  | some f =>
    if f.last && b.rd R.SN.FERRY_DONE.COUNT = b.rd R.SN.FERRY_FILLED.COUNT then b.endFerry
    else { b with snap := { b.snap with ferry := some { f with movedAt := b.ns 2, stalled := false } } }

/-- `FERRY_STALL` (R351): DONE has not moved for 10 s. -/
def ferryStall (b : Body) : Body :=
  match b.snap.ferry with
  | none => b
  | some f =>
    if f.stalled || !b.inService iSN then b
    else
      let b1 := b.toLocal (f.movedAt + 10 ^ 10)
      ({ b1 with snap := { b1.snap with ferry := some { f with stalled := true } } } : Body).raiseN iSN 2

/-! ## Loads (R354 to R356) -/

/-- The value of a write of `SN.LOAD_CTRL`. -/
def loadValue (op half region : Nat) : Nat := op + half * 8 + region * 16 + 2 ^ 8

/-- A write of `SN.LOAD_CTRL` with START, honoured from MG and the host. -/
def Body.loadOrder (b : Body) (m : Master) (op half region : Nat) (f : Body → Body) : Body :=
  let v := loadValue op half region
  if !b.inService iSN then b.cfgEvent m iSN 0x80 v 3
  else if m ≠ .host ∧ m ≠ .mg then b.cfgEvent m iSN 0x80 v 2
  else if op ≠ 4 && b.rd R.SN.LOAD_STATUS.CODE = 2 then b.cfgEvent m iSN 0x80 v 0
  else f (((b.wr R.SN.LOAD_CTRL.OP op).wr R.SN.LOAD_CTRL.HALF half).wr R.SN.LOAD_CTRL.REGION region)

/-- `LOAD_RECEIVE`: a harbour half prepares to receive a copy. -/
def loadReceive (m : Master) (half : Nat) (b : Body) : Body :=
  b.loadOrder m 1 half 0 (fun b =>
    let b1 := (b.clearHalf half).clearMirrorCounter 62
    ({ b1 with snap := { b1.snap with receive := some ⟨0, half, b1.ns 2, false, 0⟩ } } : Body).loadCode 2 0)

/-- `LOAD_SEND`: a half goes to the receiver of `SN.LOAD_PEER`, into its harbour half of the same number; it waits at its source while
no junction is open or its memory is not ready (R349). -/
def loadSend (m : Master) (half region : Nat) (b : Body) : Body :=
  b.loadOrder m 2 half region (fun b =>
    if b.jobRuns then b.loadCode 0x14 0
    else if b.snap.mirror.isSome then b.cfgEvent m iSN 0x80 (loadValue 2 half region) 0
    else
      let way := (b.rd R.SN.LOAD_PEER.PLACE, b.halfBase region half, b.halfBase 0 half)
      ((({ b with snap := { b.snap with mirror := some (half, true), unsent := some way } } : Body).wr R.SN.STATUS.MIRROR 1).loadCode
        2 0).serveSends)

/-- `UNPACK`: the chosen half is to be verified and copied into place, while no job runs. -/
def unpack (m : Master) (half : Nat) (b : Body) : Body :=
  b.loadOrder m 3 half 0 (fun b =>
    if b.jobRuns then b.loadCode 0x14 0
    else (({ b with snap := { b.snap with unpack := some half } } : Body).wr R.SN.STATUS.STATE 3).loadCode 2 0)

/-- `LOAD_ABANDON`: a load that runs ends with code 0x16; a send that has not set out is dropped. -/
def loadAbandon (m : Master) (b : Body) : Body :=
  b.loadOrder m 4 (b.rd R.SN.LOAD_CTRL.HALF) (b.rd R.SN.LOAD_CTRL.REGION) (fun b =>
    if b.rd R.SN.LOAD_STATUS.CODE ≠ 2 then b
    else
      let b1 := match b.snap.receive with
        | some r => if r.region = 0 then (b.giveUpReceive { r with source := 0 }).loadLost else b
        | none => b
      let b2 := if b1.snap.unpack.isSome then b1.wr R.SN.STATUS.STATE 0 else b1
      let b3 := if b2.snap.unsent.isSome then
          ({ b2 with snap := { b2.snap with mirror := none, unsent := none } } : Body).wr R.SN.STATUS.MIRROR 0 else b2
      ({ b3 with snap := { b3.snap with unpack := none } } : Body).loadCode 0x16 0)

/-- The sections of a verified copy are checked and copied one by one; at the first mismatch those before it stand. -/
def Body.unpackSections (base : Nat) : List (Nat × Nat) → Body → Body
  | [], b => (b.wr R.SN.STATUS.STATE 0).loadCode 0x01 0
  | (k, off) :: rest, b =>
    let n := b.manifestLen base k
    if b.snDenied (base + off) n || (k != 0 && !b.crosses iSN (b.sectionBase k) n) then ((b.lostAccess (base + off) n (iSN * 64) 4 1).wr R.SN.STATUS.STATE 0).loadCode 0x17 k
    else if !b.sectionOk base k off then ((b.wr R.SN.STATUS.STATE 0).loadCode 0x12 k).raiseN iSN 3
    else
      Body.unpackSections base rest
        (if k = 0 then b.setBlock (base + off) else b.snCopy (base + off) n (b.sectionBase k))

/-- `UNPACK_COMPLETE` (R355): the unpack ends, complete or with the code of its failure. -/
def unpackComplete (b : Body) : Body :=
  match b.snap.unpack with
  | none => b
  | some half =>
    let base := b.halfBase 0 half
    let b1 : Body := { b with snap := { b.snap with unpack := none } }
    let stop (code index : Nat) : Body := (b1.wr R.SN.STATUS.STATE 0).loadCode code index
    if b.copyWaits base then b
    else if b.snDenied base 8192 then
      (((b1.lostAccess base 8192 (iSN * 64) 4 1).wr R.SN.STATUS.STATE 0).loadCode 0x17 0)
    else
      match b.copyFault base with
      | some c => stop c 0
      | none =>
        match (List.range 64).find? (fun k => b.manifestLen base k != b.sectionLen k) with
        | some k => stop 0x13 k
        | none => Body.unpackSections base (sectionOffsets b.sectionLen) b1

/-! ## The restore decision (R352) -/

/-- A copy counts for a step with the epoch, serial and count given. -/
def copyFits (c : CopyInfo) (step epoch serial count : Nat) : Bool :=
  c.valid && c.step == step && c.epoch == epoch && c.serial == serial && c.count == count

/-- The choice for a step: for each shard index the kind of copy taken, own harbour half, else buddy half, else drained. -/
def stepChoice (cs : List CopyInfo) (step : Nat) : Option (List (Nat × Nat)) :=
  (cs.filter (fun c => c.valid && c.step == step)).findSome? (fun x =>
    let kindOf (i : Nat) : Option Nat :=
      [0, 1, 2].find? (fun k => cs.any (fun c => copyFits c step x.epoch x.serial x.count && c.shard == i && c.kind == k))
    if x.count ≠ 0 && (List.range x.count).all (fun i => (kindOf i).isSome) then
      some ((List.range x.count).map (fun i => (i, (kindOf i).getD 0)))
    else none)

/-- The newest step for which a complete choice exists. -/
def restoreChoice (cs : List CopyInfo) : Option (Nat × List (Nat × Nat)) :=
  (distinct ((cs.filter (·.valid)).map (·.step))).reverse.findSome? (fun s => (stepChoice cs s).map (fun l => (s, l)))

/-- `RESTORE_DECISION` (R352): the controller chooses, or writes code 0x20. -/
def restoreDecision (cs : List CopyInfo) (b : Body) : Body :=
  match restoreChoice cs with
  | some (s, l) =>
    let newer := (cs.filter (fun c => c.valid && decide (s < c.step))).length
    ({ b with snap := { b.snap with chosen := some (s, l), ignored := newer } } : Body).event 0xC942 iSN
      (leBytes 8 s ++ leBytes 1 (b2n (newer != 0)))
  | none =>
    (({ b with snap := { b.snap with chosen := none, ignored := 0 } } : Body).loadCode 0x20 0).event 0xC942 iSN
      (leBytes 8 (2 ^ 64 - 1) ++ [0])

/-- A reset or power cycle of SN: a snapshot fails, a drain is interrupted, an unpack or a receive ends (R342, R351). -/
def Body.snReset (b : Body) : Body :=
  let b1 := if b.snap.snap.isSome then b.snapFailed else b
  let b2 := b1.endFerry
  let running := b2.rd R.SN.LOAD_STATUS.CODE = 2
  let b3 : Body := { b2 with snap := { b2.snap with unpack := none, receive := none, unsent := none } }
  if running && (b2.snap.unpack.isSome || b2.snap.receive.isSome || b2.snap.unsent.isSome) then b3.loadCode 0x16 0 else b3

/-! ## The meanings -/

def execSnapshotStart (s : State) := run snapshotStart s
def execSnapshotCopyComplete (s : State) := run snapshotCopyComplete s
def execSnapshotSigned (s : State) := run snapshotSigned s
def execMirrorStart (s : State) := run mirrorStart s
def execMirrorComplete (s : State) := run mirrorComplete s
def execMirrorTimeout (s : State) := run mirrorTimeout s
def execMirrorAcknowledgement (outcome : BitVec 48) (s : State) := run (mirrorAcknowledgement outcome.toNat) s
def execFerryStart (m : Master) (half : Fin 2) (s : State) :=
  run (Body.written [iSN] 0x68 (ferryStart m half.val)) s
def execFerrySlotFill (s : State) := run ferrySlotFill s
def execFerryStall (s : State) := run ferryStall s
def execLoadReceive (m : Master) (half : Fin 2) (s : State) :=
  run (Body.written [iSN] 0x80 (loadReceive m half.val)) s
def execLoadSend (m : Master) (half region : Fin 2) (s : State) :=
  run (Body.written [iSN] 0x80 (loadSend m half.val region.val)) s
def execUnpack (m : Master) (half : Fin 2) (s : State) :=
  run (Body.written [iSN] 0x80 (unpack m half.val)) s
def execLoadAbandon (m : Master) (s : State) :=
  run (Body.written [iSN] 0x80 (loadAbandon m)) s
def execReceiveTimeout (s : State) := run receiveTimeout s
def execUnpackComplete (s : State) := run unpackComplete s
def execRestoreDecision (copies : List CopyInfo) (s : State) := run (restoreDecision copies) s

end Sys2Proof.Machine
end

