-- ==== Sys2Proof/Machine/Dispatcher.lean ====
section
/-! DEFINITION. The dispatcher role (spec/12_dispatcher.md R285 to R312): charter, discovery, the topology map, the chief, the
slice ledger, slices and corridors, votes and expulsion. -/

namespace Sys2Proof.Machine

/-! ## Pod broadcast (R292) -/

/-- The usable entries other than the module's own that share its coordinates but on axis `a`. -/
def Body.axisRing (b : Body) (a : Nat) : List Nat :=
  match b.ownEntry with
  | none => []
  | some e =>
    (b.disp.map.filter (fun m => m.usable && m.place != e.place
      && [0, 1, 2].all (fun x => x == a || m.coord x == e.coord x))).map (·.place)

/-- A payload of a class 0 operation goes to places of the pod slice, through J3. -/
def Body.toPlaces (b : Body) (ps : List Nat) (op : Nat) (payload : Bytes) : Body :=
  forEach ps (fun p c => c.sendPacket 3 (c.plainPacket p 0 op 0 (c.rd (R.J.SLICE.EPOCH 3 0)) payload)) b

/-- A payload starts on its way to every module. -/
def Body.broadcast (b : Body) (op : Nat) (payload : Bytes) : Body := b.toPlaces (b.axisRing 0 ++ b.axisRing 1 ++ b.axisRing 2) op payload

/-- A payload of a broadcast that came from `source` goes on: along Y and Z after the X stage, along Z after the Y stage. -/
def Body.relay (b : Body) (source op : Nat) (payload : Bytes) : Body :=
  match b.ownEntry, findPlace b.disp.map source with
  | some e, some s =>
    if s.x ≠ e.x then b.toPlaces (b.axisRing 1 ++ b.axisRing 2) op payload
    else if s.y ≠ e.y then b.toPlaces (b.axisRing 2) op payload
    else b
  | _, _ => b

/-! ## Keys and messages (R291) -/

/-- The identity key of a place: the module's own, or one received with KEY whose certificate is right. -/
def Body.keyOf (b : Body) (place : Nat) : Option Bytes :=
  if place = b.place then some (slice b.sec.flash.identity 0 388)
  else
    match SMap.find b.disp.keys place with
    | some k =>
      if k.length = 836 && certValid b.sec.flash (slice k 0 388) (slice k 388 448) then some (slice k 0 388) else none
    | none => none

/-- MG can act and sign. -/
def Body.mgReady (b : Body) : Bool := b.inService iMG

/-- PULL of the full map, or of ledger records from a sequence (R291, R292). -/
def Body.pull (b : Body) (from_ : Option Nat) : Body :=
  let body := match from_ with
    | none => leBytes 4 0 ++ leBytes 8 0
    | some s => leBytes 4 1 ++ leBytes 8 s
  (b.toChief 0x15 body).sat R.MG.DSP_COUNTS.PULLS 1

/-- A dispatcher report to the plant (R440): kind 0 slice ready, 1 conservation event, 2 drain outcome. -/
def Body.report (b : Body) (kind tag epoch fenced : Nat) : Body :=
  b.sendMgmt 0x09 (leBytes 1 kind ++ [0] ++ leBytes 2 tag ++ leBytes 2 epoch ++ zeros 2 ++ leBytes 4 fenced ++ zeros 52)

/-- The bodies of this module's KEY messages: an offset (4 bytes) and a chunk of its 388-byte public key and 448-byte
certificate.  The spec gives a chunk no layout and names no instant of sending (log 101). -/
def Body.keyChunks (b : Body) : List Bytes :=
  let k := slice b.sec.flash.identity 0 388 ++ slice b.sec.flash.certificate 0 448
  [leBytes 4 0 ++ slice k 0 500, leBytes 4 500 ++ slice k 500 336]

/-- KEY to every module (R291). -/
def Body.sendKeys (b : Body) : Body := forEach b.keyChunks (fun c t => t.broadcast 7 (t.msgPayload 0x1E c)) b

/-- During discovery a message goes on down the child links. -/
def Body.mapDown (b : Body) (type : Nat) (body : Bytes) : Body :=
  if b.rd R.MG.DSP_STATUS.MAP_STATE = 1 then forEach b.disp.discovery.children (fun l c => c.sendHop l type body) b else b

/-- KEY: a chunk of a roster member's public key and certificate, forwarded unchanged. -/
def key (place off : Nat) (data : Bytes) (b : Body) : Body :=
  if !b.mgReady then b
  else
    let body := leBytes 4 off ++ data
    let pl := b.arrivedPayload place 0x1E body
    let b0 := (b.servedMsg place 0x1E body).mapDown 0x1E body
    let b1 := if 2 ≤ b0.rd R.MG.DSP_STATUS.MAP_STATE then b0.relay place 7 pl else b0
    let k := SMap.getD b1.disp.keys place []
    let k' := overlay (if k.length < off then k ++ zeros (off - k.length) else k) off data
    { b1 with disp := { b1.disp with keys := SMap.insert b1.disp.keys place (k'.take 836) } }

/-! ## Role, roster and charter (R285 to R290) -/

/-- M of R287. -/
def Body.majority (b : Body) : Nat := (b.rd R.MG.DSP_STATUS.Q + 1) / 2

/-- The module serves on the roster. -/
def Body.onRoster (b : Body) : Bool := b.roster.contains b.place && b.rd R.MG.DSP_LEDGER_SIZE.MIB != 0

/-- `MG.DSP_STATUS.ROLE` where no chief's role is held: 3 while an election or a discovery of its own runs. -/
def Body.refreshRole (b : Body) : Body :=
  if b.isChief && b.onRoster then b
  else
    b.wr R.MG.DSP_STATUS.ROLE
      (if b.disp.election.isSome || b.disp.discovery.candidate then 3 else if b.onRoster then 1 else 0)

/-- The roster registers take these places, in order. -/
def Body.setRoster (b : Body) (ps : List Nat) : Body :=
  (forEach (List.range 7) (fun r c => c.wr (R.MG.DSP_ROSTER.PLACE r) ((ps[r]?).getD 0)) b).refreshRole

/-- A candidate can serve only with a ledger region (R286); the size of another module's stands in no message and is free (log 100). -/
def Body.canServe (b : Body) (p : Nat) : Bool :=
  if p = b.place then b.rd R.MG.DSP_LEDGER_SIZE.MIB != 0 else Config.ledgerMib p != 0

/-- The first Q candidates in rank order that are present and unfenced and can serve (R286, R287). -/
def Body.electRoster (b : Body) (m : List MapEntry) : List Nat :=
  ((charterCandidates b.disp.charter).filter (fun p =>
    match findPlace m p with
    | some e => e.usable && b.canServe p
    | none => false)).take (charterQ b.disp.charter)

/-- A map whose roster flags name the roster that it gives (R287, R294). -/
def Body.flagRoster (b : Body) (m : List MapEntry) : List MapEntry :=
  let next := b.electRoster m
  m.map (fun e => { e with flags := setBits e.flags 2 1 (b2n (next.contains e.place)) })

/-- A term is in force; a change of term is counted. -/
def Body.adoptTerm (b : Body) (t : Nat) : Body :=
  if b.rd R.MG.DSP_EPOCHS.TERM = t then b else (b.wr R.MG.DSP_EPOCHS.TERM t).sat R.MG.DSP_COUNTS.TERMS 1

/-- The links in service. -/
def Body.linksUp (b : Body) : List Nat := (List.range 64).filter b.linkUp

/-- `POD_CHARTER` (R285, R290): verified and put in force, or refused with MG source 3; a candidate without a map floods
DISCOVER. -/
def podCharter (bs : Bytes) (b : Body) : Body :=
  if !b.inService iMG then b
  else if bs.length ≠ 512 then b.portDrop
  else if !b.mgReady || !b.inService iSC then b
  else
    let b := b.portFrame
    let good := charterWf bs && decide (charterSerial b.disp.charter ≤ charterSerial bs || b.disp.charter.isEmpty)
      && (match b.operatorKey (slice bs 84 32) with
          | some k => keyVerifies k (slice bs 0 128) (slice bs 128 384)
          | none => false)
    if !good then b.raiseN iMG 3
    else
      let rank := charterRank bs b.place
      let b1 := ((({ b with disp := { b.disp with charter := bs } } : Body).wr R.MG.DSP_STATUS.CHARTER 1).wr R.MG.DSP_STATUS.Q
        (charterQ bs)).wr R.MG.DSP_STATUS.RANK rank
      if rank = 0 || b1.rd R.MG.DSP_LEDGER_SIZE.MIB = 0 || b1.mapAgreed then b1.refreshRole
      else
        let d : Discovery := { b1.disp.discovery with candidate := true, reports := [], lastReport := b1.ns 2,
                                                      ranks := rank :: b1.disp.discovery.ranks }
        let b2 := (({ b1 with disp := { b1.disp with discovery := d } } : Body).wr R.MG.DSP_STATUS.MAP_STATE 1).refreshRole
        forEach b2.linksUp (fun n c => c.sendDiscover n rank (charterSerial bs) 0) b2

/-! ## Discovery (R293, R295) -/

/-- This module's own REPORT. -/
def Body.ownReport (b : Body) : ReportMsg :=
  { place := b.place, keyDigest := leNat (keyDigest b.sec.flash.identity),
    farEnds := (List.range 64).map (fun n => b.rd (R.L.LINK_PEER.PLACE (n / 8) (n % 8))),
    inService := (List.range 64).foldl (fun m n => m + (if b.linkUp n then 2 ^ n else 0)) 0 }

/-- The body of a REPORT. -/
def reportBody (m : ReportMsg) : Bytes :=
  leBytes 4 m.place ++ leBytes 32 m.keyDigest ++ (List.range 64).flatMap (fun n => leBytes 4 ((m.farEnds[n]?).getD 0))
    ++ leBytes 8 m.inService

def Body.setDiscovery (b : Body) (d : Discovery) : Body := { b with disp := { b.disp with discovery := d } }

/-- `DISCOVER` (R293 steps 2 and 3): the first copy of a candidate's message is forwarded; the link of the lowest rank is the
parent, up and down which the module forwards, and the module reports to that candidate unless its charter is absent or differs (R286). -/
def discover (link rank serial hops : Nat) (b : Body) : Body :=
  let d := b.disp.discovery
  if !b.mgReady || !b.linkUp link || d.ranks.contains rank || b.mapAgreed then b
  else
    let d1 : Discovery := { d with ranks := rank :: d.ranks }
    let b1 := forEach (b.linksUp.filter (· != link)) (fun n c => c.sendDiscover n rank serial (hops + 1)) (b.setDiscovery d1)
    let own := charterSerial b.disp.charter
    let differs := b.disp.charter.isEmpty || own != serial
    let b2 := if differs then b1.event 0x5341 iMG (leBytes 4 own ++ leBytes 4 serial) else b1
    let yields := !(d.candidate && (differs || decide (charterRank b.disp.charter b.place < rank)))
    let better := match d.parent with | none => true | some _ => decide (rank < d.parentRank)
    if !yields || !better then b2
    else
      let d2 : Discovery := { d1 with parent := some link, parentRank := rank, candidate := false, children := [] }
      let b3 := ((b2.setDiscovery d2).wr R.MG.DSP_STATUS.MAP_STATE 1).refreshRole
      if differs then b3 else b3.sendHop link 0x11 (reportBody b3.ownReport)

/-- The far ends of a report's in-service torus links: link and place. -/
def torusEnds (m : ReportMsg) : List (Nat × Nat) :=
  ((List.range 64).filter (fun n => n % 8 < 6 && bit m.inService n)).map (fun n => (n, (m.farEnds[n]?).getD 0))

/-- A link agrees with the coordinates assigned (R295). -/
def linkAgrees (dims : Nat → Nat) (cs : Coords) (place : Nat) (l : Nat × Nat) : Bool :=
  match cs.find? (fun c => c.1 == place), cs.find? (fun c => c.1 == l.2) with
  | some (_, x, y, z), some (_, fx, fy, fz) =>
    let s := stepPort dims (fun a => if a = 0 then x else if a = 1 then y else z) (l.1 % 8)
    s 0 == fx && s 1 == fy && s 2 == fz
  | _, _ => false

/-- A rail's uplinks of a report reach one far module. -/
def uplinkEnd (m : ReportMsg) (railB : Bool) : Option Nat :=
  match (portLinks 9 railB).map (fun n => (bit m.inService n, (m.farEnds[n]?).getD 0)) with
  | [(true, a), (true, c)] => if a = c ∧ a ≠ 0 then some a else none
  | _ => none

/-- The map entry of a report; `roster` says whether the place is on the roster.  Flag [3], the siding, follows from no report: it
is free in a map that this module makes and kept in one that it receives (log 108). -/
def entryOfReport (dims : Nat → Nat) (cs : Coords) (roster : List Nat) (m : ReportMsg) : MapEntry :=
  let c := (cs.find? (fun c => c.1 == m.place)).getD (m.place, 0, 0, 0)
  let good (n : Nat) : Bool :=
    bit m.inService n && (n % 8 ≥ 6 || linkAgrees dims cs m.place (n, (m.farEnds[n]?).getD 0))
  let ua := uplinkEnd m false
  let ub := uplinkEnd m true
  let alive := (List.range 10).foldl (fun acc p =>
    let on (railB : Bool) : Bool := (portLinks p railB).any good
    acc + (if on false then 2 ^ p else 0) + (if on true then 2 ^ (10 + p) else 0)) 0
  { place := m.place, x := c.2.1, y := c.2.2.1, z := c.2.2.2,
    flags := 1 + (if roster.contains m.place then 4 else 0) + (if Config.sidingModule m.place then 8 else 0) + (if ua.isSome then 16 else 0) + (if ub.isSome then 32 else 0),
    alive := alive, upA := ua.getD 0, upB := ub.getD 0, digest := m.keyDigest % 2 ^ 32 }

/-- The header of a map (R294), without its signature. -/
def Body.mapHeader (b : Body) (epoch base entries : Nat) (m : List MapEntry) : Bytes :=
  leBytes 4 0x50414D54 ++ leBytes 4 epoch ++ leBytes 4 base ++ leBytes 4 (b.rd R.MG.DSP_EPOCHS.TERM)
    ++ leBytes 1 (b.dims 0) ++ leBytes 1 (b.dims 1) ++ leBytes 1 (b.dims 2) ++ [0] ++ leBytes 2 entries
    ++ leBytes 2 (ceilDiv entries 15) ++ leBytes 4 (charterSerial b.disp.charter) ++ zeros 4 ++ mapDigest m

/-- The messages that carry entries of a map: type and body. -/
def Body.mapMessages (b : Body) (epoch base : Nat) (entries m : List MapEntry) : List (Nat × Bytes) :=
  let h := b.mapHeader epoch base entries.length m
  (0x12, h ++ (Config.identitySign h).toList) :: (List.range (ceilDiv entries.length 15)).map (fun i =>
    (0x13, leBytes 4 i ++ ((entries.drop (15 * i)).take 15).flatMap MapEntry.toBytes))

/-- A place stands in the map in force, and is present there. -/
def Body.inMap (b : Body) (place : Nat) : Bool := ((findPlace b.disp.map place).map (·.present)).getD false

/-- Fence entries whose place has left the map are freed (R310). -/
def Body.pruneFences (b : Body) : Body :=
  forEach (List.range 256) (fun e c =>
    if c.on (R.J.FENCE.VALID c.jRep e) && !c.inMap (c.rd (R.J.FENCE.PLACE c.jRep e) * 256) then
      (c.mgSeen (0x3000 + 4 * e)).mgFour (0x3000 + 4 * e) 0 (fun k d => d.wr (R.J.FENCE.VALID k e) 0)
    else c) b

/-- The roster is set; a module that has become a member, or that sees a module new to the map, sends its key (R291, log 101). -/
def Body.enterRoster (b : Body) (ps : List Nat) (fresh : Bool) : Body :=
  let was := b.onRoster
  let b1 := b.setRoster ps
  b1.when (b1.onRoster && b1.mapAgreed && (!was || fresh)) Body.sendKeys

/-- A map is in force (R293 step 6, R297, R298, R375): coordinates, roster, routes, fences, the time root, the watched
modules; held links whose far ends it confirms are released (R312).  With the first map discovery has ended, and the chief's
silence runs from there (R290). -/
def Body.installMap (b : Body) (m : List MapEntry) (epoch : Nat) : Body :=
  let b1 := ({ b with disp := { b.disp with map := m, incoming := none } } : Body).wr R.MG.DSP_EPOCHS.MAP_EPOCH epoch
  let b2 := match b1.ownEntry with
    | some e => (((b1.wr R.MG.DSP_PLACE.X e.x).wr R.MG.DSP_PLACE.Y e.y).wr R.MG.DSP_PLACE.Z e.z).wr R.MG.DSP_PLACE.COORD_VALID 1
    | none => b1
  let members := (charterCandidates b2.disp.charter).filter (fun p =>
    match findPlace m p with | some e => bit e.flags 2 | none => false)
  let b3 := (b2.computeRoutes).setDiscovery { b2.disp.discovery with candidate := false }
  let b4 : Body := if b.mapAgreed then b3 else { b3 with disp := { b3.disp with heard := b3.ns 2 } }
  let fresh := m.any (fun e => (findPlace b.disp.map e.place).isNone)
  (((((b4.enterRoster members fresh).pruneFences).adoptRoot).syncWatched).releaseMatching)

/-- MAP_ACK to the chief: the epoch and the status of `MG.DSP_ROUTES`. -/
def Body.ackMap (b : Body) : Body :=
  b.toChief 0x14 (leBytes 4 (b.rd R.MG.DSP_EPOCHS.MAP_EPOCH) ++ leBytes 4 (b.rd R.MG.DSP_ROUTES.ENTRIES
    + b.rd R.MG.DSP_ROUTES.OVERFLOW * 2 ^ 12))

/-- A cabling event for each rail whose uplinks a report shows in service and not valid (R294). -/
def Body.uplinkEvents (b : Body) (r : ReportMsg) : Body :=
  forEach [false, true] (fun railB e =>
    if (portLinks 9 railB).any (fun n => bit r.inService n) && (uplinkEnd r railB).isNone then
      e.event 0x2342 iMG (leBytes 4 r.place ++ leBytes 1 (((portLinks 9 railB).head?).getD 0))
    else e) b

/-- `DISCOVERY_END` (R293 steps 4 and 5): with the expected reports, or 20 ms after the last, the candidate assigns
coordinates, builds map epoch 1 and sends it down the child links as provisional chief. -/
def discoveryEnd (b : Body) : Body :=
  let d := b.disp.discovery
  if !d.candidate || !b.mgReady then b
  else
    let full := decide (charterExpected b.disp.charter ≤ d.reports.length + 1)
    let b := if full then b else b.toLocal (d.lastReport + 20000000)
    let reports := b.ownReport :: d.reports
    let places := sortNat (reports.map (·.place))
    let endsOf (p : Nat) : List (Nat × Nat) :=
      match reports.find? (fun r => r.place == p) with
      | some r => (torusEnds r).filterMap (fun l =>
          if places.contains l.2 then some (l.1 % 8, l.2) else none)
      | none => []
    let origin := (places.head?).getD b.place
    let cs := assignCoords b.dims endsOf (places.length + 1) [origin] [(origin, 0, 0, 0)]
    let reached := reports.filter (fun r => cs.any (fun c => c.1 == r.place))
    let roster := ((charterCandidates b.disp.charter).filter (fun p => reached.any (fun r => r.place == p) && b.canServe p)).take
      (charterQ b.disp.charter)
    let m := reached.foldl (fun acc r => insertEntry acc (entryOfReport b.dims cs roster r)) ([] : List MapEntry)
    let b1 := forEach reached (fun r c =>
      (forEach ((torusEnds r).filter (fun l => !linkAgrees c.dims cs r.place l)) (fun l e =>
        e.event 0x2342 iMG (leBytes 4 r.place ++ leBytes 1 l.1)) c).uplinkEvents r) b
    let kids := b1.disp.discovery.children
    let msgs := b1.keyChunks.map (fun c => (0x1E, c)) ++ b1.mapMessages 1 0 m m
    let b2 := forEach kids (fun l c => forEach msgs (fun x e => e.sendHop l x.1 x.2) c) b1
    let b3 := b2.installMap m 1
    let b4 : Body := { b3 with disp := { b3.disp with chief := b3.place, heard := b3.ns 2, beat := b3.ns 2, mapAcks := [] } }
    b4.wr R.MG.DSP_STATUS.ROLE 2

/-! ## Receiving a map (R294) -/

/-- What became of an incoming map whose chunks are all here: installed, refused with MG source 3, or pulled again. -/
def Body.finishMap (b : Body) : Body :=
  match b.disp.incoming with
  | none => b
  | some (h, cs) =>
    let n := le h 22 2
    if cs.length < n then b
    else
      let entries := ((cs.flatMap (fun c => (List.range (c.2.length / 32)).map (fun i => parseMapEntry (slice c.2 (32 * i) 32)))).take
        (le h 20 2))
      let base := le h 8 4
      let epoch := le h 4 4
      let cur := b.rd R.MG.DSP_EPOCHS.MAP_EPOCH
      let m := if base = 0 then entries.foldl insertEntry [] else entries.foldl insertEntry b.disp.map
      let b0 : Body := { b with disp := { b.disp with incoming := none } }
      let signed_ := match b.keyOf b.disp.chief with
        | some k => keyVerifies k (slice h 0 64) (slice h 64 384)
        | none => false
      if epoch ≤ cur then b0
      else if base ≠ 0 && base ≠ cur then b0.pull none
      else if signed_ && mapDigest m == slice h 32 32 && decide (b.rd R.MG.DSP_EPOCHS.TERM ≤ le h 12 4) then
        ((b0.adoptTerm (le h 12 4)).installMap m epoch).ackMap
      else
        let b1 := b0.raiseN iMG 3
        if base = 0 then b1 else b1.pull none

/-- `MAP_HEAD` (R292, R294): the header and its signature, 448 bytes, go on as they are; SC verifies them for the module itself. -/
def mapHead (source : Nat) (h : Bytes) (b : Body) : Body :=
  if !b.mgReady then b
  else
    let pl := b.arrivedPayload source 0x12 h
    let b1 := (b.servedMsg source 0x12 h).mapDown 0x12 h
    let b2 := if b1.mapAgreed then b1.relay source 7 pl else b1
    let own := charterSerial b2.disp.charter
    if !b2.inService iSC then b2
    else if h.length ≠ 448 || le h 0 4 ≠ 0x50414D54 then b2.raiseN iMG 3
    else if le h 24 4 ≠ own || b2.disp.charter.isEmpty then b2.event 0x5341 iMG (leBytes 4 own ++ leBytes 4 (le h 24 4))
    else
      let sender := (charterCandidates b2.disp.charter).find? (fun p =>
        match b2.keyOf p with
        | some k => keyVerifies k (slice h 0 64) (slice h 64 384)
        | none => false)
      ({ b2 with disp := { b2.disp with incoming := some (h, []), chief := sender.getD b2.disp.chief } } : Body).finishMap

/-- `MAP_CHUNK` (R294): a chunk index and up to 15 entries. -/
def mapChunk (source index : Nat) (es : Bytes) (b : Body) : Body :=
  if !b.mgReady then b
  else
    let body := leBytes 4 index ++ es
    let pl := b.arrivedPayload source 0x13 body
    let b1 := (b.servedMsg source 0x13 body).mapDown 0x13 body
    let b2 := if b1.mapAgreed then b1.relay source 7 pl else b1
    match b2.disp.incoming with
    | none => b2
    | some (h, cs) =>
      ({ b2 with disp := { b2.disp with incoming := some (h, SMap.insert cs index es) } } : Body).finishMap

/-- `MAP_ACK`: the chief notes it. -/
def mapAck (source epoch routes : Nat) (b : Body) : Body :=
  let b := b.servedMsg source 0x14 (leBytes 4 epoch ++ leBytes 4 routes)
  if !b.isChief || !b.mgReady then b
  else { b with disp := { b.disp with mapAcks := b.disp.mapAcks.filter (fun a => a.1 != source) ++ [(source, epoch)] } }

/-! ## Ledger records (R301) -/

/-- The 128 bytes of a record. -/
def recordBytes (r : Record) : Bytes :=
  leBytes 8 r.seq ++ leBytes 4 r.term ++ leBytes 1 r.type ++ [0] ++ leBytes 2 r.tag ++ leBytes 2 r.epoch ++ leBytes 2 r.grant
    ++ leBytes 4 r.mapEpoch ++ leBytes 12 r.stamp ++ slice r.body 0 60 ++ slice r.prev 0 32

/-- A record read from 128 bytes. -/
def parseRecord (bs : Bytes) : Record :=
  { seq := le bs 0 8, term := le bs 8 4, type := le bs 12 1, tag := le bs 14 2, epoch := le bs 16 2, grant := le bs 18 2,
    mapEpoch := le bs 20 4, stamp := le bs 24 12, body := slice bs 36 60, prev := slice bs 96 32 }

/-- The sequence of the last record held. -/
def Body.lastSeq (b : Body) : Nat := b.disp.ledger.foldl (fun m r => max m r.seq) (b.committed)

/-- The digest that the record after sequence `seq` − 1 must carry. -/
def Body.prevDigest (b : Body) (seq : Nat) : Bytes :=
  match b.disp.ledger.find? (fun r => r.seq + 1 == seq) with
  | some r => sha256 (recordBytes r)
  | none => zeros 32

/-- A record is held: it replaces those from its sequence on, and a roster member writes it to the ledger region. -/
def Body.hold (b : Body) (r : Record) : Body :=
  let a := b.rd R.MG.DSP_LEDGER_BASE.ADDR * 64 + 128 * (r.seq - 1)
  let fits := decide (128 * r.seq ≤ b.rd R.MG.DSP_LEDGER_SIZE.MIB * 2 ^ 20)
  let b1 : Body := { b with disp := { b.disp with ledger := b.disp.ledger.filter (fun x => decide (x.seq < r.seq)) ++ [r] } }
  if b.onRoster && fits then b1.writeUnits a (recordBytes r) (iMG * 64) 7 else b1

/-- A record that this module has committed comes again from a new chief under its own term (R289). -/
def Body.sameUnderNewTerm (b : Body) (r : Record) : Bool :=
  b.disp.ledger.any (fun x => x.seq == r.seq && decide (x.term < r.term) && x.type == r.type && x.tag == r.tag && x.epoch == r.epoch
    && x.grant == r.grant && x.body == r.body)

/-- It replaces the one held, in the ledger region too. -/
def Body.rehold (b : Body) (r : Record) : Body :=
  let a := b.rd R.MG.DSP_LEDGER_BASE.ADDR * 64 + 128 * (r.seq - 1)
  let fits := decide (128 * r.seq ≤ b.rd R.MG.DSP_LEDGER_SIZE.MIB * 2 ^ 20)
  let b1 : Body := { b with disp := { b.disp with ledger := b.disp.ledger.map (fun x => if x.seq = r.seq then r else x) } }
  if b.onRoster && fits then b1.writeUnits a (recordBytes r) (iMG * 64) 7 else b1

/-- A record without what the chief assigns at proposal. -/
def draft (type tag epoch grant : Nat) (body : Bytes) : Record :=
  { seq := 0, term := 0, type := type, tag := tag, epoch := epoch, grant := grant, mapEpoch := 0, stamp := 0,
    body := slice body 0 60, prev := [] }

/-- The chief proposes the first record that waits (R301). -/
def Body.startProposal (b : Body) : Body :=
  match b.disp.proposals with
  | [] => b
  | r :: rest =>
    let seq := if r.seq = 0 then b.lastSeq + 1 else r.seq
    let r1 : Record := { r with seq := seq, term := b.rd R.MG.DSP_EPOCHS.TERM, mapEpoch := b.rd R.MG.DSP_EPOCHS.MAP_EPOCH,
                                stamp := b.stamp 0 iMG, prev := b.prevDigest seq }
    let b1 := (({ b with disp := { b.disp with proposals := r1 :: rest, holders := [b.place] } } : Body).sampled iMG).hold r1
    forEach (b1.roster.filter (· != b1.place)) (fun p c => c.sendMsg p 0x18 (recordBytes r1)) b1

/-- The chief has a record to propose: at once when none is under way. -/
def Body.propose (b : Body) (r : Record) : Body :=
  let idle := b.disp.proposals.isEmpty
  let b1 : Body := { b with disp := { b.disp with proposals := b.disp.proposals ++ [r] } }
  if idle then b1.startProposal else b1

/-! ## Slice entries from records (R302, R304 to R306) -/

/-- A torus link, a board link or an uplink belongs to a slice's entry (R302). -/
def Body.sliceLink (b : Body) (r : Record) (e : MapEntry) (n : Nat) : Bool :=
  let parts := recordParts r.body
  let inSlice (p : Nat) : Bool :=
    match findPlace b.disp.map p with
    | some m => parts.any (fun x => inPart b.dims x m)
    | none => false
  let port := portOfLink n
  if port < 6 then
    match neighbourOf b.disp.map b.dims e port with
    | some m => parts.any (fun x => inPart b.dims x e && inPart b.dims x m)
    | none => false
  else if port < 9 then bit (le r.body 24 1) 0 && inSlice (b.peerPlace ((b.ownSlot + port - 5) % 4))
  else bit (le r.body 24 1) 1 && inSlice (if linkRailB n then e.upB else e.upA)

/-- The link mask of this module's entry for a create record. -/
def Body.sliceMask (b : Body) (r : Record) : Nat :=
  match b.ownEntry with
  | none => 0
  | some e => (List.range 64).foldl (fun m n => m + (if b.sliceLink r e n then 2 ^ n else 0)) 0

/-- This module lies in the slice of a create record. -/
def Body.memberOf (b : Body) (r : Record) : Bool :=
  match b.ownEntry with
  | some e => (recordParts r.body).any (fun p => inPart b.dims p e)
  | none => false

/-- The value of `J.SLICE_e`: tag, epoch, state, links, grant, host. -/
def sliceValue (tag epoch state links grant host : Nat) : Nat :=
  (setBits (setBits (setBits (setBits (setBits (setBits 0 (R.J.SLICE.TAG 0 0).lo (R.J.SLICE.TAG 0 0).w tag)
    (R.J.SLICE.EPOCH 0 0).lo (R.J.SLICE.EPOCH 0 0).w epoch) (R.J.SLICE.STATE 0 0).lo (R.J.SLICE.STATE 0 0).w state)
    (R.J.SLICE.LINKS 0 0).lo (R.J.SLICE.LINKS 0 0).w links) (R.J.SLICE.GRANT 0 0).lo (R.J.SLICE.GRANT 0 0).w grant)
    (R.J.SLICE.HOST 0 0).lo (R.J.SLICE.HOST 0 0).w host)

/-- The lowest free index from 1 on. -/
def Body.freeIndex (b : Body) : Option Nat :=
  ((List.range 63).map (· + 1)).find? (fun e => b.rd (R.J.SLICE.STATE b.jRep e) = 0)

/-- SLICE_ACK (R291): tag, epoch, event and fenced count. -/
def Body.sliceAck (b : Body) (tag epoch event fenced : Nat) : Body :=
  b.toChief 0x1B (leBytes 2 tag ++ leBytes 2 epoch ++ leBytes 4 event ++ leBytes 4 fenced)

/-- The entry of this module for a create record under an epoch is installed and acknowledged, or waits for a drain event. -/
def Body.installSlice (b : Body) (r : Record) (epoch : Nat) : Body :=
  let v := sliceValue r.tag epoch 1 (b.sliceMask r) r.grant 0
  let wait : Body := { b with disp := { b.disp with installs := b.disp.installs ++ [{ r with epoch := epoch }] } }
  match b.freeIndex with
  | none => wait
  | some e => if b.entryRefused e v then wait else ((b.mgSeen (0x2000 + 0x20 * e)).installEntry e v).sliceAck r.tag epoch 0 0

/-- The installs that waited for a drain event are tried again (R304, R305). -/
def Body.retryInstalls (b : Body) : Body :=
  let w := b.disp.installs
  forEach w (fun r c => c.installSlice r r.epoch) { b with disp := { b.disp with installs := [] } }

/-- A draining entry has become free: the chief is told, and installs that waited go on (R281, R304). -/
def Body.afterDrain (b : Body) (tag epoch event fenced : Nat) : Body := (b.sliceAck tag epoch event fenced).retryInstalls

/-- `DRAIN_COMPLETE` (R281). -/
def drainComplete (e : Nat) (b : Body) : Body :=
  if e = 0 || !b.drained e then b
  else
    let tag := b.rd (R.J.SLICE.TAG b.jRep e)
    let ep := b.rd (R.J.SLICE.EPOCH b.jRep e)
    (b.freeEntry e false).afterDrain tag ep 1 0

/-- `DRAIN_TIMEOUT` (R279, R281). -/
def drainTimeout (e : Nat) (b : Body) : Body :=
  if e = 0 || b.rd (R.J.SLICE.STATE b.jRep e) ≠ 2 then b
  else
    let b := b.toLocal (b.drainDue e)
    let tag := b.rd (R.J.SLICE.TAG b.jRep e)
    let ep := b.rd (R.J.SLICE.EPOCH b.jRep e)
    let out := b.outstanding e
    ((b.reclaimEntry e).freeEntry e true).afterDrain tag ep 2 out

/-- The gap between two parts along an axis: origin and extent (R306). -/
def gapOf (dims : Nat → Nat) (a : Nat) (p q : Nat × Nat × Nat × Nat × Nat × Nat) : Nat × Nat :=
  let org (x : Nat × Nat × Nat × Nat × Nat × Nat) : Nat := if a = 0 then x.1 else if a = 1 then x.2.1 else x.2.2.1
  let ext (x : Nat × Nat × Nat × Nat × Nat × Nat) : Nat :=
    if a = 0 then x.2.2.2.1 else if a = 1 then x.2.2.2.2.1 else x.2.2.2.2.2
  let d := max (dims a) 1
  let after (x y : Nat × Nat × Nat × Nat × Nat × Nat) : Nat × Nat := ((org x + ext x) % d, (org y + 2 * d - org x - ext x) % d)
  let g1 := after p q
  let g2 := after q p
  if g1.2 ≤ g2.2 then g1 else g2

/-- The origin and extent of a part on an axis. -/
def partAxis (p : Nat × Nat × Nat × Nat × Nat × Nat) (a : Nat) : Nat × Nat :=
  if a = 0 then (p.1, p.2.2.2.1) else if a = 1 then (p.2.1, p.2.2.2.2.1) else (p.2.2.1, p.2.2.2.2.2)

/-- A module lies in the gap box of two parts along an axis. -/
def inGap (dims : Nat → Nat) (a : Nat) (p q : Nat × Nat × Nat × Nat × Nat × Nat) (e : MapEntry) : Bool :=
  let g := gapOf dims a p q
  onAxis (dims a) g.1 g.2 (e.coord a)
    && [0, 1, 2].all (fun x => x == a || onAxis (dims x) (partAxis p x).1 (partAxis p x).2 (e.coord x))

/-- Two parts are joined by a corridor along an axis (R306). -/
def corridorJoins (dims : Nat → Nat) (a : Nat) (p q : Nat × Nat × Nat × Nat × Nat × Nat) : Bool :=
  let g := gapOf dims a p q
  [0, 1, 2].all (fun x => x == a || partAxis p x == partAxis q x)
    && decide ((partAxis p a).2 + (partAxis q a).2 + g.2 ≤ dims a / 2) && decide (0 < g.2)

/-- The corridor links of a module along an axis: both ports on both rails. -/
def corridorLinks (a : Nat) : Nat :=
  ([false, true].flatMap (fun railB => portLinks (2 * a) railB ++ portLinks (2 * a + 1) railB)).foldl (fun m n => m + 2 ^ n) 0

/-- What a record makes of the slices, their tags, epochs and states (R302 to R305). -/
def sliceStep (l : List SliceState) (r : Record) : List SliceState :=
  let on_ (f : SliceState → SliceState) : List SliceState := l.map (fun s => if s.tag = r.tag then f s else s)
  if r.type = 1 then l.filter (fun s => s.tag != r.tag) ++ [⟨r.tag, r.epoch, 0, [], 0, 0⟩]
  else if r.type = 2 then on_ (fun s => { s with state := 2, acked := [], fenced := 0, timedOut := 0 })
  else if r.type = 3 then on_ (fun s => { s with state := 3 })
  else if r.type = 4 then on_ (fun s => { s with epoch := r.epoch, state := 0, acked := [] })
  else l

/-- The committed records with those the chief has still to propose, and the slices that they make. -/
def Body.allRecords (b : Body) : List Record :=
  b.disp.ledger.filter (fun r => decide (r.seq ≤ b.committed)) ++ b.disp.proposals
def Body.ledgerSlices (b : Body) : List SliceState := b.allRecords.foldl sliceStep []

/-- The newest create record of a tag among them. -/
def Body.createOf (b : Body) (tag : Nat) : Option Record := (b.allRecords.filter (fun r => r.type == 1 && r.tag == tag)).getLast?

/-- The tag of the held slice that this module lies in; 0 for none. -/
def Body.ownTag (b : Body) : Nat :=
  (((b.ledgerSlices.filter (fun s => s.state != 3)).filterMap (fun s => b.createOf s.tag)).find? b.memberOf |>.map (·.tag)).getD 0

/-- A corridor grant: the modules of the gap box whose own slice is the record's host write a corridor entry, or give the one they
have for the tag its new host (R282, R306). -/
def Body.grantCorridor (b : Body) (r : Record) : Body :=
  let tag := le r.body 0 2
  let a := le r.body 6 1
  let host := le r.body 4 2
  let old := lowest 64 (fun e => b.rd (R.J.SLICE.STATE b.jRep e) == 3 && b.rd (R.J.SLICE.TAG b.jRep e) == tag)
  match b.createRecord tag, b.ownEntry, (match old with | some i => some i | none => b.freeIndex) with
  | some c, some e, some i =>
    let ps := (List.range 4).map (fun k => (List.range 6).map (fun j => le c.body (6 * k + j) 1))
    let part (k : Nat) : Nat × Nat × Nat × Nat × Nat × Nat :=
      match ps[k]? with
      | some [x, y, z, ex, ey, ez] => (x, y, z, ex, ey, ez)
      | _ => (0, 0, 0, 0, 0, 0)
    let v := sliceValue tag (le r.body 2 2) 3 (corridorLinks a) 0 host
    if inGap b.dims a (part (le r.body 7 1)) (part (le r.body 8 1)) e && !b.memberOf c && b.ownTag == host
        && (old.isSome || !b.entryRefused i v) then
      (b.mgSeen (0x2000 + 0x20 * i)).installEntry i v
    else b
  | _, _, _ => b

/-- A corridor of a passing tag is released: its entry is free. -/
def Body.releaseCorridor (b : Body) (tag : Nat) : Body :=
  forEach ((List.range 64).filter (fun e =>
      b.rd (R.J.SLICE.STATE b.jRep e) = 3 && b.rd (R.J.SLICE.TAG b.jRep e) = tag)) (fun e c =>
    (c.mgSeen (0x2000 + 0x20 * e)).mgFour (0x2000 + 0x20 * e) 0 (fun k d => d.wr (R.J.SLICE.STATE k e) 0)) b

/-- The active entry of a tag drains. -/
def Body.drainTag (b : Body) (tag : Nat) : Body :=
  match b.entryOf b.jRep tag with
  | some e => if b.rd (R.J.SLICE.STATE b.jRep e) = 1 && e ≠ 0 then (b.mgSeen (0x2000 + 0x20 * e)).drainEntry e else b
  | none => b

/-! ## Fences and expulsion (R309, R310, R330) -/

/-- The fence entry of a place. -/
def Body.fenceEntry (b : Body) (place : Nat) : Option Nat :=
  lowest 256 (fun e => b.on (R.J.FENCE.VALID b.jRep e) && b.rd (R.J.FENCE.PLACE b.jRep e) == place / 256)

/-- Every slice entry but entry 0 drains, corridor entries too (R330 step 3). -/
def Body.drainAll (b : Body) : Body :=
  let used (e : Nat) : Bool := b.rd (R.J.SLICE.STATE b.jRep e) = 1 || b.rd (R.J.SLICE.STATE b.jRep e) = 3
  forEach ((List.range 64).filter (fun e => e ≠ 0 && used e)) (fun e c => (c.mgSeen (0x2000 + 0x20 * e)).drainEntry e) b

/-- The module has learned of its own expulsion (R330): at once without a job, else its end waits for the departure. -/
def Body.ownExpulsion (b : Body) : Body :=
  if b.on R.CT.STATUS.EXPELLED then b
  else
    let b1 := (b.wr R.CT.STATUS.EXPELLED 1).raiseN iCT 6
    if b1.jobRuns then { b1 with cont := { b1.cont with expelNext := true } }
    else (b1.wr R.CT.STATUS.STOPPED 1).alertPin.drainAll

/-- A place is fenced: written into a free entry of all four junctions, or source 2 when none is free; a load from it is
abandoned (R358). -/
def Body.fencePlace (b : Body) (place : Nat) : Body :=
  let b1 :=
    if (b.fenceEntry place).isSome then b
    else
      let b0 := ((b.sat R.MG.DSP_COUNTS.EXPULSIONS 1).event 0xA344 iMG (leBytes 4 place ++ leBytes 1 1))
      match lowest 256 (fun e => !b.on (R.J.FENCE.VALID b.jRep e)) with
      | none => b0.raiseN iMG 2
      | some e => (b0.mgSeen (0x3000 + 4 * e)).mgFour (0x3000 + 4 * e) (place + 1) (fun k c =>
          (c.wr (R.J.FENCE.PLACE k e) (place / 256)).wr (R.J.FENCE.VALID k e) 1)
  if place = b.place then b1.ownExpulsion else b1.senderFenced place

/-- A place's fence is cleared. -/
def Body.unfencePlace (b : Body) (place : Nat) : Body :=
  match b.fenceEntry place with
  | none => b
  | some e =>
    ((b.mgSeen (0x3000 + 4 * e)).mgFour (0x3000 + 4 * e) 0 (fun k c => c.wr (R.J.FENCE.VALID k e) 0)).event 0xA344 iMG (leBytes 4 place ++ leBytes 1 2)

/-- A committed readmission of the module itself: it leaves the expelled state (R330). -/
def Body.readmitted (b : Body) (place : Nat) : Body :=
  let b1 := b.unfencePlace place
  if place = b.place then
    ({ b1 with cont := { b1.cont with expelNext := false } } : Body).wr R.CT.STATUS.EXPELLED 0 |>.wr R.CT.STATUS.STOPPED 0 |>.alertPin
  else b1

/-! ## Applying committed records (R302) -/

/-- The record of a counted majority has committed. -/
def Body.settleMajority (b : Body) (kind subject : Nat) : Body :=
  { b with disp := { b.disp with majorities := b.disp.majorities.filter (fun x => !(x.1 == kind && x.2.1 == subject)) } }

/-- A committed record takes effect at this module. -/
def Body.applyRecord (b : Body) (r : Record) : Body :=
  if r.type = 1 then (let b1 := b.noteMembers r
    if b1.memberOf r then b1.installSlice r r.epoch else b1)
  else if r.type = 2 then b.drainTag r.tag
  else if r.type = 4 then
    match b.createRecord r.tag with
    | none => b
    | some c =>
      if !b.memberOf c then b
      else
        match b.entryOf b.jRep r.tag with
        | some _ =>
          let b1 := b.drainTag r.tag
          { b1 with disp := { b1.disp with installs := b1.disp.installs ++ [{ c with epoch := r.epoch, grant := c.grant }] } }
        | none => b.installSlice c r.epoch
  else if r.type = 5 then b.grantCorridor r
  else if r.type = 6 then b.releaseCorridor (le r.body 0 2)
  else if r.type = 7 then (b.settleMajority 1 (le r.body 0 4)).fencePlace (le r.body 0 4)
  else if r.type = 8 then ((b.settleMajority 2 (le r.body 0 4)).readmitted (le r.body 0 4)).releaseMatching
  else if r.type = 10 then
    (if le r.body 0 4 = b.place then
      b.event 0x3A44 (iJ 0) (leBytes 2 r.tag ++ leBytes 2 r.epoch ++ leBytes 4 (le r.body 4 4) ++ zeros 4) else b)
  else if r.type = 11 then
    b.enterRoster (((List.range 7).map (fun i => le r.body (4 * i) 4)).filter (· != 0)) false
  else b

/-- A slice as the chief knows it, changed. -/
def Body.onSlice (b : Body) (tag : Nat) (f : SliceState → SliceState) : Body :=
  { b with disp := { b.disp with slices := b.disp.slices.map (fun s => if s.tag = tag then f s else s) } }

/-- The chief's next map is announced by a map-epoch record. -/
def Body.proposeMap (b : Body) (m0 : List MapEntry) : Body :=
  let m := b.flagRoster m0
  ({ b with disp := { b.disp with nextMap := some m } } : Body).propose (draft 12 0 0 0 (mapDigest m))

/-- The map that further changes start from. -/
def Body.draftMap (b : Body) : List MapEntry := b.disp.nextMap.getD b.disp.map

/-- The fenced flag of a place set or cleared. -/
def flagFence (m : List MapEntry) (place : Nat) (on_ : Bool) : List MapEntry :=
  m.map (fun e => if e.place = place then { e with flags := setBits e.flags 1 1 (b2n on_) } else e)

/-- The changed entries between two maps. -/
def changedEntries (old new : List MapEntry) : List MapEntry := new.filter (fun e => !old.contains e)

/-- A module joins the agreed map later (R295): with the coordinate that all its in-service torus neighbours of the map imply, or
not at all, with a cabling event.  The spec names no message for it: its REPORT reaches the chief (log 104). -/
def Body.admitLate (b : Body) (m : ReportMsg) : Body :=
  if (findPlace b.draftMap m.place).isSome then b
  else
    let implied := (torusEnds m).filterMap (fun l =>
      match findPlace b.draftMap l.2 with
      | some e => if e.usable then
          (let s := stepPort b.dims e.coord (l.1 % 8 / 2 * 2 + (1 - l.1 % 8 % 2)); some (s 0, s 1, s 2)) else none
      | none => none)
    match implied with
    | [] => b
    | c :: rest =>
      if rest.any (· != c) then b.event 0x2342 iMG (leBytes 4 m.place ++ leBytes 1 (((torusEnds m).head?.map (·.1)).getD 0))
      else
        let cs : Coords := (m.place, c) :: b.draftMap.map (fun e => (e.place, e.x, e.y, e.z))
        (b.uplinkEvents m).proposeMap (insertEntry b.draftMap (entryOfReport b.dims cs [] m))

/-- `REPORT` (R293 step 3, R295): gathered by the discovering candidate, forwarded up the parent link by any other module; once a
map is agreed it goes to the chief, which may admit the module. -/
def reportRow (link : Nat) (m : ReportMsg) (b : Body) : Body :=
  let d := b.disp.discovery
  if !b.mgReady then b
  else if b.mapAgreed then
    (if b.isChief then b.admitLate m else b.toChief 0x11 (reportBody m))
  else
    let kids := if d.children.contains link then d.children else d.children ++ [link]
    if d.candidate then
      b.setDiscovery { d with children := kids, reports := d.reports.filter (fun r => r.place != m.place) ++ [m],
                              lastReport := b.ns 2 }
    else
      match d.parent with
      | some p => (b.setDiscovery { d with children := kids }).sendHop p 0x11 (reportBody m)
      | none => b

/-- A roster change is proposed where the roster of a map differs from the one in force (R287). -/
def Body.proposeRoster (b : Body) (m : List MapEntry) : Body :=
  let next := b.electRoster m
  if next == b.roster then b
  else
    b.propose (draft 11 0 0 0
      ((List.range 7).flatMap (fun i => leBytes 4 ((next[i]?).getD 0)) ++ leBytes 1 (b.rd R.MG.DSP_STATUS.Q)))

/-- The teardown of a slice is complete when every module of it has reported or has been expelled (R304). -/
def Body.teardownDone (b : Body) (tag : Nat) : Body :=
  match b.disp.slices.find? (fun s => s.tag == tag) with
  | none => b
  | some s =>
    if s.state = 2 && (b.sliceModules tag).all (fun p => b.isExpelled p || s.acked.contains p)
        && !b.disp.proposals.any (fun r => r.type == 3 && r.tag == tag) then
      (b.report 2 tag s.epoch s.fenced).propose (draft 3 tag s.epoch 0 (leBytes 4 s.fenced ++ leBytes 4 s.timedOut))
    else b

/-- The epoch advance of a slice: at once, or when its job that runs here has ended (R305). -/
def Body.advanceEpoch (b : Body) (tag : Nat) : Body :=
  match b.disp.slices.find? (fun s => s.tag == tag && decide (s.state ≤ 1)) with
  | none => { b with disp := { b.disp with advances := b.disp.advances.filter (· != tag) } }
  | some s =>
    if b.jobRuns && b.jobTag == tag then
      { b with disp := { b.disp with advances := b.disp.advances.filter (· != tag) ++ [tag] } }
    else
      ({ b with disp := { b.disp with advances := b.disp.advances.filter (· != tag) } } : Body).propose
        (draft 4 tag ((s.epoch + 1) % 2 ^ 16) 0 (leBytes 2 s.epoch))

/-- The siding admissions of a slice, committed or waiting to be proposed: siding and replaced module (R357). -/
def Body.admissions (b : Body) (tag : Nat) : List (Nat × Nat) :=
  (b.allRecords.filter (fun r => r.type == 9 && r.tag == tag)).map (fun r => (le r.body 0 4, le r.body 4 4))

/-- The modules that carry the shards of a slice. -/
def Body.shardModules (b : Body) (tag : Nat) : List Nat :=
  let a := b.admissions tag
  (b.sliceShards tag ++ a.map (·.1)).filter (fun p => !a.any (fun x => x.2 == p))

/-- The siding modules of a slice that replace no module yet: they lie in its parts (R300) and are present and unfenced. -/
def Body.freeSidings (b : Body) (tag : Nat) : List Nat :=
  match b.createRecord tag with
  | none => []
  | some r =>
    (b.disp.map.filter (fun e => bit e.flags 3 && e.usable && !b.isExpelled e.place
      && (recordParts r.body).any (fun p => inPart b.dims p e) && !(b.admissions tag).any (fun x => x.1 == e.place))).map (·.place)

/-- A siding is admitted for each expelled module that carries a shard of the slice, as far as sidings are free, the lowest place first
(R357 step 2; which siding is taken is a DESIGN CHOICE, log 57). -/
def Body.admitSidings (b : Body) (tag epoch : Nat) : Body :=
  forEach ((b.shardModules tag).filter b.isExpelled) (fun p c =>
    match (c.freeSidings tag).head? with
    | some x => c.propose (draft 9 tag epoch 0 (leBytes 4 x ++ leBytes 4 p))
    | none => c) b

/-- The corridor grants of a passing tag that no release has ended, of whatever epoch (R306). -/
def Body.grantsHeld (b : Body) (tag : Nat) : List Bytes :=
  b.allRecords.foldl (fun l r =>
    if r.type = 5 && le r.body 0 2 = tag then l.filter (· != r.body) ++ [r.body]
    else if r.type = 6 then l.filter (· != r.body) else l) []

/-- What the chief does after a record of its own has committed (R287, R296, R302 to R306, R310, R311). -/
def Body.chiefAfter (b : Body) (r : Record) : Body :=
  let b := { b with disp := { b.disp with slices := sliceStep b.disp.slices r } }
  if r.type = 3 then
    forEach (b.grantsHeld r.tag) (fun g c => c.propose (draft 6 0 0 0 g)) b
  else if r.type = 4 then b.admitSidings r.tag r.epoch
  else if r.type = 7 ∨ r.type = 8 then
    let p := le r.body 0 4
    let m := flagFence b.draftMap p (decide (r.type = 7))
    let b1 := (b.proposeRoster m).proposeMap m
    if r.type = 7 then
      let b2 := forEach (b1.disp.slices.filter (fun s => (b1.shardModules s.tag).contains p)) (fun s c => c.advanceEpoch s.tag) b1
      forEach b2.disp.slices (fun s c => c.teardownDone s.tag) b2
    else b1
  else if r.type = 12 then
    match b.disp.nextMap with
    | none => b
    | some m =>
      if mapDigest m != slice r.body 0 32 then b
      else
        let cur := b.rd R.MG.DSP_EPOCHS.MAP_EPOCH
        let msgs := b.mapMessages (cur + 1) cur (changedEntries b.disp.map m) m
        let b1 := forEach msgs (fun x c => c.broadcast 7 (c.msgPayload x.1 x.2)) b
        let b2 := (({ b1 with disp := { b1.disp with nextMap := none, mapAcks := [] } } : Body).proposeRoster m).installMap m (cur + 1)
        forEach b2.disp.slices (fun s c => c.teardownDone s.tag) b2
  else b

/-- The record under way is committed (R301): COMMIT goes out, the record takes effect, and the next is proposed. -/
def Body.commitHead (b : Body) : Body :=
  match b.disp.proposals with
  | [] => b
  | r :: rest =>
    let b1 := ({ b with disp := { b.disp with proposals := rest, holders := [] } } : Body).wr R.MG.DSP_LEDGER_SEQ.SEQ r.seq
    let b2 := ((b1.broadcast 7 (b1.msgPayload 0x1A (recordBytes r))).applyRecord r)
    let waiting := !rest.isEmpty
    let b3 := b2.chiefAfter r
    if waiting then b3.startProposal else b3

/-- `RECORD` (R301): a roster member writes a proposed record and acknowledges it; one that does not follow what it holds
is refused with MG source 3, and a gap is pulled.  A new chief's record that the member has committed is taken under the new
term (R289). -/
def record (source : Nat) (bs : Bytes) (b : Body) : Body :=
  let r := parseRecord bs
  let b := b.servedMsg source 0x18 (slice bs 0 128)
  if !b.mgReady || !b.onRoster || r.term < b.rd R.MG.DSP_EPOCHS.TERM then b
  else if b.lastSeq + 1 < r.seq then b.pull (some (b.committed + 1))
  else if b.sameUnderNewTerm r then ((b.adoptTerm r.term).rehold r).sendMsg source 0x19 (leBytes 8 r.seq)
  else if r.seq ≤ b.committed || slice r.prev 0 32 != b.prevDigest r.seq then b.raiseN iMG 3
  else
    let b1 := (b.adoptTerm r.term).hold r
    b1.sendMsg source 0x19 (leBytes 8 r.seq)

/-- `RECORD_ACK` (R301): on M holders the record is committed. -/
def recordAck (source seq : Nat) (b : Body) : Body :=
  let b := b.servedMsg source 0x19 (leBytes 8 seq)
  match b.disp.proposals with
  | [] => b
  | r :: _ =>
    if !b.mgReady || !b.isChief || r.seq ≠ seq || !b.roster.contains source || b.disp.holders.contains source then b
    else
      let b1 : Body := { b with disp := { b.disp with holders := b.disp.holders ++ [source] } }
      if b1.majority ≤ b1.disp.holders.length then b1.commitHead else b1

/-- The ledger holds this very record. -/
def Body.holdsRecord (b : Body) (r : Record) : Bool := b.disp.ledger.any (fun x => x.seq == r.seq && recordBytes x == recordBytes r)

/-- `COMMIT` (R301, R302): relayed, held and applied in order; a gap is pulled.  A committed record stands whatever its term, so that
one of an older chief, which a PULL brings, is taken too; one that is held already leaves those after it. -/
def commit (source : Nat) (bs : Bytes) (b : Body) : Body :=
  let r := parseRecord bs
  if !b.mgReady then b
  else
    let b1 := (b.servedMsg source 0x1A (slice bs 0 128)).relay source 7 (b.arrivedPayload source 0x1A (slice bs 0 128))
    if r.seq ≤ b1.committed then (if b1.sameUnderNewTerm r then b1.rehold r else b1)
    else if b1.committed + 1 < r.seq then b1.pull (some (b1.committed + 1))
    else
      let b2 := b1.adoptTerm (max r.term (b1.rd R.MG.DSP_EPOCHS.TERM))
      let b3 := if b2.holdsRecord r then b2 else b2.hold r
      (b3.wr R.MG.DSP_LEDGER_SEQ.SEQ r.seq).applyRecord r

/-- A module that had installed its slice and asks for the whole ledger has lost it in a module full reset (log 107): the
tokens it held and had outstanding, the entry's GRANT, are reclaimed, and the slice's epoch advances (R279, R305, R312). -/
def Body.afterFullReset (b : Body) (place : Nat) : Body :=
  forEach (b.disp.slices.filter (fun s => decide (s.state ≤ 1) && s.acked.contains place)) (fun s c =>
    let n := ((c.createRecord s.tag).map (·.grant)).getD 0
    (c.propose (draft 10 s.tag s.epoch 0 (leBytes 4 place ++ leBytes 4 n))).advanceEpoch s.tag) b

/-- `PULL` (R292, R312): the chief sends the full map, or the committed records from a sequence. -/
def pullRow (source : Nat) (from_ : Option Nat) (b : Body) : Body :=
  if !b.mgReady || !b.isChief then b
  else
    match from_ with
    | none =>
      let b := b.servedMsg source 0x15 (leBytes 4 0 ++ leBytes 8 0)
      forEach (b.mapMessages (b.rd R.MG.DSP_EPOCHS.MAP_EPOCH) 0 b.disp.map b.disp.map) (fun x c => c.sendMsg source x.1 x.2) b
    | some s =>
      let b := b.servedMsg source 0x15 (leBytes 4 1 ++ leBytes 8 s)
      let b1 := forEach (b.disp.ledger.filter (fun r => decide (s ≤ r.seq) && decide (r.seq ≤ b.committed))) (fun r c =>
        c.sendMsg source 0x1A (recordBytes r)) b
      if s ≤ 1 then b1.afterFullReset source else b1

/-! ## Map epochs (R296) -/

/-- An entry takes new port-alive bits; the uplinks of a rail stay valid only while port 9 is alive there with a known far end
(R294; log 103). -/
def MapEntry.withAlive (e : MapEntry) (a : Nat) : MapEntry :=
  { e with alive := a, flags := setBits (setBits e.flags 4 1 (b2n (bit a 9 && e.upA != 0))) 5 1 (b2n (bit a 19 && e.upB != 0)) }

/-- The gathered port changes become the next map epoch. -/
def Body.batchMap (b : Body) : Body :=
  let m := b.draftMap.map (fun e =>
    match SMap.find b.disp.portChanges e.place with
    | some a => e.withAlive a
    | none => e)
  let b1 : Body := { b with disp := { b.disp with portChanges := [], portSince := none } }
  if m = b1.draftMap then b1 else b1.proposeMap m

/-- `PORT_STATE` (R296): the chief gathers a module's port-alive masks. -/
def portState (source railA railB : Nat) (b : Body) : Body :=
  let b := b.servedMsg source 0x16 (leBytes 2 railA ++ leBytes 2 railB)
  if !b.mgReady || !b.isChief then b
  else
    let b1 : Body := { b with disp := { b.disp with
      portChanges := SMap.insert b.disp.portChanges source (railA % 2 ^ 10 + railB % 2 ^ 10 * 2 ^ 10),
      portSince := some (b.disp.portSince.getD (b.ns 2)) } }
    if b1.rd R.MG.DSP_TIMING.MAP_BATCH = 0 then b1.batchMap else b1

/-- `MAP_BATCH_EXPIRY` (R296). -/
def mapBatchExpiry (b : Body) : Body :=
  match b.disp.portSince with
  | none => b
  | some t => if !b.mgReady || !b.isChief then b else (b.toLocal (t + b.rd R.MG.DSP_TIMING.MAP_BATCH * 10 ^ 6)).batchMap

/-! ## Votes (R307) -/

/-- A vote's fields (R307). -/
def parseVote (v : Bytes) : VoteMsg :=
  { kind := le v 1 1, voter := le v 4 4, subject := le v 8 4, term := le v 12 4, mapEpoch := le v 16 4, ledgerSeq := le v 20 8,
    reason := le v 28 1, keyDigest := leNat (slice v 32 32), stamp := le v 64 12 }

/-- A vote of this module, signed (R307). -/
def Body.makeVote (b : Body) (kind subject term reason : Nat) : Bytes :=
  let h := leBytes 1 1 ++ leBytes 1 kind ++ zeros 2 ++ leBytes 4 b.place ++ leBytes 4 subject ++ leBytes 4 term
    ++ leBytes 4 (b.rd R.MG.DSP_EPOCHS.MAP_EPOCH) ++ leBytes 8 b.lastSeq ++ leBytes 1 reason ++ zeros 3
    ++ keyDigest b.sec.flash.identity ++ leBytes 12 (b.stamp 0 iMG) ++ zeros 20
  h ++ (Config.identitySign h).toList

/-- SC can sign. -/
def Body.canSign (b : Body) : Bool := b.inService iSC && b.sec.flash.unwrapOk

/-- A vote is valid (R309): its voter on the roster, its key the one received, its signature right, its stamp recent. -/
def Body.voteValid (b : Body) (v : Bytes) : Bool :=
  let p := parseVote v
  let age := (b.stampInstant p.stamp - (b.ns 0 : Int) * 256).natAbs
  le v 0 1 = 1 && b.roster.contains p.voter && decide (age ≤ b.voteWindow * 256)
    && (match b.keyOf p.voter with
        | some k => keyDigest k == slice v 32 32 && keyVerifies k (slice v 0 96) (slice v 96 384)
        | none => false)

/-- An invalid vote is discarded and counted, with CT's source 7 (R309, R314). -/
def Body.voteInvalid (b : Body) : Body := (b.sat R.MG.DSP_COUNTS.VOTES_INVALID 1).raiseN iCT 7

/-- The record that a majority asks of the chief (R310). -/
def majorityRecord (kind subject votes reason : Nat) : Record :=
  draft (if kind = 1 then 7 else 8) 0 0 0 (leBytes 4 subject ++ leBytes 1 votes ++ leBytes 1 reason)

/-- The M-th distinct valid vote of a kind for a subject has effect and the count restarts (R309, R310).  The majority is kept until
its record commits, for a chief elected meanwhile. -/
def Body.countVote (b : Body) (kind subject voter reason : Nat) : Body :=
  let old := (b.disp.counted.find? (fun c => c.1 == kind && c.2.1 == subject)).map (·.2.2)
  let voters := if (old.getD []).contains voter then old.getD [] else old.getD [] ++ [voter]
  let rest := b.disp.counted.filter (fun c => !(c.1 == kind && c.2.1 == subject))
  if voters.length < b.majority then { b with disp := { b.disp with counted := rest ++ [(kind, subject, voters)] } }
  else
    let b1 : Body := { b with disp := { b.disp with
      counted := rest,
      majorities := b.disp.majorities.filter (fun x => x.2.1 != subject) ++ [(kind, subject, voters.length, reason)] } }
    let b2 := if kind = 1 then b1.fencePlace subject else b1.unfencePlace subject
    if b2.isChief then b2.propose (majorityRecord kind subject voters.length reason) else b2

/-- A roster member casts an expel or readmit vote, at most one of a kind for a subject within one window (R308). -/
def Body.castVote (b : Body) (kind subject reason : Nat) : Body :=
  let recent := b.disp.cast.filter (fun c => decide (b.ns 2 < c.2.2 + b.voteWindow))
  if !b.onRoster || !b.canSign || recent.any (fun c => c.1 == kind && c.2.1 == subject) then b
  else
    let b1 : Body := { b with disp := { b.disp with cast := recent ++ [(kind, subject, b.ns 2)] } }
    ((b1.sampled iMG).broadcast 5 (b1.makeVote kind subject (b1.rd R.MG.DSP_EPOCHS.TERM) reason)).countVote kind subject b1.place reason

/-- AUTO_VOTE. -/
def Body.autoVote (b : Body) : Bool := b.on R.MG.DSP_VOTE_CTRL.AUTO_VOTE

/-- A self-fence request is the subject's own (R307, R308): its key digest is the map's, and where the subject's key is known from
KEY the signature verifies.  It is no vote, so R309 does not test it, and only roster members send KEY (log 102). -/
def Body.selfFenceOk (b : Body) (v : Bytes) : Bool :=
  let p := parseVote v
  match b.keyOf p.voter with
  | some k => keyDigest k == slice v 32 32 && keyVerifies k (slice v 0 96) (slice v 96 384)
  | none =>
    match findPlace b.disp.map p.voter with
    | some e => e.digest == le v 32 4
    | none => false

/-- `VOTE` (R309): relayed; a self-fence request makes a roster member vote, an expel or readmit vote is counted by CT. -/
def vote (source : Nat) (v : Bytes) (b : Body) : Body :=
  let v := slice v 0 480
  let p := parseVote v
  if !b.mgReady then b
  else
    let b1 := b.served source 5 v
    let b2 := if p.kind = 1 ∨ p.kind = 2 then b1.relay source 5 v else b1
    if !b2.inService iSC then b2
    else if p.kind = 5 then
      if p.voter = p.subject && source = p.subject && b2.selfFenceOk v then b2.castVote 1 p.subject 0 else b2
    else if p.kind ≠ 1 ∧ p.kind ≠ 2 then b2
    else if !b2.inService iCT then b2
    else if !b2.voteValid v then b2.voteInvalid
    else b2.countVote p.kind p.subject p.voter p.reason

/-- `SUSPECT` (R308, R312): the conditions of an expel vote within the window. -/
def suspect (source subject reason periods : Nat) (b : Body) : Body :=
  let b := b.servedMsg source 0x1C (leBytes 4 subject ++ leBytes 1 reason ++ zeros 3 ++ leBytes 4 periods)
  if !b.mgReady || !b.onRoster then b
  else
    let live := b.disp.suspicions.filter (fun s => decide (b.ns 2 < s.at_ + b.voteWindow)
      && !(s.subject == subject && s.reporter == source && s.reason == reason))
    let all := live ++ [{ subject := subject, reporter := source, reason := reason, first := 0, count := periods, at_ := b.ns 2 }]
    let b1 : Body := { b with disp := { b.disp with suspicions := all } }
    let mine := all.filter (fun s => s.subject == subject && s.reason == reason)
    if !b1.autoVote then b1
    else if reason = 1 then
      (if b1.rd R.MG.DSP_VOTE_CTRL.SUSPECT_MIN ≤ (distinct (mine.map (·.reporter))).length then b1.castVote 1 subject 1 else b1)
    else if reason = 2 then
      (if mine.any (fun s => decide (b1.rd R.MG.DSP_VOTE_CTRL.SEAL_REPORTS ≤ s.count)) then b1.castVote 1 subject 2 else b1)
    else if reason = 3 then b1.castVote 1 subject 3
    else b1

/-- `OPERATOR_VOTE_ORDER` (R308, R442): kind in byte 64, subject in bytes 65 to 68. -/
def operatorVoteOrder : ScSource → Body → Body :=
  signedCommand 4 (fun c b => (le c 64 1 = 1 || le c 64 1 = 2) && b.onRoster && b.canSign)
    (fun c b => b.castVote (le c 64 1) (le c 65 4) 4) (fun _ b => b)

/-! ## The chief (R288 to R290) -/

/-- HEARTBEAT to every other roster member. -/
def Body.beatNow (b : Body) : Body :=
  let body := leBytes 4 (b.rd R.MG.DSP_EPOCHS.TERM) ++ leBytes 8 b.committed
  let b1 := forEach (b.roster.filter (· != b.place)) (fun p c => c.sendMsg p 0x17 body) b
  { b1 with disp := { b1.disp with beat := b1.ns 2, heard := b1.ns 2 } }

/-- `HEARTBEAT_SEND` (R288): by the chief of a term; a provisional chief, of term 0, sends none, so that the timeouts of the first
election run from the end of discovery (R290). -/
def heartbeatSend (b : Body) : Body :=
  if !b.mgReady || !b.isChief || b.rd R.MG.DSP_EPOCHS.TERM = 0 then b
  else (b.toLocal (b.disp.beat + b.rd R.MG.DSP_TIMING.HEARTBEAT * 10 ^ 5)).beatNow

/-- `HEARTBEAT` (R288, R289): a roster member hears the chief; under a new term it drops what lies beyond the new chief's last
record, and a gap in what is committed is pulled. -/
def heartbeat (source term seq : Nat) (b : Body) : Body :=
  let b := b.servedMsg source 0x17 (leBytes 4 term ++ leBytes 8 seq)
  if !b.mgReady || !b.onRoster || term = 0 || term < b.rd R.MG.DSP_EPOCHS.TERM then b
  else
    let fresh := b.rd R.MG.DSP_EPOCHS.TERM < term
    let cut := if fresh then (b.disp.requests.find? (fun q => q.1 == term && q.2.1 == source)).map (·.2.2) else none
    let led := match cut with
      | some s => b.disp.ledger.filter (fun r => decide (r.seq ≤ max s b.committed))
      | none => b.disp.ledger
    let role := if b.isChief && (fresh || source ≠ b.place) then b.wr R.MG.DSP_STATUS.ROLE 1 else b
    let b1 : Body := { role with disp := { role.disp with
      heard := role.ns 2, chief := source, ledger := led, election := none,
      proposals := if source = role.place then role.disp.proposals else [] } }
    let b2 := (b1.adoptTerm term).refreshRole
    if b2.committed < seq then b2.pull (some (b2.committed + 1)) else b2

/-- The instant at which this member gives the chief up (R288). -/
def Body.chiefDue (b : Body) : Nat :=
  b.disp.heard + b.rd R.MG.DSP_TIMING.CHIEF_TIMEOUT * 10 ^ 6
    + (b.rd R.MG.DSP_STATUS.RANK - 1) * b.rd R.MG.DSP_TIMING.RANK_DELAY * 10 ^ 6

/-- A chief vote goes to the roster. -/
def Body.chiefVote (b : Body) (kind subject term : Nat) : Body :=
  (b.sampled iMG).toPlaces (b.roster.filter (· != b.place)) 5 (b.makeVote kind subject term 0)

/-- What the chief before it left undone (R287, R310): the records of the majorities that CT has counted, the fenced flags that the
committed records ask of the map, and the roster that follows. -/
def Body.takeUp (b : Body) : Body :=
  let open_ := b.disp.majorities.filter (fun x => !b.disp.proposals.any (fun r =>
    r.type == (if x.1 = 1 then 7 else 8) && le r.body 0 4 == x.2.1))
  let b1 := forEach open_ (fun x c => c.propose (majorityRecord x.1 x.2.1 x.2.2.1 x.2.2.2)) b
  let ledger := b1.disp.ledger.filter (fun r => decide (r.seq ≤ b1.committed))
  let m := b1.disp.map.map (fun e =>
    match verdictOf ledger e.place with
    | some out => { e with flags := setBits e.flags 1 1 (b2n out) }
    | none => e)
  if !b1.mapAgreed || b1.disp.charter.isEmpty then b1
  else
    let b2 := b1.proposeRoster m
    if m = b2.disp.map then b2 else b2.proposeMap m

/-- The candidate has become chief (R288, R289): it commits every record held beyond the committed sequence, and knows the slices
from the ledger, but not which modules had reported to the chief before it (log 105). -/
def Body.becomeChief (b : Body) (term : Nat) : Body :=
  let b1 := (({ b with disp := { b.disp with
    election := none, chief := b.place, holders := [], proposals := [],
    slices := ({ b with disp := { b.disp with proposals := [] } } : Body).ledgerSlices } } : Body).adoptTerm term).wr
    R.MG.DSP_STATUS.ROLE 2
  let b2 := b1.beatNow
  let held := b2.disp.ledger.filter (fun r => decide (b2.committed < r.seq))
  ({ b2 with disp := { b2.disp with proposals := held, nextMap := none } } : Body).startProposal.takeUp

/-- The newest term that this member knows: in force, granted, or sought by a candidate that it has heard (R288). -/
def Body.lastTerm (b : Body) : Nat :=
  (b.disp.requests.map (·.1)).foldl max
    (max (b.rd R.MG.DSP_EPOCHS.TERM) (match b.disp.granted with | some g => g.1 | none => 0))

/-- `CHIEF_TIMEOUT` (R288): a silent chief makes a roster member a candidate for the term after the newest it knows, so that where a
candidate has failed the next tries the term after that one's. -/
def chiefTimeout (b : Body) : Body :=
  if !b.mgReady || !b.onRoster || !b.canSign || b.disp.election.isSome || (b.isChief && b.rd R.MG.DSP_EPOCHS.TERM ≠ 0) then b
  else
    let b := b.toLocal b.chiefDue
    let term := b.lastTerm + 1
    let b1 := ({ b with disp := { b.disp with
      election := some (term, [b.place], b.ns 2), granted := some (term, b.place, b.lastSeq) } } : Body).wr R.MG.DSP_STATUS.ROLE 3
    let b2 := b1.chiefVote 3 b1.place term
    if b2.majority ≤ 1 then b2.becomeChief term else b2

/-- `CHIEF_REQUEST` (R288): granted at most once per term, in silence, to a candidate whose ledger is not behind. -/
def chiefRequest (v : Bytes) (b : Body) : Body :=
  let v := slice v 0 480
  let p := parseVote v
  let b := b.served p.voter 5 v
  if !b.mgReady || !b.onRoster || p.kind ≠ 3 then b
  else if !b.inService iSC || !b.voteValid v then b.voteInvalid
  else
    let b : Body := { b with disp := { b.disp with
      requests := b.disp.requests.filter (fun q => decide (b.rd R.MG.DSP_EPOCHS.TERM < q.1) && !(q.1 == p.term && q.2.1 == p.voter))
        ++ [(p.term, p.voter, p.ledgerSeq)] } }
    let free := match b.disp.granted with | some g => decide (g.1 < p.term) | none => true
    let silent := decide (b.disp.heard + b.rd R.MG.DSP_TIMING.CHIEF_TIMEOUT * 10 ^ 6 < b.ns 2)
    if free && silent && decide (b.rd R.MG.DSP_EPOCHS.TERM < p.term) && decide (b.lastSeq ≤ p.ledgerSeq) && b.canSign then
      ({ b with disp := { b.disp with granted := some (p.term, p.voter, p.ledgerSeq) } } : Body).chiefVote 4 p.voter p.term
    else b

/-- `CHIEF_GRANT` (R288): with M grants the candidate is chief. -/
def chiefGrant (v : Bytes) (b : Body) : Body :=
  let v := slice v 0 480
  let p := parseVote v
  let b := b.served p.voter 5 v
  match b.disp.election with
  | none => b
  | some (term, got, since) =>
    if !b.mgReady || p.kind ≠ 4 || p.subject ≠ b.place || p.term ≠ term || got.contains p.voter then b
    else if !b.inService iSC || !b.voteValid v then b.voteInvalid
    else
      let b1 : Body := { b with disp := { b.disp with election := some (term, got ++ [p.voter], since) } }
      if b1.majority ≤ got.length + 1 then b1.becomeChief term else b1

/-- `ELECTION_TIMEOUT` (R288): short of M grants after CHIEF_TIMEOUT the candidate gives up the term. -/
def electionTimeout (b : Body) : Body :=
  match b.disp.election with
  | none => b
  | some (_, _, since) =>
    if !b.mgReady then b
    else
      let b1 := b.toLocal (since + b.rd R.MG.DSP_TIMING.CHIEF_TIMEOUT * 10 ^ 6)
      ({ b1 with disp := { b1.disp with election := none } } : Body).refreshRole

/-! ## Slices at the chief (R300, R303, R304) -/

/-- `SLICE_ACK` (R303, R304): readiness is reported, and teardown is complete when every module has reported. -/
def sliceAckRow (source tag epoch event fenced : Nat) (b : Body) : Body :=
  let b := b.servedMsg source 0x1B (leBytes 2 tag ++ leBytes 2 epoch ++ leBytes 4 event ++ leBytes 4 fenced)
  match b.disp.slices.find? (fun s => s.tag == tag) with
  | none => b
  | some s =>
    if !b.mgReady || !b.isChief || s.epoch ≠ epoch && event = 0 then b
    else
      let acked := if s.acked.contains source then s.acked else s.acked ++ [source]
      let all := (b.sliceModules tag).all (fun p => acked.contains p)
      if event = 0 then
        if s.state ≠ 0 then b
        else
          let b1 := b.onSlice tag (fun s => { s with acked := acked, state := if all then 1 else 0 })
          if all then b1.report 0 tag epoch 0 else b1
      else
        let b0 := if event = 2 && fenced ≠ 0 && s.state ≠ 2 then
            b.propose (draft 10 tag epoch 0 (leBytes 4 source ++ leBytes 4 fenced)) else b
        if s.state ≠ 2 then b0
        else
          let n := s.fenced + fenced
          let out := s.timedOut + b2n (event == 2)
          (b0.onSlice tag (fun s => { s with acked := acked, fenced := n, timedOut := out })).teardownDone tag

/-- The parts of a request, and its flags, module count and GRANT: the create record's body at byte 64, GRANT at byte 96. -/
def requestParts (c : Bytes) : List (Nat × Nat × Nat × Nat × Nat × Nat) := recordParts (slice c 64 60)

/-- The usable modules of a part. -/
def Body.partModules (b : Body) (p : Nat × Nat × Nat × Nat × Nat × Nat) : List MapEntry :=
  b.disp.map.filter (fun e => inPart b.dims p e)

/-- A part keeps the rules of R300 on its own, and touches no module that is fenced, by the map, a fence entry or an expulsion that has
committed or is to be proposed. -/
def Body.partOk (b : Body) (p : Nat × Nat × Nat × Nat × Nat × Nat) : Bool :=
  [0, 1, 2].all (fun a =>
    let x := partAxis p a
    decide (x.1 < b.dims a) && (x.2 == b.dims a || decide (x.2 ≤ b.dims a / 2)))
    && (b.partModules p).length == p.2.2.2.1 * p.2.2.2.2.1 * p.2.2.2.2.2
    && (b.partModules p).all (fun e => e.usable && !b.isExpelled e.place && verdictOf b.disp.proposals e.place != some true)

/-- The slices that are not free, by their create records, committed or waiting to be proposed. -/
def Body.heldSlices (b : Body) : List Record :=
  (b.ledgerSlices.filter (fun s => s.state != 3)).filterMap (fun s => b.createOf s.tag)

/-- Two parts touch: a module of one is a torus neighbour of a module of the other. -/
def Body.adjacent (b : Body) (p q : Nat × Nat × Nat × Nat × Nat × Nat) : Bool :=
  (b.partModules p).any (fun e => (List.range 6).any (fun port =>
    match neighbourOf b.disp.map b.dims e port with
    | some n => inPart b.dims q n
    | none => false))

/-- The corridors a request needs: passing parts i and j along an axis. -/
def Body.neededCorridors (b : Body) (ps : List (Nat × Nat × Nat × Nat × Nat × Nat)) : List (Nat × Nat × Nat) :=
  (List.range ps.length).flatMap (fun i => ((List.range ps.length).filter (fun j => decide (i < j))).filterMap (fun j =>
    match ps[i]?, ps[j]? with
    | some p, some q =>
      if b.adjacent p q then none else ([0, 1, 2].find? (fun a => corridorJoins b.dims a p q)).map (fun a => (i, j, a))
    | _, _ => none))

/-- Parts reached from part 0 over adjacency and corridors. -/
def Body.joined (b : Body) (ps : List (Nat × Nat × Nat × Nat × Nat × Nat)) : Nat → List Nat → List Nat
  | 0, got => got
  | n + 1, got =>
    let more := (List.range ps.length).filter (fun j => !got.contains j && got.any (fun i =>
      match ps[i]?, ps[j]? with
      | some p, some q => b.adjacent p q || [0, 1, 2].any (fun a => corridorJoins b.dims a p q)
      | _, _ => false))
    Body.joined b ps n (got ++ more)

/-- A slice request is one the chief may grant (R300, R306). -/
def Body.requestOk (b : Body) (c : Bytes) : Bool :=
  let ps := requestParts c
  let held := b.heldSlices
  b.isChief && b.mgReady && !ps.isEmpty && ps.all b.partOk
    && (List.range ps.length).all (fun i => (List.range ps.length).all (fun j =>
        decide (j ≤ i) || (match ps[i]?, ps[j]? with
          | some p, some q => (b.partModules p).all (fun e => !inPart b.dims q e)
          | _, _ => true)))
    && ps.all (fun p => (b.partModules p).all (fun e => held.all (fun r => (recordParts r.body).all (fun q => !inPart b.dims q e))))
    && (b.joined ps 4 [0]).length == ps.length && le c 96 2 ≤ 4095 && le c 88 1 < 4

/-- The lowest tag that no slice holds, and its next epoch (R302). -/
def Body.newTag (b : Body) : Nat × Nat :=
  let all := b.ledgerSlices
  let tag := (((List.range 0xFFFE).map (· + 1)).find? (fun t => !all.any (fun s => s.tag == t && s.state != 3))).getD 0
  let old := match all.find? (fun s => s.tag == tag) with | some s => s.epoch | none => 0
  (tag, (old + 1) % 2 ^ 16)

/-- The corridor grants of a slice over modules for which `ok` holds: one for each host among them. -/
def Body.grantsFor (b : Body) (tag epoch : Nat) (ps : List (Nat × Nat × Nat × Nat × Nat × Nat)) (ok : MapEntry → Bool) : Body :=
  let held := b.heldSlices
  forEach (b.neededCorridors ps) (fun x t =>
    match ps[x.1]?, ps[x.2.1]? with
    | some p, some q =>
      let gap := b.disp.map.filter (fun e => inGap b.dims x.2.2 p q e && ok e)
      let hosts := distinct (gap.map (fun e =>
        match held.find? (fun r => (recordParts r.body).any (fun y => inPart b.dims y e)) with
        | some r => r.tag
        | none => 0))
      forEach hosts (fun h c => c.propose (draft 5 0 0 0
        (leBytes 2 tag ++ leBytes 2 epoch ++ leBytes 2 h ++ leBytes 1 x.2.2 ++ leBytes 1 x.1 ++ leBytes 1 x.2.1))) t
    | _, _ => t) b

/-- `SLICE_REQUEST` (R300, R306, R442): the create record, and with it the corridor grants that its parts need, and those by which
its modules become hosts of the corridors that already pass them. -/
def sliceRequest : ScSource → Body → Body :=
  signedCommand 5 (fun c b => b.requestOk c)
    (fun c b =>
      let te := b.newTag
      let ps := requestParts c
      let n := (ps.map (fun p => (b.partModules p).length)).foldl (· + ·) 0
      let body := slice c 64 24 ++ leBytes 1 (le c 88 1) ++ zeros 3 ++ leBytes 4 n
      let old := b.ledgerSlices.filter (fun s => s.state != 3)
      let b1 := (b.propose (draft 1 te.1 te.2 (le c 96 2) body)).grantsFor te.1 te.2 ps (fun _ => true)
      forEach old (fun s t =>
        match t.createOf s.tag with
        | some r => t.grantsFor s.tag s.epoch (recordParts r.body) (fun e => ps.any (fun p => inPart t.dims p e))
        | none => t) b1)
    (fun _ b => b)

/-! ## Conservation sums (R291, R312) -/

/-- A J.CONS count over all four junctions, up to the last departure while a job runs: over the closed periods (R312). -/
def Body.consTotal (b : Body) (n : Nat) : Nat :=
  [0, 1, 2, 3].foldl (fun t k => t + (b.rd (R.J.CONS.COUNT k n) - (if b.jobRuns then SMap.getD (b.jn k).periodCounts n 0 else 0))) 0

/-- The body of CONS: for each slice of this module the six sums. -/
def consBody (l : List ConsSum) : Bytes :=
  l.flatMap (fun c => leBytes 2 c.tag ++ leBytes 2 c.epoch ++ zeros 4 ++ leBytes 8 c.sent ++ leBytes 8 c.accepted
    ++ leBytes 8 c.duplicates ++ leBytes 8 c.fenced ++ leBytes 8 c.voided ++ leBytes 8 c.inDoubt)

/-- The sums of the module's slices: the junctions count for the one job slice it lies in. -/
def Body.ownSums (b : Body) : List ConsSum :=
  ((List.range 64).filter (fun e => e ≠ 0 && (b.rd (R.J.SLICE.STATE b.jRep e) = 1 || b.rd (R.J.SLICE.STATE b.jRep e) = 2))).map (fun e =>
    { tag := b.rd (R.J.SLICE.TAG b.jRep e), epoch := b.rd (R.J.SLICE.EPOCH b.jRep e), sent := b.consTotal 9, accepted := b.consTotal 0,
      duplicates := b.consTotal 1, fenced := b.consTotal 2, voided := b.consTotal 3, inDoubt := b.consTotal 10 })

/-- `CONS_SEND` (R291): once per second. -/
def consSend (b : Body) : Body :=
  if !b.mgReady then b
  else
    let b1 := b.toLocal (b.disp.consAt + 10 ^ 9)
    ({ b1 with disp := { b1.disp with consAt := b1.ns 2 } } : Body).toChief 0x1D (consBody b1.ownSums)

/-- The surplus of counted over sent copies of a slice lies outside the in-doubt allowance (R279). -/
def unbalanced (l : List ConsSum) : Bool :=
  let t (f : ConsSum → Nat) : Nat := l.foldl (fun n c => n + f c) 0
  let counted := t (·.accepted) + t (·.duplicates) + t (·.fenced) + t (·.voided)
  decide (counted < t (·.sent)) || decide (t (·.sent) + t (·.inDoubt) < counted)

/-- Copies counted beyond those sent. -/
def surplusOf (l : List ConsSum) : Nat :=
  let t (f : ConsSum → Nat) : Nat := l.foldl (fun n c => n + f c) 0
  t (·.accepted) + t (·.duplicates) + t (·.fenced) + t (·.voided) - t (·.sent)

/-- `CONS` (R279, R312): once every module of a slice has sent its sums over the closed periods, they are balanced; a
surplus within the in-doubt allowance is recorded. -/
def cons (source : Nat) (l : List ConsSum) (b : Body) : Body :=
  let b := b.servedMsg source 0x1D (consBody l)
  if !b.mgReady || !b.isChief then b
  else
    let b1 : Body := { b with disp := { b.disp with
      sums := b.disp.sums.filter (fun s => s.1 != source) ++ l.map (fun c => (source, c)) } }
    forEach l (fun c t =>
      let mine := t.disp.sums.filter (fun s => s.2.tag == c.tag && s.2.epoch == c.epoch)
      let all := (t.sliceModules c.tag).all (fun p => mine.any (fun s => s.1 == p))
      let n := surplusOf (mine.map (·.2))
      if !all then t
      else if unbalanced (mine.map (·.2)) then
        (t.event 0x3345 iMG (leBytes 2 c.tag ++ leBytes 2 c.epoch)).report 1 c.tag c.epoch 0
      else if n = 0 then t
      else
        { t with disp := { t.disp with
          surplus := t.disp.surplus.filter (fun x => !(x.1 == c.tag && x.2.1 == c.epoch)) ++ [(c.tag, c.epoch, n)] } }) b1

/-! ## The meanings -/

def execDrainComplete (e : Fin 64) (s : State) := run (drainComplete e.val) s
def execDrainTimeout (e : Fin 64) (s : State) := run (drainTimeout e.val) s
def execPodCharter (bytes : Bytes) (s : State) := run (podCharter bytes) s
def execDiscover (link : Fin 64) (rank serial hops : BitVec 32) (s : State) :=
  run (discover link.val rank.toNat serial.toNat hops.toNat) s
def execReport (link : Fin 64) (msg : ReportMsg) (s : State) := run (reportRow link.val msg) s
def execDiscoveryEnd (s : State) := run discoveryEnd s
def execMapHead (source : BitVec 32) (header : Bytes) (s : State) := run (mapHead source.toNat header) s
def execMapChunk (source index : BitVec 32) (entries : Bytes) (s : State) := run (mapChunk source.toNat index.toNat entries) s
def execMapAck (source epoch routes : BitVec 32) (s : State) := run (mapAck source.toNat epoch.toNat routes.toNat) s
def execPull (source : BitVec 32) (records : Option (BitVec 64)) (s : State) :=
  run (pullRow source.toNat (records.map (·.toNat))) s
def execPortState (source : BitVec 32) (railA railB : BitVec 10) (s : State) :=
  run (portState source.toNat railA.toNat railB.toNat) s
def execMapBatchExpiry (s : State) := run mapBatchExpiry s
def execHeartbeatSend (s : State) := run heartbeatSend s
def execHeartbeat (source term : BitVec 32) (seq : BitVec 64) (s : State) :=
  run (heartbeat source.toNat term.toNat seq.toNat) s
def execChiefTimeout (s : State) := run chiefTimeout s
def execChiefRequest (v : Bytes) (s : State) := run (chiefRequest v) s
def execChiefGrant (v : Bytes) (s : State) := run (chiefGrant v) s
def execElectionTimeout (s : State) := run electionTimeout s
def execRecord (source : BitVec 32) (bytes : Bytes) (s : State) := run (record source.toNat bytes) s
def execRecordAck (source : BitVec 32) (seq : BitVec 64) (s : State) := run (recordAck source.toNat seq.toNat) s
def execCommit (source : BitVec 32) (bytes : Bytes) (s : State) := run (commit source.toNat bytes) s
def execSliceAck (source : BitVec 32) (tag epoch : BitVec 16) (event fenced : BitVec 32) (s : State) :=
  run (sliceAckRow source.toNat tag.toNat epoch.toNat event.toNat fenced.toNat) s
def execSuspect (source subject : BitVec 32) (reason : BitVec 8) (periods : BitVec 32) (s : State) :=
  run (suspect source.toNat subject.toNat reason.toNat periods.toNat) s
def execCons (source : BitVec 32) (sums : List ConsSum) (s : State) := run (cons source.toNat sums) s
def execConsSend (s : State) := run consSend s
def execKey (place : BitVec 32) (off : Nat) (data : Bytes) (s : State) := run (key place.toNat off data) s
def execVote (source : BitVec 32) (v : Bytes) (s : State) := run (vote source.toNat v) s
def execSliceRequest (src : ScSource) (s : State) := run (sliceRequest src) s
def execOperatorVoteOrder (src : ScSource) (s : State) := run (operatorVoteOrder src) s

end Sys2Proof.Machine
end

