-- ==== Sys2Proof/Machine/Closing.lean ====
section
/-! DEFINITION. What an island, or the module, loses when its straits close or its supply goes, and what comes back
(spec/01_architecture.md R24, R30; spec/05_spaovoto_model.md R467; spec/09_memory.md R232; spec/13_continuity.md R317, R324,
R466; spec/17_power_reset.md R415 to R423).  The reset ladder of Power.lean calls these. -/

namespace Sys2Proof.Machine

/-! ## What follows the tile map (R23, `T.TILE_STATUS.MAPPED`) -/

/-- A tile's status shows its binding: MAPPED and LOGICAL; a retired tile reads 7, a free siding tile 6. -/
def Body.mirrorTile (b : Body) (nn : Nat) : Body :=
  let b1 := match b.logicalOf nn with
    | some t => (b.wr (R.T.TILE_STATUS.MAPPED nn) 1).wr (R.T.TILE_STATUS.LOGICAL nn) t
    | none => b.wr (R.T.TILE_STATUS.MAPPED nn) 0
  if b.retired nn then b1.setTileState nn 7
  else if isSiding nn && (b.logicalOf nn).isNone then b1.setTileState nn 6
  else b1

/-- Code bank and width of a tile as every other tile shows them: they follow the loaded timetable, not the tile. -/
def Body.mirrorBank (b : Body) (nn : Nat) : Body :=
  let o := (nn + 1) % 68
  (b.wr (R.T.TILE_STATUS.BANK nn) (b.rd (R.T.TILE_STATUS.BANK o))).wr (R.T.TILE_STATUS.WIDE nn) (b.rd (R.T.TILE_STATUS.WIDE o))

/-! ## Substitution (R132, R324) -/

/-- A siding tile that may be bound: free, its straits open, running no diagnosis. -/
def Body.sidingReady (b : Body) (k : Nat) : Bool :=
  bit (b.rd R.CT.SIDINGS.FREE) k && !bit (b.rd R.CT.SIDINGS.DIAG) k && b.inService (iT (sidingTile k))

/-- The siding that serves physical tile nn, those of `tried` left out: the one of its junction, else the lowest (R323). -/
def Body.pickSiding (b : Body) (nn : Nat) (tried : List Nat) : Option Nat :=
  let ok (k : Nat) : Bool := b.sidingReady k && !tried.contains (sidingTile k)
  let k := junctionOfTile nn
  if ok k then some (sidingTile k) else (lowest 4 ok).map sidingTile

/-- The lowest free siding tile. -/
def Body.freeSiding (b : Body) : Option Nat := (lowest 4 b.sidingReady).map sidingTile

/-- Logical tile `t` moves from tile `old` to siding `new`: the map changes at the start, the counters go with the logical
tile, and the copy begins (R132, R324).  The image from which it re-enters is that of the last period that `old` entered: at a
departure, of the period that ends there (log 113). `began` is the departure from which the bound of R417 runs. -/
def Body.moveLogical (b : Body) (t old new began : Nat) : Body :=
  let b1 := ((b.wr (R.CT.TILE_MAP.PHYS t) new).wr (R.CT.TILE_MAP.SUBSTITUTING t) 1).refreshMap
  let o := b1.tile old
  let now := if b1.jobRuns then some b1.period else none
  let b2 := ((b1.cutWork old (max o.cycle b1.cycleNow)).discardFlight old).setTile new { Tile.init with cc := o.cc, lastEntry := if b1.jobRuns then o.lastEntry else none, began := now }
  let b2 := if bit (b.rd R.CT.SIDINGS.DIAG) (junctionOfTile new) then b2 else b2.clockStarts (iT new)
  let b3 := (((b2.setTileState new 2).mirrorBank new).mirrorTile new).mirrorTile old
  let b3 : Body := if b3.jobRuns then { b3 with job := { b3.job with lateMask := b3.job.lateMask ||| 2 ^ t } } else b3
  { b3 with cont := { b3.cont with substs := b3.cont.substs ++ [⟨t, old, new, began, []⟩] } }

/-- Tile `old` is retired, recorded, and siding `new` takes its logical tile (R324, R325). -/
def Body.startSubstitution (b : Body) (old new began : Nat) : Body :=
  match b.logicalOf old with
  | none => b
  | some t =>
    ((b.wr R.CT.TILE_RETIRED.RETIRED (b.rd R.CT.TILE_RETIRED.RETIRED ||| 2 ^ old)).event 0xA442 iCT
      (leBytes 1 old ++ leBytes 1 t ++ leBytes 1 new)).moveLogical t old new began

/-- The reset of a bound tile hangs: CT substitutes a free siding for it (R420). -/
def Body.substituteHung (b : Body) (nn : Nat) : Body :=
  match b.pickSiding nn [] with
  | none => b
  | some s => b.startSubstitution nn s (if b.jobRuns then b.job.departAt else b.ns 0)

/-- `CT.SIDINGS.DIAG` of a siding tile: set, its clock starts (R30, R323). -/
def Body.setDiag (b : Body) (siding v : Nat) : Body :=
  let b1 := b.wr R.CT.SIDINGS.DIAG (setBits (b.rd R.CT.SIDINGS.DIAG) (junctionOfTile siding) 1 v)
  if v = 1 then b1.clockStarts (iT siding) else b1

/-- The open captures of tile nn. -/
def Body.onCapture (b : Body) (nn : Nat) (f : Capture → Capture) : Body := b.onPart 1 nn f

/-! ## Repairs abandoned (R317, R466) -/

/-- A diagnosis of tile nn, if one runs, ends without an outcome. -/
def Body.abandonDiag (b : Body) (nn : Nat) : Body :=
  match b.cont.diags.find? (fun d => d.tile == nn) with
  | none => b
  | some d =>
    let b1 := match d.sidings.head? with
      | some s => b.setDiag s 0
      | none => b
    ({ b1 with cont := { b1.cont with diags := b1.cont.diags.filter (fun d => d.tile != nn) } } : Body).onCapture nn
      (fun x => { x with diagnosis := 3 }.settled)

/-- Diagnoses and repeats end without an outcome; the captures stay, and CT releases those no record carries. -/
def Body.abandonDiagnoses (b : Body) : Body :=
  let b1 := forEach b.cont.diags (fun d c => c.onCapture d.tile (fun x => { x with diagnosis := 3 }.settled)) b
  let mine := (b1.cont.diags.map (·.tile)).filter (fun nn => !(b1.tile nn).captureOwned)
  let b2 := ({ b1 with cont := { b1.cont with diags := [], releaseNext := distinct (b1.cont.releaseNext ++ mine) } } : Body).onOpen
    (fun c => c.kind == 1) Capture.settled
  b2.wr R.CT.SIDINGS.DIAG 0

/-- An action at level 6 or 7 abandons every repeat, diagnosis, retirement copy and recovery (R317). -/
def Body.abandonRepairs (b : Body) : Body :=
  let b1 := b.abandonDiagnoses
  let b2 := forEach b1.cont.substs (fun s c => c.wr (R.CT.TILE_MAP.SUBSTITUTING s.logical) 0) b1
  let b3 := forEach (List.range 8) (fun k c => c.abandonCopy k) b2
  let b4 := ({ b3 with cont := { b3.cont with substs := [] } } : Body).onOpen (fun _ => true) Capture.settled
  forEach (List.range 68) (fun nn c => c.onTile nn (fun t => { t with recovering := false })) b4

/-- The job is cut off: it ends, and no further seal is sent (R421 t0). -/
def Body.jobAborted (b : Body) : Body :=
  if b.jobRuns then
    let b1 := b.jobEnded
    { b1 with job := { b1.job with closing := none, awaited := [], heldSeals := [] } }
  else b

/-! ## One island closes -/

/-- Tile nn is bound while a job runs. -/
def Body.tileInJob (b : Body) (nn : Nat) : Bool := b.jobRuns && (b.logicalOf nn).isSome

/-- What the tile's checks have found in this period goes into the period's masks (R41). -/
def Body.foldChecks (b : Body) (nn : Nat) : Body :=
  match b.logicalOf nn with
  | none => b
  | some t =>
    let us := (b.tile nn).unsettled.filter (fun u => !u.settled)
    let lane := b.on (R.T.MX_STATUS.MISMATCH nn) || b.on (R.T.MX_STATUS.ACC_MISMATCH nn)
    let plaus := b.on (R.T.MX_STATUS.PLAUS_FAIL nn)
    let j := b.job
    { b with job := { j with
        laneMask := if lane then j.laneMask ||| 2 ^ t else j.laneMask,
        plausMask := if plaus then j.plausMask ||| 2 ^ t else j.plausMask,
        causes := j.causes ||| (if us.any (·.mismatch) then 2 else 0) ||| (if us.any (·.plaus) then 4 else 0) } }

/-- DB loses the read of a record that it was serving, and a dump that it was making fails (log 111). -/
def Body.dbClosing (b : Body) : Body :=
  let b1 : Body := { b with obs := { b.obs with evReads := [], dump := none } }
  if b.obs.dump.isSome then b1.wr R.DB.DUMP_STATUS.STATE 3 else b1

/-- Junction k serves a bound tile in service: with the junction closed the tile's transfers are refused, and its seal is void (R26).
The cause bit is [6] (DEDUCED, log 80). -/
def Body.servesTiles (b : Body) (k : Nat) : Bool :=
  (List.range 17).any (fun i => b.inService (iT (17 * k + i)) && (b.logicalOf (17 * k + i)).isSome)

/-- What the closing of an island's straits ends (R24, R181, R194, R232, R248, R342, R351, R466, R467). -/
def Body.islandClosing (b : Body) (i : Nat) : Body :=
  let b0 := if 16 ≤ i && i < 24 then b.selfRefresh (i - 16) else b
  let b1 := ({ b0 with sb := { b0.sb with closed := b0.sb.closed ||| 2 ^ i } } : Body).fenceThrough i
  if i = iUE then b1.ueReset
  else if i = iSN then b1.snReset
  else if i = iDB then b1.dbClosing
  else if i = iHI then { b1 with hi := { b1.hi with waiting := [] } }
  else if i = iCT then
    let b2 := b1.abandonDiagnoses
    { b2 with job := { b2.job with closing := b2.job.closing.map (fun c => { c with ctClosed := true }) } }
  else if 10 ≤ i && i < 14 then
    b1.closeJunction (i - 10) |>.when (b1.jobRuns && b1.job.departed && b1.servesTiles (i - 10)) (fun c => c.addCause 6)
  else if 24 ≤ i && i < 32 then
    forEach ((List.range 8).map (8 * (i - 24) + ·)) (fun n t => if t.linkState n = 6 then t.failLink n 9 else t) b1
  else if 32 ≤ i then
    let nn := i - 32
    let b1 := b1.abandonDiag nn
    if b1.tileInJob nn then (b1.foldChecks nn).onTile nn (fun t => { t with wasReset := true }) else b1
  else b1

/-- What an island loses with its supply beside its registers: a tile its SRAM, code included, so that it is out for the rest
of a job that runs (R423, R467); UE nothing, since its generator state lies in registers. -/
def Body.contentsLost (b : Body) (i : Nat) : Body :=
  if 32 ≤ i then
    let nn := i - 32
    let b1 := b.clearRange (sramBase nn) sramSize
    if b1.tileInJob nn then b1.onTile nn (fun t => { t with out := true }) else b1
  else b

/-- The state of an island beside its registers after its reset, whose registers hold their reset values.  CT forgets the producers
that it awaited (log 114). -/
def Body.stateReset (b : Body) (i : Nat) : Body :=
  if 32 ≤ i then
    let nn := i - 32
    let o := b.tile nn
    let b1 := b.setTile nn { Tile.init with wasReset := o.wasReset, out := o.out, lastEntry := o.lastEntry, began := o.began }
    ((b1.mirrorBank nn).mirrorTile nn).when (b.tileInJob nn && !b.retired nn) (fun c => c.setTileState nn 2)
  else if 16 ≤ i && i < 24 then
    let k := i - 16
    let b1 := b.wr (R.M.STATUS.STATE k) (if (b.memi k).trainedAt.isEmpty then 0 else 3)
    b1.showSpares k
  else if 24 ≤ i && i < 32 then
    let k := i - 24
    (forEach ((List.range 8).map (8 * k + ·)) (fun n t =>
      let l := t.lnk n
      t.setLnk n { Link.init with known := l.known, wasInService := l.wasInService, trainedAt := l.trainedAt }) b).showLinks k
  else if i = iCT then { b with job := { b.job with awaited := [], heldSeals := [] } }
  else if 10 ≤ i && i < 14 then b.showTransit (i - 10)
  else b

/-- Supply is gone from the package group of M k: its contents and training are lost (R415). -/
def Body.packageLost (b : Body) (k : Nat) : Body :=
  ((b.clearIsland k).setMemi k MemIsland.init).wr (R.M.STATUS.STATE k) 0

/-! ## One island returns -/

/-- What an island does when it reports in service: CT clears SUBSTITUTING of the substitutions that completed without it
(R466), the links of an island leave state 0, a junction shows whether it has routes. -/
def Body.islandBack (b : Body) (i : Nat) : Body :=
  if i = iCT then
    forEach (List.range 64) (fun t c =>
      if c.on (R.CT.TILE_MAP.SUBSTITUTING t) && !c.cont.substs.any (fun s => s.logical == t) then
        c.wr (R.CT.TILE_MAP.SUBSTITUTING t) 0
      else c) b
  else if 10 ≤ i && i < 14 then
    let m := b.rd R.MG.DSP_STATUS.MAP_STATE
    b.wr (R.J.STATUS.STATE (i - 10)) (if m = 2 then 2 else 1)
  else if 24 ≤ i && i < 32 then
    let k := i - 24
    (((b.showLinks k).wakeEngine (2 * k)).wakeEngine (2 * k + 1))
  else b

/-! ## The module loses its state -/

/-- Every byte of tile SRAM is lost. -/
def Body.loseSram (b : Body) : Body := { b with mem := b.mem.filter (fun c => decide (c.1 < lpddrEnd)) }

/-- A module full reset ends the job and loses what no register shows (R423, R398): the memory islands keep their contents
in self-refresh, links remember their far ends, the event queue is lost and counted as lost records are. -/
def Body.fullStateLost (b : Body) : Body :=
  let b0 := forEach (List.range 8) (fun k t => t.selfRefresh k) b.loseRoot
  let b1 := b0.loseSram
  let lost := b1.obs.evQueue.length
  let b2 := (b1.add R.DB.EVR_LOST.VALUE lost).wr R.DB.EVR_STATUS.QUEUE 0
  let keep := b2.obs.rings.filter (fun r => decide (r.1 < 2))
  let links := b2.links.map (fun e =>
    let n := e.1
    let l := e.2
    let up := b2.linkUp n
    (n, { Link.init with known := if up then some (b2.farEnd n) else l.known, wasInService := l.wasInService, shortQual := up }))
  let c := b2.cont
  let d := b2.disp
  { b2 with
    tiles := [], job := .init, writes := [], xfers := [], ue := .init, fab := .init,
    mems := b2.mems.map (fun e =>
      (e.1, { MemIsland.init with temp := e.2.temp, trainTemp := e.2.trainTemp, trainedAt := e.2.trainedAt, replaced := e.2.replaced })),
    links := links.filter (fun e => e.2 != Link.init),
    hi := { HostIf.init with msgSeq := b2.hi.msgSeq },
    disp := { Dispatch.init with chief := d.chief, charter := d.charter, ledger := d.ledger, granted := d.granted, keys := d.keys,
                                 members := d.members },
    snap := { Checkpoint.init with lastBuddy := b2.snap.lastBuddy, snapSeq := b2.snap.snapSeq, newest := b2.snap.newest },
    cont := { Continuity.init with cap := c.cap, past := c.past, condemned := c.condemned, fsrs := c.fsrs,
                                   beaconSeq := c.beaconSeq, pvAt := c.pvAt, fullResetAt := some (b2.ns 2) },
    obs := { Observe.init with rings := keep, evLog := b2.obs.evLog, evClears := b2.obs.evClears, evLostFlag := b2.obs.evLostFlag || lost != 0,
                               evLostCount := b2.obs.evLostCount + lost, dumpSeq := b2.obs.dumpSeq, sensors := b2.obs.sensors,
                               sumSeq := b2.obs.sumSeq } }

/-- A cold reset or rail off loses all of it: the LPDDR contents, training, the links' far ends, the capture, records that
were not acknowledged and the dispatcher's state (R423). The log in flash and the time bases stay. -/
def Body.coldStateLost (b : Body) : Body :=
  let b1 := b.fullStateLost
  { b1 with
    mem := [], lost := [], mems := [], links := [], disp := .init, snap := .init, writes := [],
    cont := { Continuity.init with pvAt := b1.cont.pvAt, fullResetAt := b1.cont.fullResetAt },
    obs := { b1.obs with rings := b1.obs.rings } }

/-- What outlives a module full reset shows again: the memory islands hold their contents in self-refresh, the tiles show
their binding, CT its free siding tiles. -/
def Body.memoryRestart (b : Body) : Body :=
  let b1 := forEach (List.range 8) (fun k t => if (t.memi k).trainedAt.isEmpty then t else t.wr (R.M.STATUS.STATE k) 3) b
  (forEach (List.range 68) (fun nn t => t.mirrorTile nn) b1).refreshMap

end Sys2Proof.Machine
end

