-- ==== Sys2Proof/Machine/Power.lean ====
section
/-! DEFINITION. Power and reset (spec/17_power_reset.md R404 to R423, spec/19_module_electrical.md R454, R458): rails,
PMBus, the rail-request lane, power domains and the reset ladder. -/

namespace Sys2Proof.Machine

/-! ## Pins and status -/

/-- `SB.STATUS.LADDER` and `SB.ISL_CTRL.BUSY` show what runs. -/
def Body.showLadder (b : Body) : Body :=
  let top := match b.sb.module with
    | some (k, _) => k
    | none => b.sb.steps.foldl (fun m l => max m l.step) 0
  ((b.wr R.SB.STATUS.LADDER top).wr R.SB.ISL_CTRL.BUSY (b2n (!b.sb.steps.isEmpty))).alertPin

/-- An escalation (`SB.ESCALATE_STATUS`): held if none is held; counted either way. -/
def Body.escalate (b : Body) (from_ tgt i : Nat) : Body :=
  let b1 := if b.on R.SB.ESCALATE_STATUS.VALID then b
    else (((b.wr R.SB.ESCALATE_STATUS.FROM from_).wr R.SB.ESCALATE_STATUS.TO tgt).wr R.SB.ESCALATE_STATUS.ISLAND i).wr
      R.SB.ESCALATE_STATUS.VALID 1
  b1.sat R.SB.ESCALATE_STATUS.COUNT 1

/-- A hang that SB detects in an island triggers its ring, or every ring (R390). -/
def Body.hangTrigger (b : Body) (i : Nat) : Body := if b.on R.DB.TRIG_CTRL.HANG_ENABLE then b.trigger i else b

/-- A power domain's switch (R414). -/
def Body.domainOn (b : Body) (d : Nat) : Bool := bit (b.rd R.SB.DOMAIN_ON.ON) d
def Body.setDomain (b : Body) (d v : Nat) : Body := b.wr R.SB.DOMAIN_ON.ON (setBits (b.rd R.SB.DOMAIN_ON.ON) d 1 v)
def Body.domainsOn (b : Body) (ds : List Nat) : Body := forEach ds (fun d t => t.setDomain d 1) b

/-- The index names a domain (R414). -/
def isDomain (d : Nat) : Bool := d = 0 || (2 ≤ d && d < 14) || (16 ≤ d && d < 124)

/-! ## The lane (R409 to R413) -/

/-- A frame's 32 bits (R409). -/
def laneFrame (type seq payload : Nat) : Nat :=
  let h := (type % 16) * 2 ^ 20 + (seq % 16) * 2 ^ 16 + payload % 2 ^ 16
  h * 2 ^ 8 + crc8 (beBytes 3 h)

/-- A down frame is sent. -/
def Body.laneSend (b : Body) (type seq payload : Nat) : Body :=
  ({ b with sb := { b.sb with lastDown := b.ns 2 } }).emit (.lane (laneFrame type seq payload))

/-- A frame that is acknowledged goes out, or waits while one is outstanding (R411). -/
def Body.laneRequest (b : Body) (type payload : Nat) : Body :=
  match b.sb.lane with
  | some _ => { b with sb := { b.sb with laneNext := b.sb.laneNext ++ [(type, payload)] } }
  | none =>
    let q := b.sb.laneSeq
    ({ b with sb := { b.sb with lane := some ⟨type, payload, q, 1⟩, laneSeq := (q + 1) % 16 } }).laneSend type q payload

/-- Step 4 of rail off (R406): VAUX, which feeds the lane, goes once the OFF frame is settled. -/
def Body.vauxOff (b : Body) : Body :=
  if b.sb.phase = 10 then
    let b1 := ((b.emit (.pin "VAUX_EN" false)).wr R.SB.RAIL_STATUS.GOOD 1).wr R.SB.RAIL_STATUS.REQ 1
    { b1 with sb := { b1.sb with phase := 4 } }
  else b

/-- The outstanding frame is settled and the next that waits goes out. -/
def Body.laneSettled (b : Body) : Body :=
  let b1 : Body := { b with sb := { b.sb with lane := none } }
  match b.sb.laneNext with
  | [] => b1.vauxOff
  | (t, p) :: rest => ({ b1 with sb := { b1.sb with laneNext := rest } }).laneRequest t p

/-- A PMBus command of R407, to the stage's address. -/
def Body.pmbus (b : Body) (code data : Nat) : Body := b.emit (.pmbus (b.rd R.SB.PMBUS_STATUS.ADDR) code data)

/-- What a transaction comes to: one that has failed three times is counted and raises source 4 (R407). -/
def Body.pmbusDone (b : Body) (r : Result) : Body :=
  match r with
  | .pass => b
  | .fail => (b.sat R.SB.PMBUS_STATUS.ERRORS 1).raiseN iSB 4

/-- A transaction whose outcome no operand brings: it is free (log 110). -/
def Body.pmbusFree (b : Body) : Body := b.takeFree.pmbusDone (if (Config.freeValue 1 b.free).toNat = 1 then .fail else .pass)

/-- The outstanding request is carried out over PMBus (R411): source 5. -/
def Body.laneFallback (b : Body) : Body :=
  match b.sb.lane with
  | none => b
  | some f =>
    let b1 := (b.raiseN iSB 5).sat R.SB.RRQ_STATUS.FALLBACKS 1
    ((if f.type = 3 then b1.pmbus 0x21 f.payload else b1.pmbus 0x01 0).pmbusFree).laneSettled

/-- A frame from the stage: discarded and counted with a failed CRC or a reserved type; a frame of another type is not
this command. -/
def Body.upFrame (b : Body) (f type : Nat) (act : Nat → Body → Body) : Body :=
  let t := bits f 28 4
  if crc8 (beBytes 3 (f / 2 ^ 8)) ≠ f % 2 ^ 8 ∨ t < 8 ∨ 11 < t then b.sat R.SB.RRQ_STATUS.UP_ERRORS 1
  else if t = type then act (bits f 8 16) b
  else b

/-- `ACK_FRAME` (R411). -/
def ackFrame (f : Nat) (b : Body) : Body :=
  b.upFrame f 0x8 (fun p b =>
    match b.sb.lane with
    | some l => if l.seq = p % 16 then b.laneSettled else b
    | none => b)

/-- `NACK_FRAME` (R411). -/
def nackFrame (f : Nat) (b : Body) : Body :=
  b.upFrame f 0x9 (fun p b =>
    match b.sb.lane with
    | some l => if l.seq = p % 16 then b.laneFallback else b
    | none => b)

/-- `ACK_TIMEOUT` (R411): the frame is resent with its sequence, at most three sends in all. -/
def ackTimeout (b : Body) : Body :=
  match b.sb.lane with
  | none => b
  | some l =>
    if l.sends < 3 then
      (({ b with sb := { b.sb with lane := some { l with sends := l.sends + 1 } } }).sat R.SB.RRQ_STATUS.RESENDS 1).laneSend
        l.type l.seq l.payload
    else b.laneFallback

/-- `TELEMETRY` (R410). -/
def telemetry (f : Nat) (b : Body) : Body := b.upFrame f 0xA (fun p b => b.wr R.SB.VCORE.IOUT (p % 2 ^ 12))

/-- `ALERT` (R410, R411). -/
def alert (f : Nat) (b : Body) : Body :=
  b.upFrame f 0xB (fun p b => (b.wr R.SB.RRQ_STATUS.ALERT (p % 2 ^ 5)).raiseN iSB 4)

/-- The planned die power, in watts, of 10 µs window `w` of the running period, or of the next period beyond its end (R62). -/
def Body.plannedPower (b : Body) (w : Nat) : Nat :=
  match b.job.active with
  | none => 400
  | some im =>
    let inType (pt : Nat) (w : Nat) : Nat :=
      match im.types[pt]? with
      | none => 400
      | some t =>
        let segs := (im.segments.drop t.segFirst).take t.segCount
        ((segs.foldl (fun (acc : Nat × Option Nat) s =>
          (acc.1 + s.1, match acc.2 with
            | some p => some p
            | none => if w < acc.1 + s.1 then some s.2 else none)) (0, none)).2).getD 0
    let here := b.rd R.TM.DEPART_SEQ.PTYPE
    let len := (b.job.nextAt - b.job.departAt) / 10000
    if w < len then inType here w
    else inType ((im.seq[(b.rd R.TM.DEPART_SEQ.INDEX + 1) % max im.seq.length 1]?).getD 0) (w - len)

/-- The forecast current of a planned power (R412): less 13.5 W, over the VCORE target, rounded up. -/
def Body.forecastAmps (b : Body) (watts : Nat) : Nat := ceilDiv ((10 * watts - 135) * 100) (b.rd R.SB.VCORE.TARGET)

/-- `FORECAST` (R412): a frame takes 0.7 µs and forecasts the window that begins 5 µs after it ends. -/
def forecast (b : Body) : Body :=
  if b.jobRuns then
    let w := ceilDiv (b.ns 0 + 5700 - b.job.departAt) 10000
    let b1 := b.toPod (b.job.departAt + 10000 * w - 5700)
    b1.laneSend 0x2 b1.sb.laneSeq (b1.forecastAmps (b1.plannedPower w) % 2 ^ 12)
  else b.laneSend 0x2 b.sb.laneSeq (b.forecastAmps 400 % 2 ^ 12)

/-- `HEARTBEAT_FRAME` (R412): 50 µs have passed without another down frame. -/
def heartbeatFrame (b : Body) : Body := (b.toLocal (b.sb.lastDown + 50000)).laneSend 0x1 b.sb.laneSeq 0

/-- `TARGET` (R413): a write of `SB.VCORE.TARGET`. -/
def target (m : Master) (mv : Nat) (b : Body) : Body :=
  if m = .tile then b.cfgEvent m iSB 0x50 mv 2
  else if b.on R.SB.LOCK.LOCK then b.cfgEvent m iSB 0x50 mv 1
  else if mv < 600 ∨ 850 < mv ∨ b.jobRuns then b.cfgEvent m iSB 0x50 mv 0
  else (b.wr R.SB.VCORE.TARGET mv).laneRequest 0x3 mv

/-! ## PMBus (R407) -/

/-- The STATUS_x commands that STATUS_WORD flags (PRESUMED: the PMBus specification's bits, log 110). -/
def statusBytes (word : Nat) : List Nat :=
  ([(15, 0x7A), (14, 0x7B), (13, 0x7C), (2, 0x7D), (1, 0x7E)].filter (fun e => bit word e.1)).map (·.2)

/-- `SMBALERT` (R407): source 4; the stage's STATUS_WORD and every STATUS_x byte that it flags are read (log 110), and cleared.
`none`: the transaction has failed three times. -/
def smbalert (word : Option Nat) (b : Body) : Body :=
  let b1 := (b.raiseN iSB 4).pmbus 0x79 0
  match word with
  | some w => (forEach (statusBytes w) (fun c t => t.pmbus c 0) (b1.wr R.SB.PMBUS_STATUS.STATUS_WORD w)).pmbus 0x03 0
  | none => b1.pmbusDone .fail

/-- `PMBUS_POLL` (R407): the stage's status and output voltage are read; a transaction that fails three times is counted. -/
def pmbusPoll (r : Result) (word mv : Nat) (b : Body) : Body :=
  match r with
  | .pass => (b.wr R.SB.PMBUS_STATUS.STATUS_WORD word).wr R.SB.VCORE.READ_MV mv
  | .fail => b.pmbusDone .fail

/-! ## Registers and their reset domains (R10) -/

/-- The bits of a register that hold what the flash holds, which no reset clears (their Reset column reads "from flash"):
`SC.ROLLBACK`, the sequences, CLEARS and HISTORY_FULL of the event log, and ACTIVE, STAGED and VERSION of a firmware slot. -/
def flashMask (key : Nat) : Nat :=
  if (0x20100 ≤ key && key < 0x20180) || key = 0x60808 || key = 0x60810 then 2 ^ 64 - 1
  else if key = 0x60800 then 0xFFF * 2 ^ 9
  else if 0x100 ≤ key && key < 0x120 then 3 + 0xFFFFFFFF * 2 ^ 16
  else 0

/-- The reset domain of a register. -/
def domainOf (key : Nat) : Domain :=
  match regAt key with
  | some (r, _) => r.dom
  | none => .always

/-- The bits of a register that survive a module full reset: its RWS fields (R9). -/
def keepMask (key : Nat) : Nat :=
  match regAt key with
  | some (r, _) => r.fields.foldl (fun m f =>
      if f.acc = .rws ∨ f.acc = .rwsRo ∨ f.acc = .rwsMg then m ||| ((2 ^ f.w - 1) <<< f.lo) else m) 0
  | none => 0

/-- Every listed register for which `p` holds takes its reset value, but for the bits that `mask` keeps. -/
def Body.resetRegs (b : Body) (p : Nat → Bool) (mask : Nat → Nat) : Body :=
  let keys := (b.regs.map (·.1)).filter p
  forEach keys (fun k t =>
    let m := mask k
    t.setReg k ((t.reg k &&& m) ||| (resetOf k &&& (2 ^ 40000 - 1 - m)))) b

/-- The island's own reset (R423): registers of its island domain. -/
def Body.resetIslandRegs (b : Body) (i : Nat) : Body :=
  b.resetRegs (fun k => k / 0x10000 == i && domainOf k == .island) keepMask

/-- A module full reset: full and island domains of every island (R10). -/
def Body.resetFullRegs (b : Body) : Body :=
  b.resetRegs (fun k => domainOf k == .island || domainOf k == .full) keepMask

/-- A module cold reset or rail off: every domain but always-on; what the flash holds stays. -/
def Body.resetColdRegs (b : Body) : Body :=
  b.resetRegs (fun k => domainOf k != .always) flashMask

/-- Always-on power is applied (R10, R362): every register but for what the flash holds, the time bases and all other state take
their reset values.  The flash, and the event log in it, stay. -/
def Body.alwaysOnApplied (b : Body) : Body :=
  let b1 := b.resetRegs (fun _ => true) flashMask
  { Body.reset with
    regs := b1.regs, sec := { Body.reset.sec with flash := b.sec.flash }, out := b.out, free := b.free,
    obs := { Body.reset.obs with evLog := b.obs.evLog, evClears := b.obs.evClears } }

/-! ## Orders of the ladder (R417, R419) -/

/-- A module-level step supersedes every island step (R419). -/
def Body.abandonSteps (b : Body) : Body :=
  ({ b with sb := { b.sb with steps := [] } }).sat R.SB.LADDER_COUNTS.ABANDONED b.sb.steps.length

/-- The action that waits still waits if it is one at level 7, which supersedes level 6 (R317). -/
def Body.keepSeven (b : Body) : Option (Nat × Nat) := b.sb.waiting.filter (fun w => w.1 == 7)

/-- The module has come up through its rails, so that a full reset can be ordered: one ordered earlier is ignored, as one during a
cold reset is (DESIGN CHOICE, log 117). -/
def Body.mayReset (b : Body) : Bool := b.sb.phase == 3 || b.sb.phase == 7

/-- A module full reset is ordered (R421 t0, R422): merged into a running one, ignored during a cold reset or rail off. -/
def Body.orderFull (b : Body) (cause src : Nat) : Body :=
  match b.sb.module with
  | some (5, _) => b.sat R.SB.LADDER_COUNTS.MERGED 1
  | some _ => b.sat R.SB.LADDER_COUNTS.IGNORED 1
  | none =>
    if !b.mayReset then b.sat R.SB.LADDER_COUNTS.IGNORED 1 else
    let b1 := ((b.wr R.SB.RESET_CAUSE.CAUSE cause).wr R.SB.RESET_CAUSE.SOURCE (if cause = 5 then src else 0)).sat
      R.SB.COUNTS.FULL_RESETS 1
    let b2 := b1.abandonSteps.abandonRepairs.jobAborted
    let b3 : Body := { b2 with sb := { b2.sb with module := some (5, b2.ns 2), phase := 5, waiting := b.keepSeven } }
    b3.showLadder

/-- A module cold reset is ordered; it abandons a running full reset (R419). -/
def Body.orderCold (b : Body) (cause : Nat) : Body :=
  match b.sb.module with
  | some (7, _) => b.sat R.SB.LADDER_COUNTS.IGNORED 1
  | some (6, _) => b.sat R.SB.LADDER_COUNTS.MERGED 1
  | m =>
    let b1 := ((b.wr R.SB.RESET_CAUSE.CAUSE cause).wr R.SB.RESET_CAUSE.SOURCE 0).sat R.SB.COUNTS.COLD_RESETS 1
    let b2 := if m.isSome then b1.sat R.SB.LADDER_COUNTS.ABANDONED 1 else b1
    let b3 := b2.abandonSteps.abandonRepairs.jobAborted
    let b4 : Body := { b3 with sb := { b3.sb with module := some (6, b3.ns 2), phase := 8, waiting := b.keepSeven } }
    b4.showLadder

/-- Rail off is ordered; it abandons everything (R419). -/
def Body.orderRailOff (b : Body) : Body :=
  match b.sb.module with
  | some (7, _) => b
  | m =>
    let b1 := b.sat R.SB.COUNTS.COLD_RESETS 1
    let b2 := if m.isSome then b1.sat R.SB.LADDER_COUNTS.ABANDONED 1 else b1
    let b3 := b2.abandonSteps.abandonRepairs.jobAborted
    let b4 : Body := { b3 with sb := { b3.sb with module := some (7, b3.ns 2), phase := 9, waiting := none } }
    b4.showLadder

/-- A ring whose island has lost its supply is empty; one that is armed has still to write what it had (R391, R392). -/
def Ring.emptied (r : Ring) : Ring := { r with entries := [] }

/-- DB copies an island's ring to the saved area of the dump harbour before its power switch opens (R392); a copy that
cannot reach DB, J1 or the harbour is lost, with DB source 1. -/
def Body.saveRing (b : Body) (i : Nat) : Body :=
  let r := b.ring i
  let b1 :=
    if b.inService iDB && b.harbourUp then b.harbourStore (0x400000 + 0x4000 * i) (slice (ringBytes r) 0 0x4000)
    else b.raiseN iDB 1
  b1.setRing i (b1.ring i).emptied

/-- Island `i`'s step starts: 3 reset, 4 power cycle (R418). -/
def Body.startStep (b : Body) (i step : Nat) : Body :=
  let b1 := if step = 3 then b.sat R.SB.COUNTS.ISL_RESETS 1 else b.sat R.SB.COUNTS.POWER_CYCLES 1
  let b2 := b1.islandClosing i
  let b3 := if step = 4 then (b2.saveRing i).contentsLost i else b2
  let b4 := (b3.resetIslandRegs i).stateReset i
  let b5 : Body := { b4 with sb := { b4.sb with
    closed := b4.sb.closed ||| 2 ^ i, steps := b4.sb.steps ++ [⟨i, step, b4.ns 2⟩],
    resumed := SMap.insert b4.sb.resumed i 0 } }
  b5.showLadder

/-- An order for a step on an island under the rules of R419. -/
def Body.orderStep (b : Body) (i step : Nat) : Body :=
  if i < 2 ∨ !isIsland i then b
  else if b.sb.module.isSome then b.sat R.SB.LADDER_COUNTS.IGNORED 1
  else
    match b.sb.steps.find? (fun l => l.island == i) with
    | none => b.startStep i step
    | some l =>
      if l.step = step then b.sat R.SB.LADDER_COUNTS.MERGED 1
      else if step < l.step then b.sat R.SB.LADDER_COUNTS.IGNORED 1
      else
        (({ b with sb := { b.sb with steps := b.sb.steps.filter (fun x => x.island != i) } }).sat
          R.SB.LADDER_COUNTS.ABANDONED 1).startStep i step

/-- A write of `SB.ISL_CTRL` with GO, honoured from MG and CT (R417); a host's is recorded. -/
def Body.islCtrl (b : Body) (m : Master) (d op : Nat) (f : Body → Body) : Body :=
  let v := d + op * 2 ^ 8 + 2 ^ 10
  if m ≠ .mg ∧ m ≠ .ct then b.cfgEvent m iSB 0x20 v 2
  else f ((b.wr R.SB.ISL_CTRL.DOMAIN d).wr R.SB.ISL_CTRL.OP op)

/-- `ISLAND_RESET` (R418): OP 0. SB and TM are never reset by the ladder (R419). -/
def islandReset (m : Master) (i : Nat) (b : Body) : Body :=
  b.islCtrl m i 0 (fun b => if i < 2 ∨ !isIsland i then b.cfgEvent m iSB 0x20 (i + 2 ^ 10) 0 else b.orderStep i 3)

/-- `ISLAND_POWER_CYCLE` (R418): OP 1. -/
def islandPowerCycle (m : Master) (i : Nat) (b : Body) : Body :=
  b.islCtrl m i 1 (fun b =>
    if i < 2 ∨ !isIsland i then b.cfgEvent m iSB 0x20 (i + 2 ^ 8 + 2 ^ 10) 0 else b.orderStep i 4)

/-- A request to switch a domain off is refused (R415). -/
def Body.offRefused (b : Body) (d : Nat) : Bool :=
  !isDomain d || d = 0 || d = 7
    || (100 ≤ d && d < 108 && b.rd (R.M.STATUS.STATE (d - 100)) != 3)
    || (32 ≤ d && d < 100 && ((b.logicalOf (d - 32)).isSome && b.jobRuns
          || (isSiding (d - 32) && !b.retired (d - 32) && (b.logicalOf (d - 32)).isNone)))
    || (108 ≤ d && d < 124 && !bit b.sb.drained (d - 108))

/-- `DOMAIN_OFF` (R415): OP 2. -/
def domainOff (m : Master) (d : Nat) (b : Body) : Body :=
  b.islCtrl m d 2 (fun b =>
    if b.offRefused d then b.cfgEvent m iSB 0x20 (d + 2 * 2 ^ 8 + 2 ^ 10) 0
    else if d < 100 then
      let b1 := (((b.islandClosing d).contentsLost d).resetIslandRegs d).stateReset d
      let b2 : Body := { b1 with sb := { b1.sb with
        closed := b1.sb.closed ||| 2 ^ d, resumed := SMap.insert b1.sb.resumed d 0,
        steps := b1.sb.steps.filter (fun l => l.island != d) } }
      ((b2.setRing d (b2.ring d).emptied).setDomain d 0).showLadder
    else if d < 108 then (b.packageLost (d - 100)).setDomain d 0
    else (b.setDomain d 0).engineOff (d - 108))

/-- `DOMAIN_ON` (R415): OP 3; the island reports in service before its straits reopen. -/
def domainOn (m : Master) (d : Nat) (b : Body) : Body :=
  b.islCtrl m d 3 (fun b =>
    if !isDomain d then b.cfgEvent m iSB 0x20 (d + 3 * 2 ^ 8 + 2 ^ 10) 0
    else if 108 ≤ d then (b.setDomain d 1).wakeEngine (d - 108)
    else b.setDomain d 1)

/-- An island may report in service: powered, released by boot where R444 step 6 asks it, not held, no module step that
has still to restart. -/
def Body.mayServe (b : Body) (i : Nat) : Bool :=
  isIsland i && 2 ≤ i && !b.inService i && b.domainOn i && (b.sb.phase = 2 || b.sb.phase = 3 || b.sb.phase = 7)
    && (!(i = iMG || (16 ≤ i && i < 32)) || b.rd R.SC.STATUS.BOOT = 2)
    && !(b.sb.heldTiles.contains (i - 32) && 32 ≤ i)

/-- `ISLAND_IN_SERVICE` (R418): the straits reopen (R24), the step ends, and the island rejoins (R25, R466, R467). -/
def islandInService (i : Nat) (b : Body) : Body :=
  if b.mayServe i then
    let b1 : Body := { b with sb := { b.sb with
      closed := b.sb.closed - 2 ^ i, steps := b.sb.steps.filter (fun l => l.island != i) } }
    ((b1.islandBack i).serveSends).showLadder
  else b

/-- `ISLAND_RESET_TIMEOUT` (R417 step 3, R420): source 0; the island is power-cycled, but for a bound tile whose logic is
held in reset while CT substitutes a siding. -/
def islandResetTimeout (i : Nat) (b : Body) : Body :=
  match b.sb.steps.find? (fun l => l.island == i && l.step == 3) with
  | none => b
  | some l =>
    let b := b.toLocal (l.began + 50000)
    let b1 : Body := { b with sb := { b.sb with steps := b.sb.steps.filter (fun x => x.island != i) } }
    let b2 := ((b1.raiseAs { occ (iSB * 64) with addr := i } 0 true).hangTrigger i).escalate 3 4 i
    if 32 ≤ i ∧ (b2.logicalOf (i - 32)).isSome ∧ b2.freeSiding.isSome then
      (({ b2 with sb := { b2.sb with heldTiles := (i - 32) :: b2.sb.heldTiles } }).substituteHung (i - 32)).showLadder
    else b2.startStep i 4

/-- Whether a hang dump starts before the full reset (R401): ON_HANG is set, DB can dump, and the held dump is no hang's. -/
def Body.hangDump (b : Body) : Body :=
  if !b.on R.DB.DUMP_CTRL.ON_HANG || !b.inService iDB then b else b.startDump 2

/-- `POWER_CYCLE_TIMEOUT` (R417 step 4): source 1; a module full reset with cause 7, after a hang dump. -/
def powerCycleTimeout (i : Nat) (b : Body) : Body :=
  match b.sb.steps.find? (fun l => l.island == i && l.step == 4) with
  | none => b
  | some l =>
    let b := b.toLocal (l.began + 2000000)
    let b1 := ((b.raiseAs { occ (iSB * 64 + 1) with addr := i } 0 true).hangTrigger i).escalate 4 5 i
    (b1.orderFull 7 0).hangDump

/-! ## Module full reset (R421) -/

/-- The occurrence's event record has been written, or 1 ms has passed (R317). -/
def Body.awaitRecord (b : Body) (src : Nat) : Body :=
  if b.obs.evQueue.any (fun r => r.source == src) then b.toLocal (b.ns 2 + 1000000) else b

/-- The clock of every island but SB's and TM's stops: its first sample after the restart carries the resumed flag (R368). -/
def Body.clocksStopped (b : Body) : Body :=
  { b with sb := { b.sb with resumed := islands.filterMap (fun i => if i < 2 then none else some (i, 0)) } }

/-- R421 from t1: self-refresh, every strait closes, every VCORE domain but package groups and engines goes off, HI resets. -/
def Body.fullResetOff (b : Body) : Body :=
  let b1 := (b.fullStateLost).resetFullRegs
  let keep := b.rd R.SB.DOMAIN_ON.ON
  let on := (List.range 124).foldl
    (fun m d => if (d = 0 ∨ d = 7 ∨ 100 ≤ d) ∧ bit keep d then m + 2 ^ d else m) 0
  let b2 := ((b1.wr R.SB.DOMAIN_ON.ON on).wr R.SB.STATUS.READY 0).clocksStopped
  { b2 with sb := { b2.sb with closed := allIslands - 3, stretching := 0, heldTiles := [] } }

/-- R421 from t1 + 0.3 ms: domains on in the order of R405, boot, and the memory islands' return. -/
def Body.fullResetOn (b : Body) : Body :=
  let b1 := b.domainsOn ((List.range 124).filter isDomain)
  let b2 : Body := { b1 with sb := { b1.sb with phase := 7 } }
  (((b2.wr R.MG.DSP_PLACE.PLACE (b2.sb.straps * 2 ^ 8)).boot false).memoryRestart).showLadder

/-- A hang dump runs: the full reset waits for it (R401, R421). -/
def Body.hangDumps (b : Body) : Bool :=
  match b.obs.dump with
  | some (2, _, _) => true
  | _ => false

/-- A dump that runs is cut off: it has failed (DESIGN CHOICE, log 111). -/
def Body.cutDump (b : Body) : Body :=
  let b1 : Body := { b with obs := { b.obs with dump := none } }
  if b.obs.dump.isSome then b1.wr R.DB.DUMP_STATUS.STATE 3 else b1

/-- `MODULE_FULL_RESET` (R421): an ordered full reset goes on from t1; a level 6 occurrence that waits is ordered first
(cause 6 for the MG watchdog).  Nothing happens while a hang dump runs; a dump of the host's or of MG's is cut off. -/
def moduleFullReset (b : Body) : Body :=
  let b := match b.sb.module, b.sb.waiting with
    | none, some (6, src) =>
      let b1 := b.awaitRecord src
      ({ b1 with sb := { b1.sb with waiting := none } } : Body).orderFull (if src = 3 then 6 else 5) src
    | _, _ => b
  if b.sb.phase = 5 && !b.hangDumps then
    let b1 := b.cutDump.fullResetOff
    if b1.sb.perst then { b1 with sb := { b1.sb with phase := 6 } } else b1.fullResetOn
  else b

/-- `MODULE_RESET` (R422): a write of `HI.MODULE_RESET` with GO; KEY must read 0xF107. -/
def moduleReset (m : Master) (key : Nat) (b : Body) : Body :=
  let v := key + 2 ^ 16
  if !b.inService iHI then b.cfgEvent m iHI 0x8 v 3
  else
    let b1 := b.wr R.HI.MODULE_RESET.KEY key
    if key ≠ 0xF107 then b1.cfgEvent m iHI 0x8 v 0 else b1.orderFull 1 0

/-- `PERST_ASSERT` (R422). -/
def perstAssert (b : Body) : Body :=
  (({ b with sb := { b.sb with perst := true } }).wr R.SB.STATUS.PERST 1).orderFull 2 0

/-- `PERST_DEASSERT` (R422): the held full reset goes on and its bound starts again from 0. -/
def perstDeassert (b : Body) : Body :=
  let b1 := ({ b with sb := { b.sb with perst := false } }).wr R.SB.STATUS.PERST 0
  match b.sb.module with
  | some (5, _) =>
    let b2 : Body := { b1 with sb := { b1.sb with module := some (5, b1.ns 2) } }
    if b.sb.phase = 6 then b2.fullResetOn else b2
  | _ => b1

/-- `HOT_RESET` and `SECONDARY_BUS_RESET` (R422). -/
def hotReset (b : Body) : Body := b.orderFull 3 0
def secondaryBusReset (b : Body) : Body := b.orderFull 4 0

/-- `FULL_RESET_TIMEOUT` (R417 step 5): source 2; a module cold reset.  While PERST# is asserted the bound does not run. -/
def fullResetTimeout (b : Body) : Body :=
  match b.sb.module with
  | some (5, t) =>
    if b.sb.perst then b
    else (((b.toLocal (t + 250000000)).raiseN iSB 2).escalate 5 6 0).orderCold 8
  | _ => b

/-! ## Power-up (R405, R454, R458) -/

/-- A rail's number in `SB.RAIL_STATUS.GOOD`. -/
def railNo : Rail → Nat
  | .vaon => 0
  | .vaux => 1
  | .vcore => 2
  | .vdram1 => 3
  | .vdram2 => 4
  | .vdramq => 5
  | .vopt => 6

def Body.railBit (b : Body) (f : Field) (r v : Nat) : Body := b.wr f (setBits (b.rd f) r 1 v)

/-- A tray rail's request output. -/
def Body.requestRail (b : Body) (r : Nat) (name : String) : Body :=
  ({ b with sb := { b.sb with railAt := b.ns 2 } } : Body).railBit R.SB.RAIL_STATUS.REQ r 1 |>.emit (.pin name true)

/-- VCORE is requested over PMBus: the commands of R407 in the order of its table's uses (log 110), with target and stage address
as the configuration block in the flash gives them (R413). -/
def Body.requestVcore (b : Body) : Body :=
  let b1 := b.powerConfig
  let b2 : Body := { b1 with sb := { b1.sb with railAt := b1.ns 2 } }
  (forEach [(0x02, 0), (0x20, 0), (0x24, 850), (0x27, 1), (0x4A, 2400), (0x46, 3000), (0x21, b2.rd R.SB.VCORE.TARGET), (0x01, 1)]
    (fun e t => t.pmbus e.1 e.2) b2).railBit R.SB.RAIL_STATUS.REQ 2 1

/-- Power-up goes on past the straps: VAON is good and VAUX is requested. -/
def Body.startRails (b : Body) : Body :=
  let b1 := ((b.wr R.SB.RAIL_STATUS.GOOD 1).wr R.SB.RAIL_STATUS.REQ 1).wr R.SB.RAIL_STATUS.FAILED 0
  ({ b1 with sb := { b1.sb with phase := 2 } }).requestRail 1 "VAUX_EN"

/-- The eight samples of each slot strap (R458): how many read 0. Samples that agree give the slot; others are recorded. -/
def Body.readStraps (b : Body) (z0 z1 : Nat) : Body :=
  if (z0 = 0 ∨ z0 = 8) ∧ (z1 = 0 ∨ z1 = 8) then
    let s := b2n (decide (z0 = 0)) + 2 * b2n (decide (z1 = 0))
    (({ b with sb := { b.sb with straps := s, strapsOk := true } }).wr R.MG.DSP_PLACE.PLACE
      (setBits b.place 8 2 s)).startRails
  else
    ({ b with sb := { b.sb with strapsOk := false, phase := 1 } }).event 0x9041 iSB (leBytes 1 z0 ++ leBytes 1 z1)

/-- `POWER_UP` (R405, R454): a rising edge of PWR_EN after every power-good has fallen; SB and TM start.  `flash` is what
the secure flash holds when it is not what the module last saw there: no counter of it decreases (R445). -/
def powerUp (z0 z1 : Nat) (flash : Option FlashContent) (b : Body) : Body :=
  if b.sb.pwrEn || (b.sb.phase ≠ 0 && b.sb.phase ≠ 4) then b
  else
    let b1 := match flash with
      | none => b
      | some f =>
        let c := forEach (List.range 16) (fun k (t : Body) => t.wr (R.SC.ROLLBACK.VALUE k) (max (b.rollback k) ((f.counters[k]?).getD 0)))
          ({ b with sec := { b.sec with flash := f } })
        forEach [0, 1, 2, 3] (fun k t => (t.wr (R.SB.FW_SLOT.ACTIVE k) (b2n (bit f.active k))).showStaged k) c
    let trip := b1.sb.thermTrip
    let b2 : Body := { b1 with sb := { b1.sb with pwrEn := true, thermTrip := false, module := none,
                                                  closed := allIslands - 3, missed := 0, drained := 0 } }
    let b2 := b2.clocksStopped
    let b3 := if trip then b2.emit (.pin "THERM_TRIP#" false) else b2
    (((b3.wr R.SB.DOMAIN_ON.ON 1).wr R.SB.RESET_CAUSE.CAUSE 0).readStraps z0 z1).showLadder

/-- `STRAP_RESAMPLE` (R458): every 10 ms while the samples disagree. -/
def strapResample (z0 z1 : Nat) (b : Body) : Body :=
  if b.sb.phase = 1 && !b.sb.strapsOk then (b.toLocal (b.ns 2 + 10000000)).readStraps z0 z1 else b

/-- What follows a rail's power-good (R405); `rev14` says that PMBUS_REVISION reads 1.4, `txn` whether the transactions of a VCORE
request succeed (R407). -/
def Body.nextRail (b : Body) (rev14 : Bool) (txn : Result) : Rail → Body
  | .vaon => b
  | .vaux =>
    let b1 := b.setDomain 7 1
    if rev14 then b1.requestVcore.pmbusDone txn else b1.raiseN iSB 4
  | .vcore => ((b.domainsOn [2, 3, 4, 5, 6]).boot true).requestRail 3 "VDRAM1_EN"
  | .vdram1 => b.requestRail 4 "VDRAM2_EN"
  | .vdram2 => b.requestRail 5 "VDRAMQ_EN"
  | .vdramq =>
    (b.domainsOn ((List.range 8).map (100 + ·) ++ (List.range 8).map iM ++ (List.range 4).map iJ)).requestRail 6 "VOPT_EN"
  | .vopt =>
    let b1 := b.domainsOn ((List.range 16).map (108 + ·) ++ (List.range 8).map iL ++ [iUE, iSN] ++ (List.range 68).map iT)
    { b1 with sb := { b1.sb with phase := 7 } }

/-- The power-good of the rail that was requested arrives (R405). VAON is never requested: its power-good at a
module that is off means that the tray has reapplied it (R406; DESIGN CHOICE, log 95). -/
def powerRises (r : Rail) (rev14 : Bool) (txn : Result) (b : Body) : Body :=
  let n := railNo r
  if n = 0 then (if b.sb.phase = 0 || b.sb.phase = 4 then b.alwaysOnApplied else b)
  else if b.sb.phase = 2 && bit (b.rd R.SB.RAIL_STATUS.REQ) n && !bit (b.rd R.SB.RAIL_STATUS.GOOD) n then
    ((b.railBit R.SB.RAIL_STATUS.GOOD n 1).nextRail rev14 txn r).alertPin
  else b

/-- `RAIL_TIMEOUT` (R405): a requested rail has no power-good after 10 ms; the rails are taken off. -/
def railTimeout (r : Rail) (b : Body) : Body :=
  let n := railNo r
  if b.sb.phase = 2 && bit (b.rd R.SB.RAIL_STATUS.REQ) n && !bit (b.rd R.SB.RAIL_STATUS.GOOD) n then
    (((b.toLocal (b.sb.railAt + 10000000)).wr R.SB.RAIL_STATUS.FAILED n).orderRailOff)
  else b

/-- `PWR_EN_FALL` (R454): the rails are taken off and any activity is abandoned. -/
def pwrEnFall (b : Body) : Body :=
  if !b.sb.pwrEn then b
  else
    let b1 : Body := { b with sb := { b.sb with pwrEn := false }, obs := { b.obs with dump := none } }
    if b1.sb.phase = 4 then b1 else b1.orderRailOff

/-- The loss of a power-good that SB did not request is handled as a rail off, cause 10 (R404, R408, R417).  Without VAON the module
is off, and only what the flash holds is left (R406, R454). -/
def powerFalls (r : Rail) (b : Body) : Body :=
  let n := railNo r
  if n = 0 then b.alwaysOnApplied
  else if bit (b.rd R.SB.RAIL_STATUS.GOOD) n then
    let b1 := b.railBit R.SB.RAIL_STATUS.GOOD n 0
    match b.sb.module with
    | some (7, _) => b1
    | _ => (b1.wr R.SB.RESET_CAUSE.CAUSE 10).orderRailOff
  else b

/-- `POWER_GOOD` (R404, R405): the power-good input of a rail rises or falls. -/
def powerGood (r : Rail) (edge : GoodEdge) : Body → Body :=
  match edge with
  | .rises rev14 txn => powerRises r rev14 txn
  | .falls => powerFalls r

/-- `POWER_GOOD_LOSS` (R408): the power-good of VCORE falls. -/
def powerGoodLoss : Body → Body := powerFalls .vcore

/-- `RAIL_OFF` (R406): VOPT, VDRAMQ, VDRAM2, VDRAM1, and VCORE over PMBus and the lane; VAUX follows when the OFF frame is settled.
Cold state is reset and the LPDDR contents are lost (R423).  A level 7 occurrence that waits is ordered first. -/
def railOff (b : Body) : Body :=
  let b := match b.sb.module, b.sb.waiting with
    | some (7, _), _ => b
    | _, some (7, src) => (b.awaitRecord src).orderRailOff
    | _, _ => b
  if b.sb.phase = 9 then
    let b1 := (((b.emit (.pin "VOPT_EN" false)).emit (.pin "VDRAMQ_EN" false)).emit (.pin "VDRAM2_EN" false)).emit
      (.pin "VDRAM1_EN" false)
    let b2 := ((b1.pmbus 0x01 0).laneRequest 0x4 0).pmbusFree
    let b3 := ((b2.coldStateLost).resetColdRegs).clocksStopped
    let b4 := ((b3.wr R.SB.DOMAIN_ON.ON 1).wr R.SB.RAIL_STATUS.GOOD 3).wr R.SB.RAIL_STATUS.REQ 3
    let b5 : Body := { b4 with sb := { b4.sb with phase := 10, closed := allIslands - 3, stretching := 0,
                                                  heldTiles := [], fwPending := 0, fwPeriod := [], waiting := none } }
    (b5.wr R.SB.STATUS.READY 0).showLadder
  else b

/-- `MODULE_COLD_RESET` (R417 step 6, R423): all cold state is reset, the LPDDR contents are lost, and the module powers
up again through the rails. -/
def moduleColdReset (b : Body) : Body :=
  if b.sb.phase = 8 then
    let b1 := ((b.coldStateLost).resetColdRegs).clocksStopped
    let b2 := (b1.wr R.SB.DOMAIN_ON.ON 1).wr R.SB.STATUS.READY 0
    let b3 : Body := { b2 with sb := { b2.sb with closed := allIslands - 3, stretching := 0, heldTiles := [], fwPending := 0, fwPeriod := [] } }
    ((b3.wr R.MG.DSP_PLACE.PLACE (b3.sb.straps * 2 ^ 8)).startRails).showLadder
  else b

/-- `COLD_RESET_TIMEOUT` (R417 step 6): readiness has not come within 500 ms; the rails go off. -/
def coldResetTimeout (b : Body) : Body :=
  match b.sb.module with
  | some (6, t) => ((b.toLocal (t + 500000000)).escalate 6 7 0).orderRailOff
  | _ => b

/-- `COLD_RESET_COMMAND` (R442 type 0x03). -/
def coldResetCommand : ScSource → Body → Body := signedCommand 3 (fun _ _ => true) (fun _ b => b.orderCold 9) (fun _ b => b)

/-- `PCIE_LINK_DOWN` (R437): a link down without a reset raises HI source 2 and ends nothing. -/
def pcieLinkDown (b : Body) : Body :=
  if !b.hi.linkUp then b else
  let b1 : Body := { b with hi := { b.hi with linkUp := false } }
  (((b1.wr R.HI.STATUS.WIDTH 0).wr R.HI.STATUS.SPEED 0).wr R.HI.STATUS.FLIT 0).raiseN iHI 2

/-! ## The hang dump (R401 to R403) -/

/-- `DUMP` (R401): a host or MG write of `DB.DUMP_CTRL.GO`; the hang dump starts with the escalation itself. -/
def dump (m : Master) (b : Body) : Body := b.honoured m iDB 0x1000 1 (fun b => b.startDump (if m = .mg then 1 else 0))

/-- What DB reads at an offset of island i: the time bases' registers and `DB.RING_DATA` show what other state holds, and DB's
read of the seconds latches the nanoseconds of the same instant for DB alone (R361, R392, R403). -/
def Body.dbRead (b : Body) (i o : Nat) : Nat :=
  let base := (o - 0x100) / 0x40
  if i = iTM ∧ 0x100 ≤ o ∧ o < 0x200 ∧ o % 0x40 = 0 then b.ns base / 10 ^ 9 % 2 ^ 48
  else if i = iTM ∧ 0x100 ≤ o ∧ o < 0x200 ∧ o % 0x40 = 8 then b.ns base % 10 ^ 9
  else if i = iDB ∧ o = 0x28 then le b.selectedEntry 0 8
  else if i = iDB ∧ o = 0x30 then le b.selectedEntry 8 8
  else b.reg (i * 0x10000 + o)

/-- The registers of an island's window as bytes written at `base`: a closed island's as all ones (R24, R403). -/
def Body.dumpWindow (b : Body) (base i : Nat) : Body :=
  if !b.inService i then b.storeBytes base (List.replicate 0x10000 0xFF) (iDB * 64) 8
  else
    let rows := regTable i
    let offs (r : RegRow) : List Nat := r.dims.foldl
      (fun acc d => acc.flatMap (fun o => (List.range d.count).map (fun k => o + (d.first + k) * d.stride))) [r.off]
    b.storeWith base 0x10000 (iDB * 64) 8 (fun c =>
      forEach rows (fun r t =>
        forEach (offs r) (fun o u => u.put (base + o) (leBytes (r.width / 8) (b.dbRead i o))) t)
        (c.clearRange base 0x10000))

/-- The contents of R402 but for the header and the record ring.  The SRAM of a tile that is closed, or whose junction is, cannot
be read (R24, R403). -/
def Body.dumpAll (b : Body) (base : Nat) : Body :=
  let b1 := forEach islands (fun i t => t.harbourStore (0x200000 + 0x4000 * i) (slice (ringBytes (b.ring i)) 0 0x4000)) b
  let b2 := forEach islands (fun i t => t.dumpWindow (base + 0x600000 + 0x10000 * i) i) b1
  let b2 := b2.when (b.on R.DB.RING_SEL.SAVED) (fun c => (c.fetch iDB 8 c.savedEntry 16).2)
  let seen := (List.range 68).filter (fun nn => b.answersRead (iT nn) && b.inService (iJ (junctionOfTile nn)))
  forEach seen (fun nn t =>
    (t.storeCopy (sramBase nn + 0x110000) 0xE0000 (base + 0x1000000 + 0x100000 * nn) (iDB * 64) 8).storeCopy
      (sramBase nn + 0x100000) 0x9000 (base + 0x10E0000 + 0x100000 * nn) (iDB * 64) 8) b2

/-- The dump header of R402 but for its valid mark. -/
def Body.dumpHeader (b : Body) (cause start mask : Nat) : Bytes :=
  leBytes 4 0x504D5544 ++ leBytes 2 0x0100 ++ zeros 2 ++ leBytes 4 b.obs.dumpSeq ++ leBytes 1 cause ++ zeros 3
    ++ leBytes 12 start ++ leBytes 12 (b.stamp 2 iDB) ++ leBytes 8 b.period ++ leBytes 16 mask
    ++ leBytes 8 (b.rd R.DB.FSR_WR.COUNT) ++ zeros 4020

/-- `DUMP_COMPLETE` (R403): the dump ends with its mark written last, or fails when it cannot reach J1 or LPDDR. -/
def dumpComplete (r : Result) (b : Body) : Body :=
  match b.obs.dump with
  | none => b
  | some (cause, start, mask) =>
    if !b.inService iDB then b else
    let base := b.rd R.DB.DUMP_BASE.ADDR * 2 ^ 28
    let b0 : Body := { b with obs := { b.obs with dump := none } }
    if r = .fail ∨ !b.harbourUp then ((b0.wr R.DB.DUMP_STATUS.STATE 3).raiseN iDB 1).irq 5
    else
      let b1 := (b0.dumpAll base).harbourStore 0 (b0.dumpHeader cause start (mask ||| (b.sb.closed &&& allIslands)))
      let b2 := b1.harbourStore 4092 (leBytes 4 0x4B504D44)
      ((((b2.wr R.DB.DUMP_STATUS.STATE 2).wr R.DB.DUMP_STATUS.HELD 1).wr R.DB.DUMP_STATUS.CAUSE cause).event 0xA643 iDB
        []).irq 5

/-- `DUMP_ACK` (R401): a write of `DB.DUMP_CTRL` with ACK. -/
def dumpAck (m : Master) (b : Body) : Body := b.honoured m iDB 0x1000 4 (fun b => b.wr R.DB.DUMP_STATUS.HELD 0)

/-- `DUMP_TIMEOUT` (R401): 5 ms after a hang dump started, the full reset begins without it. -/
def dumpTimeout (b : Body) : Body :=
  if b.hangDumps then
    let b1 := (b.toLocal (b.obs.dumpAt + 5000000)).cutDump
    if b1.sb.phase = 5 then moduleFullReset b1 else b1
  else b

/-! ## The meanings -/

def execPowerUp (z0 z1 : Fin 9) (flash : Option FlashContent) (s : State) := run (powerUp z0.val z1.val flash) s
def execStrapResample (z0 z1 : Fin 9) (s : State) := run (strapResample z0.val z1.val) s
def execPowerGood (r : Rail) (edge : GoodEdge) (s : State) := run (powerGood r edge) s
def execRailTimeout (r : Rail) (s : State) := run (railTimeout r) s
def execPwrEnFall (s : State) := run pwrEnFall s
def execPowerGoodLoss (s : State) := run powerGoodLoss s
def execRailOff (s : State) := run railOff s
def execSmbalert (word : Option (BitVec 16)) (s : State) := run (smbalert (word.map (·.toNat))) s
def execPmbusPoll (r : Result) (word : BitVec 16) (mv : BitVec 10) (s : State) := run (pmbusPoll r word.toNat mv.toNat) s
def execForecast (s : State) := run forecast s
def execHeartbeatFrame (s : State) := run heartbeatFrame s
def execTarget (m : Master) (mv : BitVec 10) (s : State) :=
  run (Body.written [iSB] 0x50 (target m mv.toNat)) s
def execAckFrame (f : BitVec 32) (s : State) := run (ackFrame f.toNat) s
def execNackFrame (f : BitVec 32) (s : State) := run (nackFrame f.toNat) s
def execAckTimeout (s : State) := run ackTimeout s
def execTelemetry (f : BitVec 32) (s : State) := run (telemetry f.toNat) s
def execAlert (f : BitVec 32) (s : State) := run (alert f.toNat) s
def execIslandReset (m : Master) (i : Fin 100) (s : State) :=
  run (Body.written [iSB] 0x20 (islandReset m i.val)) s
def execIslandPowerCycle (m : Master) (i : Fin 100) (s : State) :=
  run (Body.written [iSB] 0x20 (islandPowerCycle m i.val)) s
def execDomainOff (m : Master) (d : BitVec 7) (s : State) :=
  run (Body.written [iSB] 0x20 (domainOff m d.toNat)) s
def execDomainOn (m : Master) (d : BitVec 7) (s : State) :=
  run (Body.written [iSB] 0x20 (domainOn m d.toNat)) s
def execIslandInService (i : Fin 100) (s : State) := run (islandInService i.val) s
def execIslandResetTimeout (i : Fin 100) (s : State) := run (islandResetTimeout i.val) s
def execPowerCycleTimeout (i : Fin 100) (s : State) := run (powerCycleTimeout i.val) s
def execModuleFullReset (s : State) := run moduleFullReset s
def execModuleReset (m : Master) (key : BitVec 16) (s : State) :=
  run (Body.written [iHI] 0x8 (moduleReset m key.toNat)) s
def execPerstAssert (s : State) := run perstAssert s
def execPerstDeassert (s : State) := run perstDeassert s
def execHotReset (s : State) := run hotReset s
def execSecondaryBusReset (s : State) := run secondaryBusReset s
def execFullResetTimeout (s : State) := run fullResetTimeout s
def execModuleColdReset (s : State) := run moduleColdReset s
def execColdResetTimeout (s : State) := run coldResetTimeout s
def execColdResetCommand (src : ScSource) (s : State) := run (coldResetCommand src) s
def execPcieLinkDown (s : State) := run pcieLinkDown s
def execDump (m : Master) (s : State) :=
  run (Body.written [iDB] 0x1000 (dump m)) s
def execDumpComplete (r : Result) (s : State) := run (dumpComplete r) s
def execDumpAck (m : Master) (s : State) :=
  run (Body.written [iDB] 0x1000 (dumpAck m)) s
def execDumpTimeout (s : State) := run dumpTimeout s

end Sys2Proof.Machine
end

