-- ==== Sys2Proof/Machine/Continuity.lean ====
section
/-! DEFINITION. Fault collection and containment (spec/13_continuity.md R313 to R334, R441, R466; spec/18_host_security.md
R438): what CT does with a report, the tile repeat rule, diagnosis and substitution, wear, and the records MG emits. -/

namespace Sys2Proof.Machine

/-! ## Parts (R314, R333) -/

/-- Part kind and index of a report: 1 tile, 2 sub-channel, 3 link, 5 island, 0 none. -/
def Report.part (r : Report) : Nat × Nat :=
  let i := r.source / 64
  let n := r.source % 64
  if 32 ≤ i then (if n = 3 ∨ n = 10 then (0, 0) else (1, i - 32))
  else if 24 ≤ i then (3, 8 * (i - 24) + n / 8)
  else if 16 ≤ i then (2, 128 * (i - 16) + r.unit % 128)
  else if (10 ≤ i ∧ i < 14) ∨ i = iUE ∨ (i = iMG ∧ n = 0) ∨ (i = iHI ∧ n = 1) ∨ (i = iSN ∧ n = 0) then (5, i)
  else (0, 0)

/-- The part index of a record, 0xFFFF where the source has no part (R395). -/
def Report.partIndex (r : Report) : Nat := if r.part.1 = 0 then 0xFFFF else r.part.2

/-- The wear part of a part (R331). -/
def wearPart (kind part : Nat) : Option Nat :=
  if kind = 1 then some part else if kind = 2 then some (68 + part) else if kind = 3 then some (1092 + part)
  else if kind = 4 then some (1156 + part) else none

/-- The source is one of a tile's two mismatches. -/
def Report.isMismatch (r : Report) : Bool := decide (32 ≤ r.source / 64) && decide (r.source % 64 ≤ 1)

/-! ## Capture (R319, R320) -/

/-- A capture of this report. The repeat of a memory source of R220 and of a link's retried frame or restarted qualification
has run (R314, R316); which sources have one is DEDUCED (log 127). -/
def Capture.of (r : Report) : Capture :=
  { rep := r, part := r.part.2, kind := r.part.1,
    repeatRun := (r.part.1 == 2 && [0, 1, 2, 3, 8].contains (r.source % 64)) || (r.part.1 == 3 && [1, 4].contains (r.source % 8)),
    transient := false, permanent := false, retired := false, voided := false, replacement := 0xFFFF, siding := 0xFF,
    diagnosis := 0, progRepeat := 0,
    open_ := decide (32 ≤ r.source / 64) && decide (r.source % 64 ≤ 2) && decide (2 ≤ r.level) && r.inJob,
    emitted := none, late := false }

/-- The outcome of a memory source is in its number: 0 transient, 1 permanent, 2 uncorrectable data, 3 tag mismatch (R333). -/
def Capture.memoryOutcome (c : Capture) : Capture :=
  let n := c.rep.source % 64
  if c.kind = 2 then { c with transient := n = 0, permanent := n = 1 } else c

/-- The capture with what the repair of its part has come to by now (R316, R332; DEDUCED, log 127): a sub-channel is retired, or
its retirement is under way; a retried frame, a restarted qualification or a failed link has come through, or not yet. -/
def Body.repairOf (b : Body) (c : Capture) : Capture :=
  let n := c.rep.source % 64
  if c.kind = 2 then
    let k := c.part / 128
    let j := c.part % 128
    let m := b.memi k
    let copying := b.on (R.M.COPY_STATUS.ACTIVE k) && b.rd (R.M.COPY_STATUS.KIND k) == 0 && b.rd (R.M.COPY_STATUS.SRC k) == j
    if ¬[1, 2, 3, 5, 8].contains n then c
    else if b.rd (R.M.SC.STATE k j) = 3 then { c with retired := true, replacement := SMap.getD m.replaced j 0xFFFF }
    else { c with open_ := copying || m.requests.contains j || m.held.any (fun h => h.sc == j) }
  else if c.kind = 3 then
    let st := b.linkState c.part
    let up := st == 5 || st == 6
    if n % 8 = 1 then
      (if (b.lnk c.part).retrying then { c with open_ := true } else { c with transient := up || st == 4 })
    else if n % 8 = 4 then { c with open_ := st == 4, transient := up }
    else if [2, 3, 5].contains (n % 8) then (if up then { c with repeatRun := true, transient := true } else { c with open_ := true })
    else c
  else c

/-- An occurrence at level 1 or above fills the capture registers, or is merged.  A tile's own capture belongs to the mismatch that
fills them when it was made at that occurrence (R321). -/
def Body.capture (b : Body) (r : Report) : Body :=
  if b.on R.CT.STATUS.CAPTURE_VALID then
    (b.sat R.CT.MERGE.COUNT 1).wr R.CT.MERGE.CLASSES (b.rd R.CT.MERGE.CLASSES ||| 2 ^ classOfSource r.source)
  else
    let b1 := ((((((b.wr R.CT.FIRST_ERR_ADDR.ADDR r.addr).wr R.CT.FIRST_ERR_INFO.SOURCE r.source).wr R.CT.FIRST_ERR_INFO.MASTER
      r.master).wr R.CT.FIRST_ERR_INFO.REQ_TYPE r.reqType).wr R.CT.FIRST_ERR_INFO.ACCESS r.access).wr
      R.CT.FIRST_ERR_INFO.LEVEL r.level).wr R.CT.FIRST_ERR_INFO.EVENT (eventOfSource r.source)
    let b2 := ((b1.wr R.CT.FIRST_ERR_STAMP_LO.STAMP (r.stamp % 2 ^ 64)).wr R.CT.FIRST_ERR_STAMP_HI.STAMP
      (r.stamp / 2 ^ 64)).wr R.CT.STATUS.CAPTURE_VALID 1
    let b3 : Body := { b2 with cont := { b2.cont with cap := some (b2.repairOf (Capture.of r).memoryOutcome) } }
    let nn := r.source / 64 - 32
    if r.isMismatch && b3.on (R.T.MX_STATUS.CAPTURE_VALID nn) && (b3.tile nn).captureKey == (r.at_, r.addr) then
      b3.onTile nn (fun t => { t with captureOwned := true })
    else b3

/-- The event record of an occurrence (R395, R396). -/
def Body.recordOccurrence (b : Body) (r : Report) : Body :=
  let i := r.source / 64
  b.recordEvent
    { stamp := b.recordStamp i, code := eventOfSource r.source, source := r.source, count := 0, level := r.level, flags := 0,
      island := i,
      detail := detail24 (leBytes 8 r.addr ++ leBytes 2 r.master ++ leBytes 1 r.reqType ++ leBytes 1 r.access
        ++ leBytes 8 r.period ++ leBytes 2 r.partIndex) }

/-! ## Actions by level (R315 to R317) -/

/-- Level 3: a tile without a repeat receives context recovery, an island is reset, a link retrains. -/
def Body.degrade (b : Body) (r : Report) : Body :=
  let i := r.source / 64
  let n := r.source % 64
  if 32 ≤ i then (if 4 ≤ n ∧ n ≠ 10 then b.startRecovery (i - 32) else b)
  else if 24 ≤ i then b.orderRetrain r.part.2
  else if r.part.1 = 5 then b.orderStep i 3
  else b

/-- Level 4: the period in which the occurrence was raised is void. -/
def Body.voidPeriod (b : Body) (r : Report) : Body :=
  if r.inJob then { b with job := { b.job with faulted := (r.period :: b.job.faulted).take 8 } } else b

/-- Level 5: MG sends a self-fence request through J3 unless it sent one within WINDOW (R23, R307). -/
def Body.selfFence (b : Body) : Body :=
  let due := match b.cont.fenceAt with
    | none => true
    | some t => decide (t + b.voteWindow ≤ b.ns 0)
  if !due || !b.inService iMG || !b.canSign then b
  else
    let v := b.makeVote 5 b.place (b.rd R.MG.DSP_EPOCHS.TERM) 0
    let b1 := forEach b.roster (fun p c =>
      if p = c.place then { c with fab := { c.fab with inbox := c.fab.inbox ++ [(p, 5, v)] } }
      else c.sendPacket 3 (c.plainPacket p 0 5 0 (c.rd (R.J.SLICE.EPOCH 3 0)) v)) b
    (({ b1 with cont := { b1.cont with fenceAt := some (b1.ns 0) } } : Body).sampled iMG).wr R.CT.STATUS.SELF_FENCE 1

/-- Levels 6 and 7 wait for their record (R317); level 7 supersedes level 6, and either abandons what is still pending. -/
def Body.awaitAction (b : Body) (level source : Nat) : Body :=
  match b.sb.waiting with
  | some (7, _) => b
  | _ => ({ b with sb := { b.sb with waiting := some (level, source) } } : Body).abandonRepairs

/-- A report reaches CT: counts, capture, record, and the actions of its level and of every lower one. -/
def Body.takeReport (b : Body) (r : Report) : Body :=
  let i := r.source / 64
  let b0 := b.sat (R.CT.SEVERITY.COUNT r.source) 1
  let b0 : Body := { b0 with cont := { b0.cont with highest := max b0.cont.highest r.level } }
  if r.level = 0 then b0
  else
    let b1 := ((b0.capture r).recordOccurrence r).acc (fun a => { a with occurrences := a.occurrences + 1 })
    let b2 := b1.add (R.PV.ISL_ERR.COUNT i) 1
    let b3 : Body := if i = iPV then { b2 with cont := { b2.cont with pvAt := some (b2.ns 2) } } else b2
    let b4 := if 4 ≤ r.level then b3.voidPeriod r else b3
    let b5 := if 3 ≤ r.level then b4.degrade r else b4
    let b6 := if 5 ≤ r.level then b5.selfFence else b5
    if 6 ≤ r.level then b6.awaitAction (min r.level 7) r.source else b6

/-- The report that reaches CT next: the oldest, the lowest source id among those of one instant (R317). -/
def nextReport (l : List Report) : Option Report :=
  match l with
  | [] => none
  | r :: rs => some (rs.foldl (fun m x => if x.at_ = m.at_ ∧ x.source < m.source then x else m) r)

/-- `FAULT_OCCURRENCE` (R315): an occurrence that its island finds without a command of its own is raised; then the report that
is next on the fault tree reaches CT, unless CT is closed (R466). -/
def faultOccurrence (ext : Option Occurrence) (b : Body) : Body :=
  let b0 := match ext with
    | none => b
    | some o =>
      if b.clockStopped (o.source / 64) then b else
      let c := b.raiseOcc o (if 16 ≤ o.source / 64 ∧ o.source / 64 < 24 then (subOf o.addr).1 / 8 % 128
        else if 24 ≤ o.source / 64 ∧ o.source / 64 < 32 then o.source % 64 / 8 else o.unit)
      if 32 ≤ o.source / 64 ∧ o.source % 64 = 7 then c.wearBy (o.source / 64 - 32) 4 else c
  if !b0.inService iCT then b0
  else
    match nextReport b0.cont.tree with
    | none => b0
    | some r => ({ b0 with cont := { b0.cont with tree := b0.cont.tree.erase r } } : Body).takeReport r

/-- `RELEASE` (R321): a write of `CT.RELEASE.RELEASE`, honoured from MG only. MG writes it only after it has emitted the
capture's record, and not while 64 records await sending (R332); the tile's capture is MG's `MX_RELEASE` to release. -/
def release (m : Master) (b : Body) : Body :=
  if !b.inService iCT then b.cfgEvent m iCT 0x30 1 3
  else if m ≠ .mg then b.cfgEvent m iCT 0x30 1 2
  else if !b.on R.CT.STATUS.CAPTURE_VALID || 64 ≤ b.cont.fsrs.length
      || (match b.cont.cap with | some c => c.emitted.isNone | none => false) then b
  else
    let b1 := ((b.wr R.CT.STATUS.CAPTURE_VALID 0).wr R.CT.MERGE.COUNT 0).wr R.CT.MERGE.CLASSES 0
    let open_ := match b1.cont.cap with
      | some c => if c.open_ || c.late then [c] else []
      | none => []
    { b1 with cont := { b1.cont with cap := none, past := b1.cont.past ++ open_ } }

/-- `SELF_FENCE_WINDOW_EXPIRY` (R315): WINDOW after the request the bit clears and a further request may be sent. -/
def selfFenceWindowExpiry (b : Body) : Body :=
  match b.cont.fenceAt with
  | none => b
  | some t =>
    let b1 := b.toPod (t + b.voteWindow)
    ({ b1 with cont := { b1.cont with fenceAt := none } } : Body).wr R.CT.STATUS.SELF_FENCE 0

/-! ## The tile repeat rule, diagnosis and substitution (R322 to R324) -/

/-- What the program's repeat of the captured operation settled (R322, R333): 0 none ran, 1 settled, 2 failed again. -/
def Body.programRepeat (b : Body) (nn : Nat) : Nat :=
  match (b.tile nn).unsettled.find? (fun u => u.mismatch && u.op == (b.tile nn).captureOp) with
  | none => 0
  | some u => if u.settled then 1 else if u.again then 2 else 0

/-- A mismatch of the tile that is no captured one, whose source stood at level 2 or above, has failed its repeat (R323), or is
taken as permanent since no siding was left for the tile (R324); the highest level of such. -/
def Body.mergedFailed (b : Body) (nn : Nat) (captured : Bool) : Option Nat :=
  let us := (b.tile nn).unsettled.filter (fun u =>
    u.mismatch && (u.again || b.cont.condemned.contains nn) && decide (2 ≤ u.level) && !(captured && u.op == (b.tile nn).captureOp))
  if us.isEmpty then none else some (us.foldl (fun m u => max m u.level) 0)

/-- CT releases a tile's capture that no record carries (R321). -/
def Body.ctRelease (b : Body) (nn : Nat) : Body :=
  if (b.tile nn).captureOwned || !b.inService (iT nn) then b else b.releaseCapture nn

/-- Tile nn is retired for a permanent fault: `siding` that diagnosed it, or a free one, takes its logical tile; with none free CT
raises its no-siding source and takes every later mismatch as permanent (R324). -/
def Body.retireTile (b : Body) (nn began : Nat) (siding : Option Nat) : Body :=
  let done (b : Body) : Body := b.onCapture nn Capture.settled
  match (match siding with | some s => some s | none => b.pickSiding nn []) with
  | none => done (({ b with cont := { b.cont with condemned := distinct (nn :: b.cont.condemned) } } : Body).raiseN iCT 1)
  | some s =>
    if (b.logicalOf nn).isNone || b.retired nn then done b
    else (b.startSubstitution nn s began).onCapture nn (fun c => { c with retired := true, replacement := s })

/-- The verdict on tile nn's captured mismatch, whose source stood at `level`: `siding` ran clean where one ran; `permanent`
decides retirement at level 3 (R324).  Where no run took place the program's repeat alone decides (R323): without one there is no
verdict of a transient fault (DEDUCED, log 126). -/
def Body.judge (b : Body) (nn level progRepeat began : Nat) (siding : Option Nat) (ran permanent : Bool) : Body :=
  let decided := ran || progRepeat == 1
  let b1 := b.onCapture nn (fun c =>
    { c with repeatRun := c.repeatRun || ran || progRepeat != 0, transient := decided && !permanent, permanent := permanent,
             progRepeat := progRepeat, siding := siding.getD 0xFF,
             diagnosis := if ran then (if permanent then 2 else 1) else c.diagnosis })
  let b2 := b1.ctRelease nn
  let done (b : Body) : Body := b.onCapture nn Capture.settled
  if !permanent then done (if decided then b2.wearBy nn 256 else b2)
  else if level < 3 then done b2
  else b2.retireTile nn began siding

/-- A siding takes part in a diagnosis: its clock runs and capture-area bytes 0 to 36,863 are copied into its own (R323).  Its
`T.TILE_STATUS.STATE`, for which the table has no value of a diagnosis, goes on to read 6 (DESIGN CHOICE, log 84). -/
def Body.diagOn (b : Body) (nn siding : Nat) : Body :=
  (b.copyRange (sramBase nn + 0x100000) 36864 (sramBase siding + 0x100000)).setDiag siding 1

/-- CT begins what a tile's mismatch capture of period n asks for at the departure that ends it, by the level at which the source
stood when the capture was made (R323). -/
def Body.diagnose (b : Body) (nn : Nat) : Body :=
  let pr := b.programRepeat nn
  let level := (b.tile nn).captureLevel
  let condemned := b.cont.condemned.contains nn
  if level < 2 then b.ctRelease nn
  else if condemned || bit (b.reg (R.T.MX_CAPTURE.OP nn).key) 61 then
    b.judge nn level pr b.job.departAt none false (condemned || pr == 2)
  else
    let s := b.pickSiding nn []
    let b1 := match s with
      | some s => b.diagOn nn s
      | none => b
    { b1 with cont := { b1.cont with diags := b1.cont.diags ++ [⟨nn, b1.job.departAt, level, pr, s.toList⟩] } }

/-- What CT does at that departure for one tile: its capture of period n, if it has one, and the mismatches merged or not
captured, which their own repeats alone decide (R323). -/
def Body.diagnoseTile (b : Body) (n nn : Nat) : Body :=
  if !b.inService (iT nn) || b.cont.diags.any (fun d => d.tile == nn) then b
  else
    let captured := b.on (R.T.MX_STATUS.CAPTURE_VALID nn) && b.rd (R.T.MX_CAPTURE_PERIOD.PERIOD nn) == n
    let b1 := if captured then b.diagnose nn else b
    match b.mergedFailed nn captured with
    | some l => if 3 ≤ l && !b1.retired nn then b1.retireTile nn b1.job.departAt none else b1
    | none => b1

/-- CT at the departure that ends period n, `departAt` being the new one: releases that are due, diagnoses that begin, and
merged mismatches (R321, R323, R466). -/
def Body.diagnoseAll (b : Body) (n : Nat) : Body :=
  if !b.inService iCT then b
  else
    let due := b.cont.releaseNext
    let b1 := forEach due (fun nn c => c.ctRelease nn) { b with cont := { b.cont with releaseNext := [] } }
    let b2 := forEach (List.range 68) (fun nn c => c.diagnoseTile n nn) b1
    let idle (c : Capture) : Bool := c.open_ && c.kind == 1 && !b2.cont.diags.any (fun d => d.tile == c.part)
      && !b2.cont.substs.any (fun s => s.old == c.part)
    let end_ (c : Capture) : Capture := if idle c then { c with progRepeat := b2.programRepeat c.part }.settled else c
    { b2 with cont := { b2.cont with cap := b2.cont.cap.map end_, past := b2.cont.past.map end_ } }

/-- `DIAGNOSIS_COMPLETE` (R323, R324): the runs of tile nn's diagnosis end.  `same` says that the tile's own run mismatched,
`sidingBad` that the siding's did, `differ` that their chunk sums differ.  A siding that mismatches gives way to the next.  The
clock of the last stops again unless a substitution binds it (R30). -/
def diagnosisComplete (nn : Nat) (same sidingBad differ : Bool) (b : Body) : Body :=
  match b.cont.diags.find? (fun d => d.tile == nn) with
  | none => b
  | some d =>
    if !b.inService iCT then b
    else
      let finish (c : Body) (s : Option Nat) (differ : Bool) : Body :=
        ({ c with cont := { c.cont with diags := c.cont.diags.filter (fun d => d.tile != nn) } } : Body).judge nn d.level
          d.progRepeat d.began s true (d.progRepeat == 2 || same || differ)
      match d.sidings with
      | [] => finish b none false
      | s :: _ =>
        if !sidingBad then (finish b (some s) differ).setDiag s 0
        else
          let b1 := b.setDiag s 0
          match b1.pickSiding nn d.sidings with
          | none => finish b1 none false
          | some s' =>
            let b2 := b1.diagOn nn s'
            { b2 with cont := { b2.cont with diags := b2.cont.diags.map (fun x =>
                if x.tile = nn then { x with sidings := s' :: x.sidings } else x) } }

/-- `SUBSTITUTION_COMPLETE` (R132, R185, R420): the siding holds the tile's SRAM, the increments that were held are applied, and
a tile that was held in reset is power-cycled now. -/
def substitutionComplete (t : Nat) (b : Body) : Body :=
  match b.cont.substs.find? (fun s => s.logical == t) with
  | none => b
  | some s =>
    let b1 := b.copyRange (sramBase s.old) sramSize (sramBase s.siding)
    let b2 := ((b1.setReg (R.T.IMAGE_A.all s.siding).key (b1.reg (R.T.IMAGE_A.all s.old).key)).setReg
      (R.T.IMAGE_B.all s.siding).key (b1.reg (R.T.IMAGE_B.all s.old).key))
    let b3 := forEach s.held (fun h c => c.bump s.siding h.1 h.2) b2
    let b4 : Body := { b3 with cont := { b3.cont with substs := b3.cont.substs.filter (fun x => x.logical != t) } }
    let b5 := if b4.inService iCT then b4.wr (R.CT.TILE_MAP.SUBSTITUTING t) 0 else b4
    let b6 := b5.onCapture s.old Capture.settled
    if b6.sb.heldTiles.contains s.old then
      ({ b6 with sb := { b6.sb with heldTiles := b6.sb.heldTiles.filter (· != s.old) } } : Body).startStep (iT s.old) 4
    else b6

/-- `SUBSTITUTION_TIMEOUT` (R417 step 2): 50 µs after the departure both tiles are reset, and the next free siding is
substituted; with none left the logical tile is out.  A tile that SB holds in reset stays so for the next siding, and is power-cycled
with none left (R420). -/
def substitutionTimeout (t : Nat) (b : Body) : Body :=
  match b.cont.substs.find? (fun s => s.logical == t) with
  | none => b
  | some s =>
    let b1 := b.toPod (s.began + 50000)
    let next := b1.pickSiding s.old [s.siding]
    let held := s.held
    let b2 : Body := { b1 with cont := { b1.cont with substs := b1.cont.substs.filter (fun x => x.logical != t) } }
    let b3 := match next with
      | some n =>
        let c := b2.moveLogical t s.old n (b2.ns 0)
        { c with cont := { c.cont with substs := c.cont.substs.map (fun (x : Subst) => if x.logical = t then { x with held := held } else x) } }
      | none => (b2.wr (R.CT.TILE_MAP.SUBSTITUTING t) 0).onTile s.siding (fun u => { u with out := true })
    let b4 := b3.onCapture s.old (fun c => { c with replacement := next.getD 0xFFFF })
    let b5 :=
      if !b4.sb.heldTiles.contains s.old then b4.orderStep (iT s.old) 3
      else if next.isSome then b4
      else ({ b4 with sb := { b4.sb with heldTiles := b4.sb.heldTiles.filter (· != s.old) } } : Body).orderStep (iT s.old) 4
    b5.orderStep (iT s.siding) 3

/-- `TILE_MAP_WRITE` (R325): a write of `CT.TILE_MAP_t`, honoured from MG while no job runs, for an unretired tile bound to no
other logical tile. -/
def tileMapWrite (m : Master) (t nn valid : Nat) (b : Body) : Body :=
  let off := 0x800 + 4 * t
  let v := nn + valid * 2 ^ 7
  if !b.inService iCT then b.cfgEvent m iCT off v 3
  else if m ≠ .mg then b.cfgEvent m iCT off v 2
  else if b.jobRuns || decide (68 ≤ nn) || b.retired nn
      || (List.range 64).any (fun u => u != t && b.on (R.CT.TILE_MAP.VALID u) && b.rd (R.CT.TILE_MAP.PHYS u) == nn)
    then b.cfgEvent m iCT off v 0
  else
    let old := b.rd (R.CT.TILE_MAP.PHYS t)
    let b1 := ((b.wr (R.CT.TILE_MAP.PHYS t) nn).wr (R.CT.TILE_MAP.VALID t) valid).refreshMap
    let b2 := b1.mirrorTile old
    if valid = 1 && b2.tileState nn = 6 then
      ((b2.setTileState nn (if b2.job.active.isSome then 2 else 0)).mirrorBank nn).mirrorTile nn
    else b2.mirrorTile nn

/-! ## Recovery and restores that end (R122, R125, R126, R417) -/

/-- A restore that failed escalates to an island reset, unless the tile was reset before (R126, R467). -/
def Body.escalateRestore (b : Body) (nn : Nat) : Body :=
  let t := b.tile nn
  if t.restoreFailed && !t.out then b.orderStep (iT nn) 3 else b

/-- `TILE_RESTORE_COMPLETE` (R122, t0 + 0.70 µs). -/
def tileRestoreComplete (nn : Nat) (r : Result) (b : Body) : Body :=
  if (b.tile nn).entryDue then (b.closeDue.enterPeriod nn r).escalateRestore nn else b

/-- `RECOVERY_COMPLETE` (R126). -/
def recoveryComplete (nn : Nat) (r : Result) (b : Body) : Body :=
  if (b.tile nn).recovering then (b.endRecovery nn r).escalateRestore nn else b

/-- `RECOVERY_TIMEOUT` (R417 step 1): SB resets the tile's island. -/
def recoveryTimeout (nn : Nat) (b : Body) : Body :=
  if (b.tile nn).recovering then b.orderStep (iT nn) 3 else b

/-! ## Wear (R331) -/

/-- The score of part p is updated. -/
def Body.wearUpdate (b : Body) (p : Nat) : Body :=
  let s := b.rd (R.CT.WEAR.SCORE p)
  let s' := min (s - s / 2 ^ b.rd R.CT.WEAR_CTRL.SHIFT + SMap.getD b.cont.wear p 0) 65535
  if s = 0 ∧ s' = 0 then b
  else
    let th := b.rd R.CT.WEAR_CTRL.THRESH
    let b1 := (b.seen (R.CT.WEAR.SCORE p)).wr (R.CT.WEAR.SCORE p) s'
    if th ≠ 0 ∧ th ≤ s' ∧ !b.on (R.CT.WEAR.ABOVE p) then (b1.wr (R.CT.WEAR.ABOVE p) 1).raiseN iCT 8
    else if 2 * s' < th then b1.wr (R.CT.WEAR.ABOVE p) 0
    else b1

/-- `WEAR_UPDATE` (R331): once per second MG updates every score. -/
def wearUpdate (b : Body) : Body :=
  if !b.inService iMG || !b.inService iCT then b
  else
    let b1 := forEach (List.range 1172) (fun p c => c.wearUpdate p) b
    { b1 with cont := { b1.cont with wear := [] } }

/-! ## Failure Signature Records (R332, R333) -/

/-- The detail bytes 128 to 191 of a record; a follow-up repeats what the first record said of a tile's operands, whose capture
may have been released since; for a memory source above 3 the table states no outcome (log 15). -/
def Body.fsrDetail (b : Body) (c : Capture) : Bytes :=
  let n := c.rep.source % 64
  let z := zeros 64
  if c.kind = 1 then
    let nn := c.part
    let lt := (b.logicalOf nn).getD (b.rd (R.T.TILE_STATUS.LOGICAL nn))
    if n ≤ 2 then
      let area := sramBase nn + 0x100000
      let held := b.on (R.T.MX_STATUS.CAPTURE_VALID nn)
      let operands := if held then b.bytes (area + 20) 8 ++ slice (sha256 (b.bytes (area + 64) 33600)) 0 16 else zeros 24
      let live := leBytes 8 (b.reg (R.T.MX_CAPTURE.OP nn).key) ++ leBytes 4 (b.rd (R.T.MX_CAPTURE_PC.BUNDLE nn) * 32) ++ operands
      let first := match c.emitted with | some (_, bs) => slice bs 128 36 | none => slice live 0 36
      let plaus := match c.emitted with | some (_, bs) => slice bs 168 4 | none => leBytes 4 (b.reg (R.T.MX_PLAUS_FIRST.OP nn).key)
      slice (first ++ leBytes 1 lt ++ leBytes 1 c.siding ++ leBytes 1 c.diagnosis ++ leBytes 1 c.progRepeat ++ plaus) 0 64
    else overlay (overlay z 0 (leBytes 8 (b.reg (R.T.STOP_CAUSE.KIND nn).key))) 36 (leBytes 1 lt)
  else if c.kind = 2 then
    let k := c.part / 128
    let j := c.part % 128
    let copying := b.on (R.M.COPY_STATUS.ACTIVE k) && b.rd (R.M.COPY_STATUS.KIND k) == 0 && b.rd (R.M.COPY_STATUS.SRC k) == j
    let tgt := if c.replacement ≠ 0xFFFF then c.replacement % 128 else if copying then b.rd (R.M.COPY_STATUS.DST k) else 0xFF
    let slot := ((b.slotOf k j).orElse (fun _ => b.slotOf k tgt)).getD 0
    overlay z 0 (leBytes 2 c.part ++ leBytes 1 slot ++ leBytes 1 k ++ leBytes 2 (b.rd (R.M.SC.FAILED_LINES k j)) ++ leBytes 1 (if n ≤ 3 then n else 0)
      ++ leBytes 1 tgt ++ leBytes 4 (SMap.getD (b.memi k).syndromes j 0))
  else if c.kind = 3 then
    let k := c.part / 8
    let j := c.part % 8
    overlay z 0 (leBytes 1 c.part ++ leBytes 1 (b.linkState c.part) ++ leBytes 1 (b.rd (R.L.LINK_STATUS.CAUSE k j)) ++ [0]
      ++ leBytes 4 (b.rd (R.L.LINK_PEER.PLACE k j)) ++ leBytes 8 (b.rd (R.L.LINK_CNT.COUNT k j 0))
      ++ leBytes 8 (b.rd (R.L.LINK_CNT.COUNT k j 3)))
  else z

/-- The actions byte 69. -/
def Capture.actionBits (c : Capture) : Nat :=
  c.rep.level + 8 * b2n c.repeatRun + 16 * b2n c.transient + 32 * b2n c.permanent + 64 * b2n c.retired + 128 * b2n c.voided

/-- Free memory spares of byte 119. -/
def Body.fsrSpares (b : Body) (c : Capture) : Nat :=
  if c.kind = 2 then b.rd (R.M.STATUS.SPARES_FREE (c.part / 128))
  else if c.kind = 5 ∧ 16 ≤ c.part ∧ c.part < 24 then b.rd (R.M.STATUS.SPARES_FREE (c.part - 16))
  else 0xFF

/-- The 256 bytes of a record (R332); a follow-up keeps the tile's detail as first emitted. -/
def Body.fsrBytes (b : Body) (c : Capture) (seq : Nat) (followUp : Bool) : Bytes :=
  let r := c.rep
  let im := if b.jobRuns then b.job.active else none
  let score := match wearPart c.kind c.part with
    | some p => b.rd (R.CT.WEAR.SCORE p)
    | none => 0
  let detail := match c.emitted with
    | some (_, bs) =>
      if followUp ∧ c.kind = 1 ∧ r.source % 64 ≤ 2 then
        overlay (slice bs 128 64) 37 (leBytes 1 c.siding ++ leBytes 1 c.diagnosis ++ leBytes 1 c.progRepeat)
      else b.fsrDetail c
    | none => b.fsrDetail c
  let body := leBytes 4 0x46535231 ++ leBytes 2 0x0100 ++ leBytes 2 256 ++ leBytes 4 b.place ++ leBytes 2 0xF107 ++ [0xB0, 0]
    ++ slice (keyDigest b.sec.flash.identity) 0 16 ++ leBytes 8 seq ++ leBytes 12 r.stamp ++ leBytes 12 (b.stamp 0 iMG)
    ++ leBytes 2 r.source ++ leBytes 2 (eventOfSource r.source) ++ leBytes 1 r.level ++ leBytes 1 c.actionBits
    ++ leBytes 1 (classOfSource r.source) ++ leBytes 1 r.reqType ++ leBytes 1 r.access ++ leBytes 1 c.kind ++ leBytes 2 c.part
    ++ leBytes 4 (b.rd R.CT.MERGE.COUNT) ++ leBytes 2 (b.rd R.CT.MERGE.CLASSES) ++ leBytes 1 (b2n followUp) ++ [0]
    ++ leBytes 8 r.addr ++ leBytes 2 r.master ++ zeros 2 ++ leBytes 8 r.period ++ leBytes 4 (b.rd R.TM.SERIAL.ACTIVE)
    ++ leBytes 2 ((im.map (·.tag)).getD 0) ++ leBytes 2 ((im.map (·.epoch)).getD 0) ++ leBytes 4 (b.rd R.MG.DSP_EPOCHS.MAP_EPOCH)
    ++ leBytes 2 c.replacement ++ leBytes 1 (b.rd R.CT.STATUS.SIDINGS_FREE) ++ leBytes 1 (b.fsrSpares c) ++ leBytes 4 score
    ++ zeros 4 ++ detail ++ zeros 60
  let head := slice body 0 252
  head ++ leBytes 4 (crc32 head)

/-! ## The record as a CPER (R334, R438) -/

/-- Days since 1970-01-01 as year, month and day. -/
def civilDate (days : Nat) : Nat × Nat × Nat :=
  let z := days + 719468
  let era := z / 146097
  let doe := z % 146097
  let yoe := (doe - doe / 1460 + doe / 36524 - doe / 146096) / 365
  let doy := doe - (365 * yoe + yoe / 4 - yoe / 100)
  let mp := (5 * doy + 2) / 153
  let m := if mp < 10 then mp + 3 else mp - 9
  (yoe + era * 400 + (if m ≤ 2 then 1 else 0), m, doy - (153 * mp + 2) / 5 + 1)

/-- Two decimal digits as one byte. -/
def bcd (n : Nat) : Byte := BitVec.ofNat 8 (n / 10 % 10 * 16 + n % 10)

/-- The 8 bytes of a CPER timestamp (log 40): seconds, minutes, hours, a precise flag, day, month, year, century. -/
def cperTime (seconds : Nat) : Bytes :=
  let d := civilDate (seconds / 86400)
  let s := seconds % 86400
  [bcd (s % 60), bcd (s / 60 % 60), bcd (s / 3600), 1, bcd d.2.2, bcd d.2.1, bcd (d.1 % 100), bcd (d.1 / 100)]

/-- The GUIDs of R334 with the last two digits given. -/
def exainGuid (x : Byte) : Bytes := [0x10, 0x7F, 0x0E, 0x5C, 0x00, 0x7B, 0x6D, 0x4A, 0x8E, 0x21, 0x0F, 0x10, 0x70, 0x00, 0x01, x]

/-- The error severity of a level (R334) by the code numbers of the record format: 0 recoverable, 1 fatal, 2 corrected,
3 informational. -/
def cperSeverity (level : Nat) (transient : Bool) : Nat :=
  if level = 0 then 3 else if level = 1 then 2 else if level = 2 then (if transient then 2 else 0) else if level < 6 then 0 else 1

/-- The FRU text of R334 in its 20 bytes: EXF7-M1536. -/
def fruText : Bytes := [0x45, 0x58, 0x46, 0x37, 0x2D, 0x4D, 0x31, 0x35, 0x33, 0x36] ++ zeros 10

/-- The 512 bytes of a slot: record header, one section descriptor, the section, zero fill (R438). -/
def Body.cperSlot (b : Body) (c : Capture) (seq : Nat) (fsr : Bytes) : Bytes :=
  let sev := cperSeverity c.rep.level c.transient
  let header := [0x43, 0x50, 0x45, 0x52] ++ leBytes 2 0x0101 ++ leBytes 4 0xFFFFFFFF ++ leBytes 2 1 ++ leBytes 4 sev ++ leBytes 4 2
    ++ leBytes 4 456 ++ cperTime (b.ns 1 / 10 ^ 9) ++ zeros 48 ++ exainGuid 0x02 ++ leBytes 8 seq ++ zeros 24
  let section_ := leBytes 4 200 ++ leBytes 4 256 ++ leBytes 2 0x0101 ++ [2, 0] ++ leBytes 4 1 ++ exainGuid 0x01 ++ zeros 16
    ++ leBytes 4 sev ++ fruText
  slice (header ++ section_ ++ fsr) 0 512

/-- HI writes the record into the host's ring, or counts it dropped (R438). -/
def Body.cperWrite (b : Body) (c : Capture) (seq : Nat) (fsr : Bytes) : Body :=
  let size := b.rd R.HI.CPER_CTRL.SIZE
  let w := b.rd R.HI.CPER_WR.VALUE
  let r := b.rd R.HI.CPER_RD.VALUE
  if size = 0 || !b.inService iHI then b
  else if size ≤ (w + 2 ^ 32 - r) % 2 ^ 32 then b.sat R.HI.CPER_DROPPED.VALUE 1
  else
    ((b.emit (.hostWrite (b.rd R.HI.CPER_BASE.ADDR * 512 + w % size * 512) (b.cperSlot c seq fsr))).wr R.HI.CPER_WR.VALUE
      (w + 1)).irq 2

/-- Records that await their acknowledgement. -/
def Body.showBacklog (b : Body) : Body := b.wr R.MG.PORT_BACKLOG.OUTSTANDING (min b.cont.fsrs.length 127)

/-- A record is emitted: sent to the collector, written to the dump harbour's ring and delivered to the host. -/
def Body.emitFsr (b : Body) (c : Capture) (followUp : Bool) : Body :=
  let seq := match c.emitted with
    | some (s, _) => if followUp then s else b.rd R.CT.FSR_SEQ.SEQ + 1
    | none => b.rd R.CT.FSR_SEQ.SEQ + 1
  let bs := b.fsrBytes c seq followUp
  let b1 := (if followUp then b else (b.seen R.CT.FSR_SEQ.SEQ).wr R.CT.FSR_SEQ.SEQ seq).sendMgmt 0x01 bs
  let slot := b1.rd R.DB.FSR_WR.COUNT % 4096
  let b2 := if b1.inService iDB then
      (b1.when b1.harbourUp (fun t => t.storeBytes (t.rd R.DB.DUMP_BASE.ADDR * 2 ^ 28 + 0x100000 + 256 * slot) bs (iMG * 64) 7)).seen
        R.DB.FSR_WR.COUNT |>.add R.DB.FSR_WR.COUNT 1
    else b1
  let b2 := b2.sampled iMG
  let old := b2.cont.fsrs.filter (fun f => f.seq != seq)
  let b3 := ({ b2 with cont := { b2.cont with fsrs := old ++ [⟨seq, bs, b2.ns 2⟩] } } : Body).showBacklog
  let b4 := b3.cperWrite c seq bs
  if 64 ≤ b4.cont.fsrs.length then b4.raiseN iMG 4 else b4

/-- The captured occurrence's period had a cause of R41 (byte 69 [7]). -/
def Body.captureVoided (b : Body) (c : Capture) : Bool :=
  c.rep.inJob && (c.voided || b.job.faulted.contains c.rep.period
    || (match b.job.closing with | some x => x.period == c.rep.period && x.causes != 0 | none => false))

/-- `FSR_EMIT` (R332): the follow-up of an outcome that arrived late, or the record of the held capture, once its outcome is
known or 10 ms after it. -/
def fsrEmit (b : Body) : Body :=
  if !b.inService iMG || !b.inService iCT then b
  else
    let mark (c : Capture) : Capture := { c with voided := b.captureVoided c }
    match b.cont.past.find? (·.late) with
    | some c0 =>
      let b1 := b.emitFsr (mark c0) true
      { b1 with cont := { b1.cont with past := b1.cont.past.erase c0 } }
    | none =>
      match b.cont.cap with
      | none => b
      | some c0 =>
        let b0 := if c0.emitted.isNone && c0.open_ then b.toPod (c0.rep.at_ + 10 ^ 7) else b
        let c := mark c0
        if c.emitted.isSome && !c.late then b
        else
          let follow := c.emitted.isSome
          let b1 := b0.emitFsr c follow
          let rec_ := b1.cont.fsrs.getLast?.map (fun f => (f.seq, f.bytes))
          { b1 with cont := { b1.cont with cap := some { c with emitted := rec_, late := false } } }

/-- `FSR_ACKNOWLEDGEMENT` (R441): the collector acknowledges a record sequence. -/
def fsrAcknowledgement (seq : Nat) (b : Body) : Body :=
  if !b.inService iMG then b
  else
    let b1 := b.portFrame
    ({ b1 with cont := { b1.cont with fsrs := b1.cont.fsrs.filter (fun f => f.seq != seq) } } : Body).showBacklog

/-- `FSR_RESEND` (R441): the records last sent 100 ms ago or earlier are sent again; time passes until the oldest is due. -/
def fsrResend (b : Body) : Body :=
  if !b.inService iMG then b
  else
    match (sortNat (b.cont.fsrs.map (·.sentAt))).head? with
    | none => b
    | some t =>
      let b1 := b.toLocal (t + 10 ^ 8)
      let now := b1.ns 2
      let due := b1.cont.fsrs.filter (fun f => decide (f.sentAt + 10 ^ 8 ≤ now))
      let b2 := forEach due (fun f c => (c.sendMgmt 0x01 f.bytes).add (R.MG.PORT_CNT.COUNT 3) 1) b1
      { b2 with cont := { b2.cont with fsrs := b2.cont.fsrs.map (fun f =>
          if f.sentAt + 10 ^ 8 ≤ now then { f with sentAt := now } else f) } }

/-! ## The meanings -/

def execTileRestoreComplete (t : Fin 68) (r : Result) (s : State) := run (tileRestoreComplete t.val r) s
def execRecoveryComplete (t : Fin 68) (r : Result) (s : State) := run (recoveryComplete t.val r) s
def execRecoveryTimeout (t : Fin 68) (s : State) := run (recoveryTimeout t.val) s
def execFaultOccurrence (ext : Option Occurrence) (s : State) := run (faultOccurrence ext) s
def execRelease (m : Master) (s : State) :=
  run (Body.written [iCT] 0x30 (release m)) s
def execSelfFenceWindowExpiry (s : State) := run selfFenceWindowExpiry s
def execDiagnosisComplete (t : Fin 68) (same sidingBad differ : Bool) (s : State) :=
  run (diagnosisComplete t.val same sidingBad differ) s
def execSubstitutionComplete (t : Fin 64) (s : State) := run (substitutionComplete t.val) s
def execSubstitutionTimeout (t : Fin 64) (s : State) := run (substitutionTimeout t.val) s
def execTileMapWrite (m : Master) (t : Fin 64) (phys : BitVec 7) (valid : BitVec 1) (s : State) :=
  run (Body.written [iCT] (0x800 + 4 * t.val) (tileMapWrite m t.val phys.toNat valid.toNat)) s
def execWearUpdate (s : State) := run wearUpdate s
def execFsrEmit (s : State) := run fsrEmit s
def execFsrAcknowledgement (seq : BitVec 64) (s : State) := run (fsrAcknowledgement seq.toNat) s
def execFsrResend (s : State) := run fsrResend s

end Sys2Proof.Machine
end

