-- ==== Sys2Proof/Machine/Departure.lean ====
section
/-! DEFINITION. The departure (spec/02_timetable.md R34 to R37, R41, R43, R49 to R53, R57, R59, R65 to R68;
spec/05_spaovoto_model.md R118, R119, R128, R132, R467): the period that ends is frozen, the sequence moves on, and every island
in service acts on the new period. -/

namespace Sys2Proof.Machine

/-! ## The sequence (R57) -/

/-- The type at an index of the image's sequence. -/
def Image.typeAt (im : Image) (i : Nat) : Nat := (im.seq[i]?).getD 0

/-- The type's entry in the table. -/
def Image.ptypeAt (im : Image) (i : Nat) : Option PType := im.types[im.typeAt i]?

/-- The type's flags (R56). -/
def Image.flagsAt (im : Image) (i : Nat) : Nat := ((im.ptypeAt i).map (·.flags)).getD 0

/-- The first index whose type is flagged step start. -/
def Image.firstStep (im : Image) : Nat := (lowest im.seq.length (fun i => bit (im.flagsAt i) 0)).getD 0

/-! ## The tiles of the period that ends (R36, R132, R467) -/

/-- The output of logical tile `t` for the ending period is void (R41). -/
def Body.markLate (b : Body) (t : Nat) : Body := { b with job := { b.job with lateMask := b.job.lateMask ||| 2 ^ t } }

/-- Tile nn, in service, has not arrived: its bundles and results in flight are abandoned, an operation of the array reporting the
chunks it has completed (R106), and it takes the late path. -/
def Body.lateTile (b : Body) (n t nn : Nat) : Body :=
  let b1 := ((b.markLate t).discardFlight nn).onTile nn (fun u =>
    { u with restore := if u.entryDue then u.restore else some n, resumedNext := true })
  (((b1.wr (R.T.LAST_ARRIVE.LATE nn) 1).sat (R.T.LATE_COUNT.COUNT nn) 1).raiseT nn 10 0 0 false).acc
    (fun a => { a with late := a.late + 1 })

/-- What became of logical tile `t` on tile `nn` in the period n that ends (R36, R467): what a tile that is late had due before the
departure is written, and only what is in flight is lost (R112, R122). -/
def Body.endTile (b : Body) (n t nn : Nat) : Body :=
  let x := b.tile nn
  if b.on (R.CT.TILE_MAP.SUBSTITUTING t) then b.markLate t
  else if !b.inService (iT nn) then (if x.wasReset && x.began == some n then b.markLate t else b)
  else if x.began ≠ some n then
    b.onTile nn (fun u => { u with restore := u.lastEntry, resumedNext := true })
  else
    let idle := (b.entryOffset t).isNone
    let arrived := idle || (b.tileState nn == 2 && x.entered)
    let late := x.wasReset || x.recovering || b.tileState nn == 5 || bit b.job.lateMask t || !arrived
    let u := max x.cycle b.cycleNow
    let b1 := (if late && x.entered then ((b.commitTo nn u).cutWork nn u).abandonMx nn u else b).foldChecks nn
    if x.out || x.restoreFailed then b1.markLate t
    else if late then b1.lateTile n t nn
    else b1.wr (R.T.LAST_ARRIVE.LATE nn) 0

/-- The bound logical tiles with their physical tiles. -/
def Body.boundTiles (b : Body) : List (Nat × Nat) :=
  (List.range 64).filterMap (fun t => (b.physOf t).map (fun nn => (t, nn)))

/-- Every bound tile's part in the period that ends; a late tile sets cause [0]. -/
def Body.endTiles (b : Body) (n : Nat) : Body :=
  let b1 := forEach b.boundTiles (fun x c => c.endTile n x.1 x.2) b
  if b1.job.lateMask ≠ 0 then b1.addCause 0 else b1

/-! ## Planned packets unsent (R48, R59) -/

/-- A planned packet of period `n` or an earlier one. -/
def Waiting.stale (w : Waiting) (n : Nat) : Bool := (w.pkt.cls == 1 || w.pkt.cls == 3) && decide (w.period ≤ n)

/-- One stale packet in transit is dropped. A local write counts as voided once, and not at all when the copy launched with it
on the other rail has left. -/
def Body.dropStale (b : Body) (k : Nat) (w : Waiting) (paired : Bool) : Body :=
  let b1 := b.setTransit k ((b.jn k).transit.erase w)
  if w.arrived.isSome then b1.cons k 3 1
  else
    let b2 := b1.addCause 6
    if b2.twinWaits w then b2
    else
      (if w.twin && !paired then b2 else b2.cons k 3 1).settleXfer w.xfer

/-- Planned packets of period `n` that are still unsent are dropped and counted as voided. -/
def Body.dropUnsent (b : Body) (n : Nat) : Body :=
  forEach (List.range 4) (fun k c =>
    let mine := (c.jn k).local_.filter (·.stale n)
    let c1 := c.setJn k { c.jn k with local_ := (c.jn k).local_.filter (fun w => !w.stale n) }
    let c2 := forEach mine (fun w d => ((d.addCause 6).cons k 3 1).settleXfer w.xfer) c1
    let sent := (c2.jn k).transit.filter (·.stale n)
    let pairs := sent.filter (fun w => decide (2 ≤ (sent.filter (fun x =>
      x.arrived.isNone && w.arrived.isNone && x.pkt.seq == w.pkt.seq && x.pkt.dest == w.pkt.dest && x.pkt.cls == w.pkt.cls)).length))
    forEach sent (fun w d => d.dropStale k w (pairs.contains w)) c2) b

/-! ## What the seal needs (R41, R42) -/

/-- Tokens held at the departure, over the entries in state active or draining. -/
def Body.tokensHeld (b : Body) : Nat :=
  (List.range 64).foldl (fun s e =>
    let st := b.rd (R.J.SLICE.STATE b.jRep e)
    if st = 1 ∨ st = 2 then s + b.held e else s) 0

/-- The consumers of this module's period of type `pt`. -/
def Body.sealConsumers (b : Body) (im : Image) (pt : Nat) : List Nat :=
  sortNat (distinct ((im.edges.filter (fun e => e.producer == b.place && e.covers pt)).map (·.consumer)))

/-- The period `n` of type `p` is closed for its seal at `t0`; its cursor advances at once under policy 0, else with a good
verdict (R49). -/
def Body.openClosing (b : Body) (im : Image) (p : PType) (n t0 : Nat) : Body :=
  let j := b.job
  let advance := if p.cursor < 16 ∧ p.policy ≠ 0 then some (p.cursor, p.stride) else none
  let c : Closing :=
    { period := n, t0 := t0, causes := j.causes, laneMask := j.laneMask, plausMask := j.plausMask, lateMask := j.lateMask,
      tokens := b.tokensHeld, counts := [], closed := false, ctClosed := !b.inService iCT, sent := false,
      stepPeriod := j.inStep && p.policy == 2, consumers := b.sealConsumers im (b.rd R.TM.DEPART_SEQ.PTYPE), tag := im.tag,
      epoch := im.epoch, advance := advance }
  let b1 : Body := { b with job := { j with closing := some c } }
  if p.cursor < 16 ∧ p.policy = 0 then b1.add (R.TM.CURSOR.POS p.cursor) p.stride else b1

/-! ## The verdict period ends (R53) -/

/-- A good combined verdict: the step number moves and the replay ends. -/
def Body.commitStep (b : Body) : Body :=
  let b1 := (b.add R.TM.STEP_NUMBER.STEP 1).wr R.TM.TT_STATUS.REPLAYING 0
  { b1 with job := { b1.job with replays := 0 } }

/-- A void combined verdict (R53): cursors and streams go back to the anchor. -/
def Body.restoreAnchor (b : Body) : Body :=
  let cursors := (b.job.anchor.map (·.2)).getD ((List.range 16).map (fun i => b.rd (R.TM.CURSOR.POS i)))
  let b1 := forEach (List.range 16) (fun i c => c.wr (R.TM.CURSOR.POS i) ((cursors[i]?).getD 0)) b
  let b2 := forEach (List.range 68) (fun nn c => if c.inService (iT nn) then c.onTile nn (fun u => { u with anchorOp := 2 }) else c) b1
  { b2 with job := { b2.job with closing := b2.job.closing.map (fun c => { c with advance := none }) } }

/-- The replay that follows is counted against the limit. At the departure of a switch no replay follows (R68; DEDUCED, log
86). -/
def Body.rewindStep (b : Body) (im : Image) : Body :=
  let b2 := b.restoreAnchor
  let b3 := ((b2.sat R.TM.VOID_COUNTS.REPLAYS 1).wr R.TM.TT_STATUS.REPLAYING 1).acc (fun a => { a with replays := a.replays + 1 })
  let b4 : Body := { b3 with job := { b3.job with replays := b3.job.replays + 1 } }
  if im.replayLimit < b4.job.replays then b4.raiseN iCT 0 else b4

/-- A module without a combined verdict takes it as void (R52). -/
def Body.verdictGood (b : Body) : Bool := b.job.combined == some true

/-- The sequence index after the period that ends: the step start after a void verdict, else the next in turn (R57). -/
def Body.nextIndex (b : Body) (im : Image) : Nat :=
  if b.ptypeFlag 2 && !b.verdictGood then (b.job.anchor.map (·.1)).getD im.firstStep
  else (b.rd R.TM.DEPART_SEQ.INDEX + 1) % max im.seq.length 1

/-! ## The switch to a staged image (R65, R67, R68) -/

/-- The switch falls on period `n`. -/
def Body.switchesAt (b : Body) (n : Nat) : Bool :=
  b.job.staged.isSome && b.on R.TM.TT_STATUS.STAGED && b.on R.TM.TT_STATUS.ANNOUNCED && b.rd R.TM.ANNOUNCED_PERIOD.N == n

/-- The staged image becomes the running one; anchors and the replay count are cleared, and the periods of the old image belong
to no step of the new one (R51, R68). -/
def Body.switchImage (b : Body) (im : Image) : Body :=
  let b1 := b.setBanks b.freeBank im.wide
  let b2 : Body := { b1 with job := { b1.job with
    active := some im, anchor := none, replays := 0, inStep := false,
    closing := b1.job.closing.map (fun c => { c with stepPeriod := false }),
    awaited := b1.job.awaited.map (fun a => { a with stepPeriod := false }) } }
  ((((b2.dropStaged).wr R.TM.SERIAL.ACTIVE im.serial).wr R.TM.SEAL_WINDOW.WINDOW im.window).wr R.TM.TT_STATUS.REPLAYING 0).syncWatched

/-! ## Missed departures (R25) -/

/-- The islands that are closed at a departure miss it. -/
def Body.missedNow (b : Body) : List Nat := islands.filter (fun i => !b.inService i)

/-- Of these, the ones whose outputs for the period are void: a tile that is bound to no logical tile has none (DEDUCED, log 63). -/
def Body.missedOutputs (b : Body) : List Nat := b.missedNow.filter (fun i => decide (i < 32) || (b.logicalOf (i - 32)).isSome)

/-- The misses are recorded: TM's source 3 for each. -/
def Body.missDeparture (b : Body) : Body :=
  forEach b.missedNow (fun _ c => c.raiseN iTM 3)
    { b with sb := { b.sb with missed := b.missedNow.foldl (fun m i => m ||| 2 ^ i) 0 } }

/-! ## The job ends (`TM.STOP`, R304, R330) -/

/-- What a departure clears in the matrix check registers of a tile in service. -/
def Body.clearChecks (b : Body) (nn : Nat) : Body :=
  if !b.inService (iT nn) then b
  else
    let b1 := (((b.wr (R.T.MX_STATUS.MISMATCH nn) 0).wr (R.T.MX_STATUS.ACC_MISMATCH nn) 0).wr (R.T.MX_STATUS.PLAUS_FAIL nn) 0).wr
      (R.T.MX_STATUS.SPECIAL nn) 0
    forEach (List.range 4) (fun i c => c.setReg (R.T.MX_SV.FLAG nn i).key 0) (b1.setReg (R.T.MX_PLAUS_FIRST.OP nn).key 0)

/-- The departure at which the job ends: the seal of its last period still leaves, unless the module was expelled (R330), the
tiles idle, the streams go back to their anchors where the combined verdict was void (R128), a closed island misses the departure
(R25), the links act on it, an unfinished snapshot fails (R342), an expelled module stops, and the chief begins the teardown of its slice
(R304), or where an epoch advance waited for this end makes that instead, before the restart (R305; DEDUCED, log 125). The chief learns of a job's end from its own module only (DESIGN CHOICE, log 106). -/
def Body.endJob (b : Body) (n : Nat) (first own : Bool) : Body :=
  let tag := b.jobTag
  let epoch := (b.job.active.map (·.epoch)).getD 0
  let b0 := b.when (!first) (fun c => (c.diagnoseAll n))
  let b1 := (if b0.cont.expelNext then b0.onClosing (fun c => { c with sent := true }) else b0)
  let b1 := forEach (List.range 68) (fun nn c => ((c.clearChecks nn).onTile nn (fun u => { u with unsettled := [] })).when
    (c.inService (iT nn)) (fun c => c.settleStreams nn)) b1.missDeparture
  let b2 := { b1.jobEnded with cont := { b1.jobEnded.cont with expelNext := false } }
  let b2 := b2.linksDepart.snapDepart
  let b3 := if b2.on R.CT.STATUS.EXPELLED then b2.drainAll else b2
  let b4 := if own && b3.isChief && !b3.disp.advances.contains tag
      && b3.disp.slices.any (fun s => s.tag == tag && decide (s.state < 2)) then
      b3.propose (draft 2 tag epoch 0 [])
    else b3
  if !b4.isChief then b4 else forEach b4.disp.advances (fun t c => c.advanceEpoch t) b4

/-! ## The new period -/

/-- Tile nn enters the new period: its checks of the old one are cleared, and restore, entry registers and capture are owed
(R122). -/
def Body.beginTile (b : Body) (n' t nn : Nat) : Body :=
  if b.on (R.CT.TILE_MAP.SUBSTITUTING t) || !b.inService (iT nn) then b
  else
    let x := b.tile nn
    if x.out || x.restoreFailed then b.onTile nn (fun u => { u with began := some n', unsettled := [] })
    else
      let b1 := b.onTile nn (fun u =>
        { u with entryDue := true, capturing := true, entered := false, began := some n', unsettled := [], recovering := false,
                 wasReset := u.wasReset && u.restore.isSome })
      b1.setTileState nn (if (b1.entryOffset t).isNone then 2 else 1)

/-- A step start: the anchor is set on a step that is not a replay, and the step verdict begins good (R51, R53, R128). -/
def Body.beginStep (b : Body) (index : Nat) : Body :=
  let b1 : Body := { b with job := { b.job with stepVoid := false } }
  if b1.on R.TM.TT_STATUS.REPLAYING then b1
  else
    let b2 : Body := { b1 with job := { b1.job with
      anchor := some (index, (List.range 16).map (fun i => b1.rd (R.TM.CURSOR.POS i))) } }
    forEach (List.range 68) (fun nn c =>
      if c.inService (iT nn) then c.onTile nn (fun u => { u with anchorOp := if u.anchorOp = 2 then 3 else 1 }) else c) b2


/-- The registers and the job's record of the period that begins. -/
def Body.openPeriod (b : Body) (im : Image) (n' index t0 : Nat) (inStep : Bool) : Body :=
  let late := (b.boundTiles.filter (fun x => b.on (R.CT.TILE_MAP.SUBSTITUTING x.1))).foldl (fun m x => m ||| 2 ^ x.1) 0
  let b1 := ((b.wr R.TM.DEPART_PERIOD.PERIOD n').wr R.TM.DEPART_SEQ.INDEX index).wr R.TM.DEPART_SEQ.PTYPE (im.typeAt index)
  let len := ((im.ptypeAt index).map (·.length)).getD 0
  let b2 : Body := { b1 with
    job := { b1.job with
      departed := true, departAt := t0, nextAt := t0 + 10 * len, inStep := inStep,
      causes := if b.missedOutputs.isEmpty then 0 else 16, laneMask := 0, plausMask := 0, lateMask := late,
      history := (b1.job.history.filter (fun h => decide (n' < h.1 + 8))) ++ [(n', t0)],
      faulted := b1.job.faulted.filter (fun f => decide (n' ≤ f + 1)) } }
  let b3 := b2.missDeparture
  let b4 := forEach (List.range 4) (fun k c => c.setJn k { c.jn k with slot := 0 }) b3
  let b5 := b4.acc (fun a => { a with periods := a.periods + 1, first := some (a.first.getD n') })
  let b6 := if bit (im.flagsAt index) 0 then b5.beginStep index else b5
  if bit (im.flagsAt index) 2 then
    { b6 with job := { b6.job with combined := none, children := [], verdictSent := false } }
  else b6

/-- Firmware switches and a calibration reload that wait for this departure (R425, R428). -/
def Body.departSwitches (b : Body) (n' : Nat) : Body :=
  let b1 := b.applySwitch (fun n => decide (n ≤ n'))
  if b1.sb.calPending then b1.calApply else b1

/-- The islands act on the new period. -/
def Body.beginPeriod (b : Body) (n' : Nat) : Body :=
  let b1 := forEach (List.range 68) (fun nn c => c.clearChecks nn) b
  let b2 := forEach b1.boundTiles (fun x c => c.beginTile n' x.1 x.2) b1
  (b2.departSwitches n').linksDepart.snapDepart

/-! ## The command -/

/-- What is due before the departure: the last seal and the resolutions whose instants have passed, and what the capture's
period came to (R333). -/
def Body.finishPrevious (b : Body) : Body :=
  let b1 := (sealSend b).resolveDue
  match b1.cont.cap with
  | some c => { b1 with cont := { b1.cont with cap := some { c with voided := b1.captureVoided c } } }
  | none => b1

/-- The period n of the running image ends at `t0`: tiles, packets, the seal's record, UE's list and the verdict.  R68 does not say
what a void verdict does whose departure is the image switch: the model restores cursors and streams to the step's anchor and counts
no replay (DESIGN CHOICE, log 86). -/
def Body.endPeriod (b : Body) (im : Image) (n t0 : Nat) (sw : Bool) : Body :=
  let b1 := ((b.endTiles n).dropUnsent n)
  let b2 := match b1.ptype with
    | some p => b1.openClosing im p n t0
    | none => b1
  let b3 := b2.ueDepart
  if b3.ptypeFlag 2 then
    (if b3.verdictGood then b3.commitStep else if sw then b3.restoreAnchor else b3.rewindStep im)
  else b3

/-- `DEPARTURE` (R25, R36, R57): pod time reaches the departure of the next period, or of period 0 at the origin. -/
def departure (b : Body) : Body :=
  if !b.jobRuns then b
  else
    match b.job.active with
    | none => b
    | some im =>
      let first := !b.job.departed
      let b0 := b.finishPrevious
      let t0 := b0.job.nextAt
      let b1 := b0.toPod t0
      let n := b1.period
      let n' := if first then 0 else n + 1
      let pt := b1.rd R.TM.DEPART_SEQ.PTYPE
      let oldFlags := if first then 0 else im.flagsAt (b1.rd R.TM.DEPART_SEQ.INDEX)
      let stepPeriod := b1.job.inStep && (match b1.ptype with | some p => p.policy == 2 | none => false)
      let next := if first then 0 else b1.nextIndex im
      let sw := b1.switchesAt n'
      let b2 := if first then b1 else b1.endPeriod im n t0 sw
      if b2.job.stopping || b2.cont.expelNext then b2.endJob n first b2.job.stopping
      else
        let im' := if sw then (b2.job.staged.getD im) else im
        let b3 := if sw then b2.switchImage im' else b2
        let index := if sw then 0 else next
        let inStep := bit (im'.flagsAt index) 0 || (b3.job.inStep && !bit oldFlags 1)
        let b4 := b3.openPeriod im' n' index t0 inStep
        let b5 := if first then b4 else
          let g := if b4.inService iCT then (b4.openGates im n pt (stepPeriod && !sw)).applyHeld n else b4
          g.diagnoseAll n
        b5.beginPeriod n'

/-! ## The meaning -/

def execDeparture (s : State) := run departure s

end Sys2Proof.Machine
end

