-- ==== Sys2Proof/Machine/HostIf.lean ====
section
/-! DEFINITION. The host's side and the management port (spec/18_host_security.md R433 to R439; spec/13_continuity.md R325;
spec/12_dispatcher.md R312): module readiness, the aperture, the two links, and what MG answers on its port. -/

namespace Sys2Proof.Machine

/-! ## Readiness (R436) -/

/-- A retirement that the event log holds and CT has forgotten is applied to the map again (R325). -/
def Body.reapply (b : Body) (d : Bytes) : Body :=
  let nn := le d 0 1
  let t := le d 1 1
  let new := le d 2 1
  if b.retired nn || decide (68 ≤ nn) then b
  else
    let b1 := (b.seen R.CT.TILE_RETIRED.RETIRED).wr R.CT.TILE_RETIRED.RETIRED (b.rd R.CT.TILE_RETIRED.RETIRED ||| 2 ^ nn)
    let b2 := if t < 64 ∧ new < 68 then (b1.seen (R.CT.TILE_MAP.PHYS t)).wr (R.CT.TILE_MAP.PHYS t) new else b1
    let b3 := (b2.refreshMap.mirrorTile nn)
    if t < 64 ∧ new < 68 then ((b3.setTileState new 0).mirrorBank new).mirrorTile new else b3

/-- MG re-applies the recorded retirements, the oldest first. -/
def Body.reapplyRetirements (b : Body) : Body :=
  forEach (b.obs.evLog.reverse.filter (fun e => e.2.code == 0xA442)) (fun e c => c.reapply e.2.detail) b

/-- Every island is in service, the boot chain is verified with a usable configuration block, and every memory island is
ready. -/
def Body.mayBeReady (b : Body) : Bool :=
  islands.all b.inService && b.rd R.SC.STATUS.BOOT == 2 && b.rd R.SC.STATUS.CONFIG != 0 && !b.on R.HI.STATUS.BOOT_FAILED
    && (List.range 8).all (fun k => b.rd (R.M.STATUS.STATE k) == 2) && !b.sb.perst && (b.sb.phase == 3 || b.sb.phase == 7)
    && !b.on R.HI.STATUS.READY

/-- `READINESS` (R436): `HI.STATUS.READY` and vector 0; MG has re-applied the retirements, and pulls the map and the ledger
(R312). -/
def readiness (b : Body) : Body :=
  if !b.mayBeReady then b
  else
    let b1 := b.reapplyRetirements
    let b2 := ((b1.wr R.HI.STATUS.READY 1).wr R.SB.STATUS.READY 1).irq 0
    let b3 := ({ b2 with sb := { b2.sb with module := none, phase := 3 } } : Body).showLadder
    (b3.pull none).pull (some (b3.committed + 1))

/-! ## The aperture (R433, R434) -/

/-- The local address of an offset of BAR2. -/
def Body.bar2 (b : Body) (off : Nat) : Nat := b.rd R.HI.APERTURE.BASE * 2 ^ 30 + off

/-- What the function's Advanced Error Reporting holds, with an error logged (R430). -/
def Body.aer (b : Body) (uncorrectable : Bool) (n : Nat) : Body :=
  let p := b.hi.pci
  { b with hi := { b.hi with pci :=
      if uncorrectable then { p with aerUncorrectable := p.aerUncorrectable ||| 2 ^ n }
      else { p with aerCorrectable := p.aerCorrectable ||| 2 ^ n } } }

/-- The place of Unsupported Request among the uncorrectable errors (PRESUMED: the base specification's bit, log 119). -/
def unsupportedRequest : Nat := 20

/-- A request that LPDDR does not hold: Unsupported Request, and a configuration event. -/
def Body.bar2Refused (b : Body) (off : Nat) : Body := b.cfgEvent .host iHI (off % 2 ^ 32) (b.bar2 off) 0

/-- HI reaches a range of LPDDR: through J0 or J2, to which its straits lead (R23). -/
def Body.bar2Reach (b : Body) (a n : Nat) : Bool := b.crosses iHI a n

/-- A read of `n` bytes of LPDDR completes, poisoned where a unit is lost.  What a read that a closed island refuses completes
with is not stated: data and poisoning are free values (log 3). -/
def Body.hostRead (b : Body) (a n : Nat) : Body :=
  if !b.bar2Reach a n then
    ({ b with free := b.free + 2 } : Body).emit (.completion (leBytes n (Config.freeValue (8 * n) b.free).toNat)
      (Config.freeValue 1 (b.free + 1) == 1) false)
  else if b.anyLost a n then
    ((b.activateRange a n).lostAccess a n (iHI * 64) 6 1).emit (.completion (List.replicate n 0xFF) true false)
  else (b.activateRange a n).emit (.completion (b.bytes a n) false false)

/-- A write of the aperture reaches LPDDR, where nothing on its way is closed; a half whose manifest it touches shows its mark. -/
def Body.hostWrite (b : Body) (a : Nat) (data : Bytes) : Body :=
  if !b.bar2Reach a data.length then b else (b.writeUnits a data (iHI * 64) 6).showHalves a data.length

/-- A host request is made, or waits behind those before it and for its sub-channels (R221, R233). -/
def Body.hostRequest (b : Body) (r : HostReq) : Body :=
  if !b.hi.waiting.isEmpty || (b.bar2Reach r.addr r.n && b.memWaits r.addr r.n) then
    { b with hi := { b.hi with waiting := b.hi.waiting ++ [r] } }
  else
    match r.data with
    | none => b.hostRead r.addr r.n
    | some d => b.hostWrite r.addr d

/-- The host requests that waited are made in their order, as far as their sub-channels are ready. -/
def Body.serveHost (b : Body) : Body :=
  forEach b.hi.waiting (fun r t => t.hostRequest r) { b with hi := { b.hi with waiting := [] } }

/-- Every request that waited for a sub-channel is made, if that is ready now. -/
def Body.serveWaiting (b : Body) : Body := b.serveHost.serveSources.serveSends

/-- `BAR2_READ` (R434): `n` bytes of LPDDR; outside it Unsupported Request. -/
def bar2Read (off n : Nat) (b : Body) : Body :=
  let a := b.bar2 off
  if !b.inService iHI then b
  else if lpddrEnd ≤ a ∨ lpddrEnd < a + n then (b.bar2Refused off).emit (.completion [] false true)
  else b.hostRequest { addr := a, n := n, data := none }

/-- `BAR2_WRITE` (R434): the bytes go to LPDDR and count on no counter; outside it the write is dropped and
logged as Unsupported Request. -/
def bar2Write (off : Nat) (data : Bytes) (b : Body) : Body :=
  let a := b.bar2 off
  if !b.inService iHI then b
  else if lpddrEnd ≤ a ∨ lpddrEnd < a + data.length then (b.bar2Refused off).aer true unsupportedRequest
  else b.hostRequest { addr := a, n := data.length, data := some data }

/-! ## The PCI Express link (R432, R437) -/

/-- `PCI_EXPRESS_LINK_UP`: the negotiated width, rate and mode show. -/
def pciExpressLinkUp (lanes speed : Nat) (flit : Bool) (b : Body) : Body :=
  let b1 : Body := { b with hi := { b.hi with linkUp := true } }
  ((b1.wr R.HI.STATUS.WIDTH lanes).wr R.HI.STATUS.SPEED speed).wr R.HI.STATUS.FLIT (b2n flit)

/-- `PCI_EXPRESS_ERROR` (R314, R430): HI source 0, or 1 for an uncorrectable error, logged by Advanced Error Reporting.  The command
does not say which error it is: its place there is free (log 119). -/
def pciExpressError (uncorrectable : Bool) (b : Body) : Body :=
  ((b.takeFree).aer uncorrectable (Config.freeValue 5 b.free).toNat).raiseN iHI (b2n uncorrectable)

/-! ## The management port (R439) -/

/-- `MANAGEMENT_PORT_LINK_DOWN`: MG source 1. -/
def managementPortLinkDown (b : Body) : Body :=
  if !b.inService iMG || !b.on R.MG.PORT_STATUS.LINK then b
  else ((b.wr R.MG.PORT_STATUS.LINK 0).wr R.MG.PORT_STATUS.FEC 0).raiseN iMG 1

/-- `MANAGEMENT_PORT_LINK_UP`: after auto-negotiation, with FEC where the partner requested it. -/
def managementPortLinkUp (fec : Bool) (b : Body) : Body :=
  if !b.inService iMG then b else (b.wr R.MG.PORT_STATUS.LINK 1).wr R.MG.PORT_STATUS.FEC (b2n fec)

/-- A frame arrives; where it is for the port's own address, MG's answer leaves. -/
def Body.portAnswer (b : Body) (target : Nat) (kind : String) (body : Bytes) : Body :=
  if !b.inService iMG || !b.on R.MG.PORT_STATUS.LINK then b
  else
    let b1 := b.portFrame
    if !b1.on R.MG.PORT_STATUS.CONFIGURED || target != b1.rd R.MG.PORT_IPV4.ADDR then b1
    else (b1.add (R.MG.PORT_CNT.COUNT 0) 1).emit (.port kind body)

/-- `ARP_REQUEST`: the answer names the port's MAC and IPv4 address to who asked. -/
def arpRequest (target senderMac senderIp : Nat) (b : Body) : Body :=
  b.portAnswer target "ARP" (beBytes 6 (b.rd R.MG.PORT_ADDR.MAC) ++ beBytes 4 (b.rd R.MG.PORT_IPV4.ADDR) ++ beBytes 6 senderMac
    ++ beBytes 4 senderIp)

/-- `ICMP_ECHO_REQUEST`: identifier, sequence and data come back to the sender. -/
def icmpEchoRequest (target sender : Nat) (data : Bytes) (b : Body) : Body :=
  b.portAnswer target "ICMP" (beBytes 4 sender ++ data)

/-! ## The configuration space (R430, R432, R433) -/

/-- The Device Serial Number that the function shows: the serial of the identity certificate. -/
def Body.pciSerial (b : Body) : Nat := b.deviceSerial

/-! ## The meanings -/

def execLineTestComplete (k : Fin 8) (j : Fin 128) (lines : BitVec 12) (ca : Result) (s : State) :=
  run (fun b => (lineTestComplete k.val j.val lines.toNat ca b).serveWaiting) s
def execRecalibrationDone (k : Fin 8) (failed : BitVec 128) (s : State) :=
  run (fun b => (recalibrationDone k.val failed.toNat b).serveWaiting) s
def execFullTrainingComplete (k : Fin 8) (failed : BitVec 128) (s : State) :=
  run (fun b => (fullTrainingComplete k.val failed.toNat b).serveWaiting) s
def execZeroFillComplete (k : Fin 8) (s : State) := run (fun b => (zeroFillComplete k.val b).serveWaiting) s

def execReadiness (s : State) := run readiness s
def execBar2Read (off : BitVec 36) (n : BitVec 13) (s : State) := run (bar2Read off.toNat n.toNat) s
def execBar2Write (off : BitVec 36) (data : Bytes) (s : State) := run (bar2Write off.toNat data) s
def execPciExpressLinkUp (lanes : BitVec 4) (speed : BitVec 3) (flit : Bool) (s : State) :=
  run (pciExpressLinkUp lanes.toNat speed.toNat flit) s
def execPciExpressError (uncorrectable : Bool) (s : State) := run (pciExpressError uncorrectable) s
def execManagementPortLinkDown (s : State) := run managementPortLinkDown s
def execManagementPortLinkUp (fec : Bool) (s : State) := run (managementPortLinkUp fec) s
def execArpRequest (target : BitVec 32) (mac : BitVec 48) (sender : BitVec 32) (s : State) :=
  run (arpRequest target.toNat mac.toNat sender.toNat) s
def execIcmpEchoRequest (target sender : BitVec 32) (data : Bytes) (s : State) :=
  run (icmpEchoRequest target.toNat sender.toNat data) s

end Sys2Proof.Machine
end

