-- ==== Sys2Proof/Machine/RegRules.lean ====
section
/-! DEFINITION. Writes of registers (spec/00_scope.md R6 to R12 and the register tables of every chapter): who may write, what
is refused, what the fields take under their access codes, and what a write starts. -/

namespace Sys2Proof.Machine

/-! ## Access codes (R9) -/

/-- The lock bit of an island (R9: WL). -/
def Body.islandLocked (b : Body) (i : Nat) : Bool :=
  if i = iSB then b.on R.SB.LOCK.LOCK else if i = iCT then b.on R.CT.LOCK.LOCK else if i = iPV then b.on R.PV.LOCK.LOCK
  else if i = iDB then b.on R.DB.LOCK.LOCK else false

/-- A register after a write of `v` to one field. -/
def FieldRow.written (f : FieldRow) (locked mg : Bool) (v old : Nat) : Nat :=
  let n := bits v f.lo f.w
  match f.acc with
  | .ro | .w1p | .rwsRo => old
  | .rw | .rws => setBits old f.lo f.w n
  | .rwl => if locked then old else setBits old f.lo f.w n
  | .w1c => setBits old f.lo f.w (bits old f.lo f.w - (bits old f.lo f.w &&& n))
  | .rwsMg | .roMg => if mg then setBits old f.lo f.w n else old

/-- A register has a field of one of the given codes. -/
def RegRow.has (r : RegRow) (p : Access → Bool) : Bool := r.fields.any (fun f => p f.acc)

/-- `v` is a binary32 value that is finite. -/
def finite32 (v : Nat) : Bool := v / 2 ^ 23 % 256 != 255

/-- `v` is a finite binary32 value of at least +0. -/
def nonneg32 (v : Nat) : Bool := v < 0x7F800000

/-! ## Refused values (R12 and the tables) -/

/-- TM (spec/02_timetable.md, spec/15_time.md). -/
def Body.refusesTM (b : Body) (o v : Nat) : Bool :=
  if o = 0x8040 then b.jobRuns || decide (bits v 0 13 < 100) || decide (6400 < bits v 0 13)
  else if o = 0x8100 then b.jobRuns
  else if o = 0x118 then bits v 0 16 == 0 || bits v 16 16 == 0 || decide (1000 < bits v 16 16)
  else if o = 0x11C then bits v 0 16 == 0
  else if o = 0x20 then bits v 0 8 == 0
  else if o = 0x80 then decide (127 < bits v 8 8) || decide (bits v 16 4 < 2) || decide (10 < bits v 16 4)
  else false

/-- A tile (spec/04_dot_product.md, spec/05_spaovoto_model.md). -/
def Body.refusesT (b : Body) (nn o k v : Nat) : Bool :=
  if 0x1000 ≤ o ∧ o < 0x1220 then b.jobRuns
  else if o = 0x2100 then !b.boundsAccepted nn k v
  else if o = 0x2108 then !b.boundsCtrlAccepted nn k v
  else false

/-- A hyper set that R203 accepts. -/
def hyperOk (v : Nat) : Bool :=
  let f (i : Nat) : Nat := bits v (32 * i) 32
  let z (i : Nat) : Nat := if f i = 0x80000000 then 0 else f i
  nonneg32 (z 0) && decide (z 0 < 0x3F800000) && nonneg32 (z 1) && decide (z 1 < 0x3F800000) && nonneg32 (f 2) && nonneg32 (f 3)
    && nonneg32 (z 4) && nonneg32 (z 5) && decide (z 4 ≤ z 5)

/-- A channel that R204 and its table accept. -/
def channelOk (v : Nat) : Bool :=
  decide (bits v 0 3 < 4) && bits v 8 8 != 0 && finite32 (bits v 32 32) && finite32 (bits v 64 32) && finite32 (bits v 96 32)
    && finite32 (bits v 192 32)

/-- A consumed count `new` does not pass the count of what was produced, modulo 2³². -/
def passes (old new produced : Nat) : Bool := decide ((produced + 2 ^ 32 - old) % 2 ^ 32 < (new + 2 ^ 32 - old) % 2 ^ 32)

/-- UE (spec/08_update_engine.md). -/
def Body.refusesUE (b : Body) (o v : Nat) : Bool :=
  if o = 0x130 then passes (b.rd R.UE.ALARM_RD.VALUE) (bits v 0 32) (b.rd R.UE.ALARM_WR.VALUE)
  else if o = 0x1000 then b.jobRuns || !hyperOk v
  else if o = 0x4000 then b.jobRuns || !channelOk v
  else if 0x100 ≤ o then b.jobRuns
  else false

/-- M, L and J (spec/09_memory.md, spec/10_optical_links.md, spec/11_fabric_routing.md). -/
def refusesM (o v : Nat) : Bool := o == 0x30 && (bits v 0 5 == 0 || decide (16 < bits v 0 5))
def refusesL (o v : Nat) : Bool :=
  if o = 0x10 then
    bits v 0 16 == 0 || decide (3600 < bits v 0 16) || decide (8 < bits v 16 4) || bits v 20 12 == 0
  else o == 0x14 && bits v 0 4 == 0
def refusesJ (o v : Nat) : Bool := o == 0x10 && (decide (bits v 0 11 < 8) || decide (1024 < bits v 0 11))

/-- MG (spec/12_dispatcher.md). -/
def refusesMG (o v : Nat) : Bool :=
  if o = 0x4020 then bits v 0 8 == 0 || decide (bits v 8 8 * 10 ≤ 2 * bits v 0 8)
  else o == 0x4024 && (bits v 0 16 == 0 || bits v 16 4 == 0 || bits v 20 4 == 0)

/-- CT (spec/13_continuity.md). -/
def refusesCT (o v : Nat) : Bool :=
  if o = 0x100 then bits v 0 16 == 0 || bits v 16 4 == 0 || bits v 20 4 == 0
  else o == 0xA00 && bits v 16 4 == 0

/-- SN (spec/14_checkpoint.md). -/
def Body.refusesSN (b : Body) (o v : Nat) : Bool :=
  if o = 0x8 then b.jobRuns || bits v 0 20 == 0 || decide (le b.configBlock 80 4 < bits v 0 20)
  else if o = 0x50 then b.jobRuns || (bits v 0 32 != 0 && bits v 10 22 == b.place / 2 ^ 10)
  else if o = 0x58 then bits v 8 8 == 0 || bits v 16 16 == 0
  else if o = 0x68 then bits v 0 8 == 0 || bits v 8 12 == 0
  else if o = 0x74 then passes (b.rd R.SN.FERRY_DONE.COUNT) (bits v 0 32) (b.rd R.SN.FERRY_FILLED.COUNT)
  else if o = 0x100 then b.jobRuns
  else false

/-- PV, DB, SB and HI (spec/16_observability.md, spec/17_power_reset.md, spec/18_host_security.md). -/
def refusesPV (o v : Nat) : Bool :=
  if o = 0x8 then
    decide (bits v 8 8 ≤ bits v 0 8) || decide (105 < bits v 8 8) || decide (bits v 16 8 ≤ bits v 8 8) || decide (120 < bits v 16 8)
  else o == 0xC && decide (bits v 12 12 ≤ bits v 0 12)
def Body.refusesDB (b : Body) (o k v : Nat) : Bool :=
  if o = 0x8 then bits v 0 10 == 0
  else o == 0x900 && bit v 24 && (List.range 64).any (fun i =>
    i != k && b.on (R.DB.EVR_OVR.VALID i) && b.rd (R.DB.EVR_OVR.CODE i) == bits v 0 16)
def refusesSB (o v : Nat) : Bool := o == 0x40 && bits v 0 16 == 0 && !bit v 16
def Body.refusesHI (b : Body) (o v : Nat) : Bool :=
  o == 0x44 && passes (b.rd R.HI.CPER_RD.VALUE) (bits v 0 32) (b.rd R.HI.CPER_WR.VALUE)

/-- A write of `v` to the register at base offset `o`, instance `k`, of island i is refused. -/
def Body.refuses (b : Body) (i o k v : Nat) : Bool :=
  if i = iTM then b.refusesTM o v else if i = iUE then b.refusesUE o v else if i = iMG then refusesMG o v
  else if i = iCT then refusesCT o v else if i = iSN then b.refusesSN o v else if i = iPV then refusesPV o v
  else if i = iDB then b.refusesDB o k v else if i = iSB then refusesSB o v else if i = iHI then b.refusesHI o v
  else if 10 ≤ i ∧ i < 14 then refusesJ o v else if 16 ≤ i ∧ i < 24 then refusesM o v
  else if 24 ≤ i ∧ i < 32 then refusesL o v else if 32 ≤ i then b.refusesT (i - 32) o k v else false

/-! ## Who may write -/

/-- The master's write is not honoured: a tile reaches no register; junction tables, MG's dispatcher block, wear scores and
the record count and `TM.RELOCK` (R374) belong to MG, severities to MG and the host. -/
def notHonoured (m : Master) (i o : Nat) : Bool :=
  m == .tile
    || (m != .mg && ((10 ≤ i && i < 14 && (o == 0x8 || o == 0x3000)) || (i == iMG && 0x4000 ≤ o && o < 0x8000)
      || (i == iCT && o == 0xC000) || (i == iDB && o == 0x1018) || (i == iSN && o == 0x90) || (i == iTM && o == 0x30)))
    || (m != .mg && m != .host && i == iCT && o == 0x4000)

/-! ## The fields -/

/-- What a write leaves in the register: each field under its code; where a W1C bit clears the whole register, nothing. -/
def Body.fieldsWritten (b : Body) (m : Master) (i o k : Nat) (r : RegRow) (key v : Nat) : Body :=
  let old := b.reg key
  let clears := (32 ≤ i && o == 0x18 && bit v 47) || (32 ≤ i && o == 0x2020 && bit v 0) || (i == iUE && o == 0x4 && bit v 4)
    || (i == iSB && o == 0x8 && bit v 16)
  let sticky := (i == iCT && o == 0x40) || (i == iPV && o == 0x4) || (i == iDB && o == 0x4) || (i == iSB && o == 0x170)
  let off0 := i == iTM && o == 0x110 && k != 0
  let new := r.fields.foldl (fun a f => f.written (b.islandLocked i) (m == .mg) v a) old
  b.setReg key (if clears then 0 else if sticky then old ||| v % 2 else if off0 then setBits new 1 1 0 else new)

/-! ## What a write starts -/

/-- `L.RECAL_CTRL.NOW` (R258): the named links are recalibrated next; honoured from MG only. -/
def Body.recalNow (b : Body) (m : Master) (k v : Nat) : Body :=
  let mask := bits v 16 8
  if mask = 0 then b
  else if m ≠ .mg then b.cfgEvent m (iL k) 0x18 v 2
  else forEach ((List.range 8).filter (bit mask)) (fun j c =>
    c.setLnk (8 * k + j) { c.lnk (8 * k + j) with recalAsked := true }) b

/-- `TM.LOAD_CTRL`: LOAD, STAGE of the image that the registers name (MG only), UNLOAD. -/
def Body.loadCtrl (b : Body) (m : Master) (v : Nat) : Body :=
  let b1 := if bit v 0 then load m b else b
  let b2 :=
    if !bit v 1 then b1
    else if m ≠ .mg then b1.cfgEvent m iTM 0x8014 v 2
    else
      let a := b1.rd R.TM.IMAGE_ADDR.ADDR * 64
      (b1.stageNow a (b1.rd R.TM.IMAGE_LEN.LEN) (b1.dataFor iTM (a + 96) 32) b1.job.stageDeadline).1
  if bit v 2 then unload m b2 else b2

/-- `SB.ISL_CTRL` with GO (R415). -/
def islandCtrl (m : Master) (v : Nat) (b : Body) : Body :=
  let d := bits v 0 7
  let op := bits v 8 2
  if op = 0 then islandReset m d b else if op = 1 then islandPowerCycle m d b else if op = 2 then domainOff m d b else domainOn m d b

/-- `SC.CMD` with GO (R442): the command at ADDR, by its type; a reserved type fails the check of the body. -/
def commandWrite (m : Master) (v : Nat) (b : Body) : Body :=
  let a := bits v 6 42
  let src := ScSource.reg m (BitVec.ofNat 42 a)
  let t := le (b.dataFor iSC (a * 64) 512) 6 1
  if t = 1 then assignPlaceAddress src b
  else if t = 2 then timeRelock src b
  else if t = 3 then coldResetCommand src b
  else if t = 4 then operatorVoteOrder src b
  else if t = 5 then sliceRequest src b
  else assignPlaceAddress src b

/-- `SN.LOAD_CTRL` with START (R354). -/
def loadStart (m : Master) (v : Nat) (b : Body) : Body :=
  let h := bits v 3 1
  let op := bits v 0 3
  if op = 1 then loadReceive m h b else if op = 2 then loadSend m h (bits v 4 1) b else if op = 3 then unpack m h b
  else if op = 4 then loadAbandon m b else b

/-- What the register at base offset `o` starts in SB, TM, SC and HI. -/
def Body.startsSystem (b : Body) (m : Master) (i o v : Nat) : Body :=
  if i = iTM then
    if o = 0x8014 then b.loadCtrl m v
    else if o = 0x8020 then (if bit v 63 then jobDepart m (bits v 0 63) b else b)
    else if o = 0x8058 then (if bit v 0 then tmStop m b else b)
    else if o = 0x30 then
      (if !bit v 2 then b else if bit v 1 then relockStep m (bits v 0 1) b else relockSlew m (bits v 0 1) b)
    else if o = 0x40 then tb3Set m v b
    else b
  else if i = iSB then
    if o = 0x20 then (if bit v 10 then islandCtrl m v b else b)
    else if o = 0x40 then (if bit v 16 then kick m b else b)
    else if o = 0x50 then target m (bits v 0 10) b
    else if o = 0x140 then (if bit v 50 then fwStage m (bits v 6 42) (bits v 48 2) false b else b)
    else if o = 0x150 then
      (let b1 := if bit v 8 then fwSwitch m (bits v 0 4) (bits v 64 64) b else b
       if bit v 9 then fwSwitchCancel m b1 else b1)
    else if o = 0x160 then
      (if bit v 48 then
        calReload m (bits v 6 42) (Config.freeValue 1 b.free == 1) (Config.freeValue 64 (b.free + 1)).toNat { b with free := b.free + 2 }
       else b)
    else b
  else if i = iSC then
    if o = 0x200 then (if bit v 48 then commandWrite m v b else b)
    else if o = 0x210 then
      (if !bit v 48 then b else if bit v 50 then trustListStage m (bits v 6 42) b else configurationBlockStage m (bits v 6 42) b)
    else if o = 0x220 then (if bit v 48 then attestationRequest (.reg m (BitVec.ofNat 42 (bits v 6 42))) b else b)
    else b
  else if i = iHI then (if o = 0x8 && bit v 16 then moduleReset m (bits v 0 16) b else b)
  else b

/-- What the register at base offset `o`, instance `k`, starts in CT, SN, DB, the junctions, memory, links and tiles. -/
def Body.startsUnit (b : Body) (m : Master) (i o k v : Nat) : Body :=
  if i = iCT then
    if o = 0x30 then (if bit v 0 then release m b else b)
    else if o = 0x800 then tileMapWrite m k (bits v 0 7) (bits v 7 1) b
    else b
  else if i = iSN then
    if o = 0x68 then (if bit v 24 then ferryStart m (bits v 25 1) b else b)
    else if o = 0x74 then b.ferryDone
    else if o = 0x80 then (if bit v 8 then loadStart m v b else b)
    else if o = 0x90 then (if bits v 0 8 = 0x20 then b.irq 7 else b)
    else b
  else if i = iDB then
    if o = 0x18 then (if bit v 8 then ringRelease m (bits v 0 7) (bit v 7) b else b)
    else if o = 0x20 then b.showEntry
    else if o = 0x828 then (if bit v 0 then evrClear m b else b)
    else if o = 0xC00 then evrRead m k v b
    else if o = 0x1000 then
      (let b1 := if bit v 0 then dump m b else b
       if bit v 2 then dumpAck m b1 else b1)
    else b
  else if 10 ≤ i ∧ i < 14 then
    if o = 0x2000 then sliceEntryWrite m k v b
    else if o = 0x8000 then routeEntryWrite m k v b
    else if o = 0x3000 && bit v 0 && bits v 8 24 == b.place / 2 ^ 8 then b.ownExpulsion
    else b
  else if 16 ≤ i ∧ i < 24 then
    if o = 0x18 then (if bit v 24 then retrainNow m (i - 16) (bits v 25 7) b else b)
    else if o = 0x1C then (if bit v 8 then retire m (i - 16) (bits v 16 7) b else b)
    else b
  else if 24 ≤ i ∧ i < 32 then
    let l := i - 24
    if o = 0x18 then b.recalNow m l v
    else if o = 0x20 then
      forEach [0, 1] (fun x c =>
        let e := 2 * l + x
        let c1 := if bit v x then drainEngine m e c else c
        if bit v (2 + x) then
          (if c1.engineEnabled e && (bit v x || !bit c1.sb.drained e) then c1 else enableEngine m e c1)
        else if c1.engineEnabled e then disableEngine m e c1
        else c1) b
    else if o = 0x1010 then
      (let n := 8 * l + k
       let b1 := if bit v 0 = b.on (R.L.LINK_CTRL.DISABLE l k) then b else linkDisable m n (bit v 0) b
       let b2 := if bit v 1 then linkRelease m n b1 else b1
       if bit v 2 then linkRetrain m n b2 else b2)
    else b
  else if 32 ≤ i then
    let nn := i - 32
    if o = 0x28 then (if bit v 0 then recover m nn b else b)
    else if o = 0x2004 then (if bit v 0 then mxRelease m nn b else b)
    else if o = 0x2020 then
      b.wr (R.T.MX_STATUS.SPECIAL nn) (b2n ((List.range 4).any (fun n => b.on (R.T.MX_SV.FLAG nn n))))
    else b
  else b

/-- Registers whose whole write is a command of its own: no field is written beside it. -/
def ownCommand (i o : Nat) : Bool :=
  (i == iSB && o == 0x50) || (i == iTM && (o == 0x40 || o == 0x8020)) || (i == iCT && o == 0x800) || (i == iDB && o == 0xC00)
    || (10 ≤ i && i < 14 && (o == 0x2000 || o == 0x8000)) || (24 ≤ i && i < 32 && (o == 0x20 || o == 0x1010))

/-! ## The MSI-X table (R433, R435) -/

/-- A host write of word `w` of the entry of vector `x`: unmasking sends a message that is pending. -/
def Body.msixWrite (b : Body) (x w v : Nat) : Body :=
  if w ≠ 3 then { b with hi := { b.hi with msixTable := SMap.set b.hi.msixTable (4 * x + w) (v % 2 ^ 32) 0 } }
  else
    let b1 : Body := { b with hi := { b.hi with masked := setBits b.hi.masked x 1 (v % 2) } }
    if v % 2 = 0 && bit b1.hi.msixPending x then
      ({ b1 with hi := { b1.hi with msixPending := setBits b1.hi.msixPending x 1 0 } } : Body).emit (.msix x)
    else b1

/-! ## The command -/

/-- `JOB_DEPART` without GO sets the origin alone. -/
def Body.originWrite (b : Body) (o v : Nat) : Body :=
  if o = 0x8020 ∧ !bit v 63 then b.wr R.TM.JOB_DEPART.ORIGIN (bits v 0 63) else b

/-- A write that its island takes: locked fields are recorded, refused values leave the register as it was. -/
def Body.takeWrite (b : Body) (m : Master) (i off o k : Nat) (r : RegRow) (v : Nat) : Body :=
  let locked := b.islandLocked i && r.has (· == .rwl) && !ownCommand i o
  let b1 := if locked then b.cfgEvent m i off v 1 else b
  if i = iCT ∧ o = 0x4000 ∧ (defaultLevel k).isNone then b
  else if ownCommand i o then ((b1.originWrite (if i = iTM then o else 0) v).startsSystem m i o v).startsUnit m i o k v
  else if !locked && b.refuses i o k v then b.cfgEvent m i off v 0
  else if i = iSN ∧ o = 0x90 ∧ bits v 0 8 ≠ 0x20 then b
  else ((b1.fieldsWritten m i o k r (i * 0x10000 + off) v).startsSystem m i o v).startsUnit m i o k v

/-- `REGISTER_WRITE` (R6, R9, R12, R24): a master writes the whole register at an offset of island i.  An offset that no
register occupies takes nothing (R6). -/
def registerWrite (m : Master) (i off v : Nat) (b : Body) : Body :=
  if i = iHI ∧ 0x8000 ≤ off ∧ off < 0x8100 ∧ off % 4 = 0 then
    let w := v % 2 ^ 32
    (if !b.inService iHI then b.cfgEvent m iHI off w 3
     else
       let b1 := b.writtenAt off iHI
       if m = .host then b1.msixWrite ((off - 0x8000) / 16) (off % 16 / 4) w else b1.cfgEvent m iHI off w 2)
  else
    match regAt (i * 0x10000 + off) with
    | none => b
    | some (r, idx) =>
      let w := v % 2 ^ r.width
      if !b.inService i then b.cfgEvent m i off w 3
      else
        let b1 := b.writtenAt off i
        if notHonoured m i r.off then b1.cfgEvent m i off w 2 else b1.takeWrite m i off r.off (idx.headD 0) r w

/-! ## The meaning -/

def execRegisterWrite (m : Master) (i : BitVec 7) (off : BitVec 16) (v : BitVec 512) (s : State) :=
  run (registerWrite m i.toNat off.toNat v.toNat) s

end Sys2Proof.Machine
end

