-- ==== Sys2Proof/Machine/Dispatch.lean ====
section
/-! DEFINITION. One arm per command: a direct call of its meaning. -/

namespace Sys2Proof.Machine

def exec (i : Instr) (s : State) : Host.Outcome State Fault Refusal :=
  match i with
  | .registerWrite m idx off v => Sys2Proof.Machine.execRegisterWrite m idx off v s
  | .droopStretch idx => Sys2Proof.Machine.execDroopStretch idx s
  | .departure => Sys2Proof.Machine.execDeparture s
  | .verdictFaultDecide => Sys2Proof.Machine.execVerdictFaultDecide s
  | .conservationClose => Sys2Proof.Machine.execConservationClose s
  | .sealSend => Sys2Proof.Machine.execSealSend s
  | .sealReceive source pl => Sys2Proof.Machine.execSealReceive source pl s
  | .sealWindowExpiry => Sys2Proof.Machine.execSealWindowExpiry s
  | .tileRestoreComplete t r => Sys2Proof.Machine.execTileRestoreComplete t r s
  | .departureImageCapture t r => Sys2Proof.Machine.execDepartureImageCapture t r s
  | .tilePeriodStart t => Sys2Proof.Machine.execTilePeriodStart t s
  | .jobDepart m origin => Sys2Proof.Machine.execJobDepart m origin s
  | .tmStop m => Sys2Proof.Machine.execTmStop m s
  | .load m => Sys2Proof.Machine.execLoad m s
  | .unload m => Sys2Proof.Machine.execUnload m s
  | .verdictLeafSend => Sys2Proof.Machine.execVerdictLeafSend s
  | .verdictChildReceive child good => Sys2Proof.Machine.execVerdictChildReceive child good s
  | .verdictNodeTimeout => Sys2Proof.Machine.execVerdictNodeTimeout s
  | .combinedVerdictReceive good => Sys2Proof.Machine.execCombinedVerdictReceive good s
  | .stage source serial addr digest d => Sys2Proof.Machine.execStage source serial addr digest d s
  | .ack source serial code => Sys2Proof.Machine.execAck source serial code s
  | .ackDeadline => Sys2Proof.Machine.execAckDeadline s
  | .announce source serial n => Sys2Proof.Machine.execAnnounce source serial n s
  | .cancel source serial => Sys2Proof.Machine.execCancel source serial s
  | .stageExpiry => Sys2Proof.Machine.execStageExpiry s
  | .bundleIssue t faults peers => Sys2Proof.Machine.execBundleIssue t faults peers s
  | .add t rd ra rb => Sys2Proof.Machine.execAdd t rd ra rb s
  | .sub t rd ra rb => Sys2Proof.Machine.execSub t rd ra rb s
  | .and t rd ra rb => Sys2Proof.Machine.execAnd t rd ra rb s
  | .or t rd ra rb => Sys2Proof.Machine.execOr t rd ra rb s
  | .xor t rd ra rb => Sys2Proof.Machine.execXor t rd ra rb s
  | .shl t rd ra rb => Sys2Proof.Machine.execShl t rd ra rb s
  | .shr t rd ra rb => Sys2Proof.Machine.execShr t rd ra rb s
  | .sra t rd ra rb => Sys2Proof.Machine.execSra t rd ra rb s
  | .slt t rd ra rb => Sys2Proof.Machine.execSlt t rd ra rb s
  | .sltu t rd ra rb => Sys2Proof.Machine.execSltu t rd ra rb s
  | .seq t rd ra rb => Sys2Proof.Machine.execSeq t rd ra rb s
  | .min t rd ra rb => Sys2Proof.Machine.execMin t rd ra rb s
  | .max t rd ra rb => Sys2Proof.Machine.execMax t rd ra rb s
  | .minu t rd ra rb => Sys2Proof.Machine.execMinu t rd ra rb s
  | .maxu t rd ra rb => Sys2Proof.Machine.execMaxu t rd ra rb s
  | .mul t rd ra rb => Sys2Proof.Machine.execMul t rd ra rb s
  | .mulh t rd ra rb => Sys2Proof.Machine.execMulh t rd ra rb s
  | .mulhu t rd ra rb => Sys2Proof.Machine.execMulhu t rd ra rb s
  | .div t rd ra rb => Sys2Proof.Machine.execDiv t rd ra rb s
  | .divu t rd ra rb => Sys2Proof.Machine.execDivu t rd ra rb s
  | .rem t rd ra rb => Sys2Proof.Machine.execRem t rd ra rb s
  | .remu t rd ra rb => Sys2Proof.Machine.execRemu t rd ra rb s
  | .addi t rd ra imm => Sys2Proof.Machine.execAddi t rd ra imm s
  | .andi t rd ra imm => Sys2Proof.Machine.execAndi t rd ra imm s
  | .ori t rd ra imm => Sys2Proof.Machine.execOri t rd ra imm s
  | .xori t rd ra imm => Sys2Proof.Machine.execXori t rd ra imm s
  | .shli t rd ra imm => Sys2Proof.Machine.execShli t rd ra imm s
  | .shri t rd ra imm => Sys2Proof.Machine.execShri t rd ra imm s
  | .srai t rd ra imm => Sys2Proof.Machine.execSrai t rd ra imm s
  | .lui t rd ra imm => Sys2Proof.Machine.execLui t rd ra imm s
  | .sget t rg sel => Sys2Proof.Machine.execSget t rg sel s
  | .sputFlags t rg => Sys2Proof.Machine.execSputFlags t rg s
  | .sputBounds t rg k => Sys2Proof.Machine.execSputBounds t rg k s
  | .sputBoundsCtrl t rg k => Sys2Proof.Machine.execSputBoundsCtrl t rg k s
  | .qadv t rg sel => Sys2Proof.Machine.execQadv t rg sel s
  | .vadd t vd va vb p fmt rm => Sys2Proof.Machine.execVadd t vd va vb p fmt rm s
  | .vsub t vd va vb p fmt rm => Sys2Proof.Machine.execVsub t vd va vb p fmt rm s
  | .vmul t vd va vb p fmt rm => Sys2Proof.Machine.execVmul t vd va vb p fmt rm s
  | .vfma t vd va vb p fmt rm => Sys2Proof.Machine.execVfma t vd va vb p fmt rm s
  | .vfms t vd va vb p fmt rm => Sys2Proof.Machine.execVfms t vd va vb p fmt rm s
  | .vdiv t vd va vb p fmt rm => Sys2Proof.Machine.execVdiv t vd va vb p fmt rm s
  | .vsqrt t vd va vb p fmt rm => Sys2Proof.Machine.execVsqrt t vd va vb p fmt rm s
  | .vrem t vd va vb p fmt rm => Sys2Proof.Machine.execVrem t vd va vb p fmt rm s
  | .vmin t vd va vb p fmt rm => Sys2Proof.Machine.execVmin t vd va vb p fmt rm s
  | .vmax t vd va vb p fmt rm => Sys2Proof.Machine.execVmax t vd va vb p fmt rm s
  | .vminn t vd va vb p fmt rm => Sys2Proof.Machine.execVminn t vd va vb p fmt rm s
  | .vmaxn t vd va vb p fmt rm => Sys2Proof.Machine.execVmaxn t vd va vb p fmt rm s
  | .vabs t vd va vb p fmt rm => Sys2Proof.Machine.execVabs t vd va vb p fmt rm s
  | .vneg t vd va vb p fmt rm => Sys2Proof.Machine.execVneg t vd va vb p fmt rm s
  | .vcsgn t vd va vb p fmt rm => Sys2Proof.Machine.execVcsgn t vd va vb p fmt rm s
  | .vrint t vd va vb p fmt rm => Sys2Proof.Machine.execVrint t vd va vb p fmt rm s
  | .vrintx t vd va vb p fmt rm => Sys2Proof.Machine.execVrintx t vd va vb p fmt rm s
  | .vscaleb t vd va vb p fmt rm => Sys2Proof.Machine.execVscaleb t vd va vb p fmt rm s
  | .vlogb t vd va vb p fmt rm => Sys2Proof.Machine.execVlogb t vd va vb p fmt rm s
  | .vcmp t half pd va vb p fmt cond => Sys2Proof.Machine.execVcmp t half pd va vb p fmt cond s
  | .vclass t vd va vb p fmt rm => Sys2Proof.Machine.execVclass t vd va vb p fmt rm s
  | .vexp2 t vd va vb p fmt rm => Sys2Proof.Machine.execVexp2 t vd va vb p fmt rm s
  | .vexp t vd va vb p fmt rm => Sys2Proof.Machine.execVexp t vd va vb p fmt rm s
  | .vlog2 t vd va vb p fmt rm => Sys2Proof.Machine.execVlog2 t vd va vb p fmt rm s
  | .vlog t vd va vb p fmt rm => Sys2Proof.Machine.execVlog t vd va vb p fmt rm s
  | .vsinpi t vd va vb p fmt rm => Sys2Proof.Machine.execVsinpi t vd va vb p fmt rm s
  | .vcospi t vd va vb p fmt rm => Sys2Proof.Machine.execVcospi t vd va vb p fmt rm s
  | .vtanh t vd va vb p fmt rm => Sys2Proof.Machine.execVtanh t vd va vb p fmt rm s
  | .vsigm t vd va vb p fmt rm => Sys2Proof.Machine.execVsigm t vd va vb p fmt rm s
  | .vrsqrt t vd va vb p fmt rm => Sys2Proof.Machine.execVrsqrt t vd va vb p fmt rm s
  | .vrcpe t vd va vb p fmt rm => Sys2Proof.Machine.execVrcpe t vd va vb p fmt rm s
  | .vradd t vd va vb p fmt rm => Sys2Proof.Machine.execVradd t vd va vb p fmt rm s
  | .vrmax t vd va vb p fmt rm => Sys2Proof.Machine.execVrmax t vd va vb p fmt rm s
  | .viadd t vd va vb p rm => Sys2Proof.Machine.execViadd t vd va vb p rm s
  | .visub t vd va vb p rm => Sys2Proof.Machine.execVisub t vd va vb p rm s
  | .vimul t vd va vb p rm => Sys2Proof.Machine.execVimul t vd va vb p rm s
  | .vand t vd va vb p rm => Sys2Proof.Machine.execVand t vd va vb p rm s
  | .vor t vd va vb p rm => Sys2Proof.Machine.execVor t vd va vb p rm s
  | .vxor t vd va vb p rm => Sys2Proof.Machine.execVxor t vd va vb p rm s
  | .vandn t vd va vb p rm => Sys2Proof.Machine.execVandn t vd va vb p rm s
  | .vshl t vd va vb p rm => Sys2Proof.Machine.execVshl t vd va vb p rm s
  | .vshr t vd va vb p rm => Sys2Proof.Machine.execVshr t vd va vb p rm s
  | .vsra t vd va vb p rm => Sys2Proof.Machine.execVsra t vd va vb p rm s
  | .vimin t vd va vb p rm => Sys2Proof.Machine.execVimin t vd va vb p rm s
  | .vimax t vd va vb p rm => Sys2Proof.Machine.execVimax t vd va vb p rm s
  | .viminu t vd va vb p rm => Sys2Proof.Machine.execViminu t vd va vb p rm s
  | .vimaxu t vd va vb p rm => Sys2Proof.Machine.execVimaxu t vd va vb p rm s
  | .vsel t vd va vb p rm => Sys2Proof.Machine.execVsel t vd va vb p rm s
  | .vbc32 t vd va vb p rm => Sys2Proof.Machine.execVbc32 t vd va vb p rm s
  | .vbc64 t vd va vb p rm => Sys2Proof.Machine.execVbc64 t vd va vb p rm s
  | .vrot t vd va vb p rm => Sys2Proof.Machine.execVrot t vd va vb p rm s
  | .vperm t vd va vb p rm => Sys2Proof.Machine.execVperm t vd va vb p rm s
  | .pk6 t vd va vb p rm => Sys2Proof.Machine.execPk6 t vd va vb p rm s
  | .up6 t vd va vb p rm => Sys2Proof.Machine.execUp6 t vd va vb p rm s
  | .vicmp t half pd va vb p fmt cond => Sys2Proof.Machine.execVicmp t half pd va vb p fmt cond s
  | .predAnd t pd pa pb => Sys2Proof.Machine.execPredAnd t pd pa pb s
  | .predOr t pd pa pb => Sys2Proof.Machine.execPredOr t pd pa pb s
  | .predXor t pd pa pb => Sys2Proof.Machine.execPredXor t pd pa pb s
  | .predAndn t pd pa pb => Sys2Proof.Machine.execPredAndn t pd pa pb s
  | .predNot t pd pa pb => Sys2Proof.Machine.execPredNot t pd pa pb s
  | .predZeros t pd pa pb => Sys2Proof.Machine.execPredZeros t pd pa pb s
  | .predOnes t pd pa pb => Sys2Proof.Machine.execPredOnes t pd pa pb s
  | .predLowest t pd pa pb => Sys2Proof.Machine.execPredLowest t pd pa pb s
  | .vrdacc t vd acc blk => Sys2Proof.Machine.execVrdacc t vd acc blk s
  | .vwracc t vd acc blk => Sys2Proof.Machine.execVwracc t vd acc blk s
  | .convertToBinary32 t vd va src rm part p => Sys2Proof.Machine.execConvertToBinary32 t vd va src rm part p s
  | .convertToBinary16 t vd va src rm part p => Sys2Proof.Machine.execConvertToBinary16 t vd va src rm part p s
  | .convertToBinary64 t vd va src rm part p => Sys2Proof.Machine.execConvertToBinary64 t vd va src rm part p s
  | .convertToW16 t vd va src rm part p => Sys2Proof.Machine.execConvertToW16 t vd va src rm part p s
  | .convertToN8 t vd va src rm part p => Sys2Proof.Machine.execConvertToN8 t vd va src rm part p s
  | .convertToG8 t vd va src rm part p => Sys2Proof.Machine.execConvertToG8 t vd va src rm part p s
  | .convertToN6 t vd va src rm part p => Sys2Proof.Machine.execConvertToN6 t vd va src rm part p s
  | .convertToN4 t vd va src rm part p => Sys2Proof.Machine.execConvertToN4 t vd va src rm part p s
  | .convertToI8 t vd va src rm part p => Sys2Proof.Machine.execConvertToI8 t vd va src rm part p s
  | .convertToI4 t vd va src rm part p => Sys2Proof.Machine.execConvertToI4 t vd va src rm part p s
  | .convertToU8 t vd va src rm part p => Sys2Proof.Machine.execConvertToU8 t vd va src rm part p s
  | .convertToI32 t vd va src rm part p => Sys2Proof.Machine.execConvertToI32 t vd va src rm part p s
  | .mx t acc fa fb rr bnd add at_ sa sb faults => Sys2Proof.Machine.execMx t acc fa fb rr bnd add at_ sa sb faults s
  | .mxz t acc => Sys2Proof.Machine.execMxz t acc s
  | .mxRelease t m => Sys2Proof.Machine.execMxRelease t m s
  | .lds t rd ra base w imm => Sys2Proof.Machine.execLds t rd ra base w imm s
  | .ldu t rd ra base w imm => Sys2Proof.Machine.execLdu t rd ra base w imm s
  | .sts t rd ra base w imm => Sys2Proof.Machine.execSts t rd ra base w imm s
  | .ldv t vd ra base p imm => Sys2Proof.Machine.execLdv t vd ra base p imm s
  | .stv t vd ra base p imm => Sys2Proof.Machine.execStv t vd ra base p imm s
  | .ldp t pd ra base p imm => Sys2Proof.Machine.execLdp t pd ra base p imm s
  | .stp t pd ra base p imm => Sys2Proof.Machine.execStp t pd ra base p imm s
  | .lda t acc blk fmt rm rs sc str srci => Sys2Proof.Machine.execLda t acc blk fmt rm rs sc str srci s
  | .sta t acc blk fmt rm rs sc str srci => Sys2Proof.Machine.execSta t acc blk fmt rm rs sc str srci s
  | .xferCopy t ra q imm peer => Sys2Proof.Machine.execXferCopy t ra q imm peer s
  | .xferReduceBinary32 t ra q imm peer => Sys2Proof.Machine.execXferReduceBinary32 t ra q imm peer s
  | .xferReduceI32 t ra q imm peer => Sys2Proof.Machine.execXferReduceI32 t ra q imm peer s
  | .xsig t rp rc cls => Sys2Proof.Machine.execXsig t rp rc cls s
  | .br t ra off => Sys2Proof.Machine.execBr t ra off s
  | .bz t ra off => Sys2Proof.Machine.execBz t ra off s
  | .bnz t ra off => Sys2Proof.Machine.execBnz t ra off s
  | .bpa t pa off => Sys2Proof.Machine.execBpa t pa off s
  | .bpn t pa off => Sys2Proof.Machine.execBpn t pa off s
  | .jal t ra off => Sys2Proof.Machine.execJal t ra off s
  | .jr t ra off => Sys2Proof.Machine.execJr t ra off s
  | .lp t ra off => Sys2Proof.Machine.execLp t ra off s
  | .wait t cc ra => Sys2Proof.Machine.execWait t cc ra s
  | .waiti t cc imm => Sys2Proof.Machine.execWaiti t cc imm s
  | .waitSatisfied t n => Sys2Proof.Machine.execWaitSatisfied t n s
  | .arrive t => Sys2Proof.Machine.execArrive t s
  | .arrival t => Sys2Proof.Machine.execArrival t s
  | .ccset t cc rg => Sys2Proof.Machine.execCcset t cc rg s
  | .ccadd t cc rg => Sys2Proof.Machine.execCcadd t cc rg s
  | .ccget t cc rg => Sys2Proof.Machine.execCcget t cc rg s
  | .gdraw t rg g => Sys2Proof.Machine.execGdraw t rg g s
  | .gdraws t rg g => Sys2Proof.Machine.execGdraws t rg g s
  | .gsetKey t rg g rb => Sys2Proof.Machine.execGsetKey t rg g rb s
  | .gsetCounter t rg g rb => Sys2Proof.Machine.execGsetCounter t rg g rb s
  | .gsetAnchor t rg g rb => Sys2Proof.Machine.execGsetAnchor t rg g rb s
  | .gget t rg g sel => Sys2Proof.Machine.execGget t rg g sel s
  | .recover m t => Sys2Proof.Machine.execRecover m t s
  | .recoveryComplete t r => Sys2Proof.Machine.execRecoveryComplete t r s
  | .recoveryTimeout t => Sys2Proof.Machine.execRecoveryTimeout t s
  | .transferWriteAccept idx => Sys2Proof.Machine.execTransferWriteAccept idx s
  | .transferLeavesFlight id => Sys2Proof.Machine.execTransferLeavesFlight id s
  | .ueListStart => Sys2Proof.Machine.execUeListStart s
  | .ueGateSatisfied => Sys2Proof.Machine.execUeGateSatisfied s
  | .ueNothing => Sys2Proof.Machine.execUeNothing s
  | .layerUpdate stop => Sys2Proof.Machine.execLayerUpdate stop s
  | .chartBatch => Sys2Proof.Machine.execChartBatch s
  | .ueCommandComplete => Sys2Proof.Machine.execUeCommandComplete s
  | .memoryRead a master req e1 e2 e3 => Sys2Proof.Machine.execMemoryRead a master req e1 e2 e3 s
  | .lineTestComplete k j lines ca => Sys2Proof.Machine.execLineTestComplete k j lines ca s
  | .retire m k j => Sys2Proof.Machine.execRetire m k j s
  | .spareFreed k => Sys2Proof.Machine.execSpareFreed k s
  | .copyUnit k es => Sys2Proof.Machine.execCopyUnit k es s
  | .copyComplete k => Sys2Proof.Machine.execCopyComplete k s
  | .retrainInterval k => Sys2Proof.Machine.execRetrainInterval k s
  | .retrainNow m k j => Sys2Proof.Machine.execRetrainNow m k j s
  | .retrainingDone k j r => Sys2Proof.Machine.execRetrainingDone k j r s
  | .refresh k j bank => Sys2Proof.Machine.execRefresh k j bank s
  | .temperatureReadout p t hot => Sys2Proof.Machine.execTemperatureReadout p t hot s
  | .memoryInit k => Sys2Proof.Machine.execMemoryInit k s
  | .memoryTrainingComplete k failed => Sys2Proof.Machine.execMemoryTrainingComplete k failed s
  | .zeroFillComplete k => Sys2Proof.Machine.execZeroFillComplete k s
  | .memoryResume k store => Sys2Proof.Machine.execMemoryResume k store s
  | .recalibrationDone k failed => Sys2Proof.Machine.execRecalibrationDone k failed s
  | .lightDetected link => Sys2Proof.Machine.execLightDetected link s
  | .trainingComplete link => Sys2Proof.Machine.execTrainingComplete link s
  | .trainingTimeout link => Sys2Proof.Machine.execTrainingTimeout link s
  | .identityFrame link body => Sys2Proof.Machine.execIdentityFrame link body s
  | .identityTimeout link => Sys2Proof.Machine.execIdentityTimeout link s
  | .qualificationComplete link => Sys2Proof.Machine.execQualificationComplete link s
  | .retrainDelayExpiry link => Sys2Proof.Machine.execRetrainDelayExpiry link s
  | .frameReceive link syms => Sys2Proof.Machine.execFrameReceive link syms s
  | .nack link ack => Sys2Proof.Machine.execNack link ack s
  | .linkFailure link => Sys2Proof.Machine.execLinkFailure link s
  | .timeExchangeStart link => Sys2Proof.Machine.execTimeExchangeStart link s
  | .timeRequest link seq t1 => Sys2Proof.Machine.execTimeRequest link seq t1 s
  | .timeResponse link seq t1 t2 t3 => Sys2Proof.Machine.execTimeResponse link seq t1 t2 t3 s
  | .timeExchangeAbandoned link => Sys2Proof.Machine.execTimeExchangeAbandoned link s
  | .laserLoss ent => Sys2Proof.Machine.execLaserLoss ent s
  | .drainEngine m ent => Sys2Proof.Machine.execDrainEngine m ent s
  | .enableEngine m ent => Sys2Proof.Machine.execEnableEngine m ent s
  | .disableEngine m ent => Sys2Proof.Machine.execDisableEngine m ent s
  | .linkDisable m link on_ => Sys2Proof.Machine.execLinkDisable m link on_ s
  | .linkRelease m link => Sys2Proof.Machine.execLinkRelease m link s
  | .linkRetrain m link => Sys2Proof.Machine.execLinkRetrain m link s
  | .recalibrationStart k => Sys2Proof.Machine.execRecalibrationStart k s
  | .recalibrationEnd link => Sys2Proof.Machine.execRecalibrationEnd link s
  | .packetIngress link bs => Sys2Proof.Machine.execPacketIngress link bs s
  | .duplicateHoldExpiry k => Sys2Proof.Machine.execDuplicateHoldExpiry k s
  | .packetInject k idx => Sys2Proof.Machine.execPacketInject k idx s
  | .slotTick k => Sys2Proof.Machine.execSlotTick k s
  | .tokenReturn k tag epoch cls count => Sys2Proof.Machine.execTokenReturn k tag epoch cls count s
  | .tokenReturnFlush idx => Sys2Proof.Machine.execTokenReturnFlush idx s
  | .sliceEntryWrite m ent v => Sys2Proof.Machine.execSliceEntryWrite m ent v s
  | .sliceDrain m ent => Sys2Proof.Machine.execSliceDrain m ent s
  | .drainComplete ent => Sys2Proof.Machine.execDrainComplete ent s
  | .drainTimeout ent => Sys2Proof.Machine.execDrainTimeout ent s
  | .routeEntryWrite m ent v => Sys2Proof.Machine.execRouteEntryWrite m ent v s
  | .saturationInterval k levels => Sys2Proof.Machine.execSaturationInterval k levels s
  | .saturationWindow k => Sys2Proof.Machine.execSaturationWindow k s
  | .podCharter bytes => Sys2Proof.Machine.execPodCharter bytes s
  | .discover link rank serial hops => Sys2Proof.Machine.execDiscover link rank serial hops s
  | .report link msg => Sys2Proof.Machine.execReport link msg s
  | .discoveryEnd => Sys2Proof.Machine.execDiscoveryEnd s
  | .mapHead source header => Sys2Proof.Machine.execMapHead source header s
  | .mapChunk source index entries => Sys2Proof.Machine.execMapChunk source index entries s
  | .mapAck source epoch routes => Sys2Proof.Machine.execMapAck source epoch routes s
  | .pull source records => Sys2Proof.Machine.execPull source records s
  | .portState source railA railB => Sys2Proof.Machine.execPortState source railA railB s
  | .mapBatchExpiry => Sys2Proof.Machine.execMapBatchExpiry s
  | .heartbeatSend => Sys2Proof.Machine.execHeartbeatSend s
  | .heartbeat source term seq => Sys2Proof.Machine.execHeartbeat source term seq s
  | .chiefTimeout => Sys2Proof.Machine.execChiefTimeout s
  | .chiefRequest v => Sys2Proof.Machine.execChiefRequest v s
  | .chiefGrant v => Sys2Proof.Machine.execChiefGrant v s
  | .electionTimeout => Sys2Proof.Machine.execElectionTimeout s
  | .record source bytes => Sys2Proof.Machine.execRecord source bytes s
  | .recordAck source seq => Sys2Proof.Machine.execRecordAck source seq s
  | .commit source bytes => Sys2Proof.Machine.execCommit source bytes s
  | .sliceAck source tag epoch event fenced => Sys2Proof.Machine.execSliceAck source tag epoch event fenced s
  | .suspect source subject reason periods => Sys2Proof.Machine.execSuspect source subject reason periods s
  | .cons source sums => Sys2Proof.Machine.execCons source sums s
  | .consSend => Sys2Proof.Machine.execConsSend s
  | .key place off data => Sys2Proof.Machine.execKey place off data s
  | .vote source v => Sys2Proof.Machine.execVote source v s
  | .sliceRequest src => Sys2Proof.Machine.execSliceRequest src s
  | .operatorVoteOrder src => Sys2Proof.Machine.execOperatorVoteOrder src s
  | .faultOccurrence ext => Sys2Proof.Machine.execFaultOccurrence ext s
  | .release m => Sys2Proof.Machine.execRelease m s
  | .diagnosisComplete t same sidingBad differ => Sys2Proof.Machine.execDiagnosisComplete t same sidingBad differ s
  | .substitutionComplete t => Sys2Proof.Machine.execSubstitutionComplete t s
  | .tileMapWrite m t phys valid => Sys2Proof.Machine.execTileMapWrite m t phys valid s
  | .beaconSend => Sys2Proof.Machine.execBeaconSend s
  | .beacon source pl => Sys2Proof.Machine.execBeacon source pl s
  | .beaconWindow => Sys2Proof.Machine.execBeaconWindow s
  | .wearUpdate => Sys2Proof.Machine.execWearUpdate s
  | .fsrEmit => Sys2Proof.Machine.execFsrEmit s
  | .fsrAcknowledgement seq => Sys2Proof.Machine.execFsrAcknowledgement seq s
  | .fsrResend => Sys2Proof.Machine.execFsrResend s
  | .snapshotStart => Sys2Proof.Machine.execSnapshotStart s
  | .snapshotCopyComplete => Sys2Proof.Machine.execSnapshotCopyComplete s
  | .snapshotSigned => Sys2Proof.Machine.execSnapshotSigned s
  | .mirrorStart => Sys2Proof.Machine.execMirrorStart s
  | .mirrorComplete => Sys2Proof.Machine.execMirrorComplete s
  | .mirrorTimeout => Sys2Proof.Machine.execMirrorTimeout s
  | .mirrorAcknowledgement outcome => Sys2Proof.Machine.execMirrorAcknowledgement outcome s
  | .ferryStart m half => Sys2Proof.Machine.execFerryStart m half s
  | .ferrySlotFill => Sys2Proof.Machine.execFerrySlotFill s
  | .ferryStall => Sys2Proof.Machine.execFerryStall s
  | .loadReceive m half => Sys2Proof.Machine.execLoadReceive m half s
  | .loadSend m half region => Sys2Proof.Machine.execLoadSend m half region s
  | .unpack m half => Sys2Proof.Machine.execUnpack m half s
  | .loadAbandon m => Sys2Proof.Machine.execLoadAbandon m s
  | .receiveTimeout => Sys2Proof.Machine.execReceiveTimeout s
  | .unpackComplete => Sys2Proof.Machine.execUnpackComplete s
  | .restoreDecision copies => Sys2Proof.Machine.execRestoreDecision copies s
  | .tb0Sample => Sys2Proof.Machine.execTb0Sample s
  | .holdover idx => Sys2Proof.Machine.execHoldover idx s
  | .timeAnnounceSend => Sys2Proof.Machine.execTimeAnnounceSend s
  | .timeAnnounce link pl => Sys2Proof.Machine.execTimeAnnounce link pl s
  | .relockSlew m base => Sys2Proof.Machine.execRelockSlew m base s
  | .relockStep m base => Sys2Proof.Machine.execRelockStep m base s
  | .tb3Set m v => Sys2Proof.Machine.execTb3Set m v s
  | .sync m => Sys2Proof.Machine.execSync m s
  | .followUp m => Sys2Proof.Machine.execFollowUp m s
  | .delayReqSend => Sys2Proof.Machine.execDelayReqSend s
  | .delayResp m => Sys2Proof.Machine.execDelayResp m s
  | .ptpAnnounce a => Sys2Proof.Machine.execPtpAnnounce a s
  | .announceReceiptTimeout => Sys2Proof.Machine.execAnnounceReceiptTimeout s
  | .thermalSample temps => Sys2Proof.Machine.execThermalSample temps s
  | .supplySample mv => Sys2Proof.Machine.execSupplySample mv s
  | .processSample cycles => Sys2Proof.Machine.execProcessSample cycles s
  | .secondSummary cycles overlap => Sys2Proof.Machine.execSecondSummary cycles overlap s
  | .ringFreeze idx => Sys2Proof.Machine.execRingFreeze idx s
  | .ringRelease m idx all => Sys2Proof.Machine.execRingRelease m idx all s
  | .eventRecordWrite => Sys2Proof.Machine.execEventRecordWrite s
  | .evrSecondBoundary => Sys2Proof.Machine.execEvrSecondBoundary s
  | .evrRead m p seq => Sys2Proof.Machine.execEvrRead m p seq s
  | .evrReadComplete p flashError => Sys2Proof.Machine.execEvrReadComplete p flashError s
  | .eventRecordRead seq flashError => Sys2Proof.Machine.execEventRecordRead seq flashError s
  | .evrClear m => Sys2Proof.Machine.execEvrClear m s
  | .dump m => Sys2Proof.Machine.execDump m s
  | .dumpComplete r => Sys2Proof.Machine.execDumpComplete r s
  | .dumpAck m => Sys2Proof.Machine.execDumpAck m s
  | .powerUp z0 z1 flash => Sys2Proof.Machine.execPowerUp z0 z1 flash s
  | .strapResample z0 z1 => Sys2Proof.Machine.execStrapResample z0 z1 s
  | .powerGood r rev14 => Sys2Proof.Machine.execPowerGood r rev14 s
  | .railTimeout r => Sys2Proof.Machine.execRailTimeout r s
  | .readiness => Sys2Proof.Machine.execReadiness s
  | .pwrEnFall => Sys2Proof.Machine.execPwrEnFall s
  | .powerGoodLoss => Sys2Proof.Machine.execPowerGoodLoss s
  | .railOff => Sys2Proof.Machine.execRailOff s
  | .smbalert word => Sys2Proof.Machine.execSmbalert word s
  | .pmbusPoll r word mv => Sys2Proof.Machine.execPmbusPoll r word mv s
  | .forecast => Sys2Proof.Machine.execForecast s
  | .heartbeatFrame => Sys2Proof.Machine.execHeartbeatFrame s
  | .target m mv => Sys2Proof.Machine.execTarget m mv s
  | .ackFrame f => Sys2Proof.Machine.execAckFrame f s
  | .nackFrame f => Sys2Proof.Machine.execNackFrame f s
  | .ackTimeout => Sys2Proof.Machine.execAckTimeout s
  | .telemetry f => Sys2Proof.Machine.execTelemetry f s
  | .alert f => Sys2Proof.Machine.execAlert f s
  | .islandReset m idx => Sys2Proof.Machine.execIslandReset m idx s
  | .islandPowerCycle m idx => Sys2Proof.Machine.execIslandPowerCycle m idx s
  | .domainOff m d => Sys2Proof.Machine.execDomainOff m d s
  | .domainOn m d => Sys2Proof.Machine.execDomainOn m d s
  | .islandInService idx => Sys2Proof.Machine.execIslandInService idx s
  | .islandResetTimeout idx => Sys2Proof.Machine.execIslandResetTimeout idx s
  | .powerCycleTimeout idx => Sys2Proof.Machine.execPowerCycleTimeout idx s
  | .substitutionTimeout t => Sys2Proof.Machine.execSubstitutionTimeout t s
  | .moduleFullReset => Sys2Proof.Machine.execModuleFullReset s
  | .moduleReset m key => Sys2Proof.Machine.execModuleReset m key s
  | .perstAssert => Sys2Proof.Machine.execPerstAssert s
  | .perstDeassert => Sys2Proof.Machine.execPerstDeassert s
  | .hotReset => Sys2Proof.Machine.execHotReset s
  | .secondaryBusReset => Sys2Proof.Machine.execSecondaryBusReset s
  | .fullResetTimeout => Sys2Proof.Machine.execFullResetTimeout s
  | .moduleColdReset => Sys2Proof.Machine.execModuleColdReset s
  | .coldResetTimeout => Sys2Proof.Machine.execColdResetTimeout s
  | .pcieLinkDown => Sys2Proof.Machine.execPcieLinkDown s
  | .kick m => Sys2Proof.Machine.execKick m s
  | .watchdogExpiry => Sys2Proof.Machine.execWatchdogExpiry s
  | .fwStage m addr kind flashError => Sys2Proof.Machine.execFwStage m addr kind flashError s
  | .fwSwitch m kinds n => Sys2Proof.Machine.execFwSwitch m kinds n s
  | .fwSwitchCancel m => Sys2Proof.Machine.execFwSwitchCancel m s
  | .calReload m addr verified serial => Sys2Proof.Machine.execCalReload m addr verified serial s
  | .rollbackCounterRaise kind => Sys2Proof.Machine.execRollbackCounterRaise kind s
  | .bar2Read off n => Sys2Proof.Machine.execBar2Read off n s
  | .bar2Write off data => Sys2Proof.Machine.execBar2Write off data s
  | .assignPlaceAddress src => Sys2Proof.Machine.execAssignPlaceAddress src s
  | .timeRelock src => Sys2Proof.Machine.execTimeRelock src s
  | .coldResetCommand src => Sys2Proof.Machine.execColdResetCommand src s
  | .attestationRequest src => Sys2Proof.Machine.execAttestationRequest src s
  | .configurationBlockStage m addr => Sys2Proof.Machine.execConfigurationBlockStage m addr s
  | .trustListStage m addr => Sys2Proof.Machine.execTrustListStage m addr s
  | .laserInputRestored ent => Sys2Proof.Machine.execLaserInputRestored ent s
  | .ueGateOverrun => Sys2Proof.Machine.execUeGateOverrun s
  | .fullTrainingComplete k failed => Sys2Proof.Machine.execFullTrainingComplete k failed s
  | .selfFenceWindowExpiry => Sys2Proof.Machine.execSelfFenceWindowExpiry s
  | .managementPortLinkDown => Sys2Proof.Machine.execManagementPortLinkDown s
  | .managementPortLinkUp fec => Sys2Proof.Machine.execManagementPortLinkUp fec s
  | .pciExpressLinkUp lanes speed flit => Sys2Proof.Machine.execPciExpressLinkUp lanes speed flit s
  | .pciExpressError uncorrectable => Sys2Proof.Machine.execPciExpressError uncorrectable s
  | .arpRequest target mac sender => Sys2Proof.Machine.execArpRequest target mac sender s
  | .icmpEchoRequest target sender data => Sys2Proof.Machine.execIcmpEchoRequest target sender data s
  | .timeBaseSecondsRead m idx => Sys2Proof.Machine.execTimeBaseSecondsRead m idx s
  | .dumpTimeout => Sys2Proof.Machine.execDumpTimeout s
  | .boardPeerRead slot a n => Sys2Proof.Machine.execBoardPeerRead slot a n s

end Sys2Proof.Machine
end

