-- ==== Sys2Proof/Safety.lean ====
section
/-! DEFINITION. What a safe run is: every step answers a next state, and the memory stays in canonical form; and the terms in
which the statements speak of what a command does. -/

namespace Sys2Proof

/-- The invariant of the machine: the memory is in canonical form (R15). -/
def Safety.Inv (s : Machine.State) : Prop := Machine.memWf s.body.mem = true

/-- The step answers a next state: no fault and no refusal. -/
def Safety.Goes (s : Machine.State) : Prop := ∃ t, Machine.step s = .next t

namespace Machine

/-- The command answers a next state whose queue is as before and whose module satisfies `P`. -/
def Gives (c : Instr) (s : State) (P : Body → Prop) : Prop :=
  ∃ t, exec c s = .next t ∧ t.pending = s.pending ∧ P t.body

/-- Every byte of the memory reads as before. -/
def SameBytes (b c : Body) : Prop := ∀ a, c.byte a = b.byte a

/-- Every register that is not listed, and not one of DB's own (trace rings, queue and loss counts), is as before. -/
def SameRegsBut (keys : List Nat) (b c : Body) : Prop := ∀ k, k ∉ keys → k / 65536 ≠ 6 → c.reg k = b.reg k

/-- Every register that is not listed is as before. -/
def OnlyRegs (keys : List Nat) (b c : Body) : Prop := ∀ k, k ∉ keys → c.reg k = b.reg k

/-- The module is `b` exactly: every register and every byte reads as there, and everything else is as there. -/
def Exactly (b c : Body) : Prop := OnlyRegs [] b c ∧ SameBytes b c ∧ c = { b with regs := c.regs, mem := c.mem }

/-- The module is `b` but for what the observation of the command leaves behind: the registers of island DB, the trace rings and
the event queue, the first samples of restarted clocks, and the count of free values. -/
def UpToDb (b c : Body) : Prop :=
  SameRegsBut [] b c ∧ SameBytes b c ∧
    c = { b with regs := c.regs, mem := c.mem, obs := c.obs, free := c.free, sb := { b.sb with resumed := c.sb.resumed } }

/-- `b` with a fault report at the end of the fault tree (R315, R319): its level as the severity register holds it, its instant
and stamp, the period and whether a job runs. -/
def Body.reported (b : Body) (o : Occurrence) (unit : Nat) : Body :=
  { b with cont := { b.cont with tree := b.cont.tree ++
      [{ source := o.source, level := b.rd (R.CT.SEVERITY.LEVEL o.source), addr := o.addr, master := o.master,
         reqType := o.reqType, access := o.access, at_ := b.ns 0, stamp := b.stamp 0 (o.source / 64), period := b.period,
         inJob := b.jobRuns, unit := unit }] } }

/-! ## A tile issues (R110 to R113) -/

/-- The cycle in which the tile's next bundle issues. -/
def Body.nextCycle (b : Body) (nn : Nat) : Nat := max (b.tile nn).cycle (b.tile nn).nextIssue

/-- The module at that cycle: every write due by then has taken effect (R111). -/
def Body.atIssue (b : Body) (nn : Nat) : Body := b.commitTo nn (b.nextCycle nn)

/-- A bundle that holds the one instruction in the given slot issues: the tile may issue, and no condition of R113 holds. -/
def Body.canIssue (b : Body) (nn slot : Nat) (i : SInstr) : Prop :=
  b.mayIssue nn = true ∧ (b.atIssue nn).bundleStop nn (b.nextCycle nn) [(slot, some i)] = none

/-- The registers that the issue of a bundle may write: `T.PC`, the tile's busy count, and the counter of the stream that the
instruction draws from. -/
def issueKeys (nn : Nat) (draw : Option (Nat × Nat)) : List Nat :=
  [(R.T.PC.BUNDLE nn).key, (R.PV.ISL_BUSY.COUNT (iT nn)).key] ++
    (match draw with
     | some (g, _) => [(R.T.GEN_CTR_LO.CTR nn g).key, (R.T.GEN_CTR_HI.CTR nn g).key]
     | none => [])

/-- What the issue of a bundle does that holds one instruction outside the control slot: the writes `ws`, each with its latency,
join the pending ones; the next bundle stands 32 bytes on and may issue one cycle later; the stream drawn from moves on by its
blocks (R137); nothing else changes. -/
structure Issued (b c : Body) (nn : Nat) (ws : List (Nat × TileWrite)) (draw : Option (Nat × Nat)) : Prop where
  pend : (c.tile nn).pend = ((b.atIssue nn).tile nn).pend ++ ws.map (fun w => (b.nextCycle nn + w.1, w.2))
  tile : c.tile nn = { (b.atIssue nn).tile nn with
    pend := (c.tile nn).pend, nextIssue := b.nextCycle nn + 1, offEnd := (c.tile nn).offEnd, mul64 := (c.tile nn).mul64 }
  others : ∀ n, n ≠ nn → c.tile n = (b.atIssue nn).tile n
  pc : c.rd (R.T.PC.BUNDLE nn) = ((b.atIssue nn).rd (R.T.PC.BUNDLE nn) + 1) % 2 ^ 15
  regs : OnlyRegs (issueKeys nn draw) (b.atIssue nn) c
  draws : ∀ g n, draw = some (g, n) → c.genCtr nn g = ((b.atIssue nn).genCtr nn g + n) % 2 ^ 128
  bytes : SameBytes (b.atIssue nn) c
  rest : c = { b.atIssue nn with regs := c.regs, tiles := c.tiles, mem := c.mem }

/-- A tile command: `c` is one instruction `i` in slot `slot` of a bundle of tile `t`.  Where the tile may issue it, its writes
and its draw join the tile's pending ones, and nothing else happens but what the issue of every bundle does. -/
def Issues (c : Instr) (t : Fin 68) (slot : Nat) (i : SInstr) (ws : Body → List (Nat × TileWrite))
    (draw : Option (Nat × Nat)) : Prop :=
  ∀ s : State, s.body.canIssue t slot i → Gives c s (fun b => Issued s.body b t (ws (s.body.atIssue t)) draw)

/-- The one instruction's draws, when nothing was drawn before it in its bundle: element `e` of stream `g` (R88, R137). -/
def Body.draw0 (c : Body) (nn : Nat) : Nat → Nat → Nat := fun g e => drawAt (c.genKey nn g) (c.genCtr nn g) e

/-- What the issue of a bundle does that holds one instruction in the control slot: as `Issued`, but that the next bundle is
`next` and may issue in cycle `at_`, and that the tile may wait or arrive (R120, R121, R164 to R166). -/
structure Controlled (b c : Body) (nn : Nat) (ws : List (Nat × TileWrite)) (draw : Option (Nat × Nat)) (next at_ : Nat)
    (wait : Option (Nat × Nat)) (arrive : Option Nat) : Prop where
  pend : (c.tile nn).pend = ((b.atIssue nn).tile nn).pend ++ ws.map (fun w => (b.nextCycle nn + w.1, w.2))
  tile : c.tile nn = { (b.atIssue nn).tile nn with
    pend := (c.tile nn).pend, nextIssue := at_, offEnd := (c.tile nn).offEnd, waiting := wait, arriving := arrive }
  others : ∀ n, n ≠ nn → c.tile n = (b.atIssue nn).tile n
  pc : c.rd (R.T.PC.BUNDLE nn) = next % 2 ^ 15
  regs : OnlyRegs (issueKeys nn draw) (if wait.isSome then (b.atIssue nn).setTileState nn 3 else b.atIssue nn) c
  draws : ∀ g n, draw = some (g, n) → c.genCtr nn g = ((b.atIssue nn).genCtr nn g + n) % 2 ^ 128
  bytes : SameBytes (b.atIssue nn) c
  rest : c = { b.atIssue nn with regs := c.regs, tiles := c.tiles, mem := c.mem }

end Machine

end Sys2Proof
end

