-- ==== Sys2Proof/Certificates/Slice0/Obligations.lean ====
section
/-! DEFINITION. The statements for the provers: what each command does, the invariant, the slot encodings and the order of the
queue.  Each docstring names the rules of spec/ that its statement formalises, or the log entry on which it rests. -/

open Sys2Proof Sys2Proof.Machine

namespace Sys2Proof.Machine

/-! ## Terms of the statements that follow -/

/-- A fault report with this source stands on the fault tree of `c` behind those of `b`. -/
def Raised (b c : Body) (source : Nat) : Prop := ∃ r : Report, r.source = source ∧ r ∈ c.cont.tree.drop b.cont.tree.length

/-- Two ranges share no address. -/
def Apart (a n a' n' : Nat) : Prop := a + n ≤ a' ∨ a' + n' ≤ a

/-- A value as a field holds it. -/
def Field.holds (c : Body) (f : Field) (v : Nat) : Prop := c.rd f = v % 2 ^ f.w

end Sys2Proof.Machine

namespace Sys2Proof.Machine

/-! ## Terms of the statements about a tile -/

/-- A scalar register of tile `t` as 64 bits. -/
def Body.s64 (b : Body) (t : Nat) (r : BitVec 5) : BitVec 64 := BitVec.ofNat 64 ((b.tile t).getS r.toNat)

/-- The form SR rows of R138 and R139: the command, its sub-op, its latency and its result. -/
def scalarRows : List ((Fin 68 → BitVec 5 → BitVec 5 → BitVec 5 → Instr) × SrOp × Nat × (BitVec 64 → BitVec 64 → BitVec 64)) :=
  [(.add, .add, 1, fun x y => x + y),
   (.sub, .sub, 1, fun x y => x - y),
   (.and, .and_, 1, fun x y => x &&& y),
   (.or, .or_, 1, fun x y => x ||| y),
   (.xor, .xor, 1, fun x y => x ^^^ y),
   (.shl, .shl, 1, fun x y => x <<< (y.toNat % 64)),
   (.shr, .shr, 1, fun x y => x >>> (y.toNat % 64)),
   (.sra, .sra, 1, fun x y => x.sshiftRight (y.toNat % 64)),
   (.slt, .slt, 1, fun x y => if x.toInt < y.toInt then 1 else 0),
   (.sltu, .sltu, 1, fun x y => if x.toNat < y.toNat then 1 else 0),
   (.seq, .seq, 1, fun x y => if x = y then 1 else 0),
   (.min, .min_, 1, fun x y => if x.toInt ≤ y.toInt then x else y),
   (.max, .max_, 1, fun x y => if x.toInt ≤ y.toInt then y else x),
   (.minu, .minu, 1, fun x y => if x.toNat ≤ y.toNat then x else y),
   (.maxu, .maxu, 1, fun x y => if x.toNat ≤ y.toNat then y else x),
   (.mul, .mul, 3, fun x y => x * y),
   (.mulh, .mulh, 4, fun x y => BitVec.ofInt 64 (x.toInt * y.toInt / 2 ^ 64)),
   (.mulhu, .mulhu, 4, fun x y => BitVec.ofNat 64 (x.toNat * y.toNat / 2 ^ 64)),
   (.div, .div, 20, fun x y => if y = 0 then BitVec.allOnes 64 else x.sdiv y),
   (.divu, .divu, 20, fun x y => if y = 0 then BitVec.allOnes 64 else x.udiv y),
   (.rem, .rem_, 20, fun x y => if y = 0 then x else x.srem y),
   (.remu, .remu, 20, fun x y => if y = 0 then x else x.umod y)]

/-- The form SI rows of R138: the command, its sub-op and its result. -/
def immediateRows : List ((Fin 68 → BitVec 5 → BitVec 5 → BitVec 16 → Instr) × SiOp × (BitVec 64 → BitVec 16 → BitVec 64)) :=
  [(.addi, .addi, fun x n => x + n.signExtend 64),
   (.andi, .andi, fun x n => x &&& n.setWidth 64),
   (.ori, .ori, fun x n => x ||| n.setWidth 64),
   (.xori, .xori, fun x n => x ^^^ n.setWidth 64),
   (.shli, .shli, fun x n => x <<< n.toNat),
   (.shri, .shri, fun x n => x >>> n.toNat),
   (.srai, .srai, fun x n => x.sshiftRight n.toNat),
   (.lui, .lui, fun _ n => n.signExtend 64 <<< 16)]

/-- What SEL names for `sget` (R140), in the cycle in which the instruction issues. -/
def sgetRows (b : Body) (t u : Nat) : List (Nat × Nat) :=
  [(0x00, u % 2 ^ 64), (0x01, b.flags t), (0x02, b.rd (R.T.SEQ_POS.POS t 0)), (0x03, b.rd (R.T.SEQ_POS.POS t 1)),
   (0x04, 32 * b.rd (R.T.SEQ_BASE.BASE t 0)), (0x05, 32 * b.rd (R.T.SEQ_BASE.BASE t 1)),
   (0x06, b.rd (R.T.SEQ_CTRL.ACTIVE t 0)), (0x07, b.rd (R.T.SEQ_CTRL.ACTIVE t 1)),
   (0x08, b.reg (R.T.MX_STATUS.MISMATCH t).key), (0x09, b.reg (R.T.MX_PLAUS_FIRST.OP t).key)]
  ++ (List.range 4).map (fun n => (0x0A + n, b.reg (R.T.MX_SV.FLAG t n).key))
  ++ (List.range 7).map (fun k => (0x11 + k, b.reg (R.T.MX_BOUNDS.LO t (k + 1)).key))
  ++ (List.range 7).map (fun k => (0x19 + k, b.reg (R.T.MX_BOUNDS_CTRL.MAX_OUT t (k + 1)).key))

end Sys2Proof.Machine

/-- R138, R139: every form SR row writes its result into RD after its latency, every form SI row after one cycle. -/
def Obligations.ScalarRows : Prop :=
  (∀ row ∈ scalarRows, ∀ (t : Fin 68) (rd ra rb : BitVec 5),
    Issues (row.1 t rd ra rb) t 0 (.sr row.2.1 rd ra rb)
      (fun b => [(row.2.2.1, .s rd.toNat (row.2.2.2 (b.s64 t ra) (b.s64 t rb)).toNat)]) none)
  ∧ (∀ row ∈ immediateRows, ∀ (t : Fin 68) (rd ra : BitVec 5) (imm : BitVec 16),
    Issues (row.1 t rd ra imm) t 0 (.si row.2.1 rd ra imm)
      (fun b => [(1, .s rd.toNat (row.2.2 (b.s64 t ra) imm).toNat)]) none)

/-- R140, R141: wherever a tile may issue them, `sget` reads what its selector names, `sput` and `qadv` write what theirs names, and
an `sput` of a value which a bounds register refuses issues without a write and leaves a configuration event of the tile. -/
def Obligations.TileStateRows : Prop :=
  (∀ (t : Fin 68) (rg : BitVec 5) (s : State) (sel : BitVec 8) (v : Nat),
    s.body.canIssue t 0 (.sx .sget rg sel) → (sel.toNat, v) ∈ sgetRows (s.body.atIssue t) t (s.body.nextCycle t) →
    Gives (.sget t rg sel) s (fun b => Issued s.body b t [(2, .s rg.toNat v)] none))
  ∧ (∀ (t : Fin 68) (rg : BitVec 5),
    Issues (.sputFlags t rg) t 0 (.sx .sput rg 1) (fun b => [(1, .putFlags ((b.s64 t rg).toNat % 32))]) none)
  ∧ (∀ (t : Fin 68) (rg : BitVec 5) (k : BitVec 3) (s : State), k ≠ 0 →
    s.body.canIssue t 0 (.sx .sput rg (0x10#8 + k.setWidth 8)) →
    let b := s.body.atIssue t
    let v := (b.s64 t rg).toNat
    if b.boundsAccepted t k.toNat v then
      Gives (.sputBounds t rg k) s (fun c => Issued s.body c t [(1, .reg (R.T.MX_BOUNDS.LO t k.toNat).key 0 64 v)] none)
    else
      Gives (.sputBounds t rg k) s (fun c => ∃ d : Body, Issued s.body d t [] none
        ∧ Exactly (d.cfgEvent .tile (iT t) (0x2100 + 16 * k.toNat) v 0) c))
  ∧ (∀ (t : Fin 68) (rg : BitVec 5) (k : BitVec 3) (s : State), k ≠ 0 →
    s.body.canIssue t 0 (.sx .sput rg (0x18#8 + k.setWidth 8)) →
    let b := s.body.atIssue t
    let v := (b.s64 t rg).toNat
    if b.boundsCtrlAccepted t k.toNat v then
      Gives (.sputBoundsCtrl t rg k) s (fun c => Issued s.body c t
        [(1, .reg (R.T.MX_BOUNDS_CTRL.MAX_OUT t k.toNat).key 0 15 v),
         (1, .reg (R.T.MX_BOUNDS_CTRL.MAX_OUT t k.toNat).key 16 3 (v / 2 ^ 16))] none)
    else
      Gives (.sputBoundsCtrl t rg k) s (fun c => ∃ d : Body, Issued s.body d t [] none
        ∧ Exactly (d.cfgEvent .tile (iT t) (0x2108 + 16 * k.toNat) (v % 2 ^ 32) 0) c))
  ∧ (∀ (t : Fin 68) (rg : BitVec 5) (sel : BitVec 8),
    Issues (.qadv t rg sel) t 0 (.sx .qadv rg sel) (fun b => [(1, .qadd sel.toNat (b.s64 t rg).toNat)]) none)

namespace Sys2Proof.Machine

/-- One element of a form VA row: the format, the width of its codes, RM, the draw, and the codes in VA, VB and VD. -/
abbrev Elem := FpFmt → Nat → Nat → Nat → Nat → Nat → Nat → Fpr

/-- A form VA command. -/
abbrev VaCtor := Fin 68 → BitVec 5 → BitVec 5 → BitVec 5 → BitVec 4 → BitVec 4 → BitVec 3 → Instr

/-- The element-wise rows of R144 and R146: the command, its sub-op, its latency for binary16, binary32 and binary64, and the
element it computes.  The sign bit of a code of width w is 2^(w−1). -/
def elementRows : List (VaCtor × VaOp × (Nat × Nat × Nat) × Elem) :=
  [(.vadd, .vadd, (4, 4, 5), fun f _ rm u x y _ => f.add rm u (f.decode x) (f.decode y)),
   (.vsub, .vsub, (4, 4, 5), fun f _ rm u x y _ => f.sub rm u (f.decode x) (f.decode y)),
   (.vmul, .vmul, (5, 5, 7), fun f _ rm u x y _ => f.mul rm u (f.decode x) (f.decode y)),
   (.vfma, .vfma, (5, 5, 7), fun f _ rm u x y z => f.fma rm u (f.decode x) (f.decode y) (f.decode z)),
   (.vfms, .vfms, (5, 5, 7), fun f _ rm u x y z => f.fma rm u (f.decode x) (f.decode y) (f.decode z).negate),
   (.vdiv, .vdiv, (12, 18, 30), fun f _ rm u x y _ => f.div rm u (f.decode x) (f.decode y)),
   (.vsqrt, .vsqrt, (12, 18, 30), fun f _ rm u x _ _ => f.sqrt rm u (f.decode x)),
   (.vrem, .vrem, (14, 22, 40), fun f _ _ _ x y _ => f.rem (f.decode x) (f.decode y)),
   (.vmin, .vmin, (4, 4, 5), fun f _ _ _ x y _ => f.minMax false false x y),
   (.vmax, .vmax, (4, 4, 5), fun f _ _ _ x y _ => f.minMax true false x y),
   (.vminn, .vminn, (4, 4, 5), fun f _ _ _ x y _ => f.minMax false true x y),
   (.vmaxn, .vmaxn, (4, 4, 5), fun f _ _ _ x y _ => f.minMax true true x y),
   (.vabs, .vabs, (1, 1, 1), fun _ w _ _ x _ _ => ⟨x % 2 ^ (w - 1), 0⟩),
   (.vneg, .vneg, (1, 1, 1), fun _ w _ _ x _ _ => ⟨(x + 2 ^ (w - 1)) % 2 ^ w, 0⟩),
   (.vcsgn, .vcsgn, (1, 1, 1), fun _ w _ _ x y _ => ⟨x % 2 ^ (w - 1) + y / 2 ^ (w - 1) * 2 ^ (w - 1), 0⟩),
   (.vrint, .vrint, (3, 3, 3), fun f _ rm _ x _ _ => f.rint rm false (f.decode x)),
   (.vrintx, .vrintx, (3, 3, 3), fun f _ rm _ x _ _ => f.rint rm true (f.decode x)),
   (.vscaleb, .vscaleb, (3, 3, 3), fun f w rm u x y _ => f.scaleB rm u (f.decode x) (signed y (if w = 64 then 32 else w))),
   (.vlogb, .vlogb, (3, 3, 3), fun f w _ _ x _ _ => logB (if w = 64 then 32 else w) (f.decode x)),
   (.vclass, .vclass, (2, 2, 2), fun f _ _ _ x _ _ => ⟨f.classOf x, 0⟩)]

/-- The rows of R147, which take binary16 and binary32 and round to nearest even. -/
def functionRows : List (VaCtor × VaOp × (Nat × Nat × Nat) × Elem) :=
  [(.vexp2, .vexp2, (10, 16, 16), fun f _ _ _ x _ _ => f.exp2 (f.decode x)),
   (.vexp, .vexp, (10, 16, 16), fun f _ _ _ x _ _ => f.exp (f.decode x)),
   (.vlog2, .vlog2, (10, 16, 16), fun f _ _ _ x _ _ => f.log true (f.decode x)),
   (.vlog, .vlog, (10, 16, 16), fun f _ _ _ x _ _ => f.log false (f.decode x)),
   (.vsinpi, .vsinpi, (10, 16, 16), fun f _ _ _ x _ _ => f.trigpi false (f.decode x)),
   (.vcospi, .vcospi, (10, 16, 16), fun f _ _ _ x _ _ => f.trigpi true (f.decode x)),
   (.vtanh, .vtanh, (10, 16, 16), fun f _ _ _ x _ _ => f.tanh (f.decode x)),
   (.vsigm, .vsigm, (10, 16, 16), fun f _ _ _ x _ _ => f.sigm (f.decode x)),
   (.vrsqrt, .vrsqrt, (10, 16, 16), fun f _ _ _ x _ _ => f.rsqrt (f.decode x)),
   (.vrcpe, .vrcpe, (4, 4, 4), fun f _ _ _ x _ _ => f.rcpe (f.decode x))]

/-- The format and width that FMT names: 0 binary32, 1 binary16, 2 binary64 (R142). -/
def fmtOf (fmt : BitVec 4) : FpFmt × Nat := if fmt = 1 then (fmtB16, 16) else if fmt = 2 then (fmtB64, 64) else (fmtB32, 32)

/-- The latency for FMT of a triple for binary16, binary32 and binary64. -/
def latencyOf (fmt : BitVec 4) (l : Nat × Nat × Nat) : Nat := if fmt = 1 then l.1 else if fmt = 2 then l.2.2 else l.2.1

/-- The writes of an element-wise row: the governed elements of VD take their results and `T.FLAGS` the union of their flags
(R136, R142).  Under RM 4, P names the stream of the draws and p0 governs. -/
def elementWrites (b : Body) (t : Nat) (vd va vb : BitVec 5) (p fmt : BitVec 4) (rm : BitVec 3) (lat : Nat) (e : Elem) :
    List (Nat × TileWrite) :=
  let f := (fmtOf fmt).1
  let w := (fmtOf fmt).2
  let reg (r : BitVec 5) : Nat := (b.tile t).getV r.toNat
  let gov := if rm = 4 then 2 ^ 1024 - 1 else (b.tile t).getP p.toNat
  let u (n : Nat) : Nat := if rm = 4 then b.draw0 t (p.toNat % 8) n else 0
  vecOut lat vd.toNat (gather w (32768 / w) gov (fun n =>
    e f w rm.toNat (u n) (elemOf (reg va) w n) (elemOf (reg vb) w n) (elemOf (reg vd) w n)))

/-- The 256, 512 or 128 blocks drawn under RM 4, four elements to a block (R88, R137). -/
def elementDraw (p fmt : BitVec 4) (rm : BitVec 3) : Option (Nat × Nat) :=
  if rm = 4 then some (p.toNat % 8, 32768 / (fmtOf fmt).2 / 4) else none

/-- The form VINT rows of R149: the command, its sub-op, its latency and the value of one lane. -/
def laneRows : List ((Fin 68 → BitVec 5 → BitVec 5 → BitVec 5 → BitVec 4 → BitVec 3 → Instr) × IntOp × Nat
    × (BitVec 32 → BitVec 32 → BitVec 32)) :=
  [(.viadd, .viadd, 2, fun x y => x + y),
   (.visub, .visub, 2, fun x y => x - y),
   (.vimul, .vimul, 4, fun x y => x * y),
   (.vand, .vand, 1, fun x y => x &&& y),
   (.vor, .vor, 1, fun x y => x ||| y),
   (.vxor, .vxor, 1, fun x y => x ^^^ y),
   (.vandn, .vandn, 1, fun x y => x &&& ~~~y),
   (.vshl, .vshl, 2, fun x y => x <<< (y.toNat % 32)),
   (.vshr, .vshr, 2, fun x y => x >>> (y.toNat % 32)),
   (.vsra, .vsra, 2, fun x y => x.sshiftRight (y.toNat % 32)),
   (.vimin, .vimin, 2, fun x y => if x.toInt ≤ y.toInt then x else y),
   (.vimax, .vimax, 2, fun x y => if x.toInt ≤ y.toInt then y else x),
   (.viminu, .viminu, 2, fun x y => if x.toNat ≤ y.toNat then x else y),
   (.vimaxu, .vimaxu, 2, fun x y => if x.toNat ≤ y.toNat then y else x)]

/-- Lane `l` of a vector register as 32 bits. -/
def Body.lane (b : Body) (t : Nat) (r : BitVec 5) (l : Nat) : BitVec 32 := BitVec.ofNat 32 (elemOf ((b.tile t).getV r.toNat) 32 l)

/-- The form VDATA rows of R149 without predicate: the command, its sub-op, its latency and the value of VD. -/
def dataRows : List ((Fin 68 → BitVec 5 → BitVec 5 → BitVec 5 → BitVec 4 → BitVec 3 → Instr) × DataOp × Nat
    × (Body → Nat → BitVec 5 → BitVec 5 → BitVec 4 → Nat)) :=
  [(.vsel, .vsel, 1, fun b t va vb p => packElems 32 ((List.range 1024).map (fun l =>
      (if bit ((b.tile t).getP p.toNat) l then b.lane t va l else b.lane t vb l).toNat))),
   (.vbc32, .vbc32, 2, fun b t _ vb _ => packElems 32 ((List.range 1024).map (fun _ => (b.s64 t vb).toNat % 2 ^ 32))),
   (.vbc64, .vbc64, 2, fun b t _ vb _ => packElems 64 ((List.range 512).map (fun _ => (b.s64 t vb).toNat))),
   (.vrot, .vrot, 3, fun b t va vb _ => packElems 32 ((List.range 1024).map (fun l =>
      (b.lane t va ((l + 1024 - (b.s64 t vb).toNat % 1024) % 1024)).toNat))),
   (.vperm, .vperm, 6, fun b t va vb _ => packElems 32 ((List.range 1024).map (fun l =>
      (b.lane t va ((b.lane t vb l).toNat % 1024)).toNat))),
   (.pk6, .pk6, 3, fun b t va _ _ => packElems 6 ((List.range 4096).map (fun e => elemOf ((b.tile t).getV va.toNat) 8 e))),
   (.up6, .up6, 3, fun b t va _ _ => packElems 8 ((List.range 4096).map (fun e => elemOf ((b.tile t).getV va.toNat) 6 e)))]

/-- The form VP rows of R150: the command, its sub-op and the value of PD. -/
def predicateRows : List ((Fin 68 → BitVec 4 → BitVec 4 → BitVec 4 → Instr) × PredOp × (BitVec 1024 → BitVec 1024 → BitVec 1024)) :=
  [(.predAnd, .and_, fun x y => x &&& y),
   (.predOr, .or_, fun x y => x ||| y),
   (.predXor, .xor, fun x y => x ^^^ y),
   (.predAndn, .andn, fun x y => x &&& ~~~y),
   (.predNot, .not_, fun x _ => ~~~x),
   (.predZeros, .zeros, fun _ _ => 0),
   (.predOnes, .ones, fun _ _ => BitVec.allOnes 1024),
   (.predLowest, .lowest, fun x _ => x &&& -x)]

/-- A predicate register of tile `t` as 1,024 bits; p0 reads all ones. -/
def Body.p1024 (b : Body) (t : Nat) (r : BitVec 4) : BitVec 1024 := BitVec.ofNat 1024 ((b.tile t).getP r.toNat)

/-- The conversion rows of R152: the command and the code of its destination format. -/
def convertRows : List ((Fin 68 → BitVec 5 → BitVec 5 → BitVec 4 → BitVec 3 → BitVec 3 → BitVec 4 → Instr) × BitVec 4) :=
  [(.convertToBinary32, 0x0), (.convertToBinary16, 0x1), (.convertToBinary64, 0x2), (.convertToW16, 0x3), (.convertToN8, 0x4),
   (.convertToG8, 0x5), (.convertToN6, 0x6), (.convertToN4, 0x7), (.convertToI8, 0x8), (.convertToI4, 0x9),
   (.convertToU8, 0xA), (.convertToI32, 0xC)]

/-- The bits that an element of a format takes in a register: N6 stands in 8 (R135). -/
def elemBits (fmt : BitVec 4) : Nat :=
  if fmt = 2 then 64 else if fmt = 0 ∨ fmt = 0xC then 32 else if fmt = 1 ∨ fmt = 3 ∨ fmt = 0xB then 16 else if fmt = 7 ∨ fmt = 9 then 4 else 8

end Sys2Proof.Machine

/-- R144, R146, R147: the element-wise rows of the vector section; the transcendental rows and the reciprocal estimate among them. -/
def Obligations.VectorElementRows : Prop :=
  (∀ row ∈ elementRows, ∀ (t : Fin 68) (vd va vb : BitVec 5) (p fmt : BitVec 4) (rm : BitVec 3),
    Issues (row.1 t vd va vb p fmt rm) t 2 (.va row.2.1 vd va vb p fmt rm)
      (fun b => elementWrites b t vd va vb p fmt rm (latencyOf fmt row.2.2.1) row.2.2.2) (elementDraw p fmt rm))
  ∧ (∀ row ∈ functionRows, ∀ (t : Fin 68) (vd va vb : BitVec 5) (p fmt : BitVec 4) (rm : BitVec 3),
    Issues (row.1 t vd va vb p fmt rm) t 2 (.va row.2.1 vd va vb p fmt rm)
      (fun b => elementWrites b t vd va vb p fmt rm (latencyOf fmt row.2.2.1) row.2.2.2) none)

/-- R148: `vradd` and `vrmax` give every element of VD the value of the fixed tree over the governed elements, where an
ungoverned element stands as the identity: a zero of negative sign (positive under RM 3) for the sum, −∞ for the maximum. -/
def Obligations.VectorReductionRows : Prop :=
  ∀ (t : Fin 68) (vd va vb : BitVec 5) (p fmt : BitVec 4) (rm : BitVec 3),
    let f := (fmtOf fmt).1
    let w := (fmtOf fmt).2
    let n := 32768 / w
    let leaves (b : Body) (identity : Nat) : List Nat := (List.range n).map (fun e =>
      if governs ((b.tile t).getP p.toNat) n e then elemOf ((b.tile t).getV va.toNat) w e else identity)
    let whole (lat : Nat) (r : Nat × Nat) : List (Nat × TileWrite) :=
      vecOut lat vd.toNat (packElems w (List.replicate n r.1), 2 ^ 32768 - 1, r.2)
    let levels := if fmt = 1 then 11 else if fmt = 2 then 9 else 10
    Issues (.vradd t vd va vb p fmt rm) t 2 (.va .vradd vd va vb p fmt rm)
        (fun b => whole (latencyOf fmt (13, 12, 14))
          (treeLevels (fun x y => f.add rm.toNat 0 (f.decode x) (f.decode y)) levels
            (leaves b (if rm = 3 then 0 else 2 ^ (w - 1))) 0)) none
    ∧ Issues (.vrmax t vd va vb p fmt rm) t 2 (.va .vrmax vd va vb p fmt rm)
        (fun b => whole (latencyOf fmt (13, 12, 14))
          (treeLevels (fun x y => f.minMax true true x y) levels (leaves b (f.infinity true)) 0)) none

/-- R149: the lane-wise I32 rows, whose lanes with a clear predicate bit keep their value; the data rows write every lane of VD. -/
def Obligations.VectorLaneRows : Prop :=
  (∀ row ∈ laneRows, ∀ (t : Fin 68) (vd va vb : BitVec 5) (p : BitVec 4) (rm : BitVec 3),
    Issues (row.1 t vd va vb p rm) t 2 (.vint row.2.1 vd va vb p rm)
      (fun b => vecOut row.2.2.1 vd.toNat (gather 32 1024 (b.p1024 t p).toNat
        (fun l => ⟨(row.2.2.2 (b.lane t va l) (b.lane t vb l)).toNat, 0⟩))) none)
  ∧ (∀ row ∈ dataRows, ∀ (t : Fin 68) (vd va vb : BitVec 5) (p : BitVec 4) (rm : BitVec 3),
    Issues (row.1 t vd va vb p rm) t 2 (.vdata row.2.1 vd va vb p rm)
      (fun b => [(row.2.2.1, .v vd.toNat (row.2.2.2 b t va vb p) (2 ^ 32768 - 1))]) none)

/-- R145, R149, R150: `vcmp`, `vicmp` and the predicate rows. -/
def Obligations.PredicateRows : Prop :=
  (∀ row ∈ predicateRows, ∀ (t : Fin 68) (pd pa pb : BitVec 4),
    Issues (row.1 t pd pa pb) t 2 (.vp row.2.1 pd pa pb)
      (fun b => [(1, .p pd.toNat (row.2.2 (b.p1024 t pa) (b.p1024 t pb)).toNat (2 ^ 1024 - 1))]) none)
  ∧ (∀ (t : Fin 68) (half : BitVec 1) (pd : BitVec 4) (va vb : BitVec 5) (p fmt : BitVec 4) (cond : BitVec 3),
    Issues (.vicmp t half pd va vb p fmt cond) t 2 (.vk true half pd va vb p fmt cond)
      (fun b =>
        let rel (x y : BitVec 32) : Bool :=
          if cond = 0 then decide (x = y) else if cond = 1 then decide (x ≠ y)
          else if cond = 2 then decide (x.toInt < y.toInt) else if cond = 3 then decide (x.toInt ≤ y.toInt)
          else if cond = 4 then decide (x.toNat < y.toNat) else decide (x.toNat ≤ y.toNat)
        [(2, .p pd.toNat (packElems 1 ((List.range 1024).map (fun l => b2n (rel (b.lane t va l) (b.lane t vb l)))))
          (b.p1024 t p).toNat)]) none)
  ∧ (∀ (t : Fin 68) (half : BitVec 1) (pd : BitVec 4) (va vb : BitVec 5) (p fmt : BitVec 4) (cond : BitVec 3),
    Issues (.vcmp t half pd va vb p fmt cond) t 2 (.vk false half pd va vb p fmt cond)
      (fun b =>
        let f := (fmtOf fmt).1
        let w := (fmtOf fmt).2
        let step := if fmt = 2 then 2 else 1
        let at_ (r : BitVec 5) (l : Nat) : Val :=
          f.decode (elemOf ((b.tile t).getV r.toNat) w (if fmt = 1 then 2 * l + half.toNat else l))
        let one (l : Nat) : Nat × Nat × Nat :=
          if bit (b.p1024 t p).toNat (step * l) then
            let r := fpCompare cond.toNat (at_ va l) (at_ vb l)
            (b2n r.1, 1, if r.2 then flagInvalid else 0)
          else (0, 0, 0)
        let all := (List.range (1024 / step)).map one
        let bits_ (g : Nat × Nat × Nat → Nat) : Nat := packElems step (all.map (fun x => g x * (2 ^ step - 1)))
        let fl := all.foldl (fun a x => a ||| x.2.2) 0
        (3, .p pd.toNat (bits_ (·.1)) (bits_ (·.2.1))) :: (if fl = 0 then [] else [(3, .flags fl)])) none)

/-- R151, R152: accumulator access and the conversions: PART names the part of VA that a widening conversion reads, or the part
of VD that a narrowing one writes; the other elements of VD keep their value. -/
def Obligations.AccumulatorAndConversionRows : Prop :=
  (∀ (t : Fin 68) (vd : BitVec 5) (acc : BitVec 2) (blk : BitVec 4),
    Issues (.vrdacc t vd acc blk) t 2 (.vq false vd acc blk)
      (fun b => [(4, .v vd.toNat (packElems 32 ((List.range 1024).map (fun l =>
        (b.tile t).getA acc.toNat (128 * (8 * blk.toNat + l / 128) + l % 128)))) (2 ^ 32768 - 1))]) none)
  ∧ (∀ (t : Fin 68) (vd : BitVec 5) (acc : BitVec 2) (blk : BitVec 4),
    Issues (.vwracc t vd acc blk) t 2 (.vq true vd acc blk)
      (fun b => [(4, .a acc.toNat ((List.range 1024).map (fun l =>
        (128 * (8 * blk.toNat + l / 128) + l % 128, (b.lane t vd l).toNat))))]) none)
  ∧ (∀ row ∈ convertRows, ∀ (t : Fin 68) (vd va : BitVec 5) (src : BitVec 4) (rm part : BitVec 3) (p : BitVec 4),
    let ws := elemBits src
    let wd := elemBits row.2
    let n := 32768 / max ws wd
    Issues (row.1 t vd va src rm part p) t 2 (.vc row.2 vd va src rm part p)
      (fun b =>
        let code (e : Nat) : Nat :=
          elemOf ((b.tile t).getV va.toNat) ws (if ws < wd then part.toNat * n + e else e) % (if src = 6 then 64 else 2 ^ 64)
        let gov := if rm = 4 then 2 ^ 1024 - 1 else (b.tile t).getP p.toNat
        let r := gather wd n gov (fun e =>
          convertFmt row.2.toNat rm.toNat (if rm = 4 then b.draw0 t (p.toNat % 8) e else 0) (decodeFmt src.toNat (code e)))
        let shift := if wd < ws then part.toNat * n * wd else 0
        vecOut (if src = 2 ∨ row.2 = 2 then 5 else 4) vd.toNat (r.1 * 2 ^ shift, r.2.1 * 2 ^ shift, r.2.2))
      (if rm = 4 then some (p.toNat % 8, (n + 3) / 4) else none))

namespace Sys2Proof.Machine

/-! ## Terms of the statements about matrix operations, moves and control -/

/-- The integer that element `i` of packed bytes stands for: I8, I4 or U8 (R68, R81). -/
def intElement (fmt : Nat) (bs : Bytes) (i : Nat) : Int :=
  if fmt = 8 then signed (le bs i 1) 8
  else if fmt = 9 then signed (bits (le bs (i / 2) 1) (4 * (i % 2)) 4) 4
  else (le bs i 1 : Int)

/-- The float-class element of R91: the rounded chunk sums added one after the other, and last the addend. -/
def chunked (xs ys : List Val) (len : Nat) (add : Option Nat) : Nat :=
  let part (l : List Val) (j : Nat) : List Val := (l.drop (j * len)).take len
  let c (j : Nat) : Nat := (roundChunk (part xs j) (part ys j) (chunkSum (part xs j) (part ys j))).bits
  let sum := (List.range (ceilDiv xs.length len)).foldl (fun acc j => if j = 0 then c 0 else (addB32 acc (c j)).bits) 0
  match add with
  | some t => (addB32 sum t).bits
  | none => sum

/-- Row `i` of an operand of `mx` as values: `base`, `stride` and `scales` from the record, a single row at the base (R154, R155). -/
def Body.operandRow (b : Body) (t fmt k rows base stride : Nat) (scaled : Bool) (scales i : Nat) : List Val :=
  let at_ := base + i * (if rows ≤ 1 then 0 else stride)
  operandVals fmt k (b.sram t at_ (packedLen fmt k)) scaled
    (if scaled then b.sram t (scales + i * scaleStride k) (ceilDiv k 64) else [])

/-- The number of cycles in which an `mx` occupies the array (R107): 24, and for each slab of depth D the rows, 128 at least,
and 128 more after more than 128 idle cycles. -/
def mxCycles (t : Tile) (u : Nat) (fa fb : Nat) (r : MxRec) : Nat :=
  let d := ((mxClass fa fb).getD (0, 256, 128)).2.2
  if r.m = 0 ∨ r.n = 0 ∨ r.k = 0 then 24
  else 24 + (r.k + d - 1) / d * max r.m 128 + (if !t.arrayUsed || decide (t.arrayWork + 128 < u) then 128 else 0)

/-- The address of a move: RA + IMM × scale, with the offset of the slot's base in the tile's window under BASE 1 and 2 (R159). -/
def Body.moveTo (b : Body) (t : Nat) (ra : BitVec 5) (base : BitVec 2) (imm scale : Nat) : Nat :=
  let q (s : Nat) : Nat := 32 * b.rd (R.T.SEQ_BASE.BASE t s) % 2 ^ 23
  let off := if base = 1 then q 0 else if base = 2 then q 1 else 0
  ((b.s64 t ra).toNat + imm * scale + off) % 2 ^ 64

/-- `n` bytes of tile `t`'s SRAM from `off` as a little-endian number. -/
def Body.sramLe (b : Body) (t off n : Nat) : Nat :=
  leNat ((List.range n).map (fun i => b.byte (0xF00000000000 + t * 0x1000000 + off + i)))

/-- The writes `ws` of an `stv` put, when they take effect, the bytes of the lanes whose predicate bit is 1 into the 4,096 bytes
from `a`, and no other byte. -/
def storesLanes (t a p v : Nat) (ws : List (Nat × TileWrite)) : Prop :=
  ∀ (x : Body) (off : Nat), (forEach ws (fun w y => y.applyWrite t w.2) x).byte (sramBase t + off) =
    if a ≤ off ∧ off < a + 4096 ∧ bit p ((off - a) / 4) then BitVec.ofNat 8 (v / 2 ^ (8 * (off - a)))
    else x.byte (sramBase t + off)

/-- The value of an accumulator element for `sta`: I32 or binary32. -/
def staValue (srci : BitVec 1) (e : Nat) : Val := if srci = 1 then valOfInt (signed e 32) else b32 e

end Sys2Proof.Machine

/-- R91, R92, R98, R102, R107, R157, R158, R321: an `mx` that passes its checks occupies the array, joins the flights with the next
operation index, and after its occupancy writes the M × N elements: for the integer formats the clamped exact sum of products and
the addend, for the others the sum of R91.  The clause on the values is stated for an array without disturbances; all others hold
under any.  `mxz` writes +0 to all 16,384 elements after 8 cycles; a release from CT or MG clears the capture registers,
CAPTURE_VALID and MERGED, and one from another master, or to a closed tile, changes nothing. -/
def Obligations.MatrixRows : Prop :=
  (∀ (t : Fin 68) (acc : BitVec 2) (fa fb : BitVec 4) (rr : BitVec 5) (bnd : BitVec 3) (add : BitVec 1) (at_ : BitVec 2)
    (sa sb : BitVec 1) (faults : List ArrayFault) (s : State),
    s.body.canIssue t 4 (.mx acc fa fb rr bnd add at_ sa sb) →
    Gives (.mx t acc fa fb rr bnd add at_ sa sb faults) s (fun c =>
      let b := s.body.atIssue t
      let u := s.body.nextCycle t
      let r := mxRec ((List.range 4).map (fun i => (b.tile t).getS (rr.toNat + i)))
      let occ := mxCycles (b.tile t) u fa.toNat fb.toNat r
      let addend (i j : Nat) : Option Nat := if add = 1 then some ((b.tile t).getA at_.toNat (128 * i + j)) else none
      let value (i j : Nat) : Nat :=
        if r.k = 0 then (addend i j).getD 0
        else if (mxClass fa.toNat fb.toNat).map (·.1) = some 1 then
          let x := b.sram t (r.a + i * (if r.m ≤ 1 then 0 else r.strideA)) (packedLen fa.toNat r.k)
          let y := b.sram t (r.b + j * (if r.n ≤ 1 then 0 else r.strideB)) (packedLen fb.toNat r.k)
          let sum := ((List.range r.k).map (fun k => intElement fa.toNat x k * intElement fb.toNat y k)).sum
            + signed ((addend i j).getD 0) 32
          unsigned (clampInt sum (-2 ^ 31) (2 ^ 31 - 1)) 32
        else chunked (b.operandRow t fa.toNat r.k r.m r.a r.strideA (sa = 1) r.sa i)
          (b.operandRow t fb.toNat r.k r.n r.b r.strideB (sb = 1) r.sb j)
          (((mxClass fa.toNat fb.toNat).map (·.2.1)).getD 256) (addend i j)
      ∃ (cells : List (Nat × Nat)) (flags : List (Nat × TileWrite)) (f : MxFlight),
        (c.tile t).pend = (b.tile t).pend ++ (u + occ, .a acc.toNat cells) :: flags ++ [(u + occ, .mxDone f.op)]
        ∧ cells.map (·.1) = (List.range (min r.m 128)).flatMap (fun i => (List.range (min r.n 128)).map (fun j => 128 * i + j))
        ∧ (faults = [] → cells.map (·.2) = (List.range (min r.m 128)).flatMap (fun i => (List.range (min r.n 128)).map (fun j => value i j)))
        ∧ (∀ w ∈ flags, ∃ g, w = (u + occ, .flags g))
        ∧ f.op = (b.tile t).opIndex ∧ f.due = u + occ
        ∧ c.tile t = { b.tile t with
            pend := (c.tile t).pend, nextIssue := u + 1, offEnd := (c.tile t).offEnd, opIndex := f.op + 1,
            mx := (b.tile t).mx ++ [f], arrayEnd := u + occ,
            arrayWork := if r.m = 0 ∨ r.n = 0 ∨ r.k = 0 then (b.tile t).arrayWork else u + occ,
            arrayUsed := (b.tile t).arrayUsed || !(decide (r.m = 0 ∨ r.n = 0 ∨ r.k = 0)),
            accBusy := (b.tile t).accBusy ++ (acc.toNat, u + occ) :: (if add = 1 then [(at_.toNat, u + occ)] else []) }
        ∧ (∀ n, n ≠ t.val → c.tile n = b.tile n)
        ∧ c.rd (R.T.PC.BUNDLE t) = (b.rd (R.T.PC.BUNDLE t) + 1) % 2 ^ 15
        ∧ c.rd (R.T.MX_OPS.COUNT t) = (b.rd (R.T.MX_OPS.COUNT t) + 1) % 2 ^ 64
        ∧ OnlyRegs ((R.T.MX_OPS.COUNT t).key :: issueKeys t none) b c ∧ SameBytes b c
        ∧ c = { b with regs := c.regs, tiles := c.tiles, mem := c.mem }))
  ∧ (∀ (t : Fin 68) (acc : BitVec 2) (s : State), s.body.canIssue t 4 (.mxz acc) →
    Gives (.mxz t acc) s (fun c =>
      let b := s.body.atIssue t
      let u := s.body.nextCycle t
      c.tile t = { b.tile t with
          pend := (b.tile t).pend ++ [(u + 8, .a acc.toNat ((List.range 16384).map (fun e => (e, 0))))], nextIssue := u + 1,
          offEnd := (c.tile t).offEnd, arrayEnd := u + 8, accBusy := (b.tile t).accBusy ++ [(acc.toNat, u + 8)] }
      ∧ (∀ n, n ≠ t.val → c.tile n = b.tile n) ∧ c.rd (R.T.PC.BUNDLE t) = (b.rd (R.T.PC.BUNDLE t) + 1) % 2 ^ 15
      ∧ OnlyRegs (issueKeys t none) b c ∧ SameBytes b c ∧ c = { b with regs := c.regs, tiles := c.tiles, mem := c.mem }))
  ∧ (∀ (t : Fin 68) (m : Master) (s : State),
    let b := s.body
    if b.inService (iT t) = true ∧ (m = .mg ∨ m = .ct) then
      Gives (.mxRelease t m) s (UpToDb ((((((b.setReg (R.T.MX_CAPTURE.OP t).key 0).wr (R.T.MX_CAPTURE_PERIOD.PERIOD t) 0).wr
        (R.T.MX_CAPTURE_PC.BUNDLE t) 0).wr (R.T.MX_STATUS.CAPTURE_VALID t) 0).wr (R.T.MX_STATUS.MERGED t) 0).setTile t
          { b.tile t with captureOwned := false }))
    else Gives (.mxRelease t m) s (UpToDb b))

/-- R159 to R161: loads write the bytes at the address, sign-extended, zero-extended, or whole; stores put theirs there in the next
cycle, an `stv` only those of the lanes whose predicate bit is 1.  `lda` loads eight rows of 128 elements; `sta` converts eight
rows to FMT and stores them, with block scales under SC, in which case each row is two blocks of 64 elements. -/
def Obligations.MoveRows : Prop :=
  (∀ (t : Fin 68) (rd ra : BitVec 5) (base w : BitVec 2) (imm : BitVec 12),
    let n := 2 ^ w.toNat
    let off (b : Body) : Nat := b.moveTo t ra base imm.toNat n
    Issues (.lds t rd ra base w imm) t 5 (.ml 0 rd ra base w imm)
        (fun b => [(4, .s rd.toNat (unsigned (signed (b.sramLe t (off b) n) (8 * n)) 64))]) none
    ∧ Issues (.ldu t rd ra base w imm) t 5 (.ml 1 rd ra base w imm) (fun b => [(4, .s rd.toNat (b.sramLe t (off b) n))]) none
    ∧ Issues (.sts t rd ra base w imm) t 5 (.ml 2 rd ra base w imm)
        (fun b => [(1, .store (off b) (leBytes n (b.s64 t rd).toNat))]) none)
  ∧ (∀ (t : Fin 68) (vd ra : BitVec 5) (base : BitVec 2) (p : BitVec 4) (imm : BitVec 10),
    let off (b : Body) : Nat := b.moveTo t ra base imm.toNat 32
    Issues (.ldv t vd ra base p imm) t 5 (.mv false vd ra base p imm)
        (fun b => [(6, .v vd.toNat (b.sramLe t (off b) 4096) (2 ^ 32768 - 1))]) none
    ∧ (∀ s : State, s.body.canIssue t 5 (.mv true vd ra base p imm) →
        Gives (.stv t vd ra base p imm) s (fun c => ∃ ws : List (Nat × TileWrite), (∀ w ∈ ws, w.1 = 1)
          ∧ Issued s.body c t ws none
          ∧ storesLanes t (off (s.body.atIssue t)) (((s.body.atIssue t).tile t).getP p.toNat)
              (((s.body.atIssue t).tile t).getV vd.toNat) ws)))
  ∧ (∀ (t : Fin 68) (pd : BitVec 4) (ra : BitVec 5) (base : BitVec 2) (p : BitVec 4) (imm : BitVec 10),
    let off (b : Body) : Nat := b.moveTo t ra base imm.toNat 32
    Issues (.ldp t pd ra base p imm) t 5 (.mp false pd ra base p imm)
        (fun b => [(4, .p pd.toNat (b.sramLe t (off b) 128) (2 ^ 1024 - 1))]) none
    ∧ Issues (.stp t pd ra base p imm) t 5 (.mp true pd ra base p imm)
        (fun b => [(1, .store (off b) (leBytes 128 (b.p1024 t pd).toNat))]) none)
  ∧ (∀ (t : Fin 68) (acc : BitVec 2) (blk fmt : BitVec 4) (rm : BitVec 3) (rs : BitVec 5) (sc : BitVec 1) (str : BitVec 3)
      (srci : BitVec 1),
    Issues (.lda t acc blk fmt rm rs sc str srci) t 5 (.ma false acc blk fmt rm rs sc str srci)
      (fun b =>
        let v := (b.s64 t rs).toNat
        [(6, .a acc.toNat ((List.range 8).flatMap (fun r => (List.range 128).map (fun c =>
          (128 * (8 * blk.toNat + r) + c,
            b.sramLe t (v % 2 ^ 23 + (8 * blk.toNat + r) * (v / 2 ^ 46 % 2 ^ 18) + 4 * c) 4)))))]) none)
  ∧ (∀ (t : Fin 68) (acc : BitVec 2) (blk fmt : BitVec 4) (rm : BitVec 3) (rs : BitVec 5) (sc : BitVec 1) (str : BitVec 3)
      (srci : BitVec 1),
    Issues (.sta t acc blk fmt rm rs sc str srci) t 5 (.ma true acc blk fmt rm rs sc str srci)
      (fun b =>
        let v := (b.s64 t rs).toNat
        let x (r c : Nat) : Val := staValue srci ((b.tile t).getA acc.toNat (128 * (8 * blk.toNat + r) + c))
        let u (r c : Nat) : Nat := if rm = 4 then b.draw0 t str.toNat (128 * r + c) else 0
        let row (r : Nat) : List Nat × List Nat × Nat :=
          if sc = 1 then
            let half (h : Nat) := quantise fmt.toNat rm.toNat (fun i => u r (64 * h + i)) ((List.range 64).map (fun c => x r (64 * h + c)))
            ((half 0).2.1 ++ (half 1).2.1, [(half 0).1, (half 1).1], (half 0).2.2 ||| (half 1).2.2)
          else
            let es := (List.range 128).map (fun c => convertFmt fmt.toNat rm.toNat (u r c) (x r c))
            (es.map (·.bits), [], es.foldl (fun a e => a ||| e.flags) 0)
        let rowBytes := packedLen fmt.toNat 128
        let fl := (List.range 8).foldl (fun a r => a ||| (row r).2.2) 0
        (List.range 8).flatMap (fun r =>
          let i := 8 * blk.toNat + r
          (4, TileWrite.store (v % 2 ^ 23 + i * (v / 2 ^ 46 % 2 ^ 18))
              (leBytes rowBytes (packElems (fmtWidth fmt.toNat) (row r).1))) ::
            (if sc = 1 then [(4, TileWrite.store (v / 2 ^ 23 % 2 ^ 23 + 2 * i) ((row r).2.1.map (BitVec.ofNat 8)))] else []))
        ++ (if fl = 0 then [] else [(4, .flags fl)]))
      (if rm = 4 then some (str.toNat, 256) else none))

/-- R120, R121, R164 to R166: where each branch goes, when it is taken, and what `jal` and `lp` write; offsets count bundles of 32
bytes from the branch's own, and a taken branch costs one further cycle.  `wait` and `waiti` go on in the next cycle where the
counter has reached the value, and otherwise hold the tile in state 3 until it has; `arrive` ends issue, and the tile arrives when
its last write has landed and the array is free, in state 2 with the cycle in `T.LAST_ARRIVE`. -/
def Obligations.ControlRows : Prop :=
  (∀ (t : Fin 68) (ra : BitVec 5) (pa : BitVec 4) (off : BitVec 21) (s : State),
    let b := s.body.atIssue t
    let u := s.body.nextCycle t
    let pc := b.rd (R.T.PC.BUNDLE t)
    let x := (b.s64 t ra).toNat
    let goes (c : Instr) (i : SInstr) (ws : List (Nat × TileWrite)) (taken : Bool) (tgt : Int) : Prop :=
      s.body.canIssue t 7 i → Gives c s (fun m => Controlled s.body m t ws none (if taken then tgt.toNat else pc + 1)
        (if taken then u + 2 else u + 1) none none)
    let rel : Int := pc + off.toInt
    goes (.br t ra off) (.cb .br ra off) [] true rel
    ∧ goes (.bz t ra off) (.cb .bz ra off) [] (decide (x = 0)) rel
    ∧ goes (.bnz t ra off) (.cb .bnz ra off) [] (decide (x ≠ 0)) rel
    ∧ goes (.bpa t pa off) (.cbp false pa off) [] (decide (b.p1024 t pa ≠ 0)) rel
    ∧ goes (.bpn t pa off) (.cbp true pa off) [] (decide (b.p1024 t pa = 0)) rel
    ∧ goes (.jal t ra off) (.cb .jal ra off) [(1, .s ra.toNat (32 * pc + 32))] true rel
    ∧ goes (.jr t ra off) (.cb .jr ra off) [] true (x / 32 : Nat)
    ∧ goes (.lp t ra off) (.cb .lp ra off) [(1, .s ra.toNat (b.s64 t ra - 1).toNat)] (decide (b.s64 t ra - 1 ≠ 0)) rel)
  ∧ (∀ (t : Fin 68) (cc : BitVec 6) (s : State) (c : Instr) (i : SInstr) (v : Nat),
    let b := s.body.atIssue t
    let u := s.body.nextCycle t
    let pc := b.rd (R.T.PC.BUNDLE t)
    ((∃ ra : BitVec 5, c = .wait t cc ra ∧ i = .wait cc ra ∧ v = (b.s64 t ra).toNat % 2 ^ 32)
      ∨ (∃ imm : BitVec 20, c = .waiti t cc imm ∧ i = .waiti cc imm ∧ v = imm.toNat)) →
    s.body.canIssue t 7 i →
    Gives c s (fun m => Controlled s.body m t [] none (pc + 1) (u + 1)
      (if v ≤ (b.tile t).getCC cc.toNat then none else some (cc.toNat, v)) none))
  ∧ (∀ (t : Fin 68) (n cc v : Nat) (s : State), (s.body.tile t).waiting = some (cc, v) →
    let u := (s.body.tile t).nextIssue - 1 + n
    let b := s.body.commitTo t (max (s.body.tile t).cycle u)
    v ≤ (b.tile t).getCC cc →
    Gives (.waitSatisfied t n) s (Exactly (((b.setTile t { b.tile t with waiting := none, nextIssue := u + 1 }).wr
      (R.T.TILE_STATUS.STATE t) 1).wr (R.PV.ISL_STALL.COUNT (iT t)) (b.rd (R.PV.ISL_STALL.COUNT (iT t)) + n))))
  ∧ (∀ (t : Fin 68) (s : State), s.body.canIssue t 7 .arrive →
    let b := s.body.atIssue t
    let u := s.body.nextCycle t
    Gives (.arrive t) s (fun m => Controlled s.body m t [] none (b.rd (R.T.PC.BUNDLE t) + 1) (u + 1) none
      (some ((b.tile t).pend.foldl (fun x w => max x w.1) (max u (b.tile t).arrayEnd)))))
  ∧ (∀ (t : Fin 68) (n : Nat) (s : State), (s.body.tile t).arriving = some n →
    let b := s.body.commitTo t n
    Gives (.arrival t) s (Exactly ((((b.setTile t { b.tile t with arriving := none }).wr (R.T.LAST_ARRIVE.CYCLES t)
      (min n (2 ^ 31 - 1))).wr (R.T.LAST_ARRIVE.LATE t) 0).wr (R.T.TILE_STATUS.STATE t) 2)))

/-- R167, R168: the counter rows and the generator rows.  `gdraw` fills the lanes with the draws of 256 blocks; `gdraws` takes the
low 64 bits of one block. -/
def Obligations.CounterAndGeneratorRows : Prop :=
  ∀ (t : Fin 68) (cc : BitVec 6) (rg rb : BitVec 5) (g : BitVec 3) (s : State),
    let b := s.body.atIssue t
    let x := (b.s64 t rg).toNat
    let y := (b.s64 t rb).toNat
    let does (c : Instr) (i : SInstr) (ws : List (Nat × TileWrite)) (draw : Option (Nat × Nat)) : Prop :=
      s.body.canIssue t 7 i → Gives c s (fun m => Controlled s.body m t ws draw (b.rd (R.T.PC.BUNDLE t) + 1)
        (s.body.nextCycle t + 1) none none)
    let halves (lo hi : Field) : List (Nat × TileWrite) := [(1, .reg lo.key 0 64 (x + y * 2 ^ 64)), (1, .reg hi.key 0 64 y)]
    does (.ccset t cc rg) (.cn 0 cc rg) [(1, .ccset cc.toNat (x % 2 ^ 32))] none
    ∧ does (.ccadd t cc rg) (.cn 1 cc rg) [(1, .ccadd cc.toNat (x % 2 ^ 32))] none
    ∧ does (.ccget t cc rg) (.cn 2 cc rg) [(2, .s rg.toNat ((b.tile t).getCC cc.toNat))] none
    ∧ does (.gdraw t rg g) (.cg 0 rg g 0 0)
        [(12, .v rg.toNat (packElems 32 ((List.range 1024).map (fun l => b.draw0 t g.toNat l))) (2 ^ 32768 - 1))]
        (some (g.toNat, 256))
    ∧ does (.gdraws t rg g) (.cg 1 rg g 0 0)
        [(6, .s rg.toNat (mix (b.genKey t g.toNat) (b.genCtr t g.toNat) % 2 ^ 64))] (some (g.toNat, 1))
    ∧ does (.gsetKey t rg g rb) (.cg 2 rg g rb 0) (halves (R.T.GEN_KEY_LO.KEY t g.toNat) (R.T.GEN_KEY_HI.KEY t g.toNat)) none
    ∧ does (.gsetCounter t rg g rb) (.cg 2 rg g rb 1) (halves (R.T.GEN_CTR_LO.CTR t g.toNat) (R.T.GEN_CTR_HI.CTR t g.toNat)) none
    ∧ does (.gsetAnchor t rg g rb) (.cg 2 rg g rb 2)
        (halves (R.T.GEN_ANCHOR_LO.ANCHOR t g.toNat) (R.T.GEN_ANCHOR_HI.ANCHOR t g.toNat)) none
    ∧ ∀ sel : BitVec 3, does (.gget t rg g sel) (.cg 3 rg g 0 sel)
        [(2, .s rg.toNat (
          let v := if sel = 0 ∨ sel = 1 then b.genKey t g.toNat else if sel = 2 ∨ sel = 3 then b.genCtr t g.toNat
            else b.genAnchor t g.toNat
          if sel.toNat % 2 = 0 then v % 2 ^ 64 else v / 2 ^ 64))] none

namespace Sys2Proof.Machine

/-- The access code that the report of a kind 7 stop carries (R319): 1 read, 2 write, 3 transfer, 4 fetch. -/
def faultAccess : SInstr → Nat
  | .xfer _ _ _ => 3
  | .ml op _ _ _ _ _ => if op = 2 then 2 else 1
  | .mv store _ _ _ _ _ => if store then 2 else 1
  | .mp store _ _ _ _ _ => if store then 2 else 1
  | .ma store _ _ _ _ _ _ _ _ => if store then 2 else 1
  | .mx _ _ _ _ _ _ _ _ _ => 1
  | _ => 4

end Sys2Proof.Machine

/-- R110, R111, R113, R117, R120, R137, R319: wherever a tile may issue, a bundle which no condition of R113 stops issues: each slot
reads the module as it stands at issue, every write joins the pending ones in slot order, with those of an `mx` behind them, the
streams move on by the blocks drawn, and the next bundle is the following one or the branch target.  Where the slots are scalar and
vector instructions that draw nothing, nothing else happens. A bundle that a condition of R113 stops, or that lies outside the code
region, issues nothing: the first cause is kept, what is in flight completes, the tile is in state 4 and the source of the kind is
raised, for kind 7 with the address and the access. -/
def Obligations.BundleIssue : Prop :=
  ∀ (t : Fin 68) (faults : List ArrayFault) (peers : List (Option Bytes)) (s : State), s.body.mayIssue t = true →
    let b := s.body.atIssue t
    let u := s.body.nextCycle t
    let off := 32 * s.body.rd (R.T.PC.BUNDLE t)
    let slots := bundleSlots (s.body.sram t off 32)
    let stopped (kind slot file index at_ access : Nat) : Body → Prop :=
      let names := if kind = 1 ∨ kind = 2 ∨ kind = 4 then file * 2 ^ 8 + index * 2 ^ 11 else 0
      let cause := kind + slot * 2 ^ 4 + names + b.rd (R.T.PC.BUNDLE t) * 2 ^ 32 + 2 ^ 47
      let kept := if b.on (R.T.STOP_CAUSE.VALID t) then b else b.setReg (R.T.STOP_CAUSE.KIND t).key cause
      let move := b2n (decide (slot = 5 ∨ slot = 6))
      UpToDb (((kept.wr (R.T.TILE_STATUS.STATE t) 4).commitAll t).reported
        { source := iT t * 64 + (if kind ≤ 5 then 4 else kind - 1), addr := at_, master := iT t * 64 + move,
          reqType := 1 + move, access := access } 0)
    if (s.body.tile t).offEnd || !s.body.codeAt t off then Gives (.bundleIssue t faults peers) s
      (stopped 7 0 0 0 (sramBase t + (if (s.body.tile t).offEnd then 0x100000 else off)) 4)
    else
      match b.bundleStop t u slots with
      | some (slot, kind, file, index) =>
        let ins := (slots.find? (fun x => x.1 == slot)).bind (·.2)
        1 ≤ kind ∧ kind ≤ 7 ∧ Gives (.bundleIssue t faults peers) s
          (stopped kind slot file index (if kind = 7 then (ins.map (b.faultAddr t)).getD 0 else 0)
            (if kind = 7 then (ins.map faultAccess).getD 4 else 0))
      | none =>
        let r := b.slotResults t u slots [] []
        let control := slots.findSome? (fun x => if x.1 = 7 then x.2 else none)
        let target := control.bind (fun i => i.branch (b.tile t) (32 * b.rd (R.T.PC.BUNDLE t)))
        Gives (.bundleIssue t faults peers) s (fun c =>
          (∃ array : List (Nat × TileWrite),
            (c.tile t).pend = (b.tile t).pend ++ r.1.map (fun w => (u + w.1, w.2)) ++ array
            ∧ ((∀ x ∈ slots, x.1 = 4 → x.2 = some .nop ∨ ∃ acc, x.2 = some (.mxz acc)) → array = []))
          ∧ (∀ g, g < 8 → c.genCtr t g = (b.genCtr t g + takenOf r.2 g) % 2 ^ 128)
          ∧ Field.holds c (R.T.PC.BUNDLE t)
              (match target with | some a => a.toNat / 32 | none => b.rd (R.T.PC.BUNDLE t) + 1)
          ∧ (c.tile t).nextIssue = (if target.isSome then u + 2 else u + 1)
          ∧ (∀ n, n ≠ t.val → c.tile n = b.tile n) ∧ SameBytes b c)
        ∧ ((∀ x ∈ slots, ∀ i, x.2 = some i → (i.section_ = .scalar ∨ i.section_ = .vector) ∧ (∀ rg sel, i ≠ .sx .sput rg sel)
          ∧ (b.execSlot t u i (b.draw0 t)).draw = none) →
        Gives (.bundleIssue t faults peers) s (fun c => Issued s.body c t
          (slots.flatMap (fun x => match x.2 with | some i => (b.execSlot t u i (b.draw0 t)).writes | none => [])) none))

/-- R111, R114, R140, R160: a pending write that takes effect changes what it names and nothing else: s0 and p0 discard theirs, a
vector or predicate register takes the bits under the mask, accumulator elements take theirs, a store its bytes. -/
def Obligations.PendingWritesLand : Prop :=
  ∀ (b : Body) (t : Fin 68),
    (∀ i v, i < 32 → ((b.applyWrite t (.s i v)).tile t).getS i = (if i = 0 then 0 else v % 2 ^ 64)
      ∧ ∀ j, j ≠ i → ((b.applyWrite t (.s i v)).tile t).getS j = (b.tile t).getS j)
    ∧ (∀ i v m n, n < 32768 → bit (((b.applyWrite t (.v i v m)).tile t).getV i) n =
        (if bit m n then bit v n else bit ((b.tile t).getV i) n))
    ∧ (∀ i v m n, n < 1024 → bit (((b.applyWrite t (.p i v m)).tile t).getP i) n =
        (if i = 0 then true else if bit m n then bit v n else bit ((b.tile t).getP i) n))
    ∧ (∀ i e v, e < 16384 → ((b.applyWrite t (.a i [(e, v)])).tile t).getA i e = v % 2 ^ 32
      ∧ ∀ x, x < 16384 → x ≠ e → ((b.applyWrite t (.a i [(e, v)])).tile t).getA i x = (b.tile t).getA i x)
    ∧ (∀ f, (b.applyWrite t (.flags f)).flags t = (b.flags t ||| f % 32) ∧ (b.applyWrite t (.putFlags f)).flags t = f % 32)
    ∧ (∀ c v, ((b.applyWrite t (.ccset c v)).tile t).getCC c = v % 2 ^ 32
      ∧ ((b.applyWrite t (.ccadd c v)).tile t).getCC c = ((b.tile t).getCC c + v) % 2 ^ 32)
    ∧ (∀ off d a, (b.applyWrite t (.store off d)).byte a =
        (if sramBase t + off ≤ a ∧ a < sramBase t + off + d.length then d.getD (a - (sramBase t + off)) 0 else b.byte a))

/-- R25, R35, R36, R57, R304, R305: at a departure pod time has reached the instant, the period and its sequence index are shown, the
next departure stands one period length on; index and period advance, the index back to the anchor of the step after a verdict
period without a good combined verdict; a job that was told to stop ends there instead, and the chief of its slice
begins the teardown, or makes the epoch advance that waited for that end (log 125). -/
def Obligations.DepartureRow : Prop :=
  ∀ (s : State) (im : Image), s.body.jobRuns = true → s.body.job.active = some im → s.body.cont.expelNext = false →
    let b := s.body
    let begins (n index : Nat) (c : Body) : Prop :=
      b.job.nextAt ≤ c.ns 0 ∧ c.jobRuns = true ∧ c.job.departed = true ∧ c.job.departAt = b.job.nextAt
      ∧ c.job.nextAt = b.job.nextAt + 10 * ((im.ptypeAt index).map (·.length)).getD 0
      ∧ Field.holds c R.TM.DEPART_PERIOD.PERIOD n ∧ Field.holds c R.TM.DEPART_SEQ.INDEX index
      ∧ Field.holds c R.TM.DEPART_SEQ.PTYPE (im.typeAt index)
    (b.job.stopping = false → b.job.staged = none → b.job.departed = false → Gives .departure s (begins 0 0))
    ∧ (b.job.stopping = false → b.job.staged = none → b.job.departed = true →
        Gives .departure s (begins (b.period + 1)
          (if b.ptypeFlag 2 && b.job.combined != some true then (b.job.anchor.map (·.1)).getD im.firstStep
           else (b.rd R.TM.DEPART_SEQ.INDEX + 1) % max im.seq.length 1)))
    ∧ (b.job.stopping = true → Gives .departure s (fun c =>
        c.rd R.TM.TT_STATUS.STATE = 1 ∧ c.job.departed = false ∧ c.job.stopping = false ∧ c.job.staged = none
        ∧ c.rd R.TM.TT_STATUS.STAGED = 0 ∧ b.job.nextAt ≤ c.ns 0
        ∧ (∀ x, b.isChief = true → b.disp.proposals = [] → b.disp.slices = [x] → x.tag = b.jobTag → x.state < 2 →
            b.disp.advances = [] ∨ b.disp.advances = [x.tag] → ∃ r, c.disp.proposals = [r] ∧ r.tag = x.tag
              ∧ r.type = (if b.disp.advances = [] then 2 else 4))))

/-- R35, R64, R304, `TM.JOB_DEPART`, `TM.STOP`: loading, unloading, departing and stopping a job.  Only HI and MG are honoured; a
load or unload while a job runs is refused, and so is a departure without a timetable or less than 0.1 ms ahead. -/
def Obligations.JobRows : Prop :=
  ∀ (m : Master) (s : State),
    let b := s.body
    let honoured := m = .host ∨ m = .mg
    (∀ origin : BitVec 63,
      if honoured ∧ b.jobRuns = false ∧ b.job.active.isSome ∧ b.ns 0 + 100000 ≤ origin.toNat * 10 then
        Gives (.jobDepart m origin) s (UpToDb ((({ b with job := { Job.init with
          active := b.job.active, staged := b.job.staged, stageDeadline := b.job.stageDeadline, change := b.job.change,
          closing := b.job.closing, origin := origin.toNat * 10, nextAt := origin.toNat * 10 } }.wr R.TM.JOB_DEPART.ORIGIN origin.toNat).wr
            R.TM.TT_STATUS.STATE 2).wr R.TM.TT_STATUS.REPLAYING 0))
      else Gives (.jobDepart m origin) s (UpToDb b))
    ∧ (if honoured ∧ b.jobRuns = true then Gives (.tmStop m) s (UpToDb { b with job := { b.job with stopping := true } })
       else Gives (.tmStop m) s (UpToDb b))
    ∧ (if honoured ∧ b.jobRuns = false then Gives (.unload m) s (fun c =>
          c.job = { b.job with active := none, staged := none } ∧ c.rd R.TM.TT_STATUS.STATE = 0 ∧ c.rd R.TM.TT_STATUS.STAGED = 0
          ∧ c.rd R.TM.SERIAL.ACTIVE = 0 ∧ c.rd R.TM.SERIAL.STAGED = 0
          ∧ (∀ nn, nn < 68 → c.tileState nn = if b.tileState nn = 6 ∨ b.tileState nn = 7 then b.tileState nn else 0)
          ∧ SameBytes b c ∧ c.tiles = b.tiles ∧ c.time = b.time)
       else Gives (.unload m) s (UpToDb b))
    ∧ (honoured → b.jobRuns = true → Gives (.load m) s (fun c => c.rd R.TM.LOAD_STATUS.CODE = 2 ∧ c.job = b.job ∧ SameBytes b c))
    ∧ (honoured → b.jobRuns = false → Gives (.load m) s (fun c =>
        match b.checkImage (64 * b.rd R.TM.IMAGE_ADDR.ADDR) (b.rd R.TM.IMAGE_LEN.LEN) 0x100000 none with
        | .error f => Field.holds c R.TM.LOAD_STATUS.CODE f.1 ∧ Field.holds c R.TM.LOAD_STATUS.PTYPE f.2.1
            ∧ Field.holds c R.TM.LOAD_STATUS.INDEX f.2.2 ∧ c.job = b.job ∧ SameBytes b c
        | .ok im => c.rd R.TM.LOAD_STATUS.CODE = 1 ∧ c.job = { b.job with active := some im, staged := none }
            ∧ c.rd R.TM.TT_STATUS.STATE = 1 ∧ Field.holds c R.TM.SERIAL.ACTIVE im.serial
            ∧ Field.holds c R.TM.SEAL_WINDOW.WINDOW im.window ∧ c.rd R.TM.VOID_COUNTS.VOID_SENT = 0
            ∧ ∀ a, a < lpddrEnd → c.byte a = b.byte a))
    ∧ (¬honoured → Gives (.load m) s (UpToDb b))

namespace Sys2Proof.Machine

/-- A message of operation 7 waits at junction `k`: control class, doubled, to a place, with a payload (R261, R291). -/
def Body.told (c : Body) (k dest : Nat) (payload : Bytes) : Prop :=
  ∃ w ∈ (c.jn k).local_, w.pkt.dest = dest ∧ w.pkt.op = 7 ∧ w.pkt.cls = 0 ∧ w.pkt.doubled = true ∧ w.pkt.payload = payload

/-- A dispatcher message with this body is on its way to every other module of a list, where J3 takes it; `b` gives the term. -/
def Body.toldAll (b c : Body) (places : List Nat) (type : Nat) (body : Bytes) : Prop :=
  b.inService (iJ 3) = true → ∀ p ∈ places, p ≠ b.place → c.told 3 p (b.msgPayload type body)

end Sys2Proof.Machine

/-- R58, R65, R66: staging and its acknowledgement to the roster, the chief's announcement, its cancellation at the deadline, and the
ways in which a staged image is dropped.  An ANNOUNCE for a period less than two ahead is ignored and recorded. -/
def Obligations.StagedChangeRows : Prop :=
  ∀ (s : State) (source serial : BitVec 32),
    let b := s.body
    let dropped (c : Body) : Prop := c.job.staged = none ∧ c.rd R.TM.TT_STATUS.STAGED = 0 ∧ c.rd R.TM.TT_STATUS.ANNOUNCED = 0
      ∧ c.rd R.TM.SERIAL.STAGED = 0 ∧ c.rd R.TM.ANNOUNCED_PERIOD.N = 0 ∧ SameBytes b c ∧ c.tiles = b.tiles
    (∀ (addr : BitVec 48) (digest : Bytes) (d : BitVec 64), b.inService iMG = true →
      Gives (.stage source serial addr digest d) s (fun c =>
        let at_ := addr.toNat / 64 * 64
        let known := if b.isChief then some (serial.toNat, [], d.toNat, false) else b.job.change
        match b.checkStage at_ (leNat (b.dataFor iTM (at_ + 12) 4)) digest with
        | .error f => Field.holds c R.TM.LOAD_STATUS.CODE f.1 ∧ c.job = { b.job with change := known } ∧ SameBytes b c
            ∧ b.toldAll c b.roster 0x21 (leBytes 4 serial.toNat ++ leBytes 1 f.1)
        | .ok im => c.rd R.TM.LOAD_STATUS.CODE = 1
            ∧ c.job = { b.job with staged := some im, stageDeadline := d.toNat, change := known }
            ∧ b.toldAll c b.roster 0x21 (leBytes 4 serial.toNat ++ [0x01])
            ∧ c.rd R.TM.TT_STATUS.STAGED = 1 ∧ c.rd R.TM.TT_STATUS.ANNOUNCED = 0 ∧ Field.holds c R.TM.SERIAL.STAGED im.serial
            ∧ ∀ a, a < lpddrEnd → c.byte a = b.byte a))
    ∧ (∀ code : BitVec 8, b.isChief = true → b.inService iMG = true →
        let old := b.chiefChange serial.toNat
        let acks := old.2.1.filter (fun a => a.1 != source.toNat) ++ [(source.toNat, code.toNat)]
        let mods := b.sliceModules b.jobTag
        let all := !mods.isEmpty && mods.all (fun p => acks.contains (p, 0x01))
        let now := all && b.jobRuns && decide (b.period < old.2.2.1)
        Gives (.ack source serial code) s (fun c => c.job = { b.job with change := some (serial.toNat, acks, old.2.2.1,
          old.2.2.2 || now) } ∧ OnlyRegs [] b c ∧ SameBytes b c
          ∧ (now = true → old.2.2.2 = false → b.toldAll c mods 0x22 (leBytes 4 serial.toNat ++ leBytes 8 (b.period + 2)))))
    ∧ (∀ n acks d, b.job.change = some (n, acks, d, false) → d ≤ b.period → b.isChief = true →
        Gives .ackDeadline s (fun c => c.job = { b.job with change := none } ∧ OnlyRegs [] b c ∧ SameBytes b c
          ∧ b.toldAll c (b.sliceModules b.jobTag) 0x23 (leBytes 4 n)))
    ∧ (∀ (n : BitVec 64) (im : Image), b.job.staged = some im → im.serial = serial.toNat → b.inService iMG = true →
        Gives (.announce source serial n) s (fun c => c.job = b.job ∧ SameBytes b c ∧
          if n.toNat ≤ b.period + 1 then
            Exactly ((b.servedMsg source.toNat 0x22 (leBytes 4 serial.toNat ++ leBytes 8 n.toNat)).event 0xA142 iTM (leBytes 8 n.toNat)) c
          else c.rd R.TM.TT_STATUS.ANNOUNCED = 1 ∧ c.rd R.TM.ANNOUNCED_PERIOD.N = n.toNat))
    ∧ (∀ im : Image, b.job.staged = some im → im.serial = serial.toNat → b.inService iMG = true →
        Gives (.cancel source serial) s dropped)
    ∧ (b.job.staged.isSome = true → b.rd R.TM.TT_STATUS.ANNOUNCED = 0 → b.job.stageDeadline + 64 ≤ b.period →
        Gives .stageExpiry s dropped)

/-- R40 to R45, R278: the ended period's cause [3], the closing of its counts with cause [7], the seal to every consumer, what a
consumer does with a seal, and the resolution of missing ones. -/
def Obligations.SealRows : Prop :=
  (∀ (s : State) (x : Closing), s.body.job.closing = some x → x.closed = false → s.body.inService iCT = true →
    let b := s.body
    let raised := b.job.faulted.contains x.period || b.cont.tree.any (fun r => r.inJob && r.period == x.period && decide (4 ≤ r.level))
    let causes := if raised then x.causes ||| 8 else x.causes
    let t := b.toPod (x.t0 + 100)
    let off := (List.range 4).filter (fun k => b.inService (iJ k) && (b.tokensOff k || b.arrivalsOff k))
    Gives .verdictFaultDecide s (Exactly { t with job := { b.job with closing := some { x with causes := causes } } })
    ∧ Gives .conservationClose s (fun c => x.t0 + 200 ≤ c.ns 0
        ∧ c.job.closing = some { x with
            causes := if off.isEmpty then causes else causes ||| 128,
            counts := [0, 1, 2, 3, 5].map b.periodCount, closed := true }
        ∧ (∀ k, k < 4 → (c.jn k).balance = b.balanceCarried k ∧ (c.jn k).periodCounts = [])
        ∧ (∀ k ∈ off, Raised b c (iJ k * 64 + 5)) ∧ SameBytes b c))
  ∧ (∀ (s : State) (x : Closing) (k : Nat), s.body.job.closing = some x → x.sent = false → x.ctClosed = false →
      x.consumers ≠ [] → s.body.inService iCT = true → s.body.rd R.CT.STATUS.EXPELLED = 0 → s.body.firstJunction = some k →
      Gives .sealSend s (fun c => x.t0 + 500 ≤ c.ns 0 ∧ ∃ y : Closing, c.job.closing = some y ∧ y.sent = true ∧ y.closed = true
        ∧ y.period = x.period ∧ SameBytes s.body c
        ∧ ∀ p ∈ x.consumers, p ≠ s.body.place → ∃ w ∈ (c.jn k).local_, w.pkt.dest = p ∧ w.pkt.op = 3 ∧ w.pkt.cls = 0
          ∧ w.pkt.doubled = true ∧ w.pkt.payload.length = 128 ∧ le w.pkt.payload 0 8 = x.period % 2 ^ 64
          ∧ le w.pkt.payload 12 1 = (if y.causes = 0 then 0 else 1) ∧ le w.pkt.payload 13 1 = y.causes % 256))
  ∧ (∀ (s : State) (source : BitVec 32) (pl : Bytes), s.body.inService iCT = true → s.body.jobRuns = true →
      let b := s.body
      let n := le pl 0 8
      let mine (a : Awaited) : Bool := a.producer == source.toNat && a.period == n
      (b.job.departed = false ∨ b.period ≤ n → b.job.heldSeals.any (fun h => h.producer == source.toNat && le h.payload 0 8 == n) = false →
        Gives (.sealReceive source pl) s (fun c =>
          c.job = { b.job with heldSeals := b.job.heldSeals ++ [⟨source.toNat, pl⟩] } ∧ SameBytes b c ∧ c.tiles = b.tiles))
      ∧ (b.job.departed = true → n < b.period → b.job.awaited.any mine = false →
          Gives (.sealReceive source pl) s (fun c => Raised b c (iCT * 64 + 2) ∧ c.job = b.job ∧ SameBytes b c ∧ c.tiles = b.tiles))
      ∧ (∀ (a : Awaited) (nn : Nat), b.job.departed = true → n < b.period →
          b.job.awaited.filter (fun a => mine a && !a.heard && !a.resolved) = [a] → b.cont.substs = [] →
          b.physOf (a.gate / 64 % 64) = some nn → le pl 12 1 = 0 → le pl 8 4 = b.rd R.TM.SERIAL.ACTIVE →
          le pl 40 8 = b.rd R.TM.STEP_NUMBER.STEP →
          Gives (.sealReceive source pl) s (fun c =>
            (c.tile nn).getCC (a.gate % 64) = ((b.tile nn).getCC (a.gate % 64) + 1) % 2 ^ 32
            ∧ c.job = { b.job with awaited := b.job.awaited.map (fun x => if mine x then { x with heard := true } else x) }
            ∧ SameBytes b c)))
  ∧ (∀ (s : State) (n t : Nat), s.body.inService iCT = true → s.body.oldestAwaited = some n → s.body.resolveAt n = some t →
      Gives .sealWindowExpiry s (fun c => t ≤ c.ns 0 ∧ SameBytes s.body c
        ∧ (∀ a ∈ c.job.awaited, a.period = n → a.resolved = true)
        ∧ ∀ a ∈ s.body.job.awaited, a.period = n → a.heard = false → a.resolved = false → Raised s.body c (iCT * 64 + 3)))

/-- R52: a leaf, a node that has heard every child, and a node that has waited its time send the AND of what they know upward in a
doubled packet of the control class, or, at the root, take it as the combined verdict, which goes to the children that have reported;
the first combined verdict is taken and goes down.  The payload of the message is the model's choice (log 87). -/
def Obligations.VerdictRows : Prop :=
  ∀ (s : State) (v : VTree), s.body.vtree = some v →
    let b := s.body
    let word (good : Bool) : Bytes := [if good then 0 else 1]
    let sends (after : Nat) (children : SMap Bool) (c : Body) : Prop :=
      let good := !c.job.stepVoid && decide (v.children ≤ children.length) && children.all (·.2)
      after ≤ c.ns 0 ∧ c.job.verdictSent = true ∧ c.job.children = children ∧ SameBytes b c
      ∧ (v.parent = 0xFFFFFFFF → c.job.combined = some good)
      ∧ ∀ k, b.firstJunction = some k →
          if v.parent = 0xFFFFFFFF then ∀ p ∈ children.map (·.1), c.told k p (word good) else c.told k v.parent (word good)
    let tv := b.job.departAt + b.windowNs
    (v.children = 0 → b.job.verdictSent = false → Gives .verdictLeafSend s (sends (tv + 500) b.job.children))
    ∧ (v.children ≠ 0 → b.job.verdictSent = false → Gives .verdictNodeTimeout s (sends (tv + (v.height + 1) * b.windowNs) b.job.children))
    ∧ (∀ (child : BitVec 32) (good : Bool), b.job.verdictSent = false → SMap.find b.job.children child.toNat = none →
        let cs := SMap.insert b.job.children child.toNat good
        if cs.length < v.children then
          Gives (.verdictChildReceive child good) s (Exactly { b.served child.toNat 7 (word good) with
            job := { b.job with children := cs } })
        else Gives (.verdictChildReceive child good) s (sends tv cs))
    ∧ (∀ (child : BitVec 32) (good g : Bool) (k : Nat), b.job.verdictSent = true → SMap.find b.job.children child.toNat = none →
        b.job.combined = some g → b.firstJunction = some k → Gives (.verdictChildReceive child good) s (fun c =>
          c.told k child.toNat (word g) ∧ c.job = { b.job with children := SMap.insert b.job.children child.toNat good }
          ∧ OnlyRegs [] b c ∧ SameBytes b c))
    ∧ (∀ good : Bool, b.job.combined = none → v.parent ≠ 0xFFFFFFFF →
        Gives (.combinedVerdictReceive good) s (fun c => c.job = { b.job with combined := some good }
          ∧ OnlyRegs [] b c ∧ SameBytes b c
          ∧ ∀ k, b.firstJunction = some k → ∀ p ∈ b.job.children.map (·.1), c.told k p (word good)))
    ∧ (∀ good : Bool, b.job.combined.isSome = true →
        Gives (.combinedVerdictReceive good) s (Exactly (b.served v.parent 7 (word good))))

/-- R118, R122, R124, R125, R126, R417, R467: what a tile does between a departure and its first bundle, and context recovery; a
restore that fails raises source 9 and orders the reset of a tile not reset before; a tile that was is out. -/
def Obligations.PeriodEntryRows : Prop :=
  ∀ (t : Fin 68) (s : State), s.body.inService (iT t) = true →
    let b := s.body
    let x := b.tile t
    (x.entryDue = true → x.restore = none → x.restoreFailed = false → ∀ r, Gives (.tileRestoreComplete t r) s (fun c =>
      b.job.departAt + 700 ≤ c.ns 0 ∧ (c.tile t).entryDue = false ∧ (c.tile t).getS 1 = b.period % 2 ^ 64
      ∧ (c.tile t).getS 3 = b.rd R.TM.STEP_NUMBER.STEP ∧ (c.tile t).getS 5 = b.rd (R.T.TILE_STATUS.LOGICAL t)
      ∧ (c.tile t).getS 6 = b.rd R.TM.SERIAL.ACTIVE ∧ (∀ i, 6 < i → (c.tile t).getS i = x.getS i)
      ∧ (c.tile t).v = x.v ∧ (c.tile t).p = x.p ∧ (c.tile t).a = x.a ∧ (c.tile t).cc = x.cc))
    ∧ (∀ n, x.entryDue = true → x.restore = some n → x.restoreFailed = false → b.imageOk t n = true →
        Gives (.tileRestoreComplete t .pass) s (fun c => (c.tile t).entryDue = false ∧ (c.tile t).restore = none
          ∧ (c.tile t).getS 1 = b.period % 2 ^ 64 ∧ (c.tile t).cc = x.cc
          ∧ ∀ i, 6 < i → i < 32 → (c.tile t).getS i = b.leAt (sramBase t + imageHalf n + 0x40 + 8 * i) 8))
    ∧ (∀ n r, x.entryDue = true → x.restore = some n → x.restoreFailed = false → r = .fail ∨ b.imageOk t n = false →
        Gives (.tileRestoreComplete t r) s (fun c => Raised b c (iT t * 64 + 9)
          ∧ (x.wasReset = true → c.rd (R.T.RECOVER.FAILED t) = 1 ∧ (c.tile t).entryDue = false ∧ (c.tile t).out = true
              ∧ SameBytes b c)
          ∧ (x.wasReset = false → x.out = false → b.sb.module = none → b.sb.steps.any (fun l => l.island == iT t) = false →
              c.sb.steps.any (fun l => l.island == iT t && l.step == 3) = true)))
    ∧ (x.entryDue = false → x.capturing = true →
        Gives (.departureImageCapture t .fail) s (fun c => b.job.departAt + 1400 ≤ c.ns 0 ∧ SameBytes b c
          ∧ Raised b c (iT t * 64 + 11) ∧ c.tile t = { x with capturing := false })
        ∧ Gives (.departureImageCapture t .pass) s (fun c => b.job.departAt + 1400 ≤ c.ns 0
          ∧ c.tile t = { x with capturing := false } ∧ c.imageOk t b.period = true
          ∧ (∀ i, i < 32 → c.leAt (sramBase t + imageHalf b.period + 0x40 + 8 * i) 8 = SMap.getD x.s i 0 % 2 ^ 64
              ∨ ¬SMap.sorted x.s = true)
          ∧ ∀ a, a < sramBase t + imageHalf b.period → c.byte a = b.byte a))
    ∧ (x.capturing = false → x.entryDue = false → x.entered = false → x.out = false → x.restoreFailed = false →
        b.jobRuns = true → x.began = some b.period →
        Gives (.tilePeriodStart t) s (fun c => b.job.departAt + 1500 ≤ c.ns 0 ∧ SameBytes b c
          ∧ c.tile t = { x with
              entered := true, lastEntry := some b.period, cycle := 0, nextIssue := 0, pend := [], arrayEnd := 0, arrayWork := 0, arrayUsed := false,
              accBusy := [], mul64 := none, waiting := none, arriving := none, opIndex := 0, mx := [], offEnd := false }
          ∧ match b.entryOffset (b.rd (R.T.TILE_STATUS.LOGICAL t)) with
            | none => c.tileState t = 2
            | some e => c.tileState t = 1 ∧ Field.holds c (R.T.PC.BUNDLE t) (((b.codeRegion t).1 + e) / 32)))
    ∧ (∀ m : Master, m = .mg ∨ m = .ct → b.jobRuns = true → x.entered = true → x.out = false → x.wasReset = false →
        x.restoreFailed = false → Gives (.recover m t) s (fun c => (c.tile t).recovering = true ∧ (c.tile t).pend = []
          ∧ c.rd (R.T.RECOVER.DONE t) = 0))
    ∧ (∀ m : Master, m ≠ .mg → m ≠ .ct → Gives (.recover m t) s (UpToDb b))
    ∧ (x.recovering = true → x.entered = true → x.restoreFailed = false → b.imageOk t b.period = true →
        Gives (.recoveryComplete t .pass) s (fun c => SameBytes b c ∧ (c.tile t).recovering = false
          ∧ c.rd (R.T.RECOVER.DONE t) = 1 ∧ c.rd (R.T.RECOVER.FAILED t) = 0 ∧ c.tileState t = 5
          ∧ (∀ i, 0 < i → i < 32 → (c.tile t).getS i = b.leAt (sramBase t + imageHalf b.period + 0x40 + 8 * i) 8)
          ∧ (c.tile t).cc = x.cc))
    ∧ (x.recovering = true → b.sb.module = none → b.sb.steps.any (fun l => l.island == iT t) = false →
        Gives (.recoveryTimeout t) s (fun c => bit c.sb.closed (iT t) = true ∧ c.sb.steps.any (fun l => l.island == iT t && l.step == 3)))

/-- R163, R174, R175, R178, R182, R221: wherever a tile may issue it, an `xfer` puts its transfer into flight with one write for each piece
of at most 512 bytes, one for a transfer that moves nothing; through a junction in service, the writes to this module wait here, with
the bytes that stood at the source where those could be read; reads of sub-channels that keep requests waiting join the queue; the write of an `xsig` to this module waits here too. -/
def Obligations.TransferIssueRows : Prop :=
  (∀ (t : Fin 68) (ra : BitVec 5) (q : BitVec 2) (imm : BitVec 16) (peer : Option Bytes) (s : State),
    let b := s.body.atIssue t
    let off := ((b.tile t).getS ra.toNat + 64 * imm.toNat) % 2 ^ 64
    let d := b.descr t q.toNat (b.sram t off 64)
    let op := le (b.sram t off 1) 0 1 % 16
    let source (pc : Nat × Nat × Nat) : Option Nat := b.resolveRow d.src (pc.1 * d.srcStride + pc.2.1) pc.2.2
    let readable := d.srcSlot = b.ownSlot ∧ ∀ pc ∈ d.pieces, ∃ p, source pc = some p ∧ b.reachable p pc.2.2 = true
      ∧ b.waitsFor p pc.2.2 = false ∧ (p < lpddrEnd → b.anyLost p pc.2.2 = false)
    let held := d.srcSlot = b.ownSlot ∧ ∀ pc ∈ d.pieces, ∃ p, source pc = some p ∧ b.reachable p pc.2.2 = true
      ∧ b.waitsFor p pc.2.2 = true
    let write (addr : Nat) (data : Bytes) (zero : Bool) : Write :=
      { xfer := some b.nextXfer, source := b.place, counter := d.counter, addr := addr, op := d.op, cls := d.cls, period := b.period,
        data := data, zero := zero, seq := 0, doubled := d.doubled, link := 0, tag := (b.job.active.map (·.tag)).getD 0,
        epoch := (b.job.active.map (·.epoch)).getD 0 }
    let writes := if d.isZero then 1 else d.rows * ((d.len + 511) / 512)
    let flies (c : Body) : Prop :=
      (∃ x ∈ c.xfers, x.id = b.nextXfer ∧ x.tile = t.val ∧ x.sent = d.sent ∧ x.period = b.period ∧ x.left ≤ writes)
      ∧ c.nextXfer = b.nextXfer + 1 ∧ (c.tile t).inFlight = (b.tile t).inFlight + 1
      ∧ (c.tile t).nextIssue = s.body.nextCycle t + 1 ∧ (c.tile t).pend = (b.tile t).pend ∧ SameBytes b c
      ∧ (b.inService (iJ (junctionOfTile t)) = true → d.isZero = false → held → c.reads = b.reads ++ d.pieces.map (fun pc =>
          .piece (write (d.dst + pc.1 * d.dstStride + pc.2.1) [] false) d.place (d.pieces.getLast? == some pc) ((source pc).getD 0) pc.2.2))
      ∧ (d.place = none → b.inService (iJ (junctionOfTile t)) = true →
          (d.isZero = true → c.writes = b.writes ++ [write d.dst [] true])
          ∧ (d.isZero = false → readable → (∃ x ∈ c.xfers, x.id = b.nextXfer ∧ x.left = writes)
              ∧ c.writes = b.writes ++ d.pieces.map (fun pc => write (d.dst + pc.1 * d.dstStride + pc.2.1)
                  (((source pc).map (fun p => b.bytes p pc.2.2)).getD []) false)))
    s.body.canIssue t 5 (.xfer ra q imm) →
    (op = 0 → Gives (.xferCopy t ra q imm peer) s flies)
    ∧ (op = 1 → Gives (.xferReduceBinary32 t ra q imm peer) s flies)
    ∧ (op = 2 → Gives (.xferReduceI32 t ra q imm peer) s flies))
  ∧ (∀ (t : Fin 68) (rp rc : BitVec 5) (cls : BitVec 4) (s : State), s.body.canIssue t 5 (.xsig rp rc cls) →
    let b := s.body.atIssue t
    let place := (b.s64 t rp).toNat
    Gives (.xsig t rp rc cls) s (fun c =>
      (∃ x ∈ c.xfers, x.id = b.nextXfer ∧ x.tile = t.val ∧ x.left ≤ 1 ∧ x.sent = 0xFFFF
        ∧ (b.inService (iJ (junctionOfTile t)) = true → x.left = 1)) ∧ c.nextXfer = b.nextXfer + 1
      ∧ (c.tile t).inFlight = (b.tile t).inFlight + 1 ∧ (c.tile t).nextIssue = s.body.nextCycle t + 1 ∧ SameBytes b c
      ∧ (b.inService (iJ (junctionOfTile t)) = true → place = 0 ∨ place = b.place → ∃ w, c.writes = b.writes ++ [w]
          ∧ w.xfer = some b.nextXfer ∧ w.zero = true ∧ w.op = 0 ∧ w.counter = (b.s64 t rc).toNat % 2 ^ 16 ∧ w.cls = cls.toNat)))

/-- R24, R178, R183 to R186, R221: a write of this module whose counter's tile is in service and that passes its address test lands,
or adds, and increments its counter once; one that moves no byte only counts; one whose sub-channel keeps requests waiting waits on;
one that fails the test or whose way is closed is discarded and counted as fenced, and the first raises source 6 of the tile's
junction; a transfer whose writes are all settled leaves flight and increments its sent counter; a board peer reads what is mapped, and
its read waits with the sub-channel too. -/
def Obligations.WriteAcceptanceRows : Prop :=
  (∀ (s : State) (i : Nat) (w : Write) (rest : List Write) (nn : Nat), takeAt s.body.writes i = some (w, rest) → w.xfer.isSome = true →
    w.counter ≠ mirrorCounter → s.body.cont.substs = [] → s.body.physOf (w.counter / 64 % 64) = some nn →
    let b := s.body
    let n := w.data.length
    let does (P : Body → Prop) : Prop := Gives (.transferWriteAccept i) s P
    let counts (c : Body) : Prop := c.writes = rest
      ∧ (c.tile nn).getCC (w.counter % 64) = ((b.tile nn).getCC (w.counter % 64) + 1) % 2 ^ 32
    let fenced (c : Body) : Prop := c.writes = rest ∧ SameBytes b c ∧ c.tiles = b.tiles
      ∧ ∀ k, b.firstJunction = some k → c.rd (R.J.CONS.COUNT k 2) = (b.rd (R.J.CONS.COUNT k 2) + 1) % 2 ^ (R.J.CONS.COUNT k 2).w
    let way := b.inService (iT nn) = true ∧ b.inService (iJ (junctionOfTile nn)) = true
    let open_ (p : Nat) : Bool := b.crosses (b.writeMaster w (junctionOf p) / 64) p n
    let lands (p : Nat) : Prop := w.zero = false ∧ b.addressTest w = some p ∧ open_ p = true
      ∧ (p < lpddrEnd → b.memWaits p n = false ∧ b.anyLost p n = false)
    (¬way → does fenced)
    ∧ (way → w.zero = true → does (fun c => counts c ∧ SameBytes b c ∧ OnlyRegs [] b c))
    ∧ (∀ p, way → lands p → w.op = 0 → does (fun c => counts c ∧ ∀ a, c.byte a =
        if p ≤ a ∧ a < p + n then w.data.getD (a - p) 0 else b.byte a))
    ∧ (∀ p, way → lands p → w.op = 1 ∨ w.op = 2 → n % 4 = 0 →
        let sum (i : Nat) : Fpr := addB32 (b.leAt (p + 4 * i) 4) (le w.data (4 * i) 4)
        does (fun c => counts c ∧ (∀ a, Apart a 1 p n → c.byte a = b.byte a)
          ∧ (∀ i, 4 * i < n → c.leAt (p + 4 * i) 4 =
              (if w.op = 1 then (sum i).bits else b.leAt (p + 4 * i) 4 + le w.data (4 * i) 4) % 2 ^ 32)
          ∧ c.flags nn = (b.flags nn |||
              (if w.op = 1 then (List.range (n / 4)).foldl (fun f i => f ||| (sum i).flags) 0 else 0) % 32)))
    ∧ (∀ p, way → w.zero = false → b.addressTest w = some p → open_ p = false → does fenced)
    ∧ (∀ p, way → w.zero = false → b.addressTest w = some p → open_ p = true → p < lpddrEnd → b.memWaits p n = true →
        does (Exactly b))
    ∧ (∀ x, way → w.zero = false → b.addressTest w = none → b.xfers.find? (fun y => some y.id == w.xfer) = some x →
        does (fun c => fenced c ∧ Raised b c (iJ (junctionOfTile x.tile) * 64 + 6))))
  ∧ (∀ (s : State) (id : Nat) (x : Xfer), s.body.xfers.find? (fun y => y.id == id) = some x → x.left = 0 →
      let b := s.body
      let out : Body := { b with xfers := b.xfers.filter (fun y => y.id != id) }
      let out := out.setTile x.tile { b.tile x.tile with inFlight := (b.tile x.tile).inFlight - 1 }
      Gives (.transferLeavesFlight id) s (Exactly (if x.sent = 0xFFFF then out else out.countAt (64 * x.logical + x.sent))))
  ∧ (∀ (s : State) (slot : Fin 4) (a : BitVec 48) (n : BitVec 25) (p : Nat), slot.val ≠ s.body.ownSlot →
      peerMapped a.toNat n.toNat = true → s.body.resolve a.toNat n.toNat = some p → s.body.reachable p n.toNat = true →
      (s.body.waitsFor p n.toNat = true →
        Gives (.boardPeerRead slot a n) s (Exactly { s.body with reads := s.body.reads ++ [.board slot a.toNat n.toNat] }))
      ∧ (s.body.waitsFor p n.toNat = false → s.body.anyLost p n.toNat = false →
        Gives (.boardPeerRead slot a n) s (Exactly { s.body.activateRange p n.toNat with
          out := .port "board read" (s.body.bytes p n.toNat) :: s.body.out })))
  ∧ (∀ (s : State) (slot : Fin 4) (a : BitVec 48) (n : BitVec 25),
      slot.val = s.body.ownSlot ∨ peerMapped a.toNat n.toNat = false ∨ s.body.resolve a.toNat n.toNat = none →
      Gives (.boardPeerRead slot a n) s (Exactly { s.body with out := .port "board read refused" [] :: s.body.out }))

namespace Sys2Proof.Machine

/-! ## Terms of the statements about the update engine and the memory -/

/-- What the second pass of a layer update stores for element `i` (R197, R200): the codes of the weight and of both moments. -/
def Body.newElem (b : Body) (cmd : Bytes) (l : Layer) (scale i : Nat) : Nat × Nat × Nat :=
  let t : Body := { b with ue := { b.ue with scale := scale, ctr := b.ueCtr (cmdStream cmd) } }
  ((do
    let (w, _, m1, v1, u) ← t.layerElem l i
    let w2 ← ueSub w (← ueMul scale u)
    let cw ← t.storeCode cmd 0 l.ws i w2
    let cm ← t.storeCode cmd 1 l.ms i m1
    let cv ← t.storeCode cmd 2 l.ms i v1
    return (cw, cm, cv) : StateM Nat (Nat × Nat × Nat)).run 0).1

/-- What one point makes of a chart channel's record (R208): z, V and the two limits. -/
def chartNew (r : Bytes) (x : Nat) : Nat × Nat × Nat × Nat :=
  ((do
    let sg ← if bit (le r 28 1) 1 then ueSqrt (le r 20 4) else pure (le r 12 4)
    let (z1, v1, hl) ← chartStep (le r 0 4) (le r 4 4) sg (le r 16 4) (le r 20 4) x ((le r 24 4 + 1) % 2 ^ 32)
    let hi ← ueAdd (le r 8 4) hl
    let lo ← ueSub (le r 8 4) hl
    return (z1, v1, hi, lo) : StateM Nat (Nat × Nat × Nat × Nat)).run 0).1

/-- How many of the commands complete into counter `cc` of physical tile `nn`. -/
def Body.completions (b : Body) (l : List Bytes) (nn cc : Nat) : Nat :=
  (l.filter (fun c => counterIdOk (cmdCounter c) && b.physOf (bits (cmdCounter c) 6 6) == some nn && cmdCounter c % 64 == cc)).length

end Sys2Proof.Machine

/-- R189 to R193, R195, R221: at t0 + 1.5 µs of a UE-granted period UE reads the list, where no sub-channel keeps it waiting, and takes
up its first command; a command whose gate is closed waits, is admitted once the gate opens if it still fits, or ends the list as an
overrun, with every completion sent; OP 0 does nothing, and one with a reserved bit set is refused; a completed command increments
its counter and the next is taken up. -/
def Obligations.UpdateListRows : Prop :=
  (∀ (s : State) (pt : PType), s.body.runningType = some pt → bit pt.flags 5 = true → s.body.inService iUE = true →
      s.body.ue.started ≠ some s.body.period → s.body.ue.phase = .idle →
      let b := s.body
      let b1 := b.toPod (b.job.departAt + 1500)
      let e := b.rd R.UE.LIST_TABLE.ADDR * 64 + 16 * b.rd R.TM.DEPART_SEQ.PTYPE
      let a := b.leAt e 8
      let n := b.leAt (e + 8) 4
      let t := signed (b.rd R.TM.STEP_NUMBER.STEP + 2 ^ 64 - b.rd R.UE.T_BASE.BASE) 64
      let taken (p : UePhase) : UeRun := { UeRun.init with
        list := (List.range n).map (fun i => b.bytes (a + 128 * i) 128), phase := p, t := t, gated := bit pt.flags 3,
        started := some b.period }
      let calm := b.memWaits e 16 = false ∧ (b.denied iUE e 16 = false → b.memWaits a (128 * n) = false)
      let seen := calm ∧ b.denied iUE e 16 = false
      let inside := n ≠ 0 ∧ e + 16 ≤ lpddrEnd ∧ a % 64 = 0 ∧ a + 128 * n ≤ lpddrEnd
      let good := seen ∧ inside ∧ b.denied iUE a (128 * n) = false
      (¬calm → Gives .ueListStart s (Exactly b1))
      ∧ (seen → n = 0 → Gives .ueListStart s (fun c => b.job.departAt + 1500 ≤ c.ns 0
        ∧ c.ue = { UeRun.init with started := some b.period } ∧ OnlyRegs [] b c ∧ SameBytes b c))
      ∧ (seen → n ≠ 0 → lpddrEnd < e + 16 ∨ a % 64 ≠ 0 ∨ lpddrEnd < a + 128 * n → Gives .ueListStart s (fun c =>
          Raised b c (iUE * 64) ∧ c.ue = { UeRun.init with started := some b.period } ∧ SameBytes b c))
      ∧ (calm ∧ b.denied iUE e 16 = true ∨ seen ∧ inside ∧ b.denied iUE a (128 * n) = true → Gives .ueListStart s (fun c =>
          c.ue = { UeRun.init with started := some b.period } ∧ SameBytes b c))
      ∧ (good → b.gateOpen (b.bytes a 128) = true → b1.ueFits (b.bytes a 128) = false → Gives .ueListStart s (fun c =>
          Raised b c (iUE * 64 + 3) ∧ c.ue = { taken .idle with list := [] } ∧ c.rd R.UE.STATUS.STATE = 0 ∧ SameBytes b c))
      ∧ (good → b.gateOpen (b.bytes a 128) = false → Gives .ueListStart s (fun c => b.job.departAt + 1500 ≤ c.ns 0
          ∧ c.ue = taken .gate ∧ c.rd R.UE.STATUS.STATE = 2 ∧ SameBytes b c))
      ∧ (good → b.gateOpen (b.bytes a 128) = true → b1.ueFits (b.bytes a 128) = true → Gives .ueListStart s (fun c =>
          b.job.departAt + 1500 ≤ c.ns 0 ∧ c.ue = taken .admitted ∧ c.rd R.UE.STATUS.STATE = 1 ∧ SameBytes b c)))
  ∧ (∀ (s : State) (cmd : Bytes), s.body.ue.list[s.body.ue.idx]? = some cmd →
      let b := s.body
      let u := b.ue
      let formed := idsOk cmd = true ∧ bit (le cmd 1 1) 7 = false ∧ (slice cmd 72 56).all (· == 0) = true
      (u.phase = .gate → b.gateOpen cmd = true → b.ueFits cmd = true →
          Gives .ueGateSatisfied s (Exactly (b.uePhase .admitted)))
      ∧ (u.phase = .gate → b.gateOpen cmd = true → b.ueFits cmd = false → Gives .ueGateSatisfied s (fun c =>
          Raised b c (iUE * 64 + 3) ∧ c.ue = { u with list := [], phase := .idle } ∧ c.rd R.UE.STATUS.STATE = 0 ∧ SameBytes b c))
      ∧ (u.phase = .gate → b.gateOpen cmd = false → Gives .ueGateSatisfied s (Exactly b))
      ∧ (u.phase = .gate → b.gateOpen cmd = true → Gives .ueGateOverrun s (Exactly b))
      ∧ (u.phase = .gate → b.gateOpen cmd = false → b.cont.substs = [] → Gives .ueGateOverrun s (fun c =>
          b.job.nextAt + 1 - 500 - ceilDiv (cmdReads cmd) 3600 ≤ c.ns 0 ∧ Raised b c (iUE * 64 + 3)
          ∧ c.ue = { u with list := [], phase := .idle } ∧ c.rd R.UE.STATUS.STATE = 0 ∧ SameBytes b c
          ∧ ∀ nn cc, b.completions (u.list.drop u.idx) nn cc ≠ 0 →
              (c.tile nn).getCC cc = ((b.tile nn).getCC cc + b.completions (u.list.drop u.idx) nn cc) % 2 ^ 32))
      ∧ (u.phase = .admitted → b.inService iUE = true → cmdOp cmd = 0 → formed → Gives .ueNothing s (Exactly (b.uePhase .executed)))
      ∧ (u.phase = .admitted → b.inService iUE = true → 3 ≤ cmdOp cmd ∨ cmdOp cmd = 0 ∧ ¬formed →
          Gives .ueNothing s (fun c => Raised b c (iUE * 64) ∧ c.ue = { u with phase := .executed } ∧ SameBytes b c
            ∧ c.rd R.UE.LAST_ERROR.VALID = 1 ∧ (b.rd R.UE.LAST_ERROR.VALID = 0 → c.rd R.UE.LAST_ERROR.CAUSE = 1)))
      ∧ (u.phase = .executed → b.cont.substs = [] →
          (∀ nn, counterIdOk (cmdCounter cmd) = true → b.physOf (bits (cmdCounter cmd) 6 6) = some nn →
            u.idx + 1 = u.list.length → Gives .ueCommandComplete s (fun c => c.ue = { u with list := [], idx := u.idx + 1, phase := .idle }
              ∧ (c.tile nn).getCC (cmdCounter cmd % 64) = ((b.tile nn).getCC (cmdCounter cmd % 64) + 1) % 2 ^ 32
              ∧ c.rd R.UE.STATUS.STATE = 0 ∧ SameBytes b c))
          ∧ (∀ next, u.list[u.idx + 1]? = some next →
              ((b.ueComplete cmd).gateOpen next = false → Gives .ueCommandComplete s (fun c =>
                c.ue = { u with idx := u.idx + 1, phase := .gate } ∧ c.rd R.UE.STATUS.STATE = 2 ∧ SameBytes b c))
              ∧ ((b.ueComplete cmd).gateOpen next = true → b.ueFits next = true → Gives .ueCommandComplete s (fun c =>
                c.ue = { u with idx := u.idx + 1, phase := .admitted } ∧ c.rd R.UE.STATUS.STATE = 1 ∧ SameBytes b c)))))

/-- R192, R197 to R200, R206: an admitted OP 1 command over arrays that do not overlap stores, for every element, the codes of the
new weight and moments, all computed from what stood there before, and nothing else; the stream moves on by the blocks of the three
arrays.  A command of no elements is done at once; an invalid command, a stale privileged rate, a non-finite value and a unit
that is lost or behind a closed strait store nothing; while a sub-channel keeps a read waiting the command waits. -/
def Obligations.LayerUpdateRow : Prop :=
  ∀ (s : State) (cmd : Bytes) (stop : BitVec 32), s.body.ue.list[s.body.ue.idx]? = some cmd → s.body.ue.phase = .admitted →
    s.body.inService iUE = true → cmdOp cmd = 1 →
    let b := s.body
    let n := cmdCount cmd
    let l := ((b.layer cmd).run 0).1
    let none_ (source : Nat) (c : Body) : Prop := Raised b c source ∧ c.ue = { b.ue with phase := .executed } ∧ SameBytes b c
      ∧ c.rd R.UE.LAYERS_DONE.COUNT = b.rd R.UE.LAYERS_DONE.COUNT
    let calm := (b.layerReads cmd).any (fun r => b.memWaits r.1 r.2) = false
    let rateLost := decide (248 ≤ le cmd 2 1) && b.denied iUE (b.rd R.UE.PRIV_BASE.ADDR * 64 + 8 * (le cmd 2 1 - 248)) 8
    let stale := decide (248 ≤ le cmd 2 1) && b.privStale (le cmd 2 1) b.ue.t.toNat
    let stops (done : Nat) (c : Body) : Prop := c.ue = { b.ue with phase := .executed } ∧ SameBytes b c
      ∧ c.rd R.UE.LAYERS_DONE.COUNT = (b.rd R.UE.LAYERS_DONE.COUNT + done) % 2 ^ R.UE.LAYERS_DONE.COUNT.w
    let runs := calm ∧ b.layerValid cmd = true ∧ n ≠ 0 ∧ rateLost = false ∧ (∀ i, i < n → b.elemLost l i = false)
    (¬calm → Gives (.layerUpdate stop) s (Exactly b))
    ∧ (calm → b.layerValid cmd = false → Gives (.layerUpdate stop) s (none_ (iUE * 64)))
    ∧ (calm → b.layerValid cmd = true → n = 0 → Gives (.layerUpdate stop) s (stops 1))
    ∧ (calm → b.layerValid cmd = true → n ≠ 0 → rateLost = true ∨ stale = false ∧ (∃ i, i < n ∧ b.elemLost l i = true) →
        Gives (.layerUpdate stop) s (stops 0))
    ∧ (runs → stale = true → Gives (.layerUpdate stop) s (none_ (iUE * 64 + 2)))
    ∧ (runs → stale = false → ((b.passOne cmd l).run ((b.layer cmd).run 0).2).1 = none →
        Gives (.layerUpdate stop) s (none_ (iUE * 64 + 1)))
    ∧ (∀ scale, runs → stale = false → ((b.passOne cmd l).run ((b.layer cmd).run 0).2).1 = some scale →
        bit (le cmd 1 1) 2 = false → n ≤ stop.toNat → Apart l.w (n * l.ws) l.g (4 * n) → Apart l.w (n * l.ws) l.m (n * l.ms) →
        Apart l.w (n * l.ws) l.v (n * l.ms) → Apart l.g (4 * n) l.m (n * l.ms) → Apart l.g (4 * n) l.v (n * l.ms) →
        Apart l.m (n * l.ms) l.v (n * l.ms) →
        Gives (.layerUpdate stop) s (fun c => c.ue.phase = .executed ∧ c.ue.idx = b.ue.idx
          ∧ c.rd R.UE.LAYERS_DONE.COUNT = (b.rd R.UE.LAYERS_DONE.COUNT + 1) % 2 ^ R.UE.LAYERS_DONE.COUNT.w
          ∧ (∀ i, i < n → c.bytes (l.w + l.ws * i) l.ws = leBytes l.ws (b.newElem cmd l scale i).1
              ∧ c.bytes (l.m + l.ms * i) l.ms = leBytes l.ms (b.newElem cmd l scale i).2.1
              ∧ c.bytes (l.v + l.ms * i) l.ms = leBytes l.ms (b.newElem cmd l scale i).2.2)
          ∧ (∀ a, Apart a 1 l.w (n * l.ws) → Apart a 1 l.m (n * l.ms) → Apart a 1 l.v (n * l.ms) → c.byte a = b.byte a)
          ∧ (stochastic cmd = true → c.ueCtr (cmdStream cmd) = (b.ueCtr (cmdStream cmd) + drawOffset cmd 3) % 2 ^ 128)
          ∧ c.tiles = b.tiles ∧ c.lost = b.lost))

/-- R207 to R210: a point of an enabled channel renews z, V and t of its record; a value of z beyond a limit writes an alarm; a
channel that is not enabled is skipped; a channel beyond the table, an invalid record and a value that is not finite write an alarm and
no record, and an invalid record raises source 5. While a sub-channel keeps a read waiting the command waits. -/
def Obligations.ChartBatchRow : Prop :=
  ∀ (s : State) (cmd : Bytes), s.body.ue.list[s.body.ue.idx]? = some cmd → s.body.ue.phase = .admitted →
    s.body.inService iUE = true → cmdOp cmd = 2 →
    let b := s.body
    let a := le cmd 16 8
    let ch := b.leAt a 2
    let x := b.leAt (a + 4) 4
    let ra := le cmd 24 8 + 32 * ch
    let r := b.bytes ra 32
    let wr := b.rd R.UE.ALARM_WR.VALUE
    let size := b.rd R.UE.ALARM_SIZE.SIZE
    let room := ¬size ≤ (wr + 2 ^ 32 - b.rd R.UE.ALARM_RD.VALUE) % 2 ^ 32
    let e := b.rd R.UE.ALARM_BASE.ADDR * 64 + 16 * (wr % size)
    let calm := b.memWaits (le cmd 16 8) (8 * cmdCount cmd) = false ∧ b.memWaits (le cmd 24 8) (32 * le cmd 32 8) = false
    let one := calm ∧ chartValid cmd = true ∧ cmdCount cmd = 1 ∧ b.pointLost cmd 0 = none
    let counts (c : Body) : Prop := c.ue = { b.ue with phase := .executed }
      ∧ c.rd R.UE.POINTS_DONE.COUNT = (b.rd R.UE.POINTS_DONE.COUNT + 1) % 2 ^ R.UE.POINTS_DONE.COUNT.w
    let ok := ch < le cmd 32 8 ∧ chartRecordOk r = true ∧ bit (le r 28 1) 0 = true ∧ isFinite32 x = true
    let alarms (flag t : Nat) (c : Body) : Prop := counts c
      ∧ (room → b.denied iUE e 16 = false → Field.holds c R.UE.ALARM_WR.VALUE (wr + 1) ∧ (∀ y, Apart y 1 e 16 → c.byte y = b.byte y)
          ∧ c.bytes e 16 = leBytes 2 ch ++ leBytes 1 flag ++ [0] ++ leBytes 4 x ++ leBytes 4 0 ++ leBytes 4 t)
      ∧ (¬room → SameBytes b c
          ∧ c.rd R.UE.ALARM_DROPPED.VALUE = satAdd (b.rd R.UE.ALARM_DROPPED.VALUE) 1 R.UE.ALARM_DROPPED.VALUE.w)
    (¬calm → Gives .chartBatch s (Exactly b))
    ∧ (calm → chartValid cmd = false → Gives .chartBatch s (fun c => Raised b c (iUE * 64) ∧ SameBytes b c
        ∧ c.ue = { b.ue with phase := .executed }))
    ∧ (one → ok →
        let new := chartNew r x
        let above := !(b32 new.1).isNaN && !(b32 new.2.2.1).isNaN && !le32 new.1 new.2.2.1
        let below := !(b32 new.1).isNaN && !(b32 new.2.2.2).isNaN && !le32 new.2.2.2 new.1
        let t1 := (le r 24 4 + 1) % 2 ^ 32
        let record := leBytes 4 new.1 ++ leBytes 4 new.2.1 ++ leBytes 4 t1
        Gives .chartBatch s (fun c => counts c ∧ c.bytes (ra + 16) 12 = record
          ∧ (above = false → below = false → (∀ a, Apart a 1 (ra + 16) 12 → c.byte a = b.byte a)
              ∧ c.rd R.UE.ALARM_WR.VALUE = wr)
          ∧ (above = true ∨ below = true → room → Apart e 16 (ra + 16) 12 → b.denied iUE e 16 = false →
              Field.holds c R.UE.ALARM_WR.VALUE (wr + 1)
              ∧ (b.inService iHI = true → bit (c.rd R.HI.IRQ_CAUSE.CAUSE) 6 = true)
              ∧ c.bytes e 16 = leBytes 2 ch ++ leBytes 1 (if above then 1 else 2) ++ [0] ++ leBytes 4 x ++ leBytes 4 new.1
                  ++ leBytes 4 t1)
          ∧ (above = true ∨ below = true → ¬room → c.rd R.UE.ALARM_WR.VALUE = wr
              ∧ c.rd R.UE.ALARM_DROPPED.VALUE = satAdd (b.rd R.UE.ALARM_DROPPED.VALUE) 1 R.UE.ALARM_DROPPED.VALUE.w
              ∧ ∀ a, Apart a 1 (ra + 16) 12 → c.byte a = b.byte a)))
    ∧ (one → ch < le cmd 32 8 → chartRecordOk r = true → bit (le r 28 1) 0 = false →
        Gives .chartBatch s (fun c => SameBytes b c ∧ c.ue = { b.ue with phase := .executed }
          ∧ c.rd R.UE.POINTS_DONE.COUNT = b.rd R.UE.POINTS_DONE.COUNT
          ∧ c.rd R.UE.POINTS_SKIPPED.COUNT = (b.rd R.UE.POINTS_SKIPPED.COUNT + 1) % 2 ^ R.UE.POINTS_SKIPPED.COUNT.w))
    ∧ (one → le cmd 32 8 ≤ ch → Gives .chartBatch s (alarms 8 0))
    ∧ (one → ch < le cmd 32 8 → chartRecordOk r = false → Gives .chartBatch s (fun c => alarms 8 (le r 24 4) c
        ∧ Raised b c (iUE * 64 + 5)))
    ∧ (one → ch < le cmd 32 8 → chartRecordOk r = true → bit (le r 28 1) 0 = true → isFinite32 x = false →
        Gives .chartBatch s (alarms 4 (le r 24 4)))

/-- R216, R218: whatever single byte of a stored burst of 36 is wrong, the decoder with no line marked delivers the payload. -/
def Obligations.SingleSymbolCorrected : Prop :=
  ∀ (tag : Nat) (payload : Bytes), tag < 2 ^ 16 → payload.length = 32 →
    let check := (rsCheck ((codeword tag payload).take 34)).map (BitVec.ofNat 8)
    let stored := payload ++ check
    decodeBurst 0 tag stored = .clean payload
    ∧ ∀ (i : Nat) (e : Byte), i < 36 → e ≠ 0 →
        decodeBurst 0 tag (overlay stored i [stored.getD i 0 ^^^ e]) = .correctable payload

namespace Sys2Proof.Machine

/-- The reads of a queue are made in their order (R221, R233). -/
def Body.readAll (b : Body) (q : List QueuedRead) : Body :=
  forEach q (fun r t => memoryRead r.addr r.master r.req r.e1 r.e2 r.e3 t) b

end Sys2Proof.Machine

/-- R220 to R222, R224, R226, R230, R234: a read of a unit goes to the sub-channel that serves it and counts an activation of its bank
(the limit and the counting by unit are the model's, log 96).  A clean one changes nothing else; a transient one is counted and raises
source 0; a correctable one that repeats is written back and read again, and waits for the line test if that read is not clean; an
uncorrectable or tag-mismatched re-read waits too.  A read of a sub-channel that is not ready, trains, or is under test joins the
queue; a closed strait refuses it.  The line test marks its lines and decides the waiting read; what waited behind it is then made. -/
def Obligations.MemoryReadRows : Prop :=
  (∀ (s : State) (addr : BitVec 42) (master : BitVec 13) (req : BitVec 4) (e1 e2 e3 : BitVec 288),
    let b := s.body
    let u := unitOf addr.toNat
    let k := (b.readChannel u).1
    let j := (b.readChannel u).2
    let m := b.memi k
    let bank := 16 * j + (subOf u).2 / 256 % 16
    let opened := SMap.getD m.activations bank 0 + 1
    let due := decide (Config.refreshLimit ≤ opened)
    let marks := b.rd (R.M.SC.FAILED_LINES k j)
    let r1 := b.readBurst u marks e1
    let r2 := b.readBurst u marks e2
    let cmd := Instr.memoryRead addr master req e1 e2 e3
    let open_ := b.crosses (master.toNat / 64) u 32 = true
    let serves := u < lpddrEnd ∧ open_ ∧ b.rd (R.M.STATUS.STATE k) = 2 ∧ m.held.any (fun h => h.sc == j) = false
      ∧ m.training.any (fun t => t.1 == j) = false
    let notClean (d : Decoded) : Prop := ∀ p, d ≠ .clean p
    let transient (c : Body) : Prop := Raised b c (iM k * 64)
      ∧ c.rd (R.M.SC.TRANSIENT k j) = satAdd (b.rd (R.M.SC.TRANSIENT k j)) 1 (R.M.SC.TRANSIENT k j).w
      ∧ (c.memi k).held = m.held ∧ (m.copyLost = [] → c.lost = b.lost)
    let holds (burst : Bytes) (c : Body) : Prop :=
      (c.memi k).held = m.held ++ [{ sc := j, addr := u, master := master.toNat, requester := req.toNat, burst := burst }] ∧ c.lost = b.lost
    (∀ p, serves → r1.2.1 = .clean p → Gives cmd s (Exactly (b.setMemi k { m with
      activations := SMap.insert m.activations bank (if due then 0 else opened),
      refreshMgmt := SMap.insert m.refreshMgmt bank (SMap.getD m.refreshMgmt bank 0 + b2n due) })))
    ∧ (∀ p, serves → notClean r1.2.1 → r2.2.1 = .clean p → Gives cmd s (fun c => transient c ∧ SameBytes b c))
    ∧ (∀ p, serves → notClean r1.2.1 → r2.2.1 = .correctable p → r1.2.2 = r2.2.2 →
        let b1 := b.put u p
        let r3 := b1.readBurst u marks e3
        (∀ q, r3.2.1 = .clean q → Gives cmd s (fun c => transient c ∧ SameBytes b1 c))
        ∧ (notClean r3.2.1 → Gives cmd s (fun c => holds r3.1 c ∧ SameBytes b1 c ∧ OnlyRegs [] b c)))
    ∧ (∀ p, serves → notClean r1.2.1 → r2.2.1 = .correctable p → r1.2.2 ≠ r2.2.2 →
        Gives cmd s (fun c => holds r2.1 c ∧ SameBytes b c ∧ OnlyRegs [] b c))
    ∧ (serves → notClean r1.2.1 → r2.2.1 = .uncorrectable → Gives cmd s (fun c => holds r2.1 c ∧ SameBytes b c ∧ OnlyRegs [] b c))
    ∧ (serves → r1.2.1 = .tagMismatch → r2.2.1 = .tagMismatch → Gives cmd s (fun c => holds r2.1 c ∧ SameBytes b c
        ∧ Raised b c (iM k * 64 + 3)))
    ∧ (serves → notClean r1.2.1 → r1.2.1 ≠ .tagMismatch → r2.2.1 = .tagMismatch →
        Gives cmd s (fun c => holds r2.1 c ∧ SameBytes b c ∧ OnlyRegs [] b c))
    ∧ (u < lpddrEnd → open_ → ¬serves → Gives cmd s (Exactly (b.setMemi k { m with queued := m.queued ++
        [{ addr := u, master := master.toNat, req := req.toNat, e1 := e1, e2 := e2, e3 := e3 }] })))
    ∧ (lpddrEnd ≤ u ∨ ¬open_ → Gives cmd s (Exactly b)))
  ∧ (∀ (s : State) (k : Fin 8) (j : Fin 128) (lines : BitVec 12) (ca : Result) (h : HeldRead),
    let b := s.body
    let m := b.memi k
    let marks := if ca = .fail then 0xFFF else b.rd (R.M.SC.FAILED_LINES k j) ||| lines.toNat
    let good := !b.isLost h.addr &&
      match decodeBurst marks (lineTag h.addr) h.burst with
      | .clean _ => marks != 0
      | .correctable _ => marks == 0
      | _ => false
    m.held.filter (fun x => x.sc == j.val) = [h] →
    Gives (.lineTestComplete k j lines ca) s (fun d => ∃ c : Body, Exactly (c.readAll m.queued).serveWaiting d
      ∧ (c.memi k).queued = [] ∧ c.hi.waiting = b.hi.waiting ∧ c.reads = b.reads
      ∧ (c.memi k).held = m.held.filter (fun x => x.sc != j.val)
      ∧ (good = true → Raised b c (iM k * 64 + 1) ∧ (m.copyLost = [] → c.lost = b.lost)
          ∧ c.rd (R.M.SC.CORRECTED k j) = satAdd (b.rd (R.M.SC.CORRECTED k j)) 1 (R.M.SC.CORRECTED k j).w)
      ∧ (good = false → Raised b c (iM k * 64 + 2) ∧ (m.copyLost = [] → c.isLost h.addr = true))
      ∧ (b.rd (R.M.SC.STATE k j) = 0 → c.rd (R.M.SC.FAILED_LINES k j) = marks % 2 ^ 12) ∧ SameBytes b c))

/-- R225 to R229: a retirement or a retraining takes the lowest spare and copies, a unit of 256 bytes at a time, what the sub-channel
holds, but not while its source is under a line test; a lost unit stays lost; at its end the remap points to the target, and the source
is retired or trains; when that training ends the original is a spare or retired, and the island starts its next copy if it can; only
MG may ask for either. -/
def Obligations.CopyRows : Prop :=
  ∀ (s : State) (k : Fin 8) (j t i : Fin 128),
    let b := s.body
    let m := b.memi k
    let on_ := b.rd (R.M.COPY_STATUS.ACTIVE k) = 1
    let idle := b.rd (R.M.STATUS.STATE k) = 2 ∧ b.rd (R.M.COPY_STATUS.ACTIVE k) = 0
    let bound := b.rd (R.M.SC.STATE k j) = 0 ∧ b.slotOf k j = some i.val ∧ b.spareOf k = some t.val
    let starts (kind : Nat) (c : Body) : Prop :=
      c.rd (R.M.COPY_STATUS.SRC k) = j ∧ c.rd (R.M.COPY_STATUS.DST k) = t ∧ c.rd (R.M.COPY_STATUS.KIND k) = kind
      ∧ c.rd (R.M.COPY_STATUS.POINTER k) = 0 ∧ c.rd (R.M.COPY_STATUS.ACTIVE k) = 1 ∧ c.rd (R.M.SC.STATE k t) = 2
      ∧ c.rd (R.M.STATUS.RETRAIN_ACTIVE k) = kind ∧ (c.memi k).copySlot = i ∧ SameBytes b c ∧ c.lost = b.lost
    let mine := b.inService (iM k) = true ∧ idle ∧ bound ∧ m.requests = [] ∧ m.retrains = []
    (mine → Gives (.retire .mg k j) s (starts 0)) ∧ (mine → Gives (.retrainNow .mg k j) s (starts 1))
    ∧ (∀ x : Master, x ≠ .mg → Gives (.retire x k j) s (UpToDb b) ∧ Gives (.retrainNow x k j) s (UpToDb b))
    ∧ (idle → bound → m.requests = [j.val] → Gives (.spareFreed k) s (fun c => starts 0 c ∧ (c.memi k).requests = []))
    ∧ (idle → bound → m.requests = [] → m.retrains = [j.val] → Gives (.spareFreed k) s (fun c => starts 1 c ∧ (c.memi k).retrains = []))
    ∧ (idle → bound → m.requests = [] → m.retrains = [] → b.rd (R.M.RETRAIN_CTRL.INTERVAL k) ≠ 0 → b.retrainPick k = some j.val →
        Gives (.retrainInterval k) s (starts 1))
    ∧ (b.rd (R.M.RETRAIN_CTRL.INTERVAL k) = 0 → Gives (.retrainInterval k) s (Exactly b))
    ∧ (∀ es : List (BitVec 288), m.held.any (fun h => h.sc == b.rd (R.M.COPY_STATUS.SRC k)) = true →
        Gives (.copyUnit k es) s (Exactly b))
    ∧ (∀ es : List (BitVec 288), on_ → b.rd (R.M.COPY_STATUS.POINTER k) < copyEnd →
        m.held.any (fun h => h.sc == b.rd (R.M.COPY_STATUS.SRC k)) = false →
        let base := addrOf (8 * m.copySlot + k) (b.rd (R.M.COPY_STATUS.POINTER k) * 256)
        Gives (.copyUnit k es) s (fun c =>
          c.rd (R.M.COPY_STATUS.POINTER k) = b.rd (R.M.COPY_STATUS.POINTER k) + 1
          ∧ (∀ a, Apart a 1 base 256 → c.byte a = b.byte a)
          ∧ (∀ x, x < 8 → b.isLost (base + 32 * x) = true → c.isLost (base + 32 * x) = true ∧ Raised b c (iM k * 64 + 2))
          ∧ ((∀ e ∈ es, e = 0) → b.rd (R.M.SC.FAILED_LINES k (b.rd (R.M.COPY_STATUS.SRC k))) = 0 → b.anyLost base 256 = false →
              SameBytes b c ∧ c.lost = b.lost)))
    ∧ (on_ → copyEnd ≤ b.rd (R.M.COPY_STATUS.POINTER k) → b.rd (R.M.COPY_STATUS.SRC k) = j → b.rd (R.M.COPY_STATUS.DST k) = t →
        m.copySlot = i → i.val < 120 → j ≠ t → m.requests = [] → m.retrains = [] →
        Gives (.copyComplete k) s (fun c => c.rd (R.M.REMAP.SC k i) = t ∧ c.rd (R.M.COPY_STATUS.ACTIVE k) = 0
          ∧ c.rd (R.M.STATUS.COPY_ACTIVE k) = 0 ∧ SameBytes b c ∧ c.lost = b.lost
          ∧ if b.rd (R.M.COPY_STATUS.KIND k) = 0 then
              c.rd (R.M.SC.STATE k t) = 0 ∧ c.rd (R.M.SC.STATE k j) = 3 ∧ c.rd (R.M.SC.FAILED_LINES k j) = 0
              ∧ SMap.getD (c.memi k).replaced j 0xFFFF = 128 * k.val + t.val
              ∧ ∀ x, b.cont.cap = some x → x.open_ = true → x.kind = 2 → x.part = 128 * k.val + j.val →
                  c.cont.cap = some (x.retiredFor (128 * k.val + t.val))
            else c.rd (R.M.SC.STATE k j) = 4 ∧ (c.memi k).training = m.training ++ [(j.val, .retrain)]))
    ∧ (b.rd (R.M.SC.STATE k j) = 4 → m.training.contains (j.val, .retrain) = true →
        Gives (.retrainingDone k j .pass) s (fun d => ∃ c : Body, Exactly (c.serveCopies k) d ∧ c.rd (R.M.SC.STATE k j) = 1 ∧ c.rd (R.M.SC.FAILED_LINES k j) = 0
          ∧ c.rd (R.M.SC.RETRAINS k j) = satAdd (b.rd (R.M.SC.RETRAINS k j)) 1 (R.M.SC.RETRAINS k j).w
          ∧ (c.memi k).training = m.training.erase (j.val, .retrain) ∧ SameBytes b c)
        ∧ Gives (.retrainingDone k j .fail) s (fun d => ∃ c : Body, Exactly (c.serveCopies k) d ∧ c.rd (R.M.SC.STATE k j) = 3 ∧ Raised b c (iM k * 64 + 5)
          ∧ (c.memi k).training = m.training.erase (j.val, .retrain) ∧ SameBytes b c))

/-- R212, R230 to R233: from reset an island initialises and trains, fills its memory with zeros and is ready; out of a reset with its
memory kept it recalibrates, or trains in full where its store's check fails; what fails trains in full, and is retired if that fails;
once an island is ready, the reads that waited are made. Refreshes and temperatures are kept by bank and sub-channel. -/
def Obligations.MemoryStartRows : Prop :=
  ∀ (s : State) (k : Fin 8) (j : Fin 128),
    let b := s.body
    let m := b.memi k
    let st := b.rd (R.M.STATUS.STATE k)
    (∀ bank : Fin 16, b.rd (R.M.SC.STATE k j) ≤ 2 → st = 1 ∨ st = 2 → Gives (.refresh k j bank) s (Exactly (b.setMemi k { m with
        refreshed := SMap.insert m.refreshed (16 * j.val + bank.val) (b.ns 2) })))
    ∧ (∀ (p : Fin 64) (t : BitVec 16), p.val / 8 = k.val →
        Gives (.temperatureReadout p t false) s (fun c => OnlyRegs [] b c ∧ SameBytes b c
          ∧ ∀ x, x < 128 → SMap.sorted m.temp = true → SMap.getD (c.memi k).temp x 0 =
              if x / 16 = p.val % 8 then t.toInt else SMap.getD m.temp x 0)
        ∧ Gives (.temperatureReadout p t true) s (fun c => Raised b c (iM k * 64 + 7) ∧ SameBytes b c))
    ∧ (b.inService (iM k) = true → st = 0 → Gives (.memoryInit k) s (fun c => c.rd (R.M.STATUS.STATE k) = 1
        ∧ c.rd (R.M.STATUS.FSP k) = 0 ∧ (c.memi k).training = (List.range 128).map (fun x => (x, .powerUp)) ∧ SameBytes b c))
    ∧ (∀ failed : BitVec 128, m.training.any (fun t => t.2 == .powerUp) = true →
        Gives (.memoryTrainingComplete k failed) s (fun c => (c.memi k).training = [] ∧ c.rd (R.M.STATUS.FSP k) = 1 ∧ SameBytes b c
          ∧ (bit failed.toNat j = true → Raised b c (iM k * 64 + 5))
          ∧ (bit failed.toNat j = true → b.slotOf k j = none → c.rd (R.M.SC.STATE k j) = 3)
          ∧ (bit failed.toNat j = false → c.rd (R.M.SC.FAILED_LINES k j) = 0)))
    ∧ (st = 1 → b.rd (R.M.STATUS.FSP k) = 1 → m.training = [] → Gives (.zeroFillComplete k) s (fun d => ∃ c : Body,
        Exactly ((c.readAll m.queued).serveCopies k).serveWaiting d ∧ (c.memi k).queued = [] ∧ c.hi.waiting = b.hi.waiting ∧ c.reads = b.reads
        ∧ c.rd (R.M.STATUS.STATE k) = 2 ∧ OnlyRegs [(R.M.STATUS.STATE k).key] b c
        ∧ ∀ a, c.byte a = if a < lpddrEnd ∧ (subOf a).1 % 8 = k.val then 0 else b.byte a))
    ∧ (∀ r : Result, st = 3 → Gives (.memoryResume k r) s (fun c => c.rd (R.M.STATUS.STATE k) = 1 ∧ c.rd (R.M.STATUS.FSP k) = 1
        ∧ SameBytes b c ∧ (c.memi k).training =
            if r = .pass ∧ b.storeOk k = true then m.training else (List.range 128).map (fun x => (x, .store))))
    ∧ (∀ failed : BitVec 128, st = 1 → b.rd (R.M.STATUS.FSP k) = 1 → m.training = [] →
        let bad := (List.range 128).filter (fun x => bit failed.toNat x && b.rd (R.M.SC.STATE k x) != 3)
        Gives (.recalibrationDone k failed) s (fun d => ∃ c : Body, Exactly ((c.readAll m.queued).serveCopies k).serveWaiting d
          ∧ (c.memi k).queued = [] ∧ c.hi.waiting = b.hi.waiting ∧ c.reads = b.reads ∧ (c.memi k).training = bad.map (fun x => (x, .resume))
          ∧ c.rd (R.M.STATUS.STATE k) = 2 ∧ SameBytes b c ∧ (bad ≠ [] → Raised b c (iM k * 64 + 5))
          ∧ c.rd (R.M.SC.RETRAINS k j) = satAdd (b.rd (R.M.SC.RETRAINS k j)) 1 (R.M.SC.RETRAINS k j).w))
    ∧ (∀ (failed : BitVec 128) (why : TrainWhy), why = .resume ∨ why = .store → m.training = [(j.val, why)] → st = 1 ∨ st = 2 →
        Gives (.fullTrainingComplete k failed) s (fun d => ∃ c : Body,
          (let ready (x : Body) : Body := if st = 1 then x.serveCopies k else x
           let ended (x : Body) : Body := if bit failed.toNat j then x.requestRetire k j else x
           Exactly (ended (ready (c.readAll m.queued))).serveWaiting d)
          ∧ (c.memi k).queued = [] ∧ c.hi.waiting = b.hi.waiting ∧ c.reads = b.reads ∧ (c.memi k).training = [] ∧ c.rd (R.M.STATUS.STATE k) = 2
          ∧ SameBytes b c
          ∧ if bit failed.toNat j then Raised b c (iM k * 64 + 5)
            else c.rd (R.M.SC.FAILED_LINES k j) = 0
              ∧ c.rd (R.M.SC.RETRAINS k j) = satAdd (b.rd (R.M.SC.RETRAINS k j)) 1 (R.M.SC.RETRAINS k j).w))

namespace Sys2Proof.Machine

/-- Link `n` stands in the state, with the cause, and every other link in the state it had; no byte of memory has changed. -/
structure LinkGoes (b c : Body) (n state : Nat) : Prop where
  state : c.linkState n = state
  others : ∀ x, x < 64 → x ≠ n → c.linkState x = b.linkState x
  bytes : SameBytes b c

/-- The link has failed with the cause: it stands in state 7, its failures are counted, its source m is raised, and its replay buffer is
as given. -/
def LinkFails (b c : Body) (n cause m : Nat) : Prop :=
  LinkGoes b c n 7 ∧ c.rd (R.L.LINK_STATUS.CAUSE (n / 8) (n % 8)) = cause ∧ Raised b c (iL (n / 8) * 64 + 8 * (n % 8) + m)
  ∧ c.rd (R.L.LINK_CNT.COUNT (n / 8) (n % 8) 7) =
      satAdd (b.rd (R.L.LINK_CNT.COUNT (n / 8) (n % 8) 7)) 1 (R.L.LINK_CNT.COUNT (n / 8) (n % 8) 7).w

/-- The next new frame of link n, of a type with a body: it carries the next sequence, the acknowledgement and the NACK that is due;
while the replay buffer is full an idle frame leaves in its place, which repeats the last number (log 91). -/
def Body.newFrame (b : Body) (n kind : Nat) (body : Bytes) : Output :=
  let l := b.lnk n
  .frame n (frameSymbols (if l.replay.length < 512 then frameOf l.txNext l.ack kind l.nackDue 0 noFirst body
    else frameOf ((l.txNext + 2 ^ 16 - 1) % 2 ^ 16) l.ack 1 l.nackDue 0 noFirst []))

end Sys2Proof.Machine

/-- R245 to R248, R254, R311: the states of a link, what takes it from each to the next, the identity frames that its ends send, the
causes of its failures and what a failure drops.  That a held link whose far end agrees with the map is released at once is log 94. -/
def Obligations.LinkStateRows : Prop :=
  ∀ (n : Fin 64) (s : State),
    let b := s.body
    let k := n.val / 8
    let l := b.lnk n
    let st := b.linkState n
    let run_ := l.since + (if l.shortQual then b.rd (R.L.QUAL_CTRL.RECAL_QUAL k) * 10 ^ 7 else b.rd (R.L.QUAL_CTRL.QUAL_TIME k) * 10 ^ 9)
    let known := 2 ≤ b.rd R.MG.DSP_STATUS.MAP_STATE
    let same := l.wasInService = true ∧ l.known = some (b.farEnd n) ∧ b.farFenced n = false
    let held := b.rd (R.L.LINK_STATUS.HOLD k (n.val % 8))
    let repeats (c : Body) : Prop := ∀ x, b.cont.cap = some x → x.open_ = true → x.kind = 3 → x.part = n.val →
      c.cont.cap = some x.repeated
    let enters (c : Body) : Prop := LinkGoes b c n 6 ∧ repeats c ∧ run_ ≤ c.ns 2 ∧ (c.lnk n).wasInService = true
      ∧ (c.lnk n).known = some (b.farEnd n) ∧ c.rd (R.L.LINK_STATUS.CAUSE k (n.val % 8)) = 0
      ∧ c.rd (R.L.LINK_STATUS.HOLD k (n.val % 8)) = 0
    let waits (c : Body) (h : Nat) : Prop := LinkGoes b c n 5 ∧ repeats c ∧ run_ ≤ c.ns 2 ∧ c.rd (R.L.LINK_STATUS.HOLD k (n.val % 8)) = h
    (st = 1 → Gives (.lightDetected n) s (fun c => LinkGoes b c n 2 ∧ (c.lnk n).since = b.ns 2))
    ∧ (st = 2 → Gives (.trainingComplete n) s (fun c => LinkGoes b c n 3 ∧ c.free = b.free + 1 ∧ (c.lnk n).since = b.ns 2
        ∧ (c.lnk n).nonce = (Config.freeValue 64 b.free).toNat ∧ (c.lnk n).verified = false ∧ (c.lnk n).rxNext = 0
        ∧ (b.sec.flash.unwrapOk = false → (c.lnk n).txNext = 0 ∧ (c.lnk n).replay = [] ∧ c.out = b.out)
        ∧ (b.sec.flash.unwrapOk = true → (c.lnk n).txNext = 1
          ∧ (c.lnk n).replay = [⟨0, 2, noFirst, c.identityBody n, [], 1⟩]
          ∧ c.out = .frame n (frameSymbols (frameOf 0 0xFFFF 2 false 0 noFirst (c.identityBody n))) :: b.out)))
    ∧ (st = 2 → Gives (.trainingTimeout n) s (fun c => LinkFails b c n 2 2 ∧ l.since + 50000000 ≤ c.ns 2))
    ∧ (st = 3 → Gives (.identityTimeout n) s (fun c => LinkFails b c n 3 3 ∧ l.since + 5000000 ≤ c.ns 2))
    ∧ (st = 4 → ¬known → Gives (.qualificationComplete n) s enters)
    ∧ (st = 4 → known → same → Gives (.qualificationComplete n) s (fun c =>
        if b.jobRuns = false ∧ held = 0 then enters c else waits c held))
    ∧ (st = 4 → known → ¬same → b.farAgrees n = false → Gives (.qualificationComplete n) s (fun c => waits c 1))
    ∧ (st = 4 → known → ¬same → b.farAgrees n = true → Gives (.qualificationComplete n) s (fun c =>
        if b.jobRuns = false then enters c else waits c 0))
    ∧ (st = 7 → bit b.sb.lasers (engineOf n) = true → Gives (.retrainDelayExpiry n) s (fun c => LinkGoes b c n 1
        ∧ l.since + b.rd (R.L.FAIL_CTRL.RETRAIN_DELAY k) * 10 ^ 6 ≤ c.ns 2))
    ∧ (st = 7 → bit b.sb.lasers (engineOf n) = false → Gives (.retrainDelayExpiry n) s (fun c => LinkGoes b c n 7))
    ∧ (st = 6 → Gives (.linkFailure n) s (fun c => LinkFails b c n 1 2 ∧ (c.lnk n).replay = [] ∧ (c.lnk n).stream = []
        ∧ (c.lnk n).known = some (b.farEnd n)
        ∧ (c.lnk n).sending = []
        ∧ c.rd (R.J.CONS.COUNT (junctionOfLink n) 2) = (b.rd (R.J.CONS.COUNT (junctionOfLink n) 2)
            + (l.inReplay + l.sending.length)) % 2 ^ (R.J.CONS.COUNT (junctionOfLink n) 2).w
        ∧ c.rd (R.J.CONS.COUNT (junctionOfLink n) 10) = (b.rd (R.J.CONS.COUNT (junctionOfLink n) 10) + l.inReplay)
            % 2 ^ (R.J.CONS.COUNT (junctionOfLink n) 10).w))
    ∧ (∀ body : Bytes, st = 3 → b.inService iSC = true →
        let x := slice body 0 1308
        let far := le x 4 1
        let good := far < 64 ∧ cabledRight n far = true ∧ Config.identityValid x = true ∧ b.sec.flash.unwrapOk = true
        (far < 64 → cabledRight n far = false → Gives (.identityFrame n body) s (fun c => LinkFails b c n 4 6))
        ∧ (far < 64 → cabledRight n far = true → Config.identityValid x = false →
            Gives (.identityFrame n body) s (fun c => LinkFails b c n 3 3))
        ∧ (good → Gives (.identityFrame n body) s (fun c =>
            LinkGoes b c n (if bit (le x 5 1) 0 && le x 16 8 == l.nonce then 4 else 3)
            ∧ (c.lnk n).verified = true ∧ (c.lnk n).peerNonce = le x 8 8
            ∧ (l.replay.length < 512 → (c.lnk n).replay = l.replay ++ [⟨l.txNext, 2, noFirst, c.identityBody n, [], 1⟩]
              ∧ bit (le (c.identityBody n) 5 1) 0 = true)
            ∧ Field.holds c (R.L.LINK_STATUS.PEER_LINK k (n.val % 8)) far
            ∧ Field.holds c (R.L.LINK_PEER.PLACE k (n.val % 8)) (le x 0 4))))

/-- R237, R238, R241, R242, R244, R255: a frame whose codewords decode, whose CRC and sequence are right, is accepted, and its
acknowledgement empties the replay buffer; any other is discarded, and after the first the next outgoing frame carries NACK; a NACK has
every unacknowledged frame sent again, its time taken from the link's slots, or fails the link at the retry limit; the exchanges of
stamps, each in a frame of its own with the next sequence and the current acknowledgement. -/
def Obligations.LinkFrameRows : Prop :=
  ∀ (n : Fin 64) (s : State),
    let b := s.body
    let k := n.val / 8
    let l := b.lnk n
    (∀ (syms : Vector (BitVec 10) 1088) (w0 w1 : List Nat), b.inService (iL k) = true → b.linkState n = 6 →
        rsDecode (frameWord (syms.toList.map (·.toNat)) 0) = some (w0, 0) →
        rsDecode (frameWord (syms.toList.map (·.toNat)) 1) = some (w1, 0) →
        let f := frameBytes w0 w1
        let good := le f 1316 4 = crc32 (slice f 0 1316) ∧ le f 0 2 = l.rxNext
        (good → le f 4 1 % 16 = 1 → Gives (.frameReceive n syms) s (fun c => LinkGoes b c n 6 ∧ OnlyRegs [] b c
          ∧ c.lnk n = { l with rxNext := (l.rxNext + 1) % 2 ^ 16, nacked := false,
                               replay := l.replay.filter (fun x => !ackedBy (le f 2 2) x.seq) }))
        ∧ (¬good → Gives (.frameReceive n syms) s (fun c => LinkGoes b c n 6 ∧ OnlyRegs [] b c ∧ c.out = b.out
            ∧ c.lnk n = { l with nacked := true, nackDue := l.nackDue || !l.nacked })))
    ∧ (∀ ack : BitVec 16, b.linkState n = 6 →
        let left := l.replay.filter (fun x => !ackedBy ack.toNat x.seq)
        let limit := b.rd (R.L.FAIL_CTRL.RETRY_LIMIT k)
        (left = [] → Gives (.nack n ack) s (fun c => LinkGoes b c n 6 ∧ (c.lnk n).replay = [] ∧ OnlyRegs [] b c
            ∧ ∀ x, b.cont.cap = some x → x.open_ = true → x.kind = 3 → x.part = n.val → x.rep.source % 8 = 1 →
                (∃ f ∈ l.replay, 2 ≤ f.sends) → c.cont.cap = some x.repeated))
        ∧ (left ≠ [] → (∀ x ∈ left, x.sends < limit) → Gives (.nack n ack) s (fun c => LinkGoes b c n 6
            ∧ (c.lnk n).replay = left.map (fun x => { x with sends := x.sends + 1 })
            ∧ (c.lnk n).debt = l.debt + 1308 * left.length ∧ (c.lnk n).nackDue = false
            ∧ c.out.length = b.out.length + left.length ∧ Raised b c (iL k * 64 + 8 * (n.val % 8) + 1)
            ∧ (l.nackDue = false → c.out = (left.map (fun x =>
                .frame n (frameSymbols (frameOf x.seq l.ack x.kind false x.sends x.first x.body)))).reverse ++ b.out)))
        ∧ (∀ x ∈ left, limit ≤ x.sends → Gives (.nack n ack) s (fun c => LinkFails b c n 5 2 ∧ (c.lnk n).replay = [])))
    ∧ (b.linkState n = 6 → b.rd (R.L.TIME_CTRL.INTERVAL k) ≠ 0 → Gives (.timeExchangeStart n) s (fun c => LinkGoes b c n 6
        ∧ OnlyRegs [] b c ∧ (c.lnk n).exchangeSeq = (l.exchangeSeq + 1) % 2 ^ 24
        ∧ (c.lnk n).exchanges = l.exchanges ++ [((l.exchangeSeq + 1) % 2 ^ 24, b.stampInstant (b.stamp 0 (iL k)))]
        ∧ c.out = b.newFrame n 3 (timeBody 0 ((l.exchangeSeq + 1) % 2 ^ 24) (b.stamp 0 (iL k)) 0 0) :: b.out
        ∧ (l.replay.length < 512 → (c.lnk n).txNext = (l.txNext + 1) % 2 ^ 16 ∧ (c.lnk n).replay = l.replay ++
            [⟨l.txNext, 3, noFirst, timeBody 0 ((l.exchangeSeq + 1) % 2 ^ 24) (b.stamp 0 (iL k)) 0 0, [], 1⟩])))
    ∧ (∀ (seq : BitVec 24) (t1 : BitVec 96), (3 ≤ b.linkState n ∧ b.linkState n ≤ 6) ∨ b.linkState n = 8 →
        Gives (.timeRequest n seq t1) s (fun c => OnlyRegs [] b c ∧ SameBytes b c
          ∧ c.out = b.newFrame n 3 (timeBody 1 seq.toNat t1.toNat (b.stamp 0 (iL k)) (b.stamp 0 (iL k))) :: b.out))
    ∧ (∀ (seq : BitVec 24) (x1 t2 t3 : BitVec 96) (t1 : Int), l.exchanges.find? (fun x => x.1 == seq.toNat) = some (seq.toNat, t1) →
        b.linkState n = 6 →
        let t4 := b.stampInstant (b.stamp 0 (iL k))
        let d2 := b.stampInstant t2.toNat - t1
        let d3 := t4 - b.stampInstant t3.toNat
        let diff := (d2 - d3) * 1000 - signed (b.rd (R.L.TIME_ASYM.ASYM k (n.val % 8))) 32 * 256
        Gives (.timeResponse n seq x1 t2 t3) s (fun c => OnlyRegs [] b c ∧ SameBytes b c
          ∧ (c.lnk n).exchanges = l.exchanges.filter (fun x => x.1 != seq.toNat)
          ∧ c.time.offsets = b.time.offsets ++ [⟨n, diff, (t4 - t1) - (b.stampInstant t3.toNat - b.stampInstant t2.toNat)⟩]
          ∧ c.time.neighbours = b.time.neighbours ++ [(n.val % 8, diff.natAbs / 2000, b.ns 2)]))
    ∧ (∀ (x : Nat × Int) (rest : List (Nat × Int)), l.exchanges = x :: rest → Gives (.timeExchangeAbandoned n) s (fun c =>
        (x.2 / 256).toNat + 100000 ≤ c.ns 0 ∧ (c.lnk n).exchanges = rest ∧ SameBytes b c
        ∧ Raised b c (iL k * 64 + 8 * (n.val % 8) + 7)))

/-- R245, R256 to R258, R311: engines, laser inputs, the control of single links, and recalibration; what a running job makes wait for
the next departure; a link whose far end is expelled stays held. -/
def Obligations.LinkControlRows : Prop :=
  ∀ (e : Fin 16) (n : Fin 64) (k : Fin 8) (m : Master) (s : State),
    let b := s.body
    let mine (x : Nat) : Prop := x < 64 ∧ engineOf x = e.val
    let engineAs (c : Body) (f : Nat → Nat) : Prop :=
      (∀ x, x < 64 → c.linkState x = if x / 4 = e.val then f (b.linkState x) else b.linkState x) ∧ SameBytes b c
    let on_ := b.inService (iL (e / 2)) = true
    let up := b.inService (iL (n / 8)) = true
    Gives (.laserLoss e) s (fun c => engineAs c (fun st => if st = 0 ∨ st = 7 ∨ st = 9 then st else 7)
      ∧ bit c.sb.lasers e = false
      ∧ ∀ x, mine x → b.linkState x = 6 → Raised b c (iL (x / 8) * 64 + 8 * (x % 8) + 5))
    ∧ Gives (.laserInputRestored e) s (fun c => bit c.sb.lasers e = true ∧ SameBytes b c
        ∧ (∀ x, mine x → b.linkState x = 0 → b.engineEnabled e = true → bit (b.rd R.SB.DOMAIN_ON.ON) (108 + e.val) = true → on_ →
            c.linkState x =
              if b.rd (R.L.LINK_CTRL.DISABLE (x / 8) (x % 8)) = 0 ∧ bit b.sb.drained e = false then 1 else 9)
        ∧ (∀ x, mine x → b.linkState x = 7 → (b.lnk x).since + b.rd (R.L.FAIL_CTRL.RETRAIN_DELAY (x / 8)) * 10 ^ 6 ≤ b.ns 2 →
            c.linkState x = 1))
    ∧ (on_ → b.jobRuns = false → Gives (.drainEngine .mg e) s (fun c => engineAs c (fun _ => 9) ∧ bit c.sb.drained e = true))
    ∧ (on_ → b.jobRuns = true → Gives (.drainEngine .mg e) s (fun c => engineAs c id ∧ ∀ x, mine x → (c.lnk x).drain = true))
    ∧ (m ≠ .mg → Gives (.drainEngine m e) s (UpToDb b))
    ∧ (on_ → Gives (.enableEngine m e) s (fun c => c.engineEnabled e = true ∧ bit c.sb.drained e = false ∧ SameBytes b c
        ∧ bit (c.rd R.SB.DOMAIN_ON.ON) (108 + e.val) = true
        ∧ ∀ x, mine x → b.linkState x = 9 → b.rd (R.L.LINK_CTRL.DISABLE (x / 8) (x % 8)) = 0 → c.linkState x = 1))
    ∧ (on_ → bit b.sb.drained e = true → Gives (.disableEngine m e) s (fun c => engineAs c (fun _ => 0) ∧ c.engineEnabled e = false
        ∧ bit (c.rd R.SB.DOMAIN_ON.ON) (108 + e.val) = false))
    ∧ (on_ → bit b.sb.drained e = false → Gives (.disableEngine m e) s (UpToDb b))
    ∧ (up → Gives (.linkDisable m n true) s (fun c => LinkGoes b c n 9 ∧ c.rd (R.L.LINK_CTRL.DISABLE (n / 8) (n % 8)) = 1))
    ∧ (up → b.linkState n = 9 → bit b.sb.drained (engineOf n) = false → Gives (.linkDisable m n false) s (fun c =>
        LinkGoes b c n (if b.engineEnabled (engineOf n) then 1 else 0) ∧ c.rd (R.L.LINK_CTRL.DISABLE (n / 8) (n % 8)) = 0))
    ∧ (up → b.farFenced n = true → Gives (.linkRelease .mg n) s (UpToDb b))
    ∧ (up → b.farFenced n = false → Gives (.linkRelease .mg n) s (fun c =>
        LinkGoes b c n (if b.linkState n = 5 ∧ b.jobRuns = false then 6 else b.linkState n)
        ∧ c.rd (R.L.LINK_STATUS.HOLD (n / 8) (n % 8)) = 0))
    ∧ (up → b.linkState n = 6 → Gives (.linkRetrain .mg n) s (fun c => LinkGoes b c n (if b.jobRuns = true then 6 else 1)
        ∧ (b.jobRuns = true → (c.lnk n).retrain = true)
        ∧ (b.jobRuns = false → c.rd (R.L.LINK_STATUS.CAUSE (n / 8) (n % 8)) = 10)))
    ∧ (m ≠ .mg → Gives (.linkRelease m n) s (UpToDb b) ∧ Gives (.linkRetrain m n) s (UpToDb b))
    ∧ (b.inService (iL k) = true → b.recalTurn k = some n.val → n.val / 8 = k.val →
        Gives (.recalibrationStart k) s (fun c => LinkGoes b c n (if b.mayRecal n = true ∧ b.jobRuns = false then 8 else 6)
          ∧ (b.mayRecal n = true → b.jobRuns = true → (c.lnk n).recal = true ∧ (c.lnk n).recalAsked = false)
          ∧ (b.mayRecal n = false → (c.lnk n).recalAsked = true)))
    ∧ (b.linkState n = 8 → Gives (.recalibrationEnd n) s (fun c => LinkGoes b c n 4 ∧ (c.lnk n).shortQual = true
        ∧ (c.lnk n).trainedAt = b.ns 2))

namespace Sys2Proof.Machine

/-- The fields of a packet lie in their ranges (R260). -/
def Packet.InRange (p : Packet) : Prop :=
  p.dest < 2 ^ 32 ∧ p.source < 2 ^ 32 ∧ p.tag < 2 ^ 16 ∧ p.epoch < 2 ^ 16 ∧ p.cls < 16 ∧ p.flags < 16 ∧ p.defl < 256
  ∧ p.seq < 2 ^ 32 ∧ p.counter < 2 ^ 16 ∧ p.addr < 2 ^ 48 ∧ p.period < 2 ^ 16 ∧ p.op < 256 ∧ p.payload.length ≤ 512

/-- A counter has moved on by n, and wrapped. -/
def Field.rose (b c : Body) (f : Field) (n : Nat) : Prop := c.rd f = (b.rd f + n) % 2 ^ f.w

/-- A counter has moved on by n, at most to its end. -/
def Field.rises (b c : Body) (f : Field) (n : Nat) : Prop := c.rd f = satAdd (b.rd f) n f.w

/-- The write that an accepted packet carries, its full period number given. -/
def arrivedWrite (p : Packet) (link period : Nat) : Write :=
  { xfer := none, source := p.source, counter := p.counter, addr := p.addr, op := p.op, cls := p.cls, period := period,
    data := p.payload, zero := p.payload.isEmpty, seq := p.seq, doubled := p.doubled, link := link, tag := p.tag,
    epoch := p.epoch }

/-- No packet was taken in: none waits to be written, to be served or to go on that did not before, and no byte has changed. -/
def NothingTaken (b c : Body) (k : Nat) : Prop :=
  c.writes = b.writes ∧ c.fab.inbox = b.fab.inbox ∧ (c.jn k).transit = (b.jn k).transit ∧ SameBytes b c

end Sys2Proof.Machine

/-- R260, R263: a packet is read back from its bytes field by field, and both its CRCs hold. -/
def Obligations.PacketRoundTrip : Prop :=
  ∀ p : Packet, p.InRange → parsePacket (packetBytes p) = p ∧ headerCrcOk (packetBytes p) = true ∧ packetCrcOk (packetBytes p) = true
    ∧ (packetBytes p).length = 36 + p.payload.length

/-- R45, R59, R252, R265, R268, R269, R273: the tests of a packet that enters from a link, in their order, each drop with its counter
and its source; an accepted write waits for its address test, an accepted message for who serves it, a packet for another module in the
transit buffer; of a doubled packet the first copy goes on and the second is a duplicate; the strait of a
closed junction refuses it, and it is fenced (R24). -/
def Obligations.PacketIngressRow : Prop :=
  ∀ (link : Fin 64) (bs : Bytes) (s : State),
    let b := s.body
    let k := junctionOfLink link
    let p := parsePacket bs
    let own := p.dest = b.place
    let j := b.jn (p.seq % 4)
    let same (d : DupKey) : Bool := d.source == p.source && d.cls == p.cls && d.seq == p.seq
    let seen := p.doubled = true ∧ j.dup.any same = true
    let full := p.doubled = true ∧ j.dup.any same = false ∧ 16384 ≤ j.dup.length
    let n := extendPeriod b.period p.period
    let does (P : Body → Prop) : Prop := Gives (.packetIngress link bs) s P
    let t1 := headerCrcOk bs = true
    let t2 := t1 ∧ p.wellFormed (le bs 14 2) = true
    let t3 := t2 ∧ packetCrcOk bs = true
    let t4 := t3 ∧ b.isFenced k p.source = false
    let t5 (e : Nat) : Prop := t4 ∧ b.entryOf k p.tag = some e
    let t6 (e : Nat) : Prop := t5 e ∧ b.rd (R.J.SLICE.EPOCH k e) = p.epoch
    let t7 (e : Nat) : Prop := t6 e ∧ own ∧ b.rd (R.J.SLICE.STATE k e) ≠ 3
    let late := p.op ≤ 2 ∧ b.resolvedFor p.source n = true ∧ ¬(p.counter = mirrorCounter ∧ (b.halfOf p.addr).isSome = true)
    let fenced (c : Body) : Prop := Field.rose b c (R.J.CONS.COUNT k 2) 1
    let w := arrivedWrite p link n
    (b.linkUp link = true → b.inService (iJ k) = false → ∀ j, b.firstJunction = some j →
      does (fun c => Field.rose b c (R.J.CONS.COUNT j 2) 1 ∧ NothingTaken b c k))
    ∧ (b.linkUp link = true → b.inService (iJ k) = true →
    (¬t1 → does (fun c => Field.rises b c (R.J.DROP.COUNT k 0) 1 ∧ Raised b c (iJ k * 64) ∧ NothingTaken b c k))
    ∧ (t1 → ¬t2 → does (fun c => Field.rises b c (R.J.DROP.COUNT k 1) 1 ∧ Raised b c (iJ k * 64 + 2) ∧ NothingTaken b c k))
    ∧ (t2 → ¬t3 → does (fun c => Field.rises b c (R.J.DROP.COUNT k 2) 1 ∧ fenced c ∧ Raised b c (iJ k * 64 + 1) ∧ NothingTaken b c k))
    ∧ (t3 → ¬t4 → does (fun c => Field.rises b c (R.J.DROP.COUNT k 3) 1 ∧ fenced c ∧ NothingTaken b c k))
    ∧ (t4 → b.entryOf k p.tag = none → does (fun c => Field.rises b c (R.J.DROP.COUNT k 4) 1 ∧ NothingTaken b c k))
    ∧ (∀ e, t5 e → ¬t6 e → does (fun c => Field.rises b c (R.J.DROP.COUNT k 5) 1 ∧ fenced c ∧ NothingTaken b c k))
    ∧ (∀ e, t6 e → own → b.rd (R.J.SLICE.STATE k e) = 3 → does (fun c => fenced c ∧ NothingTaken b c k))
    ∧ (∀ e, t7 e → late →
        does (fun c => Field.rises b c (R.J.DROP.COUNT k 7) 1 ∧ Field.rose b c (R.J.CONS.COUNT k 3) 1 ∧ NothingTaken b c k
          ∧ (p.doubled = false → c.fab.owed = (b.owe p).fab.owed) ∧ (p.doubled = true → j.dup.any same = true → c.fab.owed = b.fab.owed)))
    ∧ (∀ e, t7 e → ¬late →
        (seen → does (fun c => NothingTaken b c k ∧ Field.rose b c (R.J.CONS.COUNT k 1) 1
            ∧ (c.jn (p.seq % 4)).dup = j.dup.filter (fun d => !same d)
            ∧ Field.rises b c (R.L.LINK_CNT.COUNT (link / 8) (link % 8) 5) 1))
        ∧ (full → does (fun c => NothingTaken b c k ∧ fenced c ∧ Raised b c (iJ (p.seq % 4) * 64 + 7)))
        ∧ (¬seen → ¬full → does (fun c => SameBytes b c
            ∧ (c.jn (p.seq % 4)).dup = j.dup ++ (if p.doubled then [⟨p.source, p.cls, p.seq, b.ns 2⟩] else [])
            ∧ (p.op ≤ 2 → c.writes = b.writes ++ [w] ∧ c.fab.inbox = b.fab.inbox ∧ OnlyRegs [] b c)
            ∧ (3 ≤ p.op → c.writes = b.writes ∧ c.fab.inbox = b.fab.inbox ++ [(p.source, p.op, p.payload)]
              ∧ Field.rose b c (R.J.CONS.COUNT k 0) 1))))
    ∧ (∀ e, t6 e → ¬own →
        let past := (p.cls = 1 ∨ p.cls = 3) ∧ (b.jobRuns = false ∨ n < b.period)
        (past → does (fun c => Field.rose b c (R.J.CONS.COUNT k 3) 1 ∧ NothingTaken b c k))
        ∧ (¬past → b.productive k p = [] → does (fun c => Field.rises b c (R.J.DROP.COUNT k 6) 1 ∧ fenced c
          ∧ Raised b c (iJ k * 64 + 3) ∧ NothingTaken b c k))
        ∧ (¬past → b.productive k p ≠ [] → 1024 ≤ (b.jn k).transit.length → does (fun c =>
            Field.rises b c (R.J.DROP.COUNT k 9) 1 ∧ fenced c ∧ Raised b c (iJ k * 64 + 4) ∧ NothingTaken b c k))
        ∧ (¬past → b.productive k p ≠ [] → (b.jn k).transit.length < 1024 → does (fun c =>
            (c.jn k).transit = (b.jn k).transit ++ [{ pkt := p, arrived := some link.val, xfer := none, entry := e, period := n,
                                                      counted := false, twin := false, order := b.fab.arrivals, margins := [] }]
            ∧ c.fab.arrivals = b.fab.arrivals + 1 ∧ c.writes = b.writes ∧ c.fab.inbox = b.fab.inbox ∧ SameBytes b c))))

/-- R26, R237, R239, R250, R252, R264, R266, R269, R270, R273, R275, R276, R281, R283: a local packet is injected with its sequence
number, once for each rail that has a route when it is doubled, or waits, or is refused; a slot serves it, and frames go on; tokens come
back and are sent back; the duplicate table forgets; saturated intervals are counted. -/
def Obligations.JunctionRows : Prop :=
  (∀ (k : Fin 4) (i : Nat) (s : State) (w : Waiting) (rest : List Waiting), s.body.inService (iJ k) = true →
      takeAt (s.body.jn k).local_ i = some (w, rest) →
      let b := s.body
      let p := w.pkt
      let q : Packet := { p with seq := b.nextSeq p.dest p.cls, defl := 0 }
      let does (P : Body → Prop) : Prop := Gives (.packetInject k i) s P
      let refused (c : Body) : Prop := Field.rose b c (R.J.CONS.COUNT k 2) 1 ∧ (c.jn k).local_ = rest
        ∧ (c.jn k).transit = (b.jn k).transit ∧ SameBytes b c
      let entry (e : Nat) : Prop := b.isFenced k b.place = false
        ∧ lowest 64 (fun e => b.rd (R.J.SLICE.STATE k e) == 1 && b.rd (R.J.SLICE.TAG k e) == p.tag) = some e
      let onA := b.railLinks k p.dest false ≠ []
      let onB := b.railLinks k p.dest true ≠ []
      let copies : List Packet :=
        if p.doubled then
          (if (b.railLinks k p.dest false).isEmpty then [] else [{ q with flags := setBits q.flags 1 1 0 }])
            ++ (if (b.railLinks k p.dest true).isEmpty then [] else [{ q with flags := setBits q.flags 1 1 1 }])
        else [q]
      let goes (e : Nat) (c : Body) : Prop := (c.jn k).local_ = rest
        ∧ (c.jn k).transit = (b.jn k).transit ++ copies.zipIdx.map (fun x =>
            { w with pkt := x.1, entry := e, twin := copies.length == 2, order := b.fab.arrivals + x.2 })
        ∧ c.nextSeq p.dest p.cls = (b.nextSeq p.dest p.cls + 1) % 2 ^ 32 ∧ SameBytes b c
      let planned := p.cls ≠ 2 ∧ p.cls ≠ 4
      let room := (b.jn k).transit.length + (if p.doubled then 1 else 0) < 1024
      (b.isFenced k b.place = true → does (fun c => refused c ∧ Field.rises b c (R.J.DROP.COUNT k 3) 1))
      ∧ (b.isFenced k b.place = false →
          lowest 64 (fun e => b.rd (R.J.SLICE.STATE k e) == 1 && b.rd (R.J.SLICE.TAG k e) == p.tag) = none → does refused)
      ∧ (∀ e, entry e → ¬onA → ¬onB → p.counter = mirrorCounter → b.mirrors = true → does (Exactly b))
      ∧ (∀ e, entry e → ¬onA → ¬onB → ¬(p.counter = mirrorCounter ∧ b.mirrors = true) →
          does (fun c => refused c ∧ c.held e = b.held e ∧ Raised b c (iJ k * 64 + 3)))
      ∧ (∀ e, entry e → onA ∨ onB → planned → room → does (fun c => goes e c ∧ c.held e = b.held e))
      ∧ (∀ e, entry e → onA ∨ onB → ¬planned → room → (b.jn k).transit.length ≤ 768 → b.held e ≠ 0 →
          does (fun c => goes e c ∧ c.held e = b.held e - 1 ∧ c.outstanding e = b.outstanding e + 1
            ∧ Field.rose b c (R.J.CONS.COUNT k 4) 1))
      ∧ (∀ e, entry e → onA ∨ onB → ¬room ∨ ¬planned ∧ (768 < (b.jn k).transit.length ∨ b.held e = 0) → does (Exactly b)))
  ∧ (∀ (k : Fin 4) (s : State), s.body.inService (iJ k) = true →
      let b := s.body
      let framesOnly (l : List Output) : Prop := ∀ o ∈ l, ∃ n syms, o = .frame n syms
      (b.allWaiting = [] → Gives (.slotTick k) s (fun c => (c.jn k).slot = (b.jn k).slot + 1 ∧ OnlyRegs [] b c ∧ SameBytes b c
        ∧ (∃ l, framesOnly l ∧ c.out = l ++ b.out)
        ∧ (∀ n, n < 64 → (c.lnk n).debt = if n / 16 = k.val then (b.lnk n).debt - 644 else (b.lnk n).debt)
        ∧ ∀ n, n / 16 = k.val → b.inService (iL (n / 8)) = true → b.linkState n = 6 → (b.lnk n).sending = [] →
            ((b.lnk n).phase + 84 < 170 → (c.lnk n).phase = (b.lnk n).phase + 84 ∧ (c.lnk n).txNext = (b.lnk n).txNext)
            ∧ (170 ≤ (b.lnk n).phase + 84 → (c.lnk n).phase = (b.lnk n).phase + 84 - 170 ∧ b.newFrame n 1 [] ∈ c.out)))
      ∧ (∀ (w : Waiting) (n : Nat) (others : List Nat), b.jobRuns = false → b.allWaiting = [(k.val, w)] → w.pkt.cls = 0 →
          b.corridorOf k w = false → b.freeProductive k (b.jn k).slot w = n :: others → n / 16 = k.val →
          let bs := packetBytes w.pkt
          let framed := b.inService (iL (n / 8)) = true ∧ 170 ≤ (b.lnk n).phase + 84
          Gives (.slotTick k) s (fun c => (∃ l, framesOnly l ∧ c.out = l ++ .packet n bs :: b.out) ∧ (c.jn k).transit = []
            ∧ (c.jn k).slot = (b.jn k).slot + 1 ∧ (c.lnk n).debt = (b.lnk n).debt + bs.length - 644
            ∧ (¬framed → (c.lnk n).sending = (b.lnk n).sending ++ [bs] ∧ (c.lnk n).replay = (b.lnk n).replay)
            ∧ (framed → (b.lnk n).sending = [] → (b.lnk n).sendPos = 0 → w.pkt.payload.length ≤ 512 → (c.lnk n).sending = []
              ∧ (c.lnk n).replay = (b.lnk n).replay ++ [⟨(b.lnk n).txNext, 0, 0, bs, [bs], 1⟩])
            ∧ Field.rose b c (R.J.CONS.COUNT k 9) (if w.arrived.isNone then 1 else 0))))
  ∧ (∀ (k : Fin 4) (tag epoch : BitVec 16) (cls : BitVec 4) (count : BitVec 16) (s : State),
      let b := s.body
      let does (P : Body → Prop) : Prop := b.inService (iJ k) = true → Gives (.tokenReturn k tag epoch cls count) s P
      (b.inService (iJ k) = false → ∀ j, b.firstJunction = some j → Gives (.tokenReturn k tag epoch cls count) s (fun c =>
          Field.rose b c (R.J.CONS.COUNT j 2) 1 ∧ (∀ e, c.held e = b.held e) ∧ SameBytes b c))
      ∧ (b.entryOf k tag.toNat = none → does (fun c => Field.rises b c (R.J.DROP.COUNT k 4) 1 ∧ SameBytes b c ∧ c.fab = b.fab))
      ∧ (∀ e, b.entryOf k tag.toNat = some e → b.rd (R.J.SLICE.STATE k e) = 3 →
          does (fun c => Field.rises b c (R.J.DROP.COUNT k 4) 1 ∧ c.held e = b.held e ∧ SameBytes b c ∧ c.fab = b.fab))
      ∧ (∀ e, b.entryOf k tag.toNat = some e → b.rd (R.J.SLICE.STATE k e) ≠ 3 → b.rd (R.J.SLICE.EPOCH k e) ≠ epoch.toNat →
          does (fun c => Field.rises b c (R.J.DROP.COUNT k 5) 1 ∧ Field.rose b c (R.J.CONS.COUNT k 2) 1 ∧ c.held e = b.held e ∧ SameBytes b c))
      ∧ (∀ e, b.entryOf k tag.toNat = some e → b.rd (R.J.SLICE.STATE k e) ≠ 3 → b.rd (R.J.SLICE.EPOCH k e) = epoch.toNat →
          (cls = 4 ∧ e = 0) ∨ (cls = 2 ∧ e ≠ 0) →
          does (fun c => (∀ x, x < 4 → Field.holds c (R.J.SLICE.HELD x e) (b.held e + count.toNat))
            ∧ c.outstanding e = b.outstanding e - count.toNat ∧ Field.rose b c (R.J.CONS.COUNT k 5) count.toNat ∧ SameBytes b c)))
  ∧ (∀ (i k : Nat) (s : State) (o : Owed) (rest : List Owed), takeAt s.body.fab.owed i = some (o, rest) →
      s.body.firstJunction = some k → Gives (.tokenReturnFlush i) s (fun c => c.fab.owed = rest ∧ SameBytes s.body c
        ∧ (o.count < 64 → o.since + 2000 ≤ c.ns 2) ∧ Field.rose s.body c (R.J.CONS.COUNT k 6) o.count
        ∧ ∃ w ∈ (c.jn k).local_, w.pkt.dest = o.dest ∧ w.pkt.op = 7 ∧ w.pkt.cls = 0 ∧ w.pkt.tag = o.tag ∧ w.pkt.epoch = o.epoch
            ∧ w.pkt.payload.length = 16 ∧ le w.pkt.payload 0 1 = 1 ∧ le w.pkt.payload 8 1 = o.cls % 256
            ∧ le w.pkt.payload 10 2 = o.count % 2 ^ 16))
  ∧ (∀ (k : Fin 4) (s : State),
      let b := s.body
      (∀ d rest, (b.jn k).dup = d :: rest → Gives (.duplicateHoldExpiry k) s (fun c => (c.jn k).dup = rest
        ∧ (c.jn k).singles = (b.jn k).singles + 1
        ∧ d.at_ + b.rd (R.J.DUP_HOLD.HOLD k) * 1000 ≤ c.ns 2 ∧ OnlyRegs [] b c ∧ SameBytes b c))
      ∧ (∀ levels : BitVec 5, b.inService (iJ k) = true → Gives (.saturationInterval k levels) s (fun c => SameBytes b c
          ∧ (c.jn k).satSlots = 0 ∧ (c.jn k).satOpen = 0
          ∧ ∀ n, n < 5 →
              if (if n < 2 then bit levels.toNat n else decide (0 < (b.jn k).satSlots) && !bit (b.jn k).satOpen n)
              then Field.rises b c (R.J.SAT_CNT.COUNT k n) 1
              else c.rd (R.J.SAT_CNT.COUNT k n) = b.rd (R.J.SAT_CNT.COUNT k n)))
      ∧ (b.inService (iJ k) = true → Gives (.saturationWindow k) s (UpToDb (b.setJn k { b.jn k with saturated := [] }))))

/-- R24, R267, R275, R279 to R281: MG's writes of slice entries and routes reach every junction in service, or are refused and recorded;
an entry drains and becomes free; any other master's write changes nothing.  That an entry in use keeps its tag and epoch is log 93. -/
def Obligations.SliceEntryRows : Prop :=
  ∀ (s : State) (m : Master),
    let b := s.body
    let drainsNow (e : Fin 64) (c : Body) : Prop :=
      (∀ k, k < 4 → c.rd (R.J.SLICE.STATE k e) = if b.inService (iJ k) then 2 else b.rd (R.J.SLICE.STATE k e))
      ∧ SMap.find c.fab.drainSince e = some (b.ns 2) ∧ c.held e = b.held e ∧ SameBytes b c
    (∀ (e : Fin 64) (v : BitVec 256),
      let x := v.toNat
      let f (g : Nat → Nat → Field) : Nat := fieldOf x (g 0 e)
      let drains := e.val ≠ 0 ∧ f R.J.SLICE.STATE = 2
      let refused := b.grantRefused e x || (e.val ≠ 0 && (f R.J.SLICE.STATE = 1 || f R.J.SLICE.STATE = 3) && b.entryRefused e x)
      let fresh := e.val ≠ 0 ∧ b.rd (R.J.SLICE.STATE b.jRep e) = 0
      (¬drains → refused = true → Gives (.sliceEntryWrite .mg e v) s (UpToDb b))
      ∧ (m ≠ .mg → Gives (.sliceEntryWrite m e v) s (UpToDb b))
      ∧ (drains → b.rd (R.J.SLICE.STATE b.jRep e) = 1 → Gives (.sliceEntryWrite .mg e v) s (drainsNow e))
      ∧ (drains → b.rd (R.J.SLICE.STATE b.jRep e) ≠ 1 → Gives (.sliceEntryWrite .mg e v) s (UpToDb b))
      ∧ (¬drains → refused = false → Gives (.sliceEntryWrite .mg e v) s (fun c => SameBytes b c ∧ ∀ k, k < 4 →
          (b.inService (iJ k) = true → c.rd (R.J.SLICE.EPOCH k e) = f R.J.SLICE.EPOCH ∧ c.rd (R.J.SLICE.LINKS k e) = f R.J.SLICE.LINKS
            ∧ c.rd (R.J.SLICE.GRANT k e) = f R.J.SLICE.GRANT
            ∧ (e.val ≠ 0 → c.rd (R.J.SLICE.TAG k e) = f R.J.SLICE.TAG ∧ c.rd (R.J.SLICE.STATE k e) = f R.J.SLICE.STATE
              ∧ c.rd (R.J.SLICE.HOST k e) = if f R.J.SLICE.STATE = 3 then f R.J.SLICE.HOST else 0))
          ∧ (b.inService (iJ k) = false → ∀ g ∈ [R.J.SLICE.EPOCH, R.J.SLICE.LINKS, R.J.SLICE.GRANT, R.J.SLICE.TAG, R.J.SLICE.STATE,
              R.J.SLICE.HOST], c.rd (g k e) = b.rd (g k e))
          ∧ (fresh → c.rd (R.J.SLICE.HELD k e) = f R.J.SLICE.GRANT)
          ∧ (¬fresh →
              Field.holds c (R.J.SLICE.HELD k e) (b.held e + f R.J.SLICE.GRANT - b.rd (R.J.SLICE.GRANT b.jRep e))))))
    ∧ (∀ e : Fin 64,
        let st := b.rd (R.J.SLICE.STATE b.jRep e)
        (e.val ≠ 0 → st = 1 → Gives (.sliceDrain .mg e) s (drainsNow e))
        ∧ (e.val = 0 ∨ st ≠ 1 → Gives (.sliceDrain .mg e) s (UpToDb b))
        ∧ (m ≠ .mg → Gives (.sliceDrain m e) s (UpToDb b))
        ∧ (e.val ≠ 0 → b.drained e = true → b.disp.installs = [] → Gives (.drainComplete e) s (fun c =>
            (∀ k, k < 4 → c.rd (R.J.SLICE.STATE k e) = 0) ∧ c.outstanding e = 0 ∧ SameBytes b c))
        ∧ (e.val ≠ 0 → st = 2 → b.disp.installs = [] → Gives (.drainTimeout e) s (fun c => b.drainDue e ≤ c.ns 2
            ∧ (∀ k, k < 4 → c.rd (R.J.SLICE.STATE k e) = 0) ∧ c.outstanding e = 0 ∧ SameBytes b c
            ∧ Field.rose b c (R.J.CONS.COUNT 0 2) (b.outstanding e) ∧ Raised b c (iJ 0 * 64 + 8))))
    ∧ (∀ (e : Fin 2048) (v : BitVec 128),
        let x := v.toNat
        let len := fieldOf x (R.J.ROUTE.LEN 0 e)
        let r := b.jRep
        let clash := ∃ y, y < 2048 ∧ y ≠ e.val ∧ b.rd (R.J.ROUTE.VALID r y) = 1 ∧ b.rd (R.J.ROUTE.LEN r y) = len
          ∧ b.rd (R.J.ROUTE.PREFIX r y) / 2 ^ (24 - len) = fieldOf x (R.J.ROUTE.PREFIX 0 e) / 2 ^ (24 - len)
        (24 < len ∨ fieldOf x (R.J.ROUTE.VALID 0 e) = 1 ∧ clash → Gives (.routeEntryWrite .mg e v) s (UpToDb b))
        ∧ (m ≠ .mg → Gives (.routeEntryWrite m e v) s (UpToDb b))
        ∧ (len ≤ 24 → fieldOf x (R.J.ROUTE.VALID 0 e) = 0 ∨ ¬clash → Gives (.routeEntryWrite .mg e v) s (fun c => SameBytes b c
            ∧ ∀ k, k < 4 → ∀ g ∈ [R.J.ROUTE.PREFIX, R.J.ROUTE.LEN, R.J.ROUTE.VALID, R.J.ROUTE.PORTS_A, R.J.ROUTE.PORTS_B,
                R.J.ROUTE.HOPS_A, R.J.ROUTE.HOPS_B],
              c.rd (g k e) = if b.inService (iJ k) then fieldOf x (g 0 e) else b.rd (g k e))))

namespace Sys2Proof.Machine

/-! ## Terms of the statements about the dispatcher -/

/-- A packet of the operation for the place has joined the queue of junction J3, where that is in service (R24), and its payload is as
given. -/
def Queued (b c : Body) (dest op : Nat) (P : Bytes → Prop) : Prop :=
  b.inService (iJ 3) = true → ∃ w ∈ (c.jn 3).local_.drop (b.jn 3).local_.length, w.pkt.dest = dest ∧ w.pkt.op = op ∧ P w.pkt.payload

/-- A dispatcher message of the type and with the body is on its way to the place (R291). -/
def SentTo (b c : Body) (dest type : Nat) (body : Bytes) : Prop :=
  Queued b c dest 7 (fun pl => le pl 0 1 = type ∧ pl.drop 8 = body)

/-- The counters that packets sent hop by hop move. -/
def hopKeys : List Nat :=
  (List.range 4).flatMap (fun k => [(R.J.CONS.COUNT k 9).key, (R.J.CONS.COUNT k 2).key, (R.J.DROP.COUNT k 3).key])

/-- The module may inject: its own place is in no junction's fence list (R266). -/
def Body.unfenced (b : Body) : Prop := ∀ k, k < 4 → b.isFenced k b.place = false

/-- A suspicion as a roster member keeps it. -/
def suspicionOf (subject reporter reason periods at_ : Nat) : Suspicion :=
  { subject := subject, reporter := reporter, reason := reason, first := 0, count := periods, at_ := at_ }

/-- The conditions under which an incoming map is installed (R294): a newer epoch, the chief's signature, the digest, the term. -/
def Body.mapGood (b : Body) (h : Bytes) (m : List MapEntry) : Prop :=
  (∃ k, b.keyOf b.disp.chief = some k ∧ keyVerifies k (slice h 0 64) (slice h 64 384) = true)
  ∧ mapDigest m = slice h 32 32 ∧ b.rd R.MG.DSP_EPOCHS.TERM ≤ le h 12 4

/-- The entries that the chunks of a map carry, in the order of their index. -/
def chunkEntries (h : Bytes) (cs : SMap Bytes) : List MapEntry :=
  (cs.flatMap (fun c => (List.range (c.2.length / 32)).map (fun i => parseMapEntry (slice c.2 (32 * i) 32)))).take (le h 20 2)

end Sys2Proof.Machine

/-- R285, R291 to R294, R296, R305, R312: a charter is put in force or refused; the first DISCOVER of a candidate is taken up and
answered with a REPORT; reports are gathered or handed on; the candidate ends discovery as provisional chief; a map's header and chunks
are gathered, and the whole map, or the changes to one, installed or refused; the chief notes acknowledgements and port changes and
serves a PULL; keys are gathered.  That a REPORT reaches the chief once a map is agreed is log 104, that a PULL of the whole ledger shows
a full reset is log 107. -/
def Obligations.DiscoveryRows : Prop :=
  ∀ (s : State), s.body.inService iMG = true →
    let b := s.body
    let sc := b.inService iSC = true
    let d := b.disp.discovery
    let own := charterSerial b.disp.charter
    let noMap := b.mapAgreed = false
    (∀ bs : Bytes,
      let sized := bs.length = 512
      let good := charterWf bs && decide (own ≤ charterSerial bs || b.disp.charter.isEmpty)
        && (match b.operatorKey (slice bs 84 32) with
            | some k => keyVerifies k (slice bs 0 128) (slice bs 128 384)
            | none => false)
      (¬sized → Gives (.podCharter bs) s (Exactly b.portDrop))
      ∧ (sc → sized → good = false → Gives (.podCharter bs) s (fun c => Raised b c (iMG * 64 + 3) ∧ c.disp = b.disp ∧ SameBytes b c))
      ∧ (sc → sized → good = true → Gives (.podCharter bs) s (fun c => c.disp.charter = bs ∧ c.rd R.MG.DSP_STATUS.CHARTER = 1
          ∧ Field.holds c R.MG.DSP_STATUS.Q (charterQ bs) ∧ Field.holds c R.MG.DSP_STATUS.RANK (charterRank bs b.place)
          ∧ SameBytes b c
          ∧ (charterRank bs b.place ≠ 0 → b.rd R.MG.DSP_LEDGER_SIZE.MIB ≠ 0 → noMap →
              c.disp.discovery.candidate = true ∧ c.disp.discovery.reports = [] ∧ c.rd R.MG.DSP_STATUS.MAP_STATE = 1
              ∧ c.disp.discovery.ranks = charterRank bs b.place :: d.ranks
              ∧ (b.unfenced → c.out.length = b.out.length + b.linksUp.length)))))
    ∧ (∀ (link : Fin 64) (rank serial hops : BitVec 32), b.linkUp link = true → noMap →
        (d.ranks.contains rank.toNat = true → Gives (.discover link rank serial hops) s (Exactly b))
        ∧ (d.ranks.contains rank.toNat = false → b.disp.charter = [] ∨ own ≠ serial.toNat →
            let takes := d.candidate = false ∧ (d.parent = none ∨ rank.toNat < d.parentRank)
            Gives (.discover link rank serial hops) s (fun c => SameBytes b c
              ∧ (¬takes → c.disp = { b.disp with discovery := { d with ranks := rank.toNat :: d.ranks } })
              ∧ (takes → c.rd R.MG.DSP_STATUS.MAP_STATE = 1 ∧ c.disp = { b.disp with discovery := { d with
                  ranks := rank.toNat :: d.ranks, parent := some link.val, parentRank := rank.toNat, candidate := false, children := [] } })
              ∧ (b.unfenced → c.out.length + 1 = b.out.length + b.linksUp.length)))
        ∧ (d.ranks.contains rank.toNat = false → b.disp.charter ≠ [] → own = serial.toNat →
            ¬(d.candidate = true ∧ charterRank b.disp.charter b.place < rank.toNat) →
            d.parent = none ∨ rank.toNat < d.parentRank →
            Gives (.discover link rank serial hops) s (fun c => c.disp.discovery.parent = some link.val
              ∧ c.disp.discovery.parentRank = rank.toNat ∧ c.disp.discovery.candidate = false ∧ c.disp.discovery.children = []
              ∧ c.disp.discovery.ranks = rank.toNat :: d.ranks ∧ c.rd R.MG.DSP_STATUS.MAP_STATE = 1 ∧ SameBytes b c
              ∧ (b.unfenced → c.out.length = b.out.length + b.linksUp.length
                ∧ ∃ bs, c.out.head? = some (.packet link bs) ∧ le (parsePacket bs).payload 0 1 = 0x11))))
    ∧ (∀ (link : Fin 64) (m : ReportMsg), noMap →
        (d.candidate = true → Gives (.report link m) s (fun c => c.disp.discovery.lastReport = b.ns 2 ∧ c.out = b.out
          ∧ c.disp.discovery.reports = d.reports.filter (fun r => r.place != m.place) ++ [m] ∧ link.val ∈ c.disp.discovery.children
          ∧ OnlyRegs [] b c ∧ SameBytes b c))
        ∧ (∀ p, d.candidate = false → d.parent = some p → Gives (.report link m) s (fun c => link.val ∈ c.disp.discovery.children
            ∧ OnlyRegs hopKeys b c ∧ SameBytes b c ∧ c.disp.discovery.reports = d.reports
            ∧ (b.unfenced → p < 64 → ∃ bs, c.out = .packet p bs :: b.out ∧ (parsePacket bs).payload.drop 8 = reportBody m))))
    ∧ (∀ (link : Fin 64) (m : ReportMsg), b.mapAgreed = true →
        (b.isChief = false → b.disp.chief ≠ 0 → b.disp.chief ≠ b.place → Gives (.report link m) s (fun c => c.disp = b.disp
          ∧ SentTo b c b.disp.chief 0x11 (reportBody m)))
        ∧ (b.isChief = true → (findPlace b.draftMap m.place).isSome = true → Gives (.report link m) s (Exactly b)))
    ∧ (d.candidate = true → Gives .discoveryEnd s (fun c => c.rd R.MG.DSP_STATUS.ROLE = 2 ∧ c.rd R.MG.DSP_EPOCHS.MAP_EPOCH = 1
        ∧ c.disp.chief = b.place ∧ c.disp.discovery.candidate = false ∧ c.disp.mapAcks = [] ∧ SameBytes b c
        ∧ (d.reports.length + 1 < charterExpected b.disp.charter → d.lastReport + 20000000 ≤ c.ns 2)))
    ∧ (∀ (source : BitVec 32) (h : Bytes),
        (¬sc → Gives (.mapHead source h) s (fun c => c.disp = b.disp ∧ OnlyRegs hopKeys b c ∧ SameBytes b c
          ∧ (b.unfenced → b.rd R.MG.DSP_STATUS.MAP_STATE = 1 → c.out.length = b.out.length + d.children.length)))
        ∧ (sc → h.length ≠ 448 ∨ le h 0 4 ≠ 0x50414D54 → Gives (.mapHead source h) s (fun c => Raised b c (iMG * 64 + 3)
          ∧ c.disp = b.disp ∧ SameBytes b c))
        ∧ (sc → h.length = 448 → le h 0 4 = 0x50414D54 → le h 24 4 ≠ own ∨ b.disp.charter = [] →
            Gives (.mapHead source h) s (fun c => c.disp = b.disp ∧ SameBytes b c))
        ∧ (sc → h.length = 448 → le h 0 4 = 0x50414D54 → le h 24 4 = own → b.disp.charter ≠ [] → le h 22 2 ≠ 0 →
            Gives (.mapHead source h) s (fun c => c.disp.incoming = some (h, []) ∧ c.disp.map = b.disp.map
              ∧ OnlyRegs hopKeys b c ∧ SameBytes b c
              ∧ (b.unfenced → b.rd R.MG.DSP_STATUS.MAP_STATE = 1 → c.out.length = b.out.length + d.children.length))))
    ∧ (∀ (source index : BitVec 32) (es h : Bytes) (cs : SMap Bytes), b.disp.incoming = some (h, cs) →
        let cs2 := SMap.insert cs index.toNat es
        let cur := b.rd R.MG.DSP_EPOCHS.MAP_EPOCH
        let base := le h 8 4
        let m := (chunkEntries h cs2).foldl insertEntry (if base = 0 then [] else b.disp.map)
        let kept (c : Body) : Prop := c.disp.map = b.disp.map ∧ c.disp.incoming = none ∧ SameBytes b c
          ∧ c.rd R.MG.DSP_EPOCHS.MAP_EPOCH = cur
        (cs2.length < le h 22 2 → Gives (.mapChunk source index es) s (fun c => c.disp.incoming = some (h, cs2)
          ∧ c.disp.map = b.disp.map ∧ OnlyRegs hopKeys b c ∧ SameBytes b c))
        ∧ (le h 22 2 ≤ cs2.length → le h 4 4 ≤ cur → Gives (.mapChunk source index es) s kept)
        ∧ (le h 22 2 ≤ cs2.length → cur < le h 4 4 → base ≠ 0 → base ≠ cur → Gives (.mapChunk source index es) s (fun c => kept c
            ∧ Field.rises b c R.MG.DSP_COUNTS.PULLS 1))
        ∧ (le h 22 2 ≤ cs2.length → cur < le h 4 4 → base = 0 ∨ base = cur → b.mapGood h m →
            Gives (.mapChunk source index es) s (fun c => c.disp.map = m ∧ c.disp.incoming = none ∧ SameBytes b c
              ∧ c.rd R.MG.DSP_EPOCHS.MAP_EPOCH = le h 4 4 ∧ c.rd R.MG.DSP_EPOCHS.TERM = le h 12 4))
        ∧ (le h 22 2 ≤ cs2.length → cur < le h 4 4 → base = 0 ∨ base = cur → ¬b.mapGood h m →
            Gives (.mapChunk source index es) s (fun c => kept c ∧ Raised b c (iMG * 64 + 3)
              ∧ (base ≠ 0 → Field.rises b c R.MG.DSP_COUNTS.PULLS 1))))
    ∧ (∀ (source epoch routes : BitVec 32), b.isChief = true → Gives (.mapAck source epoch routes) s (fun c => c.disp = { b.disp with
        mapAcks := b.disp.mapAcks.filter (fun a => a.1 != source.toNat) ++ [(source.toNat, epoch.toNat)] } ∧ OnlyRegs [] b c ∧ SameBytes b c))
    ∧ (∀ source : BitVec 32, b.isChief = true →
        Gives (.pull source none) s (fun c => c.disp = b.disp ∧ OnlyRegs [] b c ∧ SameBytes b c
          ∧ ∀ x ∈ b.mapMessages (b.rd R.MG.DSP_EPOCHS.MAP_EPOCH) 0 b.disp.map b.disp.map, SentTo b c source.toNat x.1 x.2)
        ∧ ∀ n : BitVec 64,
          let had (x : SliceState) : Prop := x.state ≤ 1 ∧ source.toNat ∈ x.acked
          Gives (.pull source (some n)) s (fun c =>
            (2 ≤ n.toNat ∨ (∀ x ∈ b.disp.slices, ¬had x) → c.disp = b.disp ∧ OnlyRegs [] b c ∧ SameBytes b c)
            ∧ (∀ x, n.toNat ≤ 1 → b.disp.slices = [x] → had x → b.disp.proposals = [] → ∃ r rest, c.disp.proposals = r :: rest
              ∧ r.type = 10 ∧ r.tag = x.tag ∧ r.epoch = x.epoch ∧ le r.body 0 4 = source.toNat)
            ∧ ∀ r ∈ b.disp.ledger, n.toNat ≤ r.seq → r.seq ≤ b.committed → SentTo b c source.toNat 0x1A (recordBytes r)))
    ∧ (∀ (source : BitVec 32) (a x : BitVec 10), b.isChief = true →
        (b.rd R.MG.DSP_TIMING.MAP_BATCH ≠ 0 → Gives (.portState source a x) s (fun c => OnlyRegs [] b c ∧ SameBytes b c
          ∧ SMap.find c.disp.portChanges source.toNat = some (a.toNat + x.toNat * 2 ^ 10)
          ∧ c.disp.portSince = some (b.disp.portSince.getD (b.ns 2))))
        ∧ (b.rd R.MG.DSP_TIMING.MAP_BATCH = 0 → Gives (.portState source a x) s (fun c =>
            c.disp.portChanges = [] ∧ c.disp.portSince = none)))
    ∧ (∀ t, b.isChief = true → b.disp.portSince = some t → Gives .mapBatchExpiry s (fun c =>
        let m := b.draftMap.map (fun e =>
          match SMap.find b.disp.portChanges e.place with
          | some a => e.withAlive a
          | none => e)
        t + b.rd R.MG.DSP_TIMING.MAP_BATCH * 10 ^ 6 ≤ c.ns 2 ∧ c.disp.portChanges = [] ∧ c.disp.portSince = none
        ∧ (m ≠ b.draftMap → c.disp.nextMap = some (b.flagRoster m))
        ∧ (m ≠ b.draftMap → b.disp.proposals = [] → ∃ r, c.disp.proposals = [r] ∧ r.type = 12
          ∧ slice r.body 0 32 = slice (mapDigest (b.flagRoster m)) 0 32)))
    ∧ (∀ (place : BitVec 32) (off : Nat) (data : Bytes),
        let k := SMap.getD b.disp.keys place.toNat []
        let k2 := (overlay (if k.length < off then k ++ zeros (off - k.length) else k) off data).take 836
        Gives (.key place off data) s (fun c => c.disp = { b.disp with keys := SMap.insert b.disp.keys place.toNat k2 }
          ∧ OnlyRegs hopKeys b c ∧ SameBytes b c))

/-- R288, R289: the chief beats; a member hears it, and adopts a newer term; a member that hears none becomes a candidate for the next
term; a request is granted at most once per term, in silence, to a candidate whose ledger is not behind; with M grants the candidate is
chief; short of them it gives the term up. -/
def Obligations.ChiefRows : Prop :=
  ∀ (s : State), s.body.inService iMG = true →
    let b := s.body
    let term := b.rd R.MG.DSP_EPOCHS.TERM
    (b.isChief = true → term = 0 → Gives .heartbeatSend s (Exactly b))
    ∧ (b.isChief = true → term ≠ 0 → Gives .heartbeatSend s (fun c => b.disp.beat + b.rd R.MG.DSP_TIMING.HEARTBEAT * 10 ^ 5 ≤ c.ns 2
      ∧ c.disp.beat = c.ns 2 ∧ OnlyRegs [] b c ∧ SameBytes b c
      ∧ ∀ p ∈ b.roster, p ≠ b.place → SentTo b c p 0x17 (leBytes 4 term ++ leBytes 8 b.committed)))
    ∧ (∀ (source t : BitVec 32) (seq : BitVec 64),
        (b.onRoster = true → t.toNat < term ∨ t = 0 → Gives (.heartbeat source t seq) s (fun c => c.disp = b.disp ∧ OnlyRegs [] b c
          ∧ SameBytes b c))
        ∧ (b.onRoster = true → term ≤ t.toNat → t ≠ 0 → source.toNat ≠ b.place →
            let asked := b.disp.requests.find? (fun q => q.1 == t.toNat && q.2.1 == source.toNat)
            Gives (.heartbeat source t seq) s (fun c => c.rd R.MG.DSP_EPOCHS.TERM = t.toNat ∧ c.disp.chief = source.toNat
              ∧ c.disp.heard = b.ns 2 ∧ c.disp.election = none ∧ SameBytes b c
              ∧ c.rd R.MG.DSP_STATUS.ROLE = (if b.disp.discovery.candidate then 3 else 1)
              ∧ (term = t.toNat ∨ asked = none → c.disp.ledger = b.disp.ledger)
              ∧ (∀ q, term < t.toNat → asked = some q →
                  c.disp.ledger = b.disp.ledger.filter (fun r => decide (r.seq ≤ max q.2.2 b.committed)))
              ∧ (b.committed < seq.toNat → Field.rises b c R.MG.DSP_COUNTS.PULLS 1)
              ∧ (term < t.toNat → Field.rises b c R.MG.DSP_COUNTS.TERMS 1))))
    ∧ (b.onRoster = true → b.canSign = true → b.disp.election = none → b.isChief = false ∨ term = 0 →
        let last := b.lastTerm
        (term ≤ last ∧ (∀ g, b.disp.granted = some g → g.1 ≤ last) ∧ ∀ q ∈ b.disp.requests, q.1 ≤ last)
        ∧ (b.majority ≤ 1 → Gives .chiefTimeout s (fun c => b.chiefDue ≤ c.ns 2 ∧ c.disp.election = none ∧ c.disp.chief = b.place
          ∧ c.rd R.MG.DSP_STATUS.ROLE = 2 ∧ Field.holds c R.MG.DSP_EPOCHS.TERM (last + 1)))
        ∧ (1 < b.majority → Gives .chiefTimeout s (fun c => b.chiefDue ≤ c.ns 2 ∧ c.disp.election = some (last + 1, [b.place], c.ns 2)
          ∧ c.disp.granted = some (last + 1, b.place, b.lastSeq) ∧ c.rd R.MG.DSP_STATUS.ROLE = 3 ∧ SameBytes b c
          ∧ ∀ p ∈ b.roster, p ≠ b.place → Queued b c p 5 (fun pl => le pl 1 1 = 3 ∧ pl.length = 480))))
    ∧ (∀ v0 : Bytes,
        let v := slice v0 0 480
        let p := parseVote v
        let free := match b.disp.granted with | some g => decide (g.1 < p.term) | none => true
        let silent := decide (b.disp.heard + b.rd R.MG.DSP_TIMING.CHIEF_TIMEOUT * 10 ^ 6 < b.ns 2)
        let gives := free && silent && decide (term < p.term) && decide (b.lastSeq ≤ p.ledgerSeq) && b.canSign
        let bad := b.inService iSC = false ∨ b.voteValid v = false
        let asks : Dispatch := { b.disp with
          requests := b.disp.requests.filter (fun q => decide (term < q.1) && !(q.1 == p.term && q.2.1 == p.voter))
            ++ [(p.term, p.voter, p.ledgerSeq)] }
        let invalid (c : Body) : Prop := Field.rises b c R.MG.DSP_COUNTS.VOTES_INVALID 1 ∧ Raised b c (iCT * 64 + 7) ∧ c.disp = b.disp
          ∧ SameBytes b c
        (b.onRoster = true → p.kind = 3 → bad → Gives (.chiefRequest v0) s invalid)
        ∧ (b.onRoster = true → p.kind = 3 → ¬bad → gives = false → Gives (.chiefRequest v0) s (fun c => c.disp = asks
            ∧ OnlyRegs [] b c ∧ SameBytes b c))
        ∧ (b.onRoster = true → p.kind = 3 → ¬bad → gives = true → Gives (.chiefRequest v0) s (fun c =>
            c.disp = { asks with granted := some (p.term, p.voter, p.ledgerSeq) } ∧ OnlyRegs [] b c ∧ SameBytes b c
            ∧ ∀ x ∈ b.roster, x ≠ b.place → Queued b c x 5 (fun pl => le pl 1 1 = 4)))
        ∧ (∀ t got since, b.disp.election = some (t, got, since) → p.kind = 4 → p.subject = b.place → p.term = t →
            got.contains p.voter = false →
            (bad → Gives (.chiefGrant v0) s invalid)
            ∧ (¬bad → got.length + 1 < b.majority → Gives (.chiefGrant v0) s (fun c => OnlyRegs [] b c ∧ SameBytes b c
                ∧ c.disp = { b.disp with election := some (t, got ++ [p.voter], since) }))
            ∧ (¬bad → b.majority ≤ got.length + 1 → Gives (.chiefGrant v0) s (fun c => c.rd R.MG.DSP_STATUS.ROLE = 2
                ∧ c.disp.chief = b.place ∧ c.disp.election = none ∧ Field.holds c R.MG.DSP_EPOCHS.TERM t))))
    ∧ (∀ t got since, b.disp.election = some (t, got, since) → b.isChief = false → b.onRoster = true →
        Gives .electionTimeout s (fun c => since + b.rd R.MG.DSP_TIMING.CHIEF_TIMEOUT * 10 ^ 6 ≤ c.ns 2
          ∧ c.disp = { b.disp with election := none } ∧ SameBytes b c
          ∧ c.rd R.MG.DSP_STATUS.ROLE = (if b.disp.discovery.candidate then 3 else 1)))

/-- R289, R301 to R304, R310: a member holds the record that follows and acknowledges it, refuses one that does not, takes a committed one
again under a new chief's term, and pulls a gap; on M holders the chief commits; a committed record takes effect: an expulsion fences its
place at every junction in service, a teardown drains its entry; the chief gathers a slice's acknowledgements, and with the last of a
teardown proposes that it is complete. -/
def Obligations.LedgerRows : Prop :=
  ∀ (s : State) (source : BitVec 32), s.body.inService iMG = true →
    let b := s.body
    let term := b.rd R.MG.DSP_EPOCHS.TERM
    (∀ bs : Bytes, b.onRoster = true → term ≤ (parseRecord bs).term →
      let r := parseRecord bs
      let again := b.sameUnderNewTerm r = true
      let follows := ¬again ∧ b.committed < r.seq ∧ slice r.prev 0 32 = b.prevDigest r.seq
      (b.lastSeq + 1 < r.seq → Gives (.record source bs) s (fun c => Field.rises b c R.MG.DSP_COUNTS.PULLS 1
        ∧ c.disp = b.disp ∧ SameBytes b c))
      ∧ (r.seq ≤ b.lastSeq + 1 → again → Gives (.record source bs) s (fun c =>
          c.disp = { b.disp with ledger := b.disp.ledger.map (fun x => if x.seq = r.seq then r else x) }
          ∧ c.rd R.MG.DSP_EPOCHS.TERM = r.term ∧ SentTo b c source.toNat 0x19 (leBytes 8 r.seq)))
      ∧ (r.seq ≤ b.lastSeq + 1 → ¬again → ¬follows → Gives (.record source bs) s (fun c => Raised b c (iMG * 64 + 3) ∧ c.disp = b.disp
          ∧ SameBytes b c))
      ∧ (r.seq ≤ b.lastSeq + 1 → follows → Gives (.record source bs) s (fun c =>
          c.disp = { b.disp with ledger := b.disp.ledger.filter (fun x => decide (x.seq < r.seq)) ++ [r] }
          ∧ c.rd R.MG.DSP_EPOCHS.TERM = r.term ∧ SentTo b c source.toNat 0x19 (leBytes 8 r.seq))))
    ∧ (∀ (seq : BitVec 64) (r : Record) (rest : List Record), b.disp.proposals = r :: rest → b.isChief = true → r.seq = seq.toNat →
        b.roster.contains source.toNat = true → b.disp.holders.contains source.toNat = false →
        (b.disp.holders.length + 1 < b.majority → Gives (.recordAck source seq) s (fun c =>
          c.disp = { b.disp with holders := b.disp.holders ++ [source.toNat] } ∧ OnlyRegs [] b c ∧ SameBytes b c))
        ∧ (b.majority ≤ b.disp.holders.length + 1 → Gives (.recordAck source seq) s (fun c =>
            c.rd R.MG.DSP_LEDGER_SEQ.SEQ = seq.toNat)))
    ∧ (∀ bs : Bytes,
        let r := parseRecord bs
        (b.committed + 1 < r.seq → Gives (.commit source bs) s (fun c => Field.rises b c R.MG.DSP_COUNTS.PULLS 1
          ∧ c.disp = b.disp ∧ SameBytes b c))
        ∧ (r.seq ≤ b.committed → b.sameUnderNewTerm r = false → Gives (.commit source bs) s (fun c => c.disp = b.disp
            ∧ OnlyRegs [] b c ∧ SameBytes b c))
        ∧ (r.seq ≤ b.committed → b.sameUnderNewTerm r = true → Gives (.commit source bs) s (fun c =>
            c.disp = { b.disp with ledger := b.disp.ledger.map (fun x => if x.seq = r.seq then r else x) }))
        ∧ (r.seq = b.committed + 1 → Gives (.commit source bs) s (fun c =>
            c.rd R.MG.DSP_LEDGER_SEQ.SEQ = r.seq ∧ c.rd R.MG.DSP_EPOCHS.TERM = max r.term term
            ∧ (b.holdsRecord r = true → c.disp.ledger = b.disp.ledger)
            ∧ (b.holdsRecord r = false → c.disp.ledger = b.disp.ledger.filter (fun x => decide (x.seq < r.seq)) ++ [r])
            ∧ (r.type = 1 → b.mappedShards r ≠ [] → ∃ x ∈ c.disp.members, x.1 = r.tag ∧ x.2.1 = r.epoch)
            ∧ (r.type = 7 → ∀ x ∈ c.disp.majorities, x.1 = 1 → x.2.1 ≠ le r.body 0 4)
            ∧ (r.type = 2 → ∀ e, b.entryOf b.jRep r.tag = some e → e ≠ 0 → b.rd (R.J.SLICE.STATE b.jRep e) = 1 →
                ∀ k, k < 4 → b.inService (iJ k) = true → c.rd (R.J.SLICE.STATE k e) = 2)
            ∧ (r.type = 7 → (∃ e, e < 256 ∧ b.rd (R.J.FENCE.VALID b.jRep e) = 0) → b.fenceEntry (le r.body 0 4) = none →
                ∀ k, k < 4 → b.inService (iJ k) = true → c.isFenced k (le r.body 0 4) = true)
            ∧ (r.type = 8 → le r.body 0 4 = b.place → c.rd R.CT.STATUS.EXPELLED = 0 ∧ c.rd R.CT.STATUS.STOPPED = 0))))
    ∧ (∀ (tag epoch : BitVec 16) (fenced : BitVec 32) (x : SliceState), b.isChief = true → b.disp.slices = [x] → x.tag = tag.toNat →
        let acked := if x.acked.contains source.toNat then x.acked else x.acked ++ [source.toNat]
        let all := (b.sliceModules tag.toNat).all (fun p => acked.contains p)
        let done := (b.sliceModules tag.toNat).all (fun p => b.isExpelled p || acked.contains p)
        (x.epoch = epoch.toNat → x.state = 0 → Gives (.sliceAck source tag epoch 0 fenced) s (fun c => SameBytes b c
          ∧ c.disp = { b.disp with slices := [{ x with acked := acked, state := if all then 1 else 0 }] }))
        ∧ (x.state = 2 → done = false →
            Gives (.sliceAck source tag epoch 1 fenced) s (fun c => OnlyRegs [] b c ∧ SameBytes b c
              ∧ c.disp = { b.disp with slices := [{ x with acked := acked, fenced := x.fenced + fenced.toNat }] }))
        ∧ (x.state = 2 → done = true → b.disp.proposals = [] → Gives (.sliceAck source tag epoch 1 fenced) s (fun c =>
            ∃ r, c.disp.proposals = [r] ∧ r.type = 3 ∧ r.tag = tag.toNat ∧ le r.body 0 4 = (x.fenced + fenced.toNat) % 2 ^ 32)))

/-- R279, R291, R307 to R310, R312: a roster member gathers suspicions and votes on their conditions, once for a subject in a window; CT
counts valid votes, discards invalid ones, and the M-th fences its subject, or frees it; a self-fence is voted for; the chief gathers the
sums of every module and notes a surplus within the in-doubt allowance.  What a self-fence request must show is log 102. -/
def Obligations.VoteRows : Prop :=
  ∀ (s : State) (source : BitVec 32), s.body.inService iMG = true → s.body.inService iSC = true →
    let b := s.body
    let fresh (kind subject : Nat) : Prop := b.onRoster = true ∧ b.canSign = true
      ∧ (b.disp.cast.filter (fun c => decide (b.ns 2 < c.2.2 + b.voteWindow))).any (fun c => c.1 == kind && c.2.1 == subject) = false
    let casts (kind subject : Nat) (c : Body) : Prop := (kind, subject, b.ns 2) ∈ c.disp.cast
    (∀ (subject : BitVec 32) (reason : BitVec 8) (periods : BitVec 32), b.onRoster = true →
      let cmd := Instr.suspect source subject reason periods
      let live := b.disp.suspicions.filter (fun x => decide (b.ns 2 < x.at_ + b.voteWindow)
        && !(x.subject == subject.toNat && x.reporter == source.toNat && x.reason == reason.toNat))
      let all := live ++ [suspicionOf subject.toNat source.toNat reason.toNat periods.toNat (b.ns 2)]
      let mine := all.filter (fun x => x.subject == subject.toNat && x.reason == reason.toNat)
      let due := reason = 1 ∧ b.rd R.MG.DSP_VOTE_CTRL.SUSPECT_MIN ≤ (distinct (mine.map (·.reporter))).length
        ∨ reason = 2 ∧ mine.any (fun x => decide (b.rd R.MG.DSP_VOTE_CTRL.SEAL_REPORTS ≤ x.count)) = true ∨ reason = 3
      (b.autoVote = false ∨ ¬due → Gives cmd s (fun c => c.disp = { b.disp with suspicions := all } ∧ OnlyRegs [] b c ∧ SameBytes b c))
      ∧ (b.autoVote = true → due → fresh 1 subject.toNat → Gives cmd s (fun c => c.disp.suspicions = all ∧ casts 1 subject.toNat c)))
    ∧ (∀ v0 : Bytes, b.inService iCT = true →
        let v := slice v0 0 480
        let p := parseVote v
        let votes := ((b.disp.counted.find? (fun c => c.1 == p.kind && c.2.1 == p.subject)).map (·.2.2)).getD []
        let voters := if votes.contains p.voter then votes else votes ++ [p.voter]
        (p.kind = 1 ∨ p.kind = 2 → b.voteValid v = false → Gives (.vote source v0) s (fun c =>
          Field.rises b c R.MG.DSP_COUNTS.VOTES_INVALID 1 ∧ Raised b c (iCT * 64 + 7) ∧ c.disp = b.disp ∧ SameBytes b c))
        ∧ (p.kind = 1 ∨ p.kind = 2 → b.voteValid v = true → voters.length < b.majority → Gives (.vote source v0) s (fun c =>
            (p.kind, p.subject, voters) ∈ c.disp.counted ∧ OnlyRegs [] b c ∧ SameBytes b c))
        ∧ (p.kind = 1 → b.voteValid v = true → b.majority ≤ voters.length → (∃ e, e < 256 ∧ b.rd (R.J.FENCE.VALID b.jRep e) = 0) →
            b.fenceEntry p.subject = none → Gives (.vote source v0) s (fun c =>
              (∀ k, k < 4 → b.inService (iJ k) = true → c.isFenced k p.subject = true)
              ∧ (1, p.subject, voters.length, p.reason) ∈ c.disp.majorities
              ∧ Field.rises b c R.MG.DSP_COUNTS.EXPULSIONS 1))
        ∧ (∀ e, p.kind = 2 → b.voteValid v = true → b.majority ≤ voters.length → b.fenceEntry p.subject = some e →
            Gives (.vote source v0) s (fun c => ∀ k, k < 4 → b.inService (iJ k) = true → c.rd (R.J.FENCE.VALID k e) = 0))
        ∧ (p.kind = 5 → p.voter = p.subject → source.toNat = p.subject → b.selfFenceOk v = true → fresh 1 p.subject →
            Gives (.vote source v0) s (fun c => casts 1 p.subject c)))
    ∧ (b.disp.chief ≠ 0 → b.disp.chief ≠ b.place → Gives .consSend s (fun c => b.disp.consAt + 10 ^ 9 ≤ c.ns 2
        ∧ c.disp.consAt = c.ns 2 ∧ OnlyRegs [] b c ∧ SameBytes b c ∧ SentTo b c b.disp.chief 0x1D (consBody b.ownSums)))
    ∧ (∀ l : List ConsSum, b.isChief = true →
        let sums := b.disp.sums.filter (fun x => x.1 != source.toNat) ++ l.map (fun x => (source.toNat, x))
        Gives (.cons source l) s (fun c => SameBytes b c ∧ c.disp = { b.disp with sums := sums, surplus := c.disp.surplus }
          ∧ ∀ x, l = [x] →
            let mine := sums.filter (fun y => y.2.tag == x.tag && y.2.epoch == x.epoch)
            let all := (b.sliceModules x.tag).all (fun p => mine.any (fun y => y.1 == p))
            let n := surplusOf (mine.map (·.2))
            (all = true → unbalanced (mine.map (·.2)) = false → n ≠ 0 → (x.tag, x.epoch, n) ∈ c.disp.surplus)
            ∧ (all = false ∨ unbalanced (mine.map (·.2)) = true ∨ n = 0 → c.disp.surplus = b.disp.surplus)))

/-- R30, R315 to R317, R319 to R321, R466: the report that is next reaches CT, which counts it, captures the first and merges the others,
and takes the actions of its level; with CT closed reports wait, and a stopped clock raises none; MG releases the capture once its record
has been emitted; the self-fence window ends. -/
def Obligations.FaultReportRows : Prop :=
  ∀ (s : State),
    let b := s.body
    (∀ o : Occurrence, b.inService iCT = false → b.clockStopped (o.source / 64) = true → Gives (.faultOccurrence (some o)) s (Exactly b))
    ∧ (∀ o : Occurrence, b.inService iCT = false → b.clockStopped (o.source / 64) = false → defaultLevel o.source ≠ none →
      o.source / 64 < 32 ∨ o.source % 64 ≠ 7 →
      Gives (.faultOccurrence (some o)) s (UpToDb (b.reported o
        (if 16 ≤ o.source / 64 ∧ o.source / 64 < 24 then (subOf o.addr).1 / 8 % 128 else 0))))
    ∧ (∀ r : Report, b.inService iCT = true → nextReport b.cont.tree = some r → defaultLevel r.source ≠ none →
        let does (P : Body → Prop) : Prop := Gives (.faultOccurrence none) s P
        let counted (c : Body) : Prop := Field.rises b c (R.CT.SEVERITY.COUNT r.source) 1
        (r.level = 0 → does (fun c => counted c ∧ c.cont = { b.cont with tree := b.cont.tree.erase r }
          ∧ OnlyRegs [(R.CT.SEVERITY.COUNT r.source).key] b c ∧ SameBytes b c))
        ∧ (r.level = 1 ∨ r.level = 2 → does (fun c => counted c ∧ c.cont.tree = b.cont.tree.erase r ∧ SameBytes b c
            ∧ c.cont.highest = max b.cont.highest r.level ∧ Field.rose b c (R.PV.ISL_ERR.COUNT (r.source / 64)) 1
            ∧ if b.rd R.CT.STATUS.CAPTURE_VALID = 1 then
                Field.rises b c R.CT.MERGE.COUNT 1 ∧ c.rd R.CT.FIRST_ERR_INFO.SOURCE = b.rd R.CT.FIRST_ERR_INFO.SOURCE
                ∧ c.cont.cap = b.cont.cap
              else c.rd R.CT.STATUS.CAPTURE_VALID = 1 ∧ Field.holds c R.CT.FIRST_ERR_ADDR.ADDR r.addr
                ∧ Field.holds c R.CT.FIRST_ERR_INFO.SOURCE r.source ∧ Field.holds c R.CT.FIRST_ERR_INFO.MASTER r.master
                ∧ Field.holds c R.CT.FIRST_ERR_INFO.REQ_TYPE r.reqType ∧ Field.holds c R.CT.FIRST_ERR_INFO.ACCESS r.access
                ∧ Field.holds c R.CT.FIRST_ERR_INFO.LEVEL r.level
                ∧ Field.holds c R.CT.FIRST_ERR_INFO.EVENT (eventOfSource r.source)
                ∧ c.cont.cap = some (b.repairOf (Capture.of r).memoryOutcome)))
        ∧ (4 ≤ r.level → r.inJob = true → does (fun c => c.job.faulted.contains r.period = true))
        ∧ (6 ≤ r.level → b.sb.waiting = none → does (fun c => c.sb.waiting = some (min r.level 7, r.source)))
        ∧ (5 ≤ r.level → b.cont.fenceAt = none → b.inService iMG = true → b.canSign = true → r.source / 64 = iCT →
            does (fun c => c.rd R.CT.STATUS.SELF_FENCE = 1 ∧ c.cont.fenceAt = some (b.ns 0)
              ∧ ∀ p ∈ b.roster, p ≠ b.place → Queued b c p 5 (fun pl => le pl 1 1 = 5 ∧ le pl 8 4 = b.place % 2 ^ 32))))
    ∧ (b.inService iCT = true → b.rd R.CT.STATUS.CAPTURE_VALID = 1 → b.cont.fsrs.length < 64 →
        (∀ x, b.cont.cap = some x → x.emitted ≠ none) → Gives (.release .mg) s (fun c =>
          (∀ x, b.cont.cap = some x → c.cont.past = b.cont.past ++ (if x.open_ || x.late then [x] else []))
          ∧ c.rd R.CT.STATUS.CAPTURE_VALID = 0 ∧ c.rd R.CT.MERGE.COUNT = 0
          ∧ c.rd R.CT.MERGE.CLASSES = 0 ∧ c.cont.cap = none ∧ c.rd R.CT.FIRST_ERR_INFO.SOURCE = b.rd R.CT.FIRST_ERR_INFO.SOURCE
          ∧ SameBytes b c))
    ∧ (b.rd R.CT.STATUS.CAPTURE_VALID = 0 ∨ 64 ≤ b.cont.fsrs.length ∨ (∃ x, b.cont.cap = some x ∧ x.emitted = none) →
        Gives (.release .mg) s (UpToDb b))
    ∧ (∀ m : Master, m ≠ .mg → Gives (.release m) s (UpToDb b))
    ∧ (∀ t, b.cont.fenceAt = some t → Gives .selfFenceWindowExpiry s (fun c => t + b.voteWindow ≤ c.ns 0
        ∧ c.cont = { b.cont with fenceAt := none } ∧ c.rd R.CT.STATUS.SELF_FENCE = 0 ∧ SameBytes b c))

/-- R326 to R328, R331, R332, R441: beacons are sent to every neighbour, heard, and missed; wear follows its formula and raises its
source at the threshold; records are emitted, acknowledged and sent again. -/
def Obligations.LighthouseAndRecordRows : Prop :=
  ∀ (s : State), s.body.inService iCT = true → s.body.inService iMG = true →
    let b := s.body
    (∀ k, b.firstJunction = some k → Gives .beaconSend s (fun c => OnlyRegs [] b c ∧ SameBytes b c
      ∧ ∀ p ∈ b.neighbours.map (·.2), ∃ w ∈ (c.jn k).local_.drop (b.jn k).local_.length, w.pkt.dest = p ∧ w.pkt.op = 4
          ∧ w.pkt.cls = 0 ∧ w.pkt.payload.length = 32 ∧ le w.pkt.payload 0 4 = b.place))
    ∧ (∀ (source : BitVec 32) (pl : Bytes) (w : Watched), b.syncWatched.watchedAt source.toNat = some w →
        Gives (.beacon source pl) s (fun c => SameBytes b c ∧ c.watchedAt source.toNat =
          some { w with misses := 0, missesSince := 0, heard := true, suspected := false }))
    ∧ (∀ w ∈ b.syncWatched.cont.watched, w.byNeighbour = true → w.heard = false → Gives .beaconWindow s (fun c => SameBytes b c
        ∧ (∀ x ∈ c.cont.watched, x.heard = false)
        ∧ (c.watchedAt w.place).map (·.misses) = some (min (w.misses + 1) 255)
        ∧ (w.suspected = false → b.rd R.CT.LH_CTRL.MISS_LIMIT ≤ min (w.misses + 1) 255 →
            Raised b c (iCT * 64 + 5) ∧ (c.watchedAt w.place).map (·.suspected) = some true)))
    ∧ (let th := b.rd R.CT.WEAR_CTRL.THRESH
       Gives .wearUpdate s (fun c => c.cont.wear = [] ∧ SameBytes b c ∧ ∀ p, p < 1172 →
        let old := b.rd (R.CT.WEAR.SCORE p)
        let new := min (old - old / 2 ^ b.rd R.CT.WEAR_CTRL.SHIFT + SMap.getD b.cont.wear p 0) 65535
        c.rd (R.CT.WEAR.SCORE p) = new
        ∧ (th ≠ 0 → th ≤ new → b.rd (R.CT.WEAR.ABOVE p) = 0 → c.rd (R.CT.WEAR.ABOVE p) = 1 ∧ Raised b c (iCT * 64 + 8))
        ∧ (old ≠ 0 → 2 * new < th → c.rd (R.CT.WEAR.ABOVE p) = 0)))
    ∧ (∀ x : Capture, b.cont.past.find? (·.late) = none → b.cont.cap = some x → x.emitted = none → b.inService iDB = true →
        b.harbourUp = true → memWf b.mem = true → Gives .fsrEmit s (fun c => (x.open_ = true → x.rep.at_ + 10 ^ 7 ≤ c.ns 0)
          ∧ Field.holds c R.CT.FSR_SEQ.SEQ (b.rd R.CT.FSR_SEQ.SEQ + 1) ∧ Field.rose b c R.DB.FSR_WR.COUNT 1
          ∧ ∃ f y, c.cont.fsrs.getLast? = some f ∧ f.seq = b.rd R.CT.FSR_SEQ.SEQ + 1 ∧ f.bytes.length = 256
              ∧ (x.kind = 3 → le f.bytes 144 8 = b.rd (R.L.LINK_CNT.COUNT (x.part / 8) (x.part % 8) 3))
              ∧ le f.bytes 252 4 = crc32 (f.bytes.take 252) ∧ c.cont.cap = some y ∧ y.emitted = some (f.seq, f.bytes) ∧ y.late = false
              ∧ c.bytes (b.rd R.DB.DUMP_BASE.ADDR * 2 ^ 28 + 0x100000 + 256 * (b.rd R.DB.FSR_WR.COUNT % 4096)) 256 = f.bytes))
    ∧ (∀ (x : Capture) (seq : Nat) (bs : Bytes), b.cont.past.find? (·.late) = some x → x.emitted = some (seq, bs) →
        Gives .fsrEmit s (fun c => c.rd R.CT.FSR_SEQ.SEQ = b.rd R.CT.FSR_SEQ.SEQ ∧ c.cont.past = b.cont.past.erase x
          ∧ ∃ f, c.cont.fsrs.getLast? = some f ∧ f.seq = seq ∧ f.bytes.length = 256))
    ∧ (∀ seq : BitVec 64, Gives (.fsrAcknowledgement seq) s (fun c => SameBytes b c
        ∧ c.cont = { b.cont with fsrs := b.cont.fsrs.filter (fun f => f.seq != seq.toNat) }
        ∧ c.rd R.MG.PORT_BACKLOG.OUTSTANDING = min (b.cont.fsrs.filter (fun f => f.seq != seq.toNat)).length 127))
    ∧ (∀ t, (sortNat (b.cont.fsrs.map (·.sentAt))).head? = some t → Gives .fsrResend s (fun c =>
        let due := b.cont.fsrs.filter (fun f => decide (f.sentAt + 10 ^ 8 ≤ c.ns 2))
        t + 10 ^ 8 ≤ c.ns 2 ∧ SameBytes b c ∧ Field.rose b c (R.MG.PORT_CNT.COUNT 3) due.length
        ∧ c.cont.fsrs = b.cont.fsrs.map (fun f => if f.sentAt + 10 ^ 8 ≤ c.ns 2 then { f with sentAt := c.ns 2 } else f)
        ∧ (b.rd R.MG.PORT_STATUS.LINK = 1 → c.out.length = b.out.length + due.length)))

/-- R132, R323 to R325, R417: the outcome of a diagnosis retires the tile, at level 3 as the source stood when the capture was made, or
lets it go on; a substitution ends with the siding holding the tile's SRAM and counters, or is tried on the next siding; MG changes the
tile map while no job runs. -/
def Obligations.RepairRows : Prop :=
  (∀ (s : State) (t : Fin 68) (same sidingBad differ : Bool) (d : Diag),
    s.body.cont.diags.find? (fun x => x.tile == t.val) = some d → s.body.inService iCT = true →
    let b := s.body
    let cmd := Instr.diagnosisComplete t same sidingBad differ
    let permanent := d.progRepeat == 2 || same || differ
    let ended (c : Body) : Prop := c.cont.diags = b.cont.diags.filter (fun x => x.tile != t.val)
    (d.sidings = [] → d.progRepeat ≠ 2 → same = false → Gives cmd s (fun c => ended c ∧ SameBytes b c
      ∧ c.rd R.CT.TILE_RETIRED.RETIRED = b.rd R.CT.TILE_RETIRED.RETIRED
      ∧ SMap.getD c.cont.wear t 0 = SMap.getD b.cont.wear t 0 + 256))
    ∧ (∀ x rest, d.sidings = x :: rest → sidingBad = false → permanent = false → Gives cmd s (fun c => ended c ∧ SameBytes b c
      ∧ (x < 68 → bit (c.rd R.CT.SIDINGS.DIAG) (junctionOfTile x) = false)
      ∧ c.rd R.CT.TILE_RETIRED.RETIRED = b.rd R.CT.TILE_RETIRED.RETIRED
      ∧ SMap.getD c.cont.wear t 0 = SMap.getD b.cont.wear t 0 + 256
      ∧ ∀ y, c.cont.cap = some y → y.kind = 1 → y.part = t.val → y.open_ = false))
    ∧ (∀ x rest l, d.sidings = x :: rest → sidingBad = false → permanent = true → 3 ≤ d.level → b.logicalOf t = some l →
        b.retired t = false → x < 68 → x ≠ t.val → Gives cmd s (fun c => ended c ∧ c.retired t = true
          ∧ c.rd (R.CT.TILE_MAP.PHYS l) = x ∧ c.rd (R.CT.TILE_MAP.SUBSTITUTING l) = 1
          ∧ ∃ z ∈ c.cont.substs, z.logical = l ∧ z.old = t.val ∧ z.siding = x ∧ z.held = []))
    ∧ (∀ x rest, d.sidings = x :: rest → sidingBad = false → permanent = true → d.level < 3 → Gives cmd s (fun c => ended c
        ∧ SameBytes b c ∧ c.rd R.CT.TILE_RETIRED.RETIRED = b.rd R.CT.TILE_RETIRED.RETIRED))
    ∧ (∀ x rest n, d.sidings = x :: rest → sidingBad = true → (b.setDiag x 0).pickSiding t d.sidings = some n → Gives cmd s (fun c =>
        c.cont.diags = b.cont.diags.map (fun y => if y.tile = t.val then { y with sidings := n :: y.sidings } else y))))
  ∧ (∀ (s : State) (t : Fin 64) (x : Subst), s.body.cont.substs.find? (fun y => y.logical == t.val) = some x →
    let b := s.body
    let left := b.cont.substs.filter (fun y => y.logical != t.val)
    (memWf b.mem = true → x.old < 68 → x.siding < 68 → x.old ≠ x.siding → b.sb.heldTiles = [] → b.inService iCT = true →
      Gives (.substitutionComplete t) s (fun c => c.cont.substs = left ∧ c.rd (R.CT.TILE_MAP.SUBSTITUTING t) = 0
        ∧ (∀ i, i < sramSize → c.byte (sramBase x.siding + i) = b.byte (sramBase x.old + i))
        ∧ (∀ a, Apart a 1 (sramBase x.siding) sramSize → c.byte a = b.byte a)
        ∧ ∀ cc, (x.held.filter (fun h => h.1 == cc)) ≠ [] → (c.tile x.siding).getCC cc =
            ((b.tile x.siding).getCC cc + ((x.held.filter (fun h => h.1 == cc)).map (·.2)).foldl (· + ·) 0) % 2 ^ 32))
    ∧ (∀ n, (b.toPod (x.began + 50000)).pickSiding x.old [x.siding] = some n → n < 68 → b.sb.module = none →
        Gives (.substitutionTimeout t) s (fun c => x.began + 50000 ≤ c.ns 0 ∧ c.rd (R.CT.TILE_MAP.PHYS t) = n
          ∧ c.rd (R.CT.TILE_MAP.SUBSTITUTING t) = 1 ∧ c.sb.heldTiles = b.sb.heldTiles
          ∧ ∃ z ∈ c.cont.substs, z.logical = t.val ∧ z.siding = n ∧ z.held = x.held))
    ∧ ((b.toPod (x.began + 50000)).pickSiding x.old [x.siding] = none → b.sb.module = none → Gives (.substitutionTimeout t) s (fun c =>
        x.began + 50000 ≤ c.ns 0 ∧ c.rd (R.CT.TILE_MAP.SUBSTITUTING t) = 0 ∧ c.cont.substs = left
        ∧ (x.old ∈ b.sb.heldTiles → x.old < 68 → (∀ l ∈ b.sb.steps, l.island ≠ iT x.old) →
            x.old ∉ c.sb.heldTiles ∧ ∃ z, ⟨iT x.old, 4, z⟩ ∈ c.sb.steps))))
  ∧ (∀ (s : State) (m : Master) (t : Fin 64) (phys : BitVec 7) (valid : BitVec 1),
    let b := s.body
    let cmd := Instr.tileMapWrite m t phys valid
    let taken := ∃ u, u < 64 ∧ u ≠ t.val ∧ b.rd (R.CT.TILE_MAP.VALID u) = 1 ∧ b.rd (R.CT.TILE_MAP.PHYS u) = phys.toNat
    let refused := b.jobRuns = true ∨ 68 ≤ phys.toNat ∨ b.retired phys.toNat = true ∨ taken
    (m ≠ .mg ∨ b.inService iCT = false ∨ refused → Gives cmd s (UpToDb b))
    ∧ (m = .mg → b.inService iCT = true → ¬refused → Gives cmd s (fun c => c.rd (R.CT.TILE_MAP.PHYS t) = phys.toNat
        ∧ c.rd (R.CT.TILE_MAP.VALID t) = valid.toNat ∧ SameBytes b c
        ∧ (valid = 1 → c.rd (R.T.TILE_STATUS.MAPPED phys.toNat) = 1 ∧ c.rd (R.T.TILE_STATUS.LOGICAL phys.toNat) = t.val)
        ∧ ∀ u, u < 64 → u ≠ t.val → c.rd (R.CT.TILE_MAP.PHYS u) = b.rd (R.CT.TILE_MAP.PHYS u))))

namespace Sys2Proof.Machine

/-! ## Terms of the statement about register writes -/

/-- The offsets of the MSI-X table in HI's window (R433). -/
def inMsixTable (i off : Nat) : Prop := i = iHI ∧ 0x8000 ≤ off ∧ off < 0x8100 ∧ off % 4 = 0

/-- The write of `w` to instance `k` of the register at base offset `o` of island i starts nothing. -/
def startsNothing (m : Master) (i o k w : Nat) : Prop := ∀ c : Body, (c.startsSystem m i o w).startsUnit m i o k w = c

/-- What a field takes from a write of `v` under its access code (R9). -/
def FieldRow.takes (f : FieldRow) (locked mg : Bool) (v old new : Nat) : Prop :=
  let was := bits old f.lo f.w
  let is := bits v f.lo f.w
  bits new f.lo f.w = match f.acc with
    | .ro | .w1p | .rwsRo => was
    | .rw | .rws => is
    | .rwl => if locked then was else is
    | .w1c => was - (was &&& is)
    | .rwsMg | .roMg => if mg then is else was

/-- Registers of which one bit written as 1 clears the whole, and lock registers, whose bit stays once set. -/
def clearingBit (i o : Nat) : Option Nat :=
  if 32 ≤ i ∧ o = 0x18 then some 47 else if 32 ≤ i ∧ o = 0x2020 then some 0 else if i = iUE ∧ o = 0x4 then some 4
  else if i = iSB ∧ o = 0x8 then some 16 else none
def isLock (i o : Nat) : Prop := (i = iCT ∧ o = 0x40) ∨ (i = iPV ∧ o = 0x4) ∨ (i = iDB ∧ o = 0x4) ∨ (i = iSB ∧ o = 0x170)

end Sys2Proof.Machine

/-- The order of the queue: a step takes the command at the front of the queue, runs it with the queue's rest, and answers its
outcome; on an empty queue one TM cycle passes (the model's choice, log 1). -/
def Obligations.StepRunsFront : Prop :=
  (∀ (c : Instr) (rest : List Instr) (b : Body), step { body := b, pending := c :: rest } = exec c { body := b, pending := rest })
  ∧ ∀ b : Body, step { body := b, pending := [] } = .next { body := b.ticks 1, pending := [] }

/-- R4, R14, R20, R23, R24, R280, R314: the module after reset.  No command waits and no memory is listed; severities, the tile map
and entry 0 of every junction's slice table read as their tables say; every island but SB is closed.  That an unlisted byte of
memory reads 0 is the model's choice (log 6). -/
def Obligations.ResetState : Prop :=
  Safety.Inv State.reset ∧ State.reset.pending = []
  ∧ (∀ src, src < 6400 → Body.reset.rd (R.CT.SEVERITY.LEVEL src) = (defaultLevel src).getD 0)
  ∧ (∀ t, t < 64 → Body.reset.rd (R.CT.TILE_MAP.PHYS t) = 17 * (t / 16) + t % 16 ∧ Body.reset.rd (R.CT.TILE_MAP.VALID t) = 1)
  ∧ (∀ i, i < 100 → Body.reset.inService i = decide (i = iSB))
  ∧ (∀ a, Body.reset.byte a = 0)
  ∧ Body.reset.jobRuns = false ∧ Body.reset.rd R.CT.STATUS.CAPTURE_VALID = 0

/-- R15: the memory keeps its canonical form under every step, from every state that has it.  The form is the model's own
(log 6). -/
def Obligations.StepKeepsMemoryForm : Prop := ∀ s t : State, Safety.Inv s → step s = .next t → Safety.Inv t

/-- R109, R133, R138 to R168: every instruction of a slot that has an encoding is read back from it by the slots of its section, with
every operand at every value; and a word that a slot accepts is the encoding of what it reads, so that no two words of a section mean
one instruction and no field is dropped. -/
def Obligations.SlotRoundTrip : Prop :=
  (∀ i : SInstr, i.encodable = true → encodeSlot i < 2 ^ 32 ∧ decodeSlot i.section_ (encodeSlot i) = some i)
  ∧ ∀ (sec : Section) (w : Nat) (i : SInstr), w < 2 ^ 32 → decodeSlot sec w = some i →
      encodeSlot i = w ∧ i.encodable = true ∧ (w ≠ 0 → i.section_ = sec)

/-- R6, R9, R12, R24, R396, R433, R435: a write at an offset without a register, to a closed island, from a master that is not honoured,
or of a refused value has no effect but its record; any other write that starts nothing changes the fields under their access codes and
nothing else; the MSI-X table takes the host's words, and unmasking sends a message that is pending; `SB.VCORE.TARGET` and
`TM.TB3_SET_NS` written are the commands of those names. -/
def Obligations.RegisterWriteRows : Prop :=
  ∀ (s : State) (m : Master) (i : BitVec 7) (off : BitVec 16) (v : BitVec 512),
    let b := s.body
    let isl := i.toNat
    let o := off.toNat
    let key := isl * 0x10000 + o
    let cmd := Instr.registerWrite m i off v
    (¬inMsixTable isl o → regAt key = none → Gives cmd s (Exactly b))
    ∧ (∀ r idx, ¬inMsixTable isl o → regAt key = some (r, idx) →
        let k := idx.headD 0
        let w := v.toNat % 2 ^ r.width
        let reserved := (isl = iCT ∧ r.off = 0x4000 ∧ defaultLevel k = none) ∨ (isl = iSN ∧ r.off = 0x90 ∧ bits w 0 8 ≠ 0x20)
        let taken := b.inService isl = true ∧ notHonoured m isl r.off = false ∧ ¬reserved ∧ ownCommand isl r.off = false
        let locked := b.islandLocked isl && r.has (· == .rwl)
        let refused := locked = false ∧ (b.writtenAt o isl).refuses isl r.off k w = true
        (b.inService isl = false ∨ notHonoured m isl r.off = true ∨ reserved → Gives cmd s (UpToDb b))
        ∧ (taken → refused → Gives cmd s (UpToDb b))
        ∧ (taken → ¬refused → startsNothing m isl r.off k w → Gives cmd s (fun c =>
            SameRegsBut [key] b c ∧ SameBytes b c
            ∧ (clearingBit isl r.off = none → ¬isLock isl r.off → ¬(isl = iTM ∧ r.off = 0x110 ∧ k ≠ 0) →
                ∀ f ∈ r.fields, isl ≠ iDB ∨ f.acc = .rw ∨ f.acc = .rws →
                  f.takes (b.islandLocked isl) (m == .mg) w (b.reg key) (c.reg key))
            ∧ (isl = iTM → r.off = 0x110 → k ≠ 0 → bits (c.reg key) 0 1 = bits w 0 1 ∧ bits (c.reg key) 1 1 = 0)
            ∧ (∀ j, clearingBit isl r.off = some j → c.reg key = if bit w j then 0 else b.reg key)
            ∧ (isLock isl r.off → c.reg key = b.reg key ||| w % 2))))
    ∧ (inMsixTable isl o → m = .host → b.inService iHI = true →
        let x := (o - 0x8000) / 16
        let w := o % 16 / 4
        (w ≠ 3 → Gives cmd s (fun c => SMap.getD c.hi.msixTable (4 * x + w) 0 = v.toNat % 2 ^ 32
          ∧ UpToDb { b with hi := { b.hi with msixTable := c.hi.msixTable } } c))
        ∧ (w = 3 → Gives cmd s (fun c => bit c.hi.masked x = bit v.toNat 0
          ∧ (∀ y, y ≠ x → bit c.hi.masked y = bit b.hi.masked y) ∧ SameRegsBut [] b c ∧ SameBytes b c
          ∧ if bit v.toNat 0 = false ∧ bit b.hi.msixPending x = true then c.out = .msix x :: b.out ∧ bit c.hi.msixPending x = false
            else c.out = b.out ∧ c.hi.msixPending = b.hi.msixPending)))
    ∧ (inMsixTable isl o → m ≠ .host ∨ b.inService iHI = false → Gives cmd s (UpToDb b))
    ∧ (m ≠ .tile → b.inService isl = true →
        (isl = iSB → o = 0x50 → exec cmd s = exec (.target m (BitVec.ofNat 10 v.toNat)) s)
        ∧ (isl = iTM → o = 0x40 → exec cmd s = exec (.tb3Set m (BitVec.ofNat 32 v.toNat)) s))

/-- R224, R336, R338 to R343, R350, R351: a snapshot reads the state block into the half that does not hold the newest copy, copies the
sections with a manifest that names their digests, and ends with signature and mark; it is skipped while its half is being drained and
fails where the copy does not fit or data is lost; a lost unit of the target that it writes whole is good again.  A drain fills one slot after another while the window has room, the manifest last,
and stalls after 10 s. -/
def Obligations.SnapshotAndFerryRows : Prop :=
  ∀ (s : State), s.body.inService iSN = true →
    let b := s.body
    let sound (a n : Nat) : Prop := b.snShut a n = false
    let failed (c : Body) : Prop := Raised b c (iSN * 64) ∧ c.snap.snap = none ∧ c.rd R.SN.STATUS.STATE = 0
    (b.snapshotType = true → b.snap.runOpen = false → b.snap.snap = none →
      let h := b.snapTarget
      let blk := b.halfBase 0 h + 8192
      let valid (x : Nat) : Prop := b.rd (R.SN.HALF.VALID x) = 1
      (¬valid 0 → h = 0) ∧ (valid 0 → ¬valid 1 → h = 1) ∧ (∀ x, x < 2 → valid 0 → valid 1 → b.snap.newest = some x → h = 1 - x)
      ∧ (b.memWaits (b.halfBase 0 h) (8192 + blockSize) = true → Gives .snapshotStart s (Exactly b))
      ∧ (b.memWaits (b.halfBase 0 h) (8192 + blockSize) = false →
      ((∃ f, b.snap.ferry = some f ∧ f.half = h ∧ f.stalled = false) → Gives .snapshotStart s (fun c =>
        Field.rises b c R.SN.COUNTS.SKIPPED 1 ∧ c.snap = { b.snap with runOpen := true } ∧ SameBytes b c
        ∧ SameRegsBut [R.SN.COUNTS.SKIPPED.key] b c))
      ∧ ((∀ f, b.snap.ferry = some f → f.half ≠ h ∨ f.stalled = true) →
          (copySize b.sectionLen ≤ b.rd R.SN.HARBOUR_SIZE.MIB * 2 ^ 20 → Gives .snapshotStart s (fun c =>
            b.job.departAt + 1500 ≤ c.ns 0 ∧ c.snap.snap = some ⟨h, b.rd R.TM.STEP_NUMBER.STEP⟩ ∧ c.snap.runOpen = true
            ∧ c.rd R.SN.STATUS.STATE = 1 ∧ c.rd (R.SN.HALF.VALID h) = 0
            ∧ (b.crosses iSN blk blockSize = true → ∀ u ∈ b.lost, blk ≤ u → u + 32 ≤ blk + blockSize → u ∉ c.lost)
            ∧ (sound blk blockSize → c.bytes blk 8 = leBytes 8 (b.rd R.TM.STEP_NUMBER.STEP)
              ∧ (∀ i, i < 16 → c.bytes (blk + 0x40 + 8 * i) 8 = leBytes 8 (b.rd (R.TM.CURSOR.POS i)))
              ∧ c.bytes (blk + 0x100) 8 = leBytes 8 (b.rd R.UE.T_BASE.BASE)
              ∧ (∀ u, u < 8 → c.bytes (blk + 0x200 + 32 * u) 32 = leBytes 16 (b.ueKey u) ++ leBytes 16 (b.ueCtr u))
              ∧ (∀ x, x < 64 → c.bytes (blk + 0x400 + 32 * x) 32 = leBytes 32 (b.rd (R.UE.HYP.all x)))
              ∧ (∀ x, x < 256 → c.bytes (blk + 0x1000 + 32 * x) 32 = leBytes 32 (b.rd (R.UE.SCHED.all x)))
              ∧ (∀ t nn, t < 64 → b.physOf t = some nn → c.bytes (blk + 0x4000 + 0x1C0 * t) 0x1C0 = b.tileBlock nn))
            ∧ (sound (b.halfBase 0 h + 4092) 4 → c.leAt (b.halfBase 0 h + 4092) 4 = 0)
            ∧ (∀ a, Apart a 1 blk blockSize → Apart a 1 (b.halfBase 0 h + 4092) 4 → c.byte a = b.byte a)))
          ∧ (b.rd R.SN.HARBOUR_SIZE.MIB * 2 ^ 20 < copySize b.sectionLen → Gives .snapshotStart s (fun c => failed c
              ∧ Field.rises b c R.SN.COUNTS.FAILED 1 ∧ c.rd (R.SN.HALF.VALID h) = 0 ∧ c.snap.runOpen = true)))))
    ∧ (b.snapshotType = false ∨ b.snap.runOpen = true → Gives .snapshotStart s (Exactly b))
    ∧ (∀ x, b.snap.snap = some x → b.rd R.SN.STATUS.STATE = 1 →
        let base := b.halfBase 0 x.half
        let offs := sectionOffsets b.sectionLen
        let whole := ∀ o ∈ offs, o.1 ≠ 0 → b.snDenied (b.sectionBase o.1) (b.sectionLen o.1) = false
        (∀ k, 0 < k → lpddrEnd < b.sectionBase k + b.rd (R.SN.SECTION.LENGTH k) → ∀ o ∈ offs, o.1 ≠ k)
        ∧ (b.copyWaits base = true → Gives .snapshotCopyComplete s (Exactly b))
        ∧ (b.copyWaits base = false →
        (¬whole → Gives .snapshotCopyComplete s (fun c => failed c ∧ Field.rises b c R.SN.COUNTS.FAILED 1 ∧ SameBytes b c))
        ∧ (whole → ¬sound (base + 8192) blockSize → Gives .snapshotCopyComplete s (fun c => failed c
            ∧ Field.rises b c R.SN.COUNTS.FAILED 1))
        ∧ (whole → sound base (copySize b.sectionLen) → memWf b.mem = true →
            (∀ o ∈ offs, o.1 ≠ 0 → Apart (b.sectionBase o.1) (b.sectionLen o.1) base (copySize b.sectionLen)) →
            Gives .snapshotCopyComplete s (fun c => c.rd R.SN.STATUS.STATE = 2 ∧ c.snap = b.snap
              ∧ (∀ o ∈ offs, o.1 ≠ 0 → c.bytes (base + o.2) (b.sectionLen o.1) = b.bytes (b.sectionBase o.1) (b.sectionLen o.1))
              ∧ (∀ o ∈ offs, c.manifestLen base o.1 = b.sectionLen o.1 ∧ c.sectionOk base o.1 o.2 = true)
              ∧ c.leAt base 4 = manifestMagic ∧ c.bytes (base + 8) 8 = leBytes 8 x.step ∧ c.leAt (base + 4092) 4 = 0
              ∧ (∀ a, Apart a 1 base (copySize b.sectionLen) → c.byte a = b.byte a)))))
    ∧ (∀ x, b.snap.snap = some x → x.half < 2 → b.rd R.SN.STATUS.STATE = 2 →
        let base := b.halfBase 0 x.half
        (b.memWaits base 4096 = true → Gives .snapshotSigned s (Exactly b))
        ∧ (b.memWaits base 4096 = false →
        (b.inService iSC = false ∨ b.sec.flash.unwrapOk = false ∨ ¬sound base 4096 → Gives .snapshotSigned s (fun c => failed c
          ∧ Field.rises b c R.SN.COUNTS.FAILED 1 ∧ SameBytes b c))
        ∧ (b.inService iSC = true → b.sec.flash.unwrapOk = true → sound base 4096 → Gives .snapshotSigned s (fun c =>
            (c.bytes (base + 3200) 384 = (Config.identitySign (b.bytes base 3200)).toList
              ∧ c.leAt (base + 4092) 4 = validMark)
            ∧ Field.holds c (R.SN.HALF.STEP x.half) x.step ∧ c.rd (R.SN.HALF.VALID x.half) = 1
            ∧ c.rd R.SN.STATUS.CURRENT = x.half ∧ c.rd R.SN.STATUS.STATE = 0 ∧ Field.rises b c R.SN.COUNTS.SNAPSHOTS 1
            ∧ c.snap = { b.snap with snap := none, flipped := true, newest := some x.half, snapSeq := (b.snap.snapSeq + 1) % 2 ^ 32 }
            ∧ ∀ a, Apart a 1 (base + 3200) 384 → Apart a 1 (base + 4092) 4 → c.byte a = b.byte a))))
    ∧ (∀ (m : Master) (half : Fin 2),
        (m ≠ .host ∧ m ≠ .mg ∨ b.snap.ferry ≠ none → Gives (.ferryStart m half) s (UpToDb b))
        ∧ (m = .host ∨ m = .mg → b.snap.ferry = none → Gives (.ferryStart m half) s (fun c =>
            c.rd R.SN.STATUS.FERRY = 1 ∧ c.rd R.SN.STATUS.FERRY_HALF = half ∧ c.rd R.SN.FERRY_CTRL.HALF = half
            ∧ c.snap = { b.snap with ferry := some ⟨half, 4096, false, b.ns 2, false⟩ } ∧ SameBytes b c
            ∧ SameRegsBut [R.SN.STATUS.FERRY.key, R.SN.FERRY_CTRL.HALF.key] b c)))
    ∧ (∀ f, b.snap.ferry = some f → f.last = false → b.inService iHI = true → b.hi.linkUp = true →
        let slots := b.rd R.SN.FERRY_CTRL.SLOTS
        let filled := b.rd R.SN.FERRY_FILLED.COUNT
        let base := b.halfBase 0 f.half
        let total := copySize (b.manifestLen base)
        let man := decide (total ≤ f.pos)
        let off := if man then 0 else f.pos
        let size := b.rd R.SN.FERRY_CTRL.SLOT_MIB * 2 ^ 20
        let n := if man then 4096 else min (size - 64) (total - f.pos)
        let used := (filled + 2 ^ 32 - b.rd R.SN.FERRY_DONE.COUNT) % 2 ^ 32
        let waits := b.memWaits base 4096 = true ∨ b.memWaits (base + off) n = true
        (slots ≤ used ∨ waits → Gives .ferrySlotFill s (Exactly b))
        ∧ (used < slots → ¬waits → b.snDenied (base + off) n = true → Gives .ferrySlotFill s (fun c => c.snap.ferry = none
            ∧ c.rd R.SN.STATUS.FERRY = 0 ∧ SameBytes b c))
        ∧ (used < slots → ¬waits → b.snDenied (base + off) n = false → Gives .ferrySlotFill s (fun c =>
            c.snap = { b.snap with ferry := some { f with pos := f.pos + n, last := man } } ∧ SameBytes b c
            ∧ Field.rose b c R.SN.FERRY_FILLED.COUNT 1
            ∧ ∃ l bs, c.out = l ++ .hostWrite (b.rd R.SN.FERRY_BASE.ADDR * 4096 + filled % slots * size) bs :: b.out
                ∧ bs.take 16 = leBytes 8 off ++ leBytes 8 n ∧ bs.drop 64 = b.bytes (base + off) n)))
    ∧ (∀ f, b.snap.ferry = some f → f.stalled = false → Gives .ferryStall s (fun c => f.movedAt + 10 ^ 10 ≤ c.ns 2
        ∧ c.snap = { b.snap with ferry := some { f with stalled := true } } ∧ Raised b c (iSN * 64 + 2) ∧ SameBytes b c
        ∧ SameRegsBut [] b c))

/-- R223, R344, R345, R347 to R349, R352, R354 to R356, R358: a copy goes to the buddy after a flip, but for the writes that would carry
lost data, and is complete when its writes have counted
and its digests agree; a copy that does not arrive in time is given up; the outcome settles the mirror or the send; a load is ordered,
unpacked section by section with the code of its failure, or abandoned; and the restore takes the newest step of which every shard has a
copy. -/
def Obligations.MirrorAndLoadRows : Prop :=
  (∀ (s : State), s.body.inService iSN = true →
    let b := s.body
    let buddy := b.rd R.SN.BUDDY.PLACE
    let h := 1 - b.snap.lastBuddy
    let sound (a n : Nat) : Prop := b.snShut a n = false
    let sends (c : Body) (k dest src dst : Nat) : Prop := ∀ w ∈ b.copyWrites src dst, b.snDenied w.src w.n = false →
      ∃ x ∈ (c.jn k).local_.drop (b.jn k).local_.length, x.pkt.dest = dest ∧ x.pkt.counter = mirrorCounter ∧ x.pkt.addr = w.dst
        ∧ x.pkt.payload = b.bytes w.src w.n ∧ x.pkt.flags = flUnplanned + (if w.last then flLast else 0)
    let code (c : Body) (n : Nat) : Prop := c.rd R.SN.LOAD_STATUS.CODE = n
    (∀ k, b.snap.flipped = true → b.snap.mirror = none → b.rd R.SN.MIRROR_CTRL.ENABLE = 1 → buddy ≠ 0 →
      b.firstJunction = some k → b.sendWaits (b.halfBase 0 (b.rd R.SN.STATUS.CURRENT)) = false → Gives .mirrorStart s (fun c => c.snap = { b.snap with flipped := false, mirror := some (h, false) }
        ∧ c.rd R.SN.STATUS.MIRROR = 1 ∧ SameBytes b c
        ∧ ((∀ w ∈ b.copyWrites (b.halfBase 0 (b.rd R.SN.STATUS.CURRENT)) (b.halfBase 1 h), b.snDenied w.src w.n = false) →
            OnlyRegs [R.SN.STATUS.MIRROR.key] b c)
        ∧ sends c k buddy (b.halfBase 0 (b.rd R.SN.STATUS.CURRENT)) (b.halfBase 1 h)))
    ∧ (b.snap.flipped = false ∨ b.snap.mirror ≠ none ∨ b.rd R.SN.MIRROR_CTRL.ENABLE = 0 ∨ buddy = 0
        ∨ b.sendWaits (b.halfBase 0 (b.rd R.SN.STATUS.CURRENT)) = true → Gives .mirrorStart s (Exactly b))
    ∧ (∀ r, b.snap.receive = some r → r.half < 2 →
        let base := b.halfBase r.region r.half
        let arrived := b.mirrorCount = b.copyCount base ∧ b.sectionsOk base = true ∧ b.memWaits base (copySize (b.manifestLen base)) = false
        (¬arrived → Gives .mirrorComplete s (Exactly b))
        ∧ (arrived → r.region = 1 → b.halfBase 1 0 ≠ b.halfBase 1 1 → Gives .mirrorComplete s (fun c =>
            c.snap = { b.snap with receive := none }
            ∧ (sound (base + 4092) 4 → sound (b.halfBase 1 (1 - r.half) + 4092) 4 → c.leAt (base + 4092) 4 = validMark
              ∧ c.leAt (b.halfBase 1 (1 - r.half) + 4092) 4 = 0)
            ∧ c.rd (R.SN.BUDDY_HALF.VALID r.half) = 1 ∧ Field.holds c (R.SN.BUDDY_HALF.STEP r.half) (b.leAt (base + 8) 8)
            ∧ c.rd (R.SN.BUDDY_HALF.VALID (1 - r.half)) = 0
            ∧ ∀ a, Apart a 1 (base + 4092) 4 → Apart a 1 (b.halfBase 1 (1 - r.half) + 4092) 4 → c.byte a = b.byte a))
        ∧ (arrived → r.region = 0 → Gives .mirrorComplete s (fun c => c.snap = { b.snap with receive := none }
            ∧ (sound (base + 4092) 4 → c.leAt (base + 4092) 4 = validMark) ∧ c.rd (R.SN.HALF.VALID r.half) = 1
            ∧ Field.holds c (R.SN.HALF.STEP r.half) (b.leAt (base + 8) 8) ∧ code c 0x01))
        ∧ (b.memWaits base 4096 = true → Gives .mirrorTimeout s (Exactly b) ∧ Gives .receiveTimeout s (Exactly b))
        ∧ (b.memWaits base 4096 = false → let due := r.at_ + b.rd R.SN.MIRROR_CTRL.TIMEOUT * 10 ^ 6
           (r.region = 1 → Gives .mirrorTimeout s (fun c => due ≤ c.ns 2 ∧ c.snap = { b.snap with receive := none }
              ∧ Raised b c (iSN * 64 + 1) ∧ (sound base 4 → c.leAt base 4 = 0) ∧ ∀ a, Apart a 1 base 4 → c.byte a = b.byte a))
           ∧ (r.region = 0 → Gives .receiveTimeout s (fun c => due ≤ c.ns 2 ∧ c.snap = { b.snap with receive := none } ∧ code c 0x15
              ∧ (b.isAdmitted = false → (sound base 4 → c.leAt base 4 = 0) ∧ ∀ a, Apart a 1 base 4 → c.byte a = b.byte a)
              ∧ (b.isAdmitted = true → ∀ y, y < 2 → c.rd (R.SN.HALF.VALID y) = 0
                  ∧ (sound (b.halfBase 0 y) (b.rd R.SN.HARBOUR_SIZE.MIB * 2 ^ 20) → ∀ i, i < b.rd R.SN.HARBOUR_SIZE.MIB * 2 ^ 20 → c.byte (b.halfBase 0 y + i) = 0))))))
    ∧ (∀ (m : Master) (half region : Fin 2),
        let may := m = .host ∨ m = .mg
        let idle := b.rd R.SN.LOAD_STATUS.CODE ≠ 2
        (¬may ∨ ¬idle → Gives (.loadReceive m half) s (UpToDb b) ∧ Gives (.loadSend m half region) s (UpToDb b)
          ∧ Gives (.unpack m half) s (UpToDb b))
        ∧ (may → idle →
            Gives (.loadReceive m half) s (fun c => code c 2 ∧ c.rd R.SN.LOAD_CTRL.OP = 1 ∧ c.rd R.SN.LOAD_CTRL.HALF = half
              ∧ c.rd (R.SN.HALF.VALID half) = 0 ∧ c.snap = { b.snap with receive := some ⟨0, half, b.ns 2, false, 0⟩ }
              ∧ (sound (b.halfBase 0 half + 4092) 4 → c.leAt (b.halfBase 0 half + 4092) 4 = 0))
            ∧ (b.jobRuns = true → Gives (.loadSend m half region) s (fun c => code c 0x14 ∧ SameBytes b c ∧ c.snap = b.snap)
                ∧ Gives (.unpack m half) s (fun c => code c 0x14 ∧ SameBytes b c ∧ c.snap = b.snap))
            ∧ (b.jobRuns = false → Gives (.unpack m half) s (fun c => code c 2 ∧ c.rd R.SN.LOAD_CTRL.OP = 3
                ∧ c.rd R.SN.STATUS.STATE = 3 ∧ c.snap = { b.snap with unpack := some half.val } ∧ SameBytes b c))
            ∧ (b.jobRuns = false → b.snap.mirror = none → b.sendWaits (b.halfBase region half) = true → Gives (.loadSend m half region) s
                (fun c => code c 2 ∧ c.rd R.SN.LOAD_CTRL.OP = 2 ∧ c.rd R.SN.STATUS.MIRROR = 1 ∧ SameBytes b c ∧ c.fab = b.fab
                ∧ c.snap = { b.snap with mirror := some (half.val, true),
                                         unsent := some (b.rd R.SN.LOAD_PEER.PLACE, b.halfBase region half, b.halfBase 0 half) }))
            ∧ (∀ k, b.jobRuns = false → b.snap.mirror = none → b.firstJunction = some k → b.sendWaits (b.halfBase region half) = false →
                Gives (.loadSend m half region) s (fun c =>
                code c 2 ∧ c.rd R.SN.LOAD_CTRL.OP = 2 ∧ c.rd R.SN.STATUS.MIRROR = 1 ∧ SameBytes b c
                ∧ c.snap = { b.snap with mirror := some (half.val, true), unsent := none }
                ∧ sends c k (b.rd R.SN.LOAD_PEER.PLACE) (b.halfBase region half) (b.halfBase 0 half))))
        ∧ (¬may → Gives (.loadAbandon m) s (UpToDb b))
        ∧ (may → idle → Gives (.loadAbandon m) s (fun c => SameRegsBut [R.SN.LOAD_CTRL.OP.key] b c ∧ SameBytes b c ∧ c.snap = b.snap))
        ∧ (may → ¬idle → Gives (.loadAbandon m) s (fun c => code c 0x16 ∧ c.snap.unpack = none
            ∧ (∀ r, b.snap.receive = some r → r.region = 0 → c.snap.receive = none)
            ∧ (b.snap.unsent ≠ none → c.snap.mirror = none ∧ c.snap.unsent = none ∧ c.rd R.SN.STATUS.MIRROR = 0)
            ∧ (b.snap.unpack ≠ none → c.rd R.SN.STATUS.STATE = 0))))
    ∧ (∀ half, b.snap.unpack = some half →
        let base := b.halfBase 0 half
        let offs := sectionOffsets b.sectionLen
        let fits := ∀ k, k < 64 → b.manifestLen base k = b.sectionLen k
        let whole (o : Nat × Nat) : Prop := b.snDenied (base + o.2) (b.sectionLen o.1) = false
          ∧ (o.1 ≠ 0 → sound (b.sectionBase o.1) (b.sectionLen o.1)) ∧ b.sectionOk base o.1 o.2 = true
        let ends (c : Body) (n i : Nat) : Prop := code c n ∧ c.rd R.SN.LOAD_STATUS.INDEX = i ∧ c.rd R.SN.STATUS.STATE = 0
          ∧ c.snap = { b.snap with unpack := none }
        (b.copyWaits base = true → Gives .unpackComplete s (Exactly b))
        ∧ (b.copyWaits base = false →
        (b.snDenied base 8192 = true → Gives .unpackComplete s (fun c => ends c 0x17 0 ∧ SameBytes b c))
        ∧ (b.snDenied base 8192 = false → b.leAt (base + 4092) 4 ≠ validMark → Gives .unpackComplete s (fun c => ends c 0x10 0 ∧ SameBytes b c))
        ∧ (∀ n, b.snDenied base 8192 = false → b.copyFault base = some n → Gives .unpackComplete s (fun c => ends c n 0 ∧ SameBytes b c))
        ∧ (b.snDenied base 8192 = false → b.copyFault base = none →
            (∀ k, k < 64 → b.manifestLen base k ≠ b.sectionLen k → (∀ j, j < k → b.manifestLen base j = b.sectionLen j) →
              Gives .unpackComplete s (fun c => ends c 0x13 k ∧ SameBytes b c))
            ∧ (fits → memWf b.mem = true → (∀ o ∈ offs, whole o) →
                (∀ o ∈ offs, o.1 ≠ 0 → Apart (b.sectionBase o.1) (b.sectionLen o.1) base (copySize b.sectionLen)
                  ∧ ∀ p ∈ offs, p.1 ≠ 0 → p.1 ≠ o.1 → Apart (b.sectionBase o.1) (b.sectionLen o.1) (b.sectionBase p.1) (b.sectionLen p.1)) →
                Gives .unpackComplete s (fun c => ends c 0x01 0
                  ∧ c.rd R.TM.STEP_NUMBER.STEP = b.leAt (base + 8192) 8
                  ∧ (∀ i, i < 16 → c.rd (R.TM.CURSOR.POS i) = b.leAt (base + 8192 + 0x40 + 8 * i) 8 % 2 ^ (R.TM.CURSOR.POS i).w)
                  ∧ ∀ o ∈ offs, o.1 ≠ 0 → c.bytes (b.sectionBase o.1) (b.sectionLen o.1) = b.bytes (base + o.2) (b.sectionLen o.1)))
            ∧ (fits → b.snDenied (base + 8192) blockSize = false → b.sectionOk base 0 8192 = false →
                Gives .unpackComplete s (fun c => ends c 0x12 0 ∧ Raised b c (iSN * 64 + 3) ∧ SameBytes b c))))))
  ∧ (∀ (s : State) (outcome : BitVec 48) (h : Nat) (send : Bool), s.body.snap.mirror = some (h, send) →
      Gives (.mirrorAcknowledgement outcome) s (fun c => c.rd R.SN.STATUS.MIRROR = 0 ∧ c.snap.mirror = none ∧ SameBytes s.body c
        ∧ c.snap.lastBuddy = (if outcome = 1 ∧ send = false then h else s.body.snap.lastBuddy)
        ∧ (outcome ≠ 1 → Field.rises s.body c R.SN.COUNTS.MIRRORS_FAILED 1)
        ∧ (send = true → c.rd R.SN.LOAD_STATUS.CODE = if outcome = 1 then 0x01 else 0x15)))
  ∧ ∀ (s : State) (cs : List CopyInfo),
      let holds (x : CopyInfo) (step i k : Nat) : Prop := ∃ c ∈ cs, c.valid = true ∧ c.step = step ∧ c.epoch = x.epoch
        ∧ c.serial = x.serial ∧ c.count = x.count ∧ c.shard = i ∧ c.kind = k
      let complete (step : Nat) : Prop := ∃ x ∈ cs, x.valid = true ∧ x.step = step ∧ x.count ≠ 0
        ∧ ∀ i, i < x.count → ∃ k, k < 3 ∧ holds x step i k
      Gives (.restoreDecision cs) s (fun c =>
        (∀ step l, c.snap.chosen = some (step, l) → complete step ∧ (∀ n, step < n → ¬complete n)
          ∧ ∃ x ∈ cs, x.valid = true ∧ x.step = step ∧ l.map (·.1) = List.range x.count
              ∧ ∀ e ∈ l, holds x step e.1 e.2 ∧ ∀ k, k < e.2 → ¬holds x step e.1 k)
        ∧ (c.snap.chosen = none ↔ ∀ n, ¬complete n) ∧ (c.snap.chosen = none → c.rd R.SN.LOAD_STATUS.CODE = 0x20)
        ∧ SameBytes s.body c)

namespace Sys2Proof.Machine

/-! ## Terms of the statement about time -/

/-- The total of base i (0 or 1) with its fraction. -/
def Body.baseTotal (b : Body) (i : Nat) : Nat := if i = 0 then b.time.tb0 else b.time.tb1

/-- What one sample does to base i (R369, R371, R373, R374): a base never set takes it; a refused base discards it; a stepping relock
applies it; beyond the threshold it is refused with source 1, unless a slewing relock runs; otherwise it sets integral and rate. -/
def Served (a c : Body) (i : Nat) (theta : Int) : Prop :=
  let set := a.rd (R.TM.TB_STATUS.SET i) = 1
  let refused := a.rd (R.TM.TB_STATUS.REFUSED i) = 1
  let near := (theta.natAbs : Int) ≤ ((a.rd (R.TM.TB_LIMITS.STEP_THRESH i) * 256 : Nat) : Int)
  let slewing := a.rd (R.TM.TB_STATUS.RELOCK_SLEW i) = 1
  let top : Int := ((a.rd (R.TM.TB_LIMITS.MAX_SLEW i) * 2 ^ 40 / 10 ^ 6 : Nat) : Int)
  let still := c.baseTotal i = a.baseTotal i
  let stepped := (c.baseTotal i : Int) = max ((a.baseTotal i : Int) + theta * (2 ^ 32 : Nat)) 0
  let good := c.rd (R.TM.TB_STATUS.SYNC i) = 1 ∧ c.rd (R.TM.TB_STATUS.HOLDOVER i) = 0
  c.rd (R.TM.TB_OFFSET.THETA i) = unsigned (clampInt theta (-(2 ^ 31 : Nat)) ((2 ^ 31 - 1 : Nat))) 32
  ∧ (¬set → stepped ∧ c.rd (R.TM.TB_STATUS.SET i) = 1 ∧ c.integ i = 0 ∧ c.rd (R.TM.TB_RATE.A i) = 0 ∧ good
      ∧ (a.relock i ≠ none → c.relock i = none ∧ c.rd R.TM.RELOCK.DONE = 1))
  ∧ (set → refused → still ∧ c.rd (R.TM.TB_RATE.A i) = a.rd (R.TM.TB_RATE.A i) ∧ c.integ i = a.integ i)
  ∧ (set → ¬refused → a.relock i = some 1 → stepped ∧ c.relock i = none ∧ c.rd R.TM.RELOCK.DONE = 1 ∧ good)
  ∧ (set → ¬refused → a.relock i ≠ some 1 → ¬near → ¬slewing → still ∧ c.rd (R.TM.TB_STATUS.REFUSED i) = 1
      ∧ Raised a c (iTM * 64 + 1) ∧ c.rd (R.TM.TB_RATE.A i) = a.rd (R.TM.TB_RATE.A i) ∧ c.integ i = a.integ i)
  ∧ (set → ¬refused → a.relock i ≠ some 1 → near ∨ slewing → still ∧ good
      ∧ c.integ i = clampInt (a.integ i + gainProduct (a.rd (R.TM.TB_GAIN.KI i)) theta) (-top) top
      ∧ c.rd (R.TM.TB_RATE.A i) = unsigned (clampInt (c.integ i + gainProduct (a.rd (R.TM.TB_GAIN.KP i)) theta) (-top) top) 32
      ∧ (near → c.rd (R.TM.TB_STATUS.RELOCK_SLEW i) = 0)
      ∧ (a.relock i = some 0 → c.relock i = none ∧ c.rd R.TM.RELOCK.DONE = 1))

/-- Parent and stratum are as R375 to R377 choose them: none at the root, whose base is synchronised once it is set (R371); of the neighbours that may be the parent the one of the
lowest stratum, ties in port order; without a root TB0 is unsynchronised. -/
def ParentChosen (c : Body) : Prop :=
  let port := c.rd R.TM.TB0_TREE.PARENT_PORT
  let stratum := c.rd R.TM.TB0_TREE.STRATUM
  (c.isRoot = true → stratum = 0 ∧ port = 15
    ∧ (c.rd (R.TM.TB_STATUS.SET 0) = 1 → c.rd (R.TM.TB_STATUS.SYNC 0) = 1 ∧ c.rd (R.TM.TB_STATUS.HOLDOVER 0) = 0))
  ∧ (c.isRoot = false → c.rd R.TM.TB0_TREE.ROOT ≠ 0 → (∃ p, p < 6 ∧ c.parentOk p = true) →
      port < 6 ∧ c.parentOk port = true ∧ stratum = (c.announcedStratum port + 1) % 2 ^ R.TM.TB0_TREE.STRATUM.w
      ∧ ∀ p, p < 6 → c.parentOk p = true → c.announcedStratum port < c.announcedStratum p
          ∨ (c.announcedStratum port = c.announcedStratum p ∧ port ≤ p))
  ∧ (c.isRoot = false → c.rd R.TM.TB0_TREE.ROOT = 0 ∨ (∀ p, p < 6 → c.parentOk p = false) → stratum = 255 ∧ port = 15)
  ∧ (c.rd R.TM.TB0_TREE.ROOT = 0 → c.isRoot = false → c.rd (R.TM.TB_STATUS.SYNC 0) = 0)

/-- Of the foreign masters that qualify one is selected, as the first of them that none before it beats and that beats what came
before it, or none where none qualifies (R381; when one qualifies and what is better are the standard's, log 120). -/
def MasterChosen (qualifies : Foreign → Bool) (c : Body) : Prop :=
  let able := c.time.foreign.filter qualifies
  (able = [] → c.rd R.TM.PTP_STATUS.SELECTED = 0 ∧ c.rd R.TM.PTP_MASTER.IDENTITY = 0)
  ∧ (able ≠ [] → c.rd R.TM.PTP_STATUS.SELECTED = 1 ∧ ∃ g ∈ able, bestMaster able = some g
      ∧ Field.holds c R.TM.PTP_MASTER.IDENTITY g.ann.source ∧ Field.holds c R.TM.PTP_STATUS.STEPS g.ann.steps)

/-- Two Announces of a master arrived within the last four Announce intervals before TB2 reads `now`. -/
def heardTwice (now : Nat) (f : Foreign) : Bool :=
  match f.prev with
  | some t => decide (now ≤ t + 4 * f.interval)
  | none => false

end Sys2Proof.Machine

/-- R266, R361, R369 to R379, R381, R382, R403: a sample steers its base; holdover; announces sent and heard choose the parent; relocks are
ordered by MG alone; TB3 is set; a read of the seconds latches the nanoseconds; the 1588 exchanges give TB1 its samples, from the best
master. -/
def Obligations.TimeRows : Prop :=
  ∀ (s : State),
    let b := s.body
    let rootKeys := [(R.TM.TB_STATUS.SET 0).key, R.HI.IRQ_CAUSE.CAUSE.key]
    (let a := (b.toPod ((b.ns 0 / 10 ^ 6 + 1) * 10 ^ 6)).chooseParent
     let follows := a.rd (R.TM.TB_CTRL.FOLLOW_TB1 0) = 1 ∧ a.rd (R.TM.TB_STATUS.SYNC 1) = 1
     let sampled (theta : Int) (n : Nat) : Prop := Gives .tb0Sample s (fun c => Served a c 0 theta ∧ ParentChosen c
       ∧ Field.holds c R.TM.TB0_TREE.LINKS_USED n ∧ c.time.offsets = [] ∧ SameBytes b c)
     (b.ns 0 / 10 ^ 6 + 1) * 10 ^ 6 ≤ a.ns 0
     ∧ (a.isRoot = true → follows → sampled (((a.time.tb1 : Int) - (a.time.tb0 : Int)).fdiv ((2 ^ 32 : Nat) : Int)) 0)
     ∧ (∀ theta n, a.isRoot = false → a.podSample = some (theta, n) → sampled theta n)
     ∧ ((a.isRoot = true ∧ ¬follows) ∨ (a.isRoot = false ∧ a.podSample = none) → Gives .tb0Sample s (fun c => ParentChosen c
          ∧ c.rd R.TM.TB0_TREE.LINKS_USED = 0 ∧ c.time.offsets = [] ∧ c.baseTotal 0 = a.baseTotal 0
          ∧ OnlyRegs (R.TM.TB0_TREE.LINKS_USED.key :: R.TM.TB0_NEIGH.MAX.key :: rootKeys) b c ∧ SameBytes b c)))
    ∧ (∀ i : Fin 2,
        let due := b.rd (R.TM.TB_STATUS.SET i) = 1 ∧ b.rd (R.TM.TB_STATUS.HOLDOVER i) = 0 ∧ ¬(i = 0 ∧ b.isRoot = true)
        (due → Gives (.holdover i) s (fun c =>
          (if i = 0 then b.time.accepted0 else b.time.accepted1) + b.rd (R.TM.TB_HOLD.LOST i) * 10 ^ 6 ≤ c.ns 2
          ∧ c.rd (R.TM.TB_STATUS.HOLDOVER i) = 1 ∧ c.rd (R.TM.TB_STATUS.SYNC i) = 0
          ∧ c.rd (R.TM.TB_RATE.A i) = unsigned (b.integ i) 32 ∧ Raised b c (iTM * 64 + if i = 0 then 0 else 2) ∧ SameBytes b c))
        ∧ (¬due → Gives (.holdover i) s (Exactly b)))
    ∧ Gives .timeAnnounceSend s (fun c => OnlyRegs hopKeys b c ∧ SameBytes b c
        ∧ b.time.announceAt + b.rd R.TM.TB0_TREE_CTRL.ANNOUNCE * 10 ^ 6 ≤ c.ns 2 ∧ c.time.announceAt = c.ns 2 ∧ ∀ n ∈ b.neighbours, ∀ (railB : Bool) (l : Nat),
        (b.portUp n.1 railB).head? = some l → b.isFenced (junctionOfLink l) b.place = false → ∃ p : Packet, .packet l (packetBytes p) ∈ c.out ∧ p.dest = n.2 ∧ p.cls = 5 ∧ p.op = 6
          ∧ p.payload.length = 32 ∧ le p.payload 0 1 = 1 ∧ le p.payload 1 1 = b.rd R.TM.TB0_TREE.STRATUM
          ∧ le p.payload 4 4 = b.rd R.TM.TB0_TREE.ROOT ∧ le p.payload 8 4 = b.place)
    ∧ (∀ (link : Fin 64) (pl : Bytes),
        let heard := b.served (le pl 8 4) 6 pl
        (le pl 0 1 ≠ 1 → Gives (.timeAnnounce link pl) s (UpToDb heard))
        ∧ (le pl 0 1 = 1 → link.val % 8 < 6 → Gives (.timeAnnounce link pl) s (fun c => ParentChosen c
            ∧ OnlyRegs (R.TM.TB0_TREE.ROOT.key :: rootKeys) b c ∧ SameBytes b c ∧ c.fab = heard.fab
            ∧ ∃ t, SMap.find c.time.announces (link.val % 8) = some t ∧ t.stratum = le pl 1 1 ∧ t.flags = le pl 2 1
                ∧ t.root = le pl 4 4 ∧ t.sender = le pl 8 4 ∧ t.at_ = b.ns 2))
        ∧ (le pl 0 1 = 1 → 6 ≤ link.val % 8 → Gives (.timeAnnounce link pl) s (Exactly heard)))
    ∧ (∀ (m : Master) (base : Fin 2),
        (m ≠ .mg → Gives (.relockSlew m base) s (UpToDb b) ∧ Gives (.relockStep m base) s (UpToDb b))
        ∧ Gives (.relockSlew .mg base) s (fun c => c.relock base = some 0 ∧ c.relock (1 - base.val) = b.relock (1 - base.val)
            ∧ c.rd R.TM.RELOCK.BASE = base ∧ c.rd R.TM.RELOCK.MODE = 0 ∧ c.rd R.TM.RELOCK.DONE = 0 ∧ c.rd R.TM.RELOCK.REFUSED = 0
            ∧ c.rd (R.TM.TB_STATUS.REFUSED base) = 0 ∧ c.rd (R.TM.TB_STATUS.RELOCK_SLEW base) = 1
            ∧ SameRegsBut [R.TM.RELOCK.BASE.key, (R.TM.TB_STATUS.SET base).key] b c ∧ SameBytes b c)
        ∧ (base = 0 ∧ b.jobRuns = true → Gives (.relockStep .mg base) s (fun c => c.time = b.time ∧ c.rd R.TM.RELOCK.REFUSED = 1
            ∧ c.rd R.TM.RELOCK.DONE = 0 ∧ SameRegsBut [R.TM.RELOCK.BASE.key] b c ∧ SameBytes b c))
        ∧ (¬(base = 0 ∧ b.jobRuns = true) → Gives (.relockStep .mg base) s (fun c => c.relock base = some 1
            ∧ c.relock (1 - base.val) = b.relock (1 - base.val)
            ∧ c.rd R.TM.RELOCK.BASE = base ∧ c.rd R.TM.RELOCK.MODE = 1 ∧ c.rd R.TM.RELOCK.DONE = 0 ∧ c.rd R.TM.RELOCK.REFUSED = 0
            ∧ c.rd (R.TM.TB_STATUS.REFUSED base) = 0
            ∧ SameRegsBut [R.TM.RELOCK.BASE.key, (R.TM.TB_STATUS.SET base).key] b c ∧ SameBytes b c)))
    ∧ (∀ (m : Master) (v : BitVec 32),
        let n := v.toNat % 2 ^ 30
        (10 ^ 9 ≤ n ∨ m = .tile → Gives (.tb3Set m v) s (UpToDb b))
        ∧ (n < 10 ^ 9 → m ≠ .tile → Gives (.tb3Set m v) s (fun c => c.rd R.TM.TB3_SET_NS.NS = n ∧ SameRegsBut [R.TM.TB3_SET_NS.NS.key] b c
            ∧ SameBytes b c ∧ c.time = { b.time with tb3 := (b.rd R.TM.TB3_SET_SEC.SEC * 10 ^ 9 + n) * 2 ^ 40 })))
    ∧ (∀ (m : Master) (i : Fin 4), Gives (.timeBaseSecondsRead m i) s (fun c =>
        SMap.find c.time.latched (masterNo m * 4 + i) = some (b.ns i % 10 ^ 9)
        ∧ (∀ k, k ≠ masterNo m * 4 + i.val → SMap.find c.time.latched k = SMap.find b.time.latched k)
        ∧ Exactly { b with time := { b.time with latched := c.time.latched } } c))
    ∧ (∀ m : PtpMsg,
        let t1 (corr : Int) : Int := ((m.origin * 256 : Nat) : Int) + corr.fdiv 256
        (b.ptpHeeds m = false → Gives (.sync m) s (Exactly b) ∧ Gives (.followUp m) s (Exactly b) ∧ Gives (.delayResp m) s (Exactly b))
        ∧ (b.ptpHeeds m = true →
            (m.twoStep = true → Gives (.sync m) s (Exactly
              { b with time := { b.time with syncWait := some (m.seq, b.tb1Fine, m.correction) } }))
            ∧ (m.twoStep = false → Gives (.sync m) s (Exactly
                { b with time := { b.time with syncDiff := some (t1 m.correction - b.tb1Fine), syncWait := none } }))
            ∧ (∀ q t2 corr, b.time.syncWait = some (q, t2, corr) →
                (q = m.seq → Gives (.followUp m) s (Exactly
                  { b with time := { b.time with syncDiff := some (t1 (corr + m.correction) - t2), syncWait := none } }))
                ∧ (q ≠ m.seq → Gives (.followUp m) s (Exactly b)))
            ∧ (∀ q t3, b.time.delayWait = some (q, t3) →
                (q ≠ m.seq → Gives (.delayResp m) s (Exactly b))
                ∧ (q = m.seq → b.time.syncDiff = none → Gives (.delayResp m) s (Exactly
                    { b with time := { b.time with delayWait := none, delayInterval := m.logInterval } }))
                ∧ (∀ d, q = m.seq → b.time.syncDiff = some d → Gives (.delayResp m) s (fun c => c.time.delayWait = none
                    ∧ c.time.syncDiff = none ∧ Served b c 1 ((d + (t1 (-m.correction) - t3)).fdiv 2) ∧ SameBytes b c)))))
    ∧ (b.rd R.TM.PTP_CTRL.ENABLE = 1 ∧ b.rd R.TM.PTP_STATUS.SELECTED = 1 → Gives .delayReqSend s (fun c =>
        let q := (b.time.delaySeq + 1) % 2 ^ 16
        c.time = { b.time with delaySeq := q, delayWait := some (q, b.tb1Fine) }
        ∧ c.out = .port (if b.rd R.TM.PTP_CTRL.TRANSPORT = 1 then "Delay_Req (Annex E)" else "Delay_Req (Annex C)") (beBytes 2 q) :: b.out
        ∧ OnlyRegs [] b c ∧ SameBytes b c))
    ∧ (¬(b.rd R.TM.PTP_CTRL.ENABLE = 1 ∧ b.rd R.TM.PTP_STATUS.SELECTED = 1) → Gives .delayReqSend s (Exactly b))
    ∧ (∀ a : PtpAnn,
        let others := b.time.foreign.filter (fun f => f.ann.source != a.source && b.foreignFresh f)
        let heard := b.rd R.TM.PTP_CTRL.ENABLE = 1 ∧ a.domain = b.rd R.TM.PTP_CTRL.DOMAIN ∧ a.steps < 255
          ∧ (a.ethernet = true ↔ b.rd R.TM.PTP_CTRL.TRANSPORT = 1)
        let prev := (b.time.foreign.find? (fun f => f.ann.source == a.source)).map (·.at_)
        (¬heard → Gives (.ptpAnnounce a) s (Exactly b))
        ∧ (heard → Gives (.ptpAnnounce a) s (fun c => MasterChosen b.qualified c
            ∧ c.time.foreign = (if others.length < 8 then others ++ [{ ann := a, at_ := b.ns 2, prev := prev }] else others)
            ∧ OnlyRegs [R.TM.PTP_STATUS.SELECTED.key, R.TM.PTP_MASTER.IDENTITY.key] b c ∧ SameBytes b c)))
    ∧ (b.rd R.TM.PTP_STATUS.SELECTED = 1 → Gives .announceReceiptTimeout s (fun c => MasterChosen (heardTwice (c.ns 2)) c ∧ SameBytes b c
        ∧ (∀ f, b.time.foreign.find? (fun f => f.ann.source == b.rd R.TM.PTP_MASTER.IDENTITY) = some f →
            f.at_ + b.rd R.TM.PTP_CTRL.ANN_TIMEOUT * f.interval ≤ c.ns 2)
        ∧ (∀ f ∈ c.time.foreign, f ∈ b.time.foreign ∧ f.ann.source ≠ b.rd R.TM.PTP_MASTER.IDENTITY)
        ∧ (∀ f ∈ b.time.foreign, f.ann.source ≠ b.rd R.TM.PTP_MASTER.IDENTITY → c.ns 2 ≤ f.at_ + 4 * f.interval → f ∈ c.time.foreign)
        ∧ OnlyRegs [R.TM.PTP_STATUS.SELECTED.key, R.TM.PTP_MASTER.IDENTITY.key] b c))
    ∧ (b.rd R.TM.PTP_STATUS.SELECTED = 0 → Gives .announceReceiptTimeout s (Exactly b))

/-- R21, R384 to R387, R440: the monitors' samples show in PV's registers and raise its sources by threshold, hysteresis and dwell; a
stretch is counted and reported; each second's summary is written to the buffer that does not hold the newest. -/
def Obligations.MonitorRows : Prop :=
  ∀ (s : State),
    let b := s.body
    (∀ i : Fin 100,
      (isIsland i = true → Gives (.droopStretch i) s (fun c => Field.rises b c (R.PV.MON.STRETCH i) 1 ∧ bit c.sb.stretching i = true
        ∧ (∃ r ∈ c.cont.tree.drop b.cont.tree.length, r.source = iPV * 64 + 4 ∧ r.master = i.val * 64)
        ∧ c.obs.acc.stretches = b.obs.acc.stretches + 1 ∧ SameRegsBut [(R.PV.MON.STRETCH i).key] b c ∧ SameBytes b c))
      ∧ (isIsland i = false → Gives (.droopStretch i) s (Exactly b)))
    ∧ (b.inService iPV = true →
        (∀ temps : List (BitVec 16),
          let read (k : Nat) : Int := signed ((temps[k]?).getD 0).toNat 16
          let above (f : Field) : Prop := ∃ k, k < 302 ∧ ((16 * b.rd f : Nat) : Int) ≤ read k
          let shut := ∃ k, k < 302 ∧ bit b.obs.hot k = true ∧ ((16 * b.rd R.PV.TEMP_CTRL.SHUTDOWN : Nat) : Int) ≤ read k
          Gives (.thermalSample temps) s (fun c => SameBytes b c
            ∧ (∃ k, k < 302 ∧ c.rd R.PV.DIE_TEMP.SENSOR = k ∧ c.rd R.PV.DIE_TEMP.MAX = unsigned (read k) 16
                ∧ ∀ j, j < 302 → read j ≤ read k ∧ (j < k → read j < read k))
            ∧ (∀ nn j, nn < 68 → j < 4 → bits (c.rd (R.PV.TILE_TEMP.SENSORS nn)) (16 * j) 16 = unsigned (read (4 * nn + j)) 16)
            ∧ (c.rd R.PV.STATUS.WARN = 1 ↔ above R.PV.TEMP_CTRL.WARN) ∧ (c.rd R.PV.STATUS.LIMIT = 1 ↔ above R.PV.TEMP_CTRL.LIMIT)
            ∧ (b.obs.warnArmed = true → above R.PV.TEMP_CTRL.WARN → Raised b c (iPV * 64) ∧ c.obs.warnArmed = false)
            ∧ (b.obs.limitArmed = true → above R.PV.TEMP_CTRL.LIMIT → Raised b c (iPV * 64 + 1) ∧ c.obs.limitArmed = false)
            ∧ ((∀ k, k < 302 → read k < ((16 * b.rd R.PV.TEMP_CTRL.WARN : Nat) : Int) - ((16 * b.rd R.PV.TEMP_CTRL.HYST : Nat) : Int)) →
                c.obs.warnArmed = true)
            ∧ (shut → Raised b c (iPV * 64 + 2) ∧ c.sb.thermTrip = true)
            ∧ (¬shut → ¬Raised b c (iPV * 64 + 2) ∧ c.sb.thermTrip = b.sb.thermTrip)))
        ∧ (∀ mv : List (BitVec 16), Gives (.supplySample mv) s (fun c => SameBytes b c
            ∧ (c.rd R.PV.STATUS.SUPPLY = 1 ↔ ∃ i, isIsland i = true ∧ i < 100 ∧ (c.supplyOf i).1 ≠ 0)
            ∧ ∀ e ∈ islands.zipIdx,
                let v := ((mv[e.2]?).getD 0).toNat
                let was := b.supplyOf e.1
                let out := v < b.rd R.PV.VOLT_CTRL.VLOW ∨ b.rd R.PV.VOLT_CTRL.VHIGH < v
                let raises := was.2.2 = true ∧ b.rd R.PV.VOLT_CTRL.DWELL < was.1 + 1
                c.rd (R.PV.MON.SUPPLY e.1) = v
                ∧ (out → raises → c.supplyOf e.1 = (was.1 + 1, 0, false)
                    ∧ ∃ r ∈ c.cont.tree.drop b.cont.tree.length, r.source = iPV * 64 + 3 ∧ r.master = e.1 * 64)
                ∧ (out → ¬raises → c.supplyOf e.1 = (was.1 + 1, 0, was.2.2))
                ∧ (¬out → c.supplyOf e.1 = (0, was.2.1 + 1, was.2.2 || decide (b.rd R.PV.VOLT_CTRL.DWELL ≤ was.2.1 + 1)))))
        ∧ (∀ cycles : List (BitVec 16), Gives (.processSample cycles) s (fun c => SameBytes b c
            ∧ OnlyRegs (islands.map (fun i => (R.PV.MON.PROCESS i).key)) b c
            ∧ ∀ e ∈ islands.zipIdx, c.rd (R.PV.MON.PROCESS e.1) = ((cycles[e.2]?).getD 0).toNat))
        ∧ (∀ cycles : List (Nat × Nat × Nat × Nat),
            let instant := (b.ns 2 / 10 ^ 9 + 1) * 10 ^ 9
            Gives (.secondSummary cycles true) s (fun c => c.ns 2 = instant ∧ c.obs = { b.obs with sumOverrun := true, ran := c.obs.ran }
              ∧ c.rd R.PV.SUM_STATUS.NEWEST = b.rd R.PV.SUM_STATUS.NEWEST ∧ c.out = b.out ∧ SameBytes b c)
            ∧ Gives (.secondSummary cycles false) s (fun c => c.ns 2 = instant ∧ SameBytes b c
                ∧ c.rd R.PV.SUM_STATUS.NEWEST = 1 - b.rd R.PV.SUM_STATUS.NEWEST ∧ Field.holds c R.PV.SUM_STATUS.SEQ b.obs.sumSeq
                ∧ c.obs.sumSeq = (b.obs.sumSeq + 1) % 2 ^ 32 ∧ c.obs.sumOverrun = false ∧ c.obs.acc = SecondAcc.init ∧ c.obs.ran = []
                ∧ ∃ bs, bs.length = 4096 ∧ c.rd (R.PV.SUMMARY.SUMMARY (c.rd R.PV.SUM_STATUS.NEWEST)) = leNat bs
                    ∧ le bs 0 4 = 0x53554D31 ∧ le bs 8 4 = b.place ∧ le bs 12 1 = (if b.obs.sumOverrun = true then 2 else 1)
                    ∧ le bs 4092 4 = crc32 (bs.take 4092)
                    ∧ (∀ i busy stall ran, i < 100 → 0 < ran → b.inService i = true → b.obs.sumOverrun = false → b.obs.ran = [] →
                        cycles = [(i, busy, stall, ran)] →
                        le bs (128 + 2 * i) 2 = min (since (c.rd (R.PV.ISL_BUSY.COUNT i)) (SMap.getD b.obs.busyAt i 0) * 10000 / ran) 10000
                        ∧ le bs (328 + 2 * i) 2 = min (since (c.rd (R.PV.ISL_STALL.COUNT i)) (SMap.getD b.obs.stallAt i 0) * 10000 / ran) 10000)
                    ∧ (b.inService iMG = true → b.rd R.MG.PORT_STATUS.LINK = 1 → ∃ hdr, .mgmt 0x03 (hdr ++ bs) ∈ c.out))))

/-- R24, R391 to R395, R397 to R403: an armed ring freezes and is released; the queue's oldest record is written with the next sequence; a
second ends with the suppressed and the lost; a record is read, and sent, with its status; a clear keeps one record; a dump starts,
completes, and is acknowledged. -/
def Obligations.RecorderRows : Prop :=
  ∀ (s : State),
    let b := s.body
    let base := b.rd R.DB.DUMP_BASE.ADDR * 2 ^ 28
    (∀ i : Fin 100,
      let ripe := isIsland i = true ∧ b.rd (R.DB.RING.ARMED i) = 1 ∧ (b.ring i).left = 0
      (ripe → Gives (.ringFreeze i) s (fun c => c.rd (R.DB.RING.FROZEN i) = 1 ∧ c.rd (R.DB.RING.ARMED i) = 0
        ∧ c.rd R.DB.STATUS.ANY_FROZEN = 1 ∧ Raised b c (iDB * 64) ∧ SameRegsBut [] b c ∧ SameBytes b c))
      ∧ (¬ripe → Gives (.ringFreeze i) s (Exactly b)))
    ∧ (∀ (m : Master) (i : Fin 100) (all : Bool),
        (b.inService iDB = false ∨ (m ≠ .host ∧ m ≠ .mg) → Gives (.ringRelease m i all) s (UpToDb b))
        ∧ (b.inService iDB = true → m = .host ∨ m = .mg → Gives (.ringRelease m i all) s (fun c => SameRegsBut [] b c ∧ SameBytes b c
            ∧ (∀ j, j < 100 → isIsland j = true → (all = true ∨ j = i.val) → c.rd (R.DB.RING.FROZEN j) = 0)
            ∧ (∀ j, j < 100 → isIsland j = true → all = false → j ≠ i.val →
                c.rd (R.DB.RING.FROZEN j) = b.rd (R.DB.RING.FROZEN j)))))
    ∧ (b.obs.evQueue = [] ∨ b.inService iDB = false → Gives .eventRecordWrite s (Exactly b))
    ∧ (∀ r rest, b.inService iDB = true → b.obs.evQueue = r :: rest → Gives .eventRecordWrite s (fun c =>
        let seq := b.rd R.DB.EVR_SEQ_NEXT.VALUE
        c.obs.evQueue = rest ∧ Field.rose b c R.DB.EVR_SEQ_NEXT.VALUE 1 ∧ Field.holds c R.DB.EVR_STATUS.QUEUE rest.length
        ∧ c.obs.evLostFlag = false ∧ SameBytes b c
        ∧ OnlyRegs [R.DB.EVR_SEQ_NEXT.VALUE.key, R.DB.EVR_STATUS.QUEUE.key, R.DB.EVR_SEQ_OLD.VALUE.key] b c
        ∧ ∃ old, c.obs.evLog = (seq, if b.obs.evLostFlag = true then { r with flags := r.flags ||| 2 } else r) :: old
            ∧ old = if b.obs.evLog.length < 1047552 then b.obs.evLog else b.obs.evLog.take (b.obs.evLog.length - 1024)))
    ∧ (256 ≤ b.obs.evQueue.length → Gives .evrSecondBoundary s (fun c => c.obs.evQueue = b.obs.evQueue ∧ c.obs.evCodes = []
        ∧ b.obs.evLostCount ≤ c.obs.evLostCount ∧ (b.obs.evLostCount ≠ 0 → b.obs.evLostCount < c.obs.evLostCount) ∧ SameBytes b c))
    ∧ (b.obs.evQueue.length + b.obs.evCodes.length < 256 → Gives .evrSecondBoundary s (fun c =>
        c.ns 2 % 10 ^ 9 = 0 ∧ c.obs.evCodes = [] ∧ c.obs.evLostCount = 0 ∧ SameBytes b c
        ∧ (∀ e ∈ b.obs.evCodes, e.2.suppressed ≠ 0 → ∃ r ∈ c.obs.evQueue, r.code = 0xA642 ∧ r.source = e.2.source
            ∧ r.count = e.2.suppressed ∧ r.level = e.2.level ∧ r.flags = 1 ∧ r.detail.take 2 = leBytes 2 e.1)
        ∧ (b.obs.evLostCount ≠ 0 → ∃ r, c.obs.evQueue.getLast? = some r ∧ r.code = 0xA641
            ∧ r.detail.take 8 = leBytes 8 b.obs.evLostCount)))
    ∧ (∀ (m : Master) (p : Fin 2) (seq : BitVec 64),
        let mine := m = if p = 0 then Master.host else Master.mg
        (b.inService iDB = false ∨ ¬mine → Gives (.evrRead m p seq) s (UpToDb b))
        ∧ (b.inService iDB = true → mine → Gives (.evrRead m p seq) s (fun c => c.rd (R.DB.EVR_READ_SEQ.SEQ p) = seq.toNat
            ∧ c.rd (R.DB.EVR_READ_STATUS.BUSY p) = 1 ∧ SMap.find c.obs.evReads p = some seq.toNat ∧ SameRegsBut [] b c ∧ SameBytes b c)))
    ∧ (∀ (p : Fin 2) (err : Bool),
        (SMap.find b.obs.evReads p = none → Gives (.evrReadComplete p err) s (Exactly b))
        ∧ (∀ seq, SMap.find b.obs.evReads p = some seq → Gives (.evrReadComplete p err) s (fun c =>
            c.rd (R.DB.EVR_READ_STATUS.BUSY p) = 0 ∧ SMap.find c.obs.evReads p = none ∧ SameRegsBut [] b c ∧ SameBytes b c
            ∧ (err = true → c.rd (R.DB.EVR_READ_STATUS.STATUS p) = 3)
            ∧ (err = false → b.rd R.DB.EVR_SEQ_NEXT.VALUE ≤ seq → c.rd (R.DB.EVR_READ_STATUS.STATUS p) = 2)
            ∧ (err = false → seq < b.rd R.DB.EVR_SEQ_NEXT.VALUE → b.findRecord seq = none → c.rd (R.DB.EVR_READ_STATUS.STATUS p) = 1)
            ∧ (∀ r, err = false → seq < b.rd R.DB.EVR_SEQ_NEXT.VALUE → b.findRecord seq = some r →
                c.rd (R.DB.EVR_READ_STATUS.STATUS p) = 0
                ∧ ∀ k, k < 8 → c.rd (R.DB.EVR_READ_DATA.BYTES p k) = le (r.toBytes seq) (8 * k) 8))))
    ∧ (∀ (seq : BitVec 64) (err : Bool), b.inService iMG = true → b.inService iDB = true → b.rd R.MG.PORT_STATUS.LINK = 1 →
        let present (r : EvRec) : Prop := err = false ∧ seq.toNat < b.rd R.DB.EVR_SEQ_NEXT.VALUE ∧ b.findRecord seq.toNat = some r
        Gives (.eventRecordRead seq err) s (fun c => SameBytes b c ∧ Field.rose b c (R.MG.PORT_CNT.COUNT 1) 1
          ∧ ∃ hdr st pl, c.out.head? = some (.mgmt 0x0B (hdr ++ st :: pl)) ∧ hdr.length = 16 ∧ pl.length = 64
              ∧ (∀ r, present r → st = 0 ∧ pl = r.toBytes seq.toNat) ∧ ((∀ r, ¬present r) → st ≠ 0 ∧ pl = zeros 64)))
    ∧ (∀ m : Master,
        (b.inService iDB = false ∨ (m ≠ .host ∧ m ≠ .mg) → Gives (.evrClear m) s (UpToDb b) ∧ Gives (.dump m) s (UpToDb b)
          ∧ Gives (.dumpAck m) s (UpToDb b))
        ∧ (b.inService iDB = true → m = .host ∨ m = .mg →
            let cmd := b.dataFor iSC (b.rd R.DB.EVR_CLEAR_ADDR.ADDR * 64) 448
            let clears := b.rd R.DB.EVR_STATUS.CLEARS
            let signed_ := ∃ k, b.operatorKey (slice cmd 16 32) = some k ∧ keyVerifies k (slice cmd 0 64) (slice cmd 64 384) = true
            let formed := signed_ ∧ le cmd 0 4 = 0x43454C43 ∧ le cmd 4 2 = 0x0100
            let free := b.rd R.SC.CMD.BUSY = 0 ∧ b.inService iSC = true
            let meant := le cmd 8 4 = b.place ∧ le cmd 12 4 = clears
            let kept (r : Nat) : Prop := Gives (.evrClear m) s (fun c => c.rd R.DB.EVR_CLEAR_CTRL.RESULT = r ∧ c.obs.evLog = b.obs.evLog
              ∧ c.rd R.DB.EVR_STATUS.CLEARS = clears ∧ SameBytes b c)
            (¬free → kept 5) ∧ (free → ¬formed → kept 2) ∧ (free → formed → ¬meant → kept 3)
            ∧ (free → formed → meant → b.rd R.DB.EVR_STATUS.HISTORY_FULL = 1 → kept 4)
            ∧ (free → formed → meant → b.rd R.DB.EVR_STATUS.HISTORY_FULL = 0 → Gives (.evrClear m) s (fun c =>
                let seq := (b.rd R.DB.EVR_SEQ_NEXT.VALUE + b.obs.evQueue.length) % 2 ^ 64
                c.rd R.DB.EVR_CLEAR_CTRL.RESULT = 1 ∧ c.obs.evQueue = [] ∧ Field.holds c R.DB.EVR_STATUS.CLEARS (clears + 1)
                ∧ c.rd R.DB.EVR_SEQ_OLD.VALUE = seq ∧ Field.holds c R.DB.EVR_SEQ_NEXT.VALUE (seq + 1) ∧ SameBytes b c
                ∧ ∃ r, c.obs.evLog = [(seq, r)] ∧ c.obs.evClears = (seq, r) :: b.obs.evClears ∧ r.code = 0x8640
                    ∧ slice r.detail 8 16 = slice cmd 16 16))
            ∧ (b.obs.dump ≠ none ∨ b.rd R.DB.DUMP_STATUS.HELD = 1 → Gives (.dump m) s (fun c =>
                Field.rises b c R.DB.DUMP_STATUS.SKIPPED 1 ∧ c.obs.dump = b.obs.dump ∧ SameRegsBut [] b c ∧ SameBytes b c))
            ∧ (b.obs.dump = none → b.rd R.DB.DUMP_STATUS.HELD = 0 → Gives (.dump m) s (fun c => c.rd R.DB.DUMP_STATUS.STATE = 1
                ∧ c.obs.dumpSeq = b.obs.dumpSeq + 1 ∧ SameRegsBut [] b c
                ∧ (b.harbourUp = true → b.lostIn (base + 4092) 4 = false → c.leAt (base + 4092) 4 = 0)
                ∧ (∃ stamp, c.obs.dump = some (if m = .mg then 1 else 0, stamp, b.sb.closed &&& allIslands))
                ∧ ∀ a, Apart a 1 (base + 4092) 4 → c.byte a = b.byte a))
            ∧ Gives (.dumpAck m) s (fun c => c.rd R.DB.DUMP_STATUS.HELD = 0 ∧ SameRegsBut [] b c ∧ SameBytes b c)))
    ∧ (b.obs.dump = none ∨ b.inService iDB = false → ∀ r : Result, Gives (.dumpComplete r) s (Exactly b))
    ∧ (∀ cause start mask, b.inService iDB = true → b.obs.dump = some (cause, start, mask) →
        (∀ r : Result, b.harbourUp = false ∨ r = .fail → Gives (.dumpComplete r) s (fun c => c.rd R.DB.DUMP_STATUS.STATE = 3
          ∧ c.obs.dump = none ∧ Raised b c (iDB * 64 + 1) ∧ SameBytes b c))
        ∧ (b.harbourUp = true → memWf b.mem = true → b.lostIn base (2 ^ 28) = false → base + 2 ^ 28 ≤ lpddrEnd → Gives (.dumpComplete .pass) s (fun c =>
            c.rd R.DB.DUMP_STATUS.STATE = 2 ∧ c.rd R.DB.DUMP_STATUS.HELD = 1 ∧ Field.holds c R.DB.DUMP_STATUS.CAUSE cause
            ∧ c.obs.dump = none ∧ c.leAt base 4 = 0x504D5544 ∧ c.leAt (base + 4092) 4 = 0x4B504D44
            ∧ (∀ i ∈ islands, c.bytes (base + 0x200000 + 0x4000 * i) 0x4000 = slice (ringBytes (b.ring i)) 0 0x4000
                ∧ (b.inService i = false → c.bytes (base + 0x600000 + 0x10000 * i) 0x10000 = List.replicate 0x10000 0xFF))
            ∧ (∀ nn, nn < 68 → b.inService (iT nn) = true → c.bytes (base + 0x1000000 + 0x100000 * nn) 0xE0000
                = b.bytes (sramBase nn + 0x110000) 0xE0000)
            ∧ ∀ a, Apart a 1 base (2 ^ 28) → c.byte a = b.byte a)))
    ∧ (b.hangDumps = false → Gives .dumpTimeout s (Exactly b))
    ∧ (∀ stamp mask, b.obs.dump = some (2, stamp, mask) → Gives .dumpTimeout s (fun c => b.obs.dumpAt + 5000000 ≤ c.ns 2
        ∧ c.obs.dump = none ∧ c.rd R.DB.DUMP_STATUS.STATE = 3 ∧ c.sb.module = b.sb.module
        ∧ (b.sb.phase ≠ 5 → c.sb.phase = b.sb.phase ∧ SameBytes b c)
        ∧ (b.sb.phase = 5 → c.sb.phase = (if b.sb.perst then 6 else 7) ∧ (∀ i, c.inService i = (isIsland i && decide (i < 2)))
            ∧ c.job = .init ∧ c.rd R.SB.STATUS.READY = 0 ∧ ∀ a, c.byte a = if a < lpddrEnd then b.byte a else 0)))

namespace Sys2Proof.Machine

/-! ## Terms of the statements about power and reset -/

/-- The module is in the course of step 5, 6 or 7 of the ladder, with what that has ended (R419). -/
def Ordered (c : Body) (step phase : Nat) : Prop :=
  (∃ t, c.sb.module = some (step, t)) ∧ c.sb.phase = phase ∧ (∀ x, c.sb.waiting = some x → x.1 = 7) ∧ c.sb.steps = [] ∧ c.rd R.SB.STATUS.LADDER = step

/-- No module-level step of the ladder runs. -/
def noModuleStep (b : Body) : Prop := b.sb.module = none

/-- The slot straps were read as 0 to 3 from samples that agreed (R458): the place's slot bits show them, VAON is good and VAUX is
requested. -/
def StrapsTaken (c : Body) (z0 z1 : Fin 9) : Prop :=
  let slot := (if z0 = 0 then 1 else 0) + (if z1 = 0 then 2 else 0)
  c.sb.straps = slot ∧ c.sb.strapsOk = true ∧ c.sb.phase = 2 ∧ bits c.place 8 2 = slot
  ∧ c.rd R.SB.RAIL_STATUS.GOOD = 1 ∧ c.rd R.SB.RAIL_STATUS.REQ = 3 ∧ .pin "VAUX_EN" true ∈ c.out

/-- What R405 requests once a rail is good: the next rail with its pin, and the domains that go on. -/
def afterRail : Rail → Option (Nat × String) × List Nat
  | .vaon => (none, [])
  | .vaux => (none, [7])
  | .vcore => (some (3, "VDRAM1_EN"), [2, 3, 4, 5, 6])
  | .vdram1 => (some (4, "VDRAM2_EN"), [])
  | .vdram2 => (some (5, "VDRAMQ_EN"), [])
  | .vdramq => (some (6, "VOPT_EN"), (List.range 8).map (100 + ·) ++ (List.range 8).map (16 + ·) ++ (List.range 4).map (10 + ·))
  | .vopt => (none, (List.range 16).map (108 + ·) ++ (List.range 8).map (24 + ·) ++ [8, 9] ++ (List.range 68).map (32 + ·))

/-- A frame of the lane with a right CRC and the type (R409). -/
def laneGood (f : BitVec 32) (type : Nat) : Prop := crc8 (beBytes 3 (f.toNat / 256)) = f.toNat % 256 ∧ f.toNat / 2 ^ 28 = type

/-- A frame that SB discards: a wrong CRC or a type that no up frame has. -/
def laneBad (f : BitVec 32) : Prop :=
  crc8 (beBytes 3 (f.toNat / 256)) ≠ f.toNat % 256 ∨ f.toNat / 2 ^ 28 < 8 ∨ 11 < f.toNat / 2 ^ 28

/-- The outstanding frame is settled: the next that waits goes out, if one does (R411); VAUX goes after the OFF frame (R406). -/
def LaneMovesOn (b c : Body) : Prop :=
  match b.sb.laneNext with
  | [] => c.sb.lane = none ∧ c.sb.laneNext = [] ∧ (b.sb.phase ≠ 10 → c.sb.phase = b.sb.phase)
      ∧ (b.sb.phase = 10 → c.sb.phase = 4 ∧ c.rd R.SB.RAIL_STATUS.GOOD = 1 ∧ c.rd R.SB.RAIL_STATUS.REQ = 1 ∧ .pin "VAUX_EN" false ∈ c.out)
  | (t, p) :: rest => c.sb.lane = some ⟨t, p, b.sb.laneSeq, 1⟩ ∧ c.sb.laneNext = rest ∧ .lane (laneFrame t b.sb.laneSeq p) ∈ c.out

/-- The outstanding frame `l` is carried out over PMBus (R411). -/
def FellBack (b c : Body) (l : LaneFrame) : Prop :=
  Raised b c (iSB * 64 + 5) ∧ Field.rises b c R.SB.RRQ_STATUS.FALLBACKS 1 ∧ LaneMovesOn b c ∧ SameBytes b c
  ∧ (if l.type = 3 then .pmbus (b.rd R.SB.PMBUS_STATUS.ADDR) 0x21 l.payload else .pmbus (b.rd R.SB.PMBUS_STATUS.ADDR) 0x01 0) ∈ c.out

end Sys2Proof.Machine

/-- R404 to R406, R408, R423, R454, R458: power-up reads the straps and requests the rails in order, each when the one before it is
good; a rail that does not come, a fall of PWR_EN or the loss of a power-good takes the rails off, and with them everything but always-on state
and what the flash holds.  That the power-good of VAON at a module that is off stands for its reapplication, which leaves only what the
flash holds, is the model's choice (log 95). -/
def Obligations.RailRows : Prop :=
  ∀ (s : State),
    let b := s.body
    (∀ (z0 z1 : Fin 9) (flash : Option FlashContent),
      let agree := (z0 = 0 ∨ z0 = 8) ∧ (z1 = 0 ∨ z1 = 8)
      let rests := b.sb.pwrEn = false ∧ (b.sb.phase = 0 ∨ b.sb.phase = 4)
      (¬rests → Gives (.powerUp z0 z1 flash) s (Exactly b))
      ∧ (rests → Gives (.powerUp z0 z1 flash) s (fun c => c.sb.pwrEn = true ∧ c.sb.thermTrip = false ∧ c.sb.module = none
          ∧ (∀ i, c.inService i = (isIsland i && decide (i < 2))) ∧ c.rd R.SB.DOMAIN_ON.ON = 1 ∧ c.rd R.SB.RESET_CAUSE.CAUSE = 0
          ∧ (agree → StrapsTaken c z0 z1) ∧ (¬agree → c.sb.phase = 1 ∧ c.sb.strapsOk = false) ∧ SameBytes b c
          ∧ (∀ f, flash = some f → c.sec.flash = f
            ∧ (∀ k, k < 16 → Field.holds c (R.SC.ROLLBACK.VALUE k) (max (b.rollback k) ((f.counters[k]?).getD 0)))
            ∧ ∀ k, k < 4 → c.rd (R.SB.FW_SLOT.ACTIVE k) = b2n (bit f.active k)
                ∧ c.rd (R.SB.FW_SLOT.STAGED k) = b2n (c.verifiable k (flashImage f k (1 - b2n (bit f.active k)))))
          ∧ (flash = none → c.sec = b.sec)))
      ∧ (b.sb.phase = 1 → b.sb.strapsOk = false → Gives (.strapResample z0 z1) s (fun c => b.ns 2 + 10000000 ≤ c.ns 2
          ∧ (agree → StrapsTaken c z0 z1) ∧ (¬agree → c.sb.phase = 1 ∧ c.sb.strapsOk = false) ∧ SameBytes b c))
      ∧ (b.sb.phase ≠ 1 ∨ b.sb.strapsOk = true → Gives (.strapResample z0 z1) s (Exactly b)))
    ∧ (∀ (r : Rail) (rev14 : Bool) (txn : Result),
        let n := railNo r
        let up := GoodEdge.rises rev14 txn
        let awaited := b.sb.phase = 2 ∧ bit (b.rd R.SB.RAIL_STATUS.REQ) n = true ∧ bit (b.rd R.SB.RAIL_STATUS.GOOD) n = false
        let off := b.sb.phase = 0 ∨ b.sb.phase = 4
        (¬awaited → Gives (.railTimeout r) s (Exactly b))
        ∧ (r ≠ .vaon → ¬awaited → Gives (.powerGood r up) s (Exactly b))
        ∧ (r = .vaon → ¬off → Gives (.powerGood r up) s (Exactly b))
        ∧ (∀ cmd, cmd = Instr.powerGood .vaon .falls ∨ (off ∧ cmd = .powerGood .vaon up) → Gives cmd s (fun c => (∀ a, c.byte a = 0) ∧ c.sec.flash = b.sec.flash
            ∧ c.obs.evLog = b.obs.evLog ∧ c.time = Body.reset.time ∧ c.sb = Body.reset.sb
            ∧ (∀ k, flashMask k = 0 → c.reg k = resetOf k) ∧ ∀ k, c.reg k &&& flashMask k = b.reg k &&& flashMask k))
        ∧ (r ≠ .vaon → awaited → Gives (.powerGood r up) s (fun c => bit (c.rd R.SB.RAIL_STATUS.GOOD) n = true
            ∧ (∀ m name, (afterRail r).1 = some (m, name) → bit (c.rd R.SB.RAIL_STATUS.REQ) m = true ∧ .pin name true ∈ c.out)
            ∧ (∀ d ∈ (afterRail r).2, bit (c.rd R.SB.DOMAIN_ON.ON) d = true)
            ∧ (r = .vaux → rev14 = true → bit (c.rd R.SB.RAIL_STATUS.REQ) 2 = true
              ∧ (∀ blk, b.powerBlock = some blk → Field.holds c R.SB.VCORE.TARGET (le blk 18 2) ∧ Field.holds c R.SB.PMBUS_STATUS.ADDR (le blk 17 1))
              ∧ (b.powerBlock = none → c.rd R.SB.VCORE.TARGET = b.rd R.SB.VCORE.TARGET ∧ c.rd R.SB.PMBUS_STATUS.ADDR = b.rd R.SB.PMBUS_STATUS.ADDR)
              ∧ (∀ x ∈ [(0x21, c.rd R.SB.VCORE.TARGET), (0x24, 850), (0x27, 1), (0x4A, 2400), (0x46, 3000), (0x01, 1)],
                  .pmbus (c.rd R.SB.PMBUS_STATUS.ADDR) x.1 x.2 ∈ c.out)
              ∧ (txn = .fail → Raised b c (iSB * 64 + 4) ∧ Field.rises b c R.SB.PMBUS_STATUS.ERRORS 1))
            ∧ (r = .vaux → rev14 = false → Raised b c (iSB * 64 + 4) ∧ bit (c.rd R.SB.RAIL_STATUS.REQ) 2 = bit (b.rd R.SB.RAIL_STATUS.REQ) 2)
            ∧ (r = .vopt → c.sb.phase = 7)))
        ∧ (awaited → (∀ x, b.sb.module = some x → x.1 ≠ 7) → Gives (.railTimeout r) s (fun c => Ordered c 7 9
            ∧ c.rd R.SB.RAIL_STATUS.FAILED = n ∧ b.sb.railAt + 10000000 ≤ c.ns 2 ∧ Field.rises b c R.SB.COUNTS.COLD_RESETS 1)))
    ∧ (b.sb.pwrEn = false → Gives .pwrEnFall s (Exactly b))
    ∧ (b.sb.pwrEn = true → (∀ x, b.sb.module = some x → x.1 ≠ 7) →
        (b.sb.phase = 4 → Gives .pwrEnFall s (fun c => c.sb = { b.sb with pwrEn := false } ∧ c.obs.dump = none ∧ OnlyRegs [] b c
          ∧ SameBytes b c))
        ∧ (b.sb.phase ≠ 4 → Gives .pwrEnFall s (fun c => Ordered c 7 9 ∧ c.sb.pwrEn = false ∧ c.obs.dump = none
            ∧ Field.rises b c R.SB.COUNTS.COLD_RESETS 1)))
    ∧ (∀ (r : Rail) (cmd : Instr), r ≠ .vaon → cmd = .powerGood r .falls ∨ (r = .vcore ∧ cmd = .powerGoodLoss) →
        let n := railNo r
        (bit (b.rd R.SB.RAIL_STATUS.GOOD) n = false → Gives cmd s (Exactly b))
        ∧ (bit (b.rd R.SB.RAIL_STATUS.GOOD) n = true → (∀ x, b.sb.module = some x → x.1 ≠ 7) → Gives cmd s (fun c => Ordered c 7 9
            ∧ c.rd R.SB.RESET_CAUSE.CAUSE = 10 ∧ bit (c.rd R.SB.RAIL_STATUS.GOOD) n = false))
        ∧ (bit (b.rd R.SB.RAIL_STATUS.GOOD) n = true → (∃ t, b.sb.module = some (7, t)) → Gives cmd s (fun c => c.sb = b.sb ∧ SameBytes b c
            ∧ bit (c.rd R.SB.RAIL_STATUS.GOOD) n = false ∧ OnlyRegs [R.SB.RAIL_STATUS.GOOD.key] b c)))
    ∧ (∀ t, b.sb.module = some (7, t) → b.sb.phase = 9 → Gives .railOff s (fun c =>
        c.sb.phase = 10 ∧ (∀ i, c.inService i = (isIsland i && decide (i < 2))) ∧ c.rd R.SB.DOMAIN_ON.ON = 1
        ∧ c.rd R.SB.RAIL_STATUS.GOOD = 3 ∧ c.rd R.SB.RAIL_STATUS.REQ = 3 ∧ c.rd R.SB.STATUS.READY = 0
        ∧ (b.sb.lane = none → c.sb.lane = some ⟨4, 0, b.sb.laneSeq, 1⟩ ∧ c.sb.laneNext = b.sb.laneNext ∧ .lane (laneFrame 4 b.sb.laneSeq 0) ∈ c.out)
        ∧ (b.sb.lane ≠ none → c.sb.lane = b.sb.lane ∧ c.sb.laneNext = b.sb.laneNext ++ [(4, 0)])
        ∧ (∀ a, c.byte a = 0) ∧ c.obs.evLog = b.obs.evLog ∧ c.time = b.time ∧ c.sec = b.sec
        ∧ .pin "VOPT_EN" false ∈ c.out ∧ .pmbus (b.rd R.SB.PMBUS_STATUS.ADDR) 0x01 0 ∈ c.out
        ∧ (∀ k, 0x10000 ≤ k → domainOf k ≠ .always → c.reg k &&& flashMask k = b.reg k &&& flashMask k)
        ∧ ∀ k, 0x10000 ≤ k → domainOf k ≠ .always → flashMask k = 0 → c.reg k = resetOf k))
    ∧ (∀ src, b.sb.waiting = some (7, src) → (∀ x, b.sb.module = some x → x.1 ≠ 7) → Gives .railOff s (fun c =>
        c.sb.phase = 10 ∧ (∃ t, c.sb.module = some (7, t)) ∧ Field.rises b c R.SB.COUNTS.COLD_RESETS 1 ∧ ∀ a, c.byte a = 0))
    ∧ (b.sb.phase ≠ 9 → b.sb.waiting = none → Gives .railOff s (Exactly b))

/-- R407, R409 to R413: VCORE's target is written and sent over the lane; frames are acknowledged, refused, sent again, and carried out
over PMBus after the third; telemetry and alerts arrive; forecasts and heartbeats are sent; the stage is polled over PMBus. -/
def Obligations.LaneRows : Prop :=
  ∀ (s : State),
    let b := s.body
    (∀ (m : Master) (mv : BitVec 10),
      let refused := m = .tile ∨ b.rd R.SB.LOCK.LOCK = 1 ∨ mv.toNat < 600 ∨ 850 < mv.toNat ∨ b.jobRuns = true
      (refused → Gives (.target m mv) s (UpToDb b))
      ∧ (¬refused → Gives (.target m mv) s (fun c => c.rd R.SB.VCORE.TARGET = mv.toNat ∧ SameRegsBut [R.SB.VCORE.TARGET.key] b c
          ∧ SameBytes b c
          ∧ (b.sb.lane = none → c.sb.lane = some ⟨3, mv.toNat, b.sb.laneSeq, 1⟩ ∧ c.sb.laneSeq = (b.sb.laneSeq + 1) % 16
              ∧ c.out = .lane (laneFrame 3 b.sb.laneSeq mv.toNat) :: b.out)
          ∧ (b.sb.lane ≠ none → c.sb.lane = b.sb.lane ∧ c.sb.laneNext = b.sb.laneNext ++ [(3, mv.toNat)] ∧ c.out = b.out))))
    ∧ (∀ f : BitVec 32,
        (laneBad f → ∀ cmd ∈ [Instr.ackFrame f, .nackFrame f, .telemetry f, .alert f], Gives cmd s (fun c =>
          Field.rises b c R.SB.RRQ_STATUS.UP_ERRORS 1 ∧ OnlyRegs [R.SB.RRQ_STATUS.UP_ERRORS.key] b c ∧ c.sb = b.sb ∧ c.out = b.out))
        ∧ (∀ l, b.sb.lane = some l → l.seq = bits f.toNat 8 16 % 16 →
            (laneGood f 8 → Gives (.ackFrame f) s (fun c => LaneMovesOn b c
              ∧ OnlyRegs (if b.sb.phase = 10 then [R.SB.RAIL_STATUS.GOOD.key] else []) b c ∧ SameBytes b c))
            ∧ (laneGood f 9 → Gives (.nackFrame f) s (fun c => FellBack b c l)))
        ∧ ((∀ l, b.sb.lane = some l → l.seq ≠ bits f.toNat 8 16 % 16) →
            (laneGood f 8 → Gives (.ackFrame f) s (Exactly b)) ∧ (laneGood f 9 → Gives (.nackFrame f) s (Exactly b)))
        ∧ (laneGood f 10 → Gives (.telemetry f) s (fun c => c.rd R.SB.VCORE.IOUT = bits f.toNat 8 12
            ∧ OnlyRegs [R.SB.VCORE.IOUT.key] b c ∧ SameBytes b c))
        ∧ (laneGood f 11 → Gives (.alert f) s (fun c => c.rd R.SB.RRQ_STATUS.ALERT = bits f.toNat 8 5 ∧ Raised b c (iSB * 64 + 4)
            ∧ SameRegsBut [R.SB.RRQ_STATUS.ALERT.key] b c ∧ SameBytes b c)))
    ∧ (b.sb.lane = none → Gives .ackTimeout s (Exactly b))
    ∧ (∀ l, b.sb.lane = some l →
        (l.sends < 3 → Gives .ackTimeout s (fun c => c.sb.lane = some { l with sends := l.sends + 1 }
          ∧ Field.rises b c R.SB.RRQ_STATUS.RESENDS 1 ∧ c.out = .lane (laneFrame l.type l.seq l.payload) :: b.out ∧ SameBytes b c))
        ∧ (3 ≤ l.sends → Gives .ackTimeout s (fun c => FellBack b c l)))
    ∧ Gives .heartbeatFrame s (fun c => b.sb.lastDown + 50000 ≤ c.ns 2 ∧ c.sb.lastDown = c.ns 2
        ∧ c.out = .lane (laneFrame 1 b.sb.laneSeq 0) :: b.out ∧ OnlyRegs [] b c ∧ SameBytes b c)
    ∧ (let amps (watts : Nat) : Nat := ceilDiv ((10 * watts - 135) * 100) (b.rd R.SB.VCORE.TARGET) % 2 ^ 12
       (b.jobRuns = false → Gives .forecast s (fun c => c.out = .lane (laneFrame 2 b.sb.laneSeq (amps 400)) :: b.out ∧ c.time = b.time
          ∧ OnlyRegs [] b c ∧ SameBytes b c))
       ∧ (b.jobRuns = true → Gives .forecast s (fun c => OnlyRegs [] b c ∧ SameBytes b c
            ∧ ∃ w, b.ns 0 + 5700 ≤ b.job.departAt + 10000 * w ∧ b.job.departAt + 10000 * w ≤ c.ns 0 + 5700
                ∧ c.out = .lane (laneFrame 2 b.sb.laneSeq (amps (b.plannedPower w))) :: b.out)))
    ∧ (let a := b.rd R.SB.PMBUS_STATUS.ADDR
       (∀ word : BitVec 16, Gives (.smbalert (some word)) s (fun c => c.rd R.SB.PMBUS_STATUS.STATUS_WORD = word.toNat
          ∧ Raised b c (iSB * 64 + 4)
          ∧ c.out = .pmbus a 0x03 0 :: ((statusBytes word.toNat).reverse.map (fun x => .pmbus a x 0)) ++ .pmbus a 0x79 0 :: b.out
          ∧ SameRegsBut [R.SB.PMBUS_STATUS.STATUS_WORD.key] b c ∧ SameBytes b c))
       ∧ Gives (.smbalert none) s (fun c => Field.rises b c R.SB.PMBUS_STATUS.ERRORS 1 ∧ Raised b c (iSB * 64 + 4)
          ∧ SameRegsBut [R.SB.PMBUS_STATUS.ERRORS.key] b c ∧ SameBytes b c))
    ∧ (∀ (word : BitVec 16) (mv : BitVec 10),
        Gives (.pmbusPoll .pass word mv) s (fun c => c.rd R.SB.PMBUS_STATUS.STATUS_WORD = word.toNat ∧ c.rd R.SB.VCORE.READ_MV = mv.toNat
          ∧ OnlyRegs [R.SB.PMBUS_STATUS.STATUS_WORD.key, R.SB.VCORE.READ_MV.key] b c ∧ SameBytes b c)
        ∧ Gives (.pmbusPoll .fail word mv) s (fun c => Field.rises b c R.SB.PMBUS_STATUS.ERRORS 1 ∧ Raised b c (iSB * 64 + 4)
            ∧ SameRegsBut [R.SB.PMBUS_STATUS.ERRORS.key] b c ∧ SameBytes b c))

namespace Sys2Proof.Machine

/-- A module full reset has been ordered with its cause, or merged into one that runs, or ignored (R419, R421, R422);
that one ordered before the rails are up is ignored is the model's choice (log 117). -/
def FullOrdered (b c : Body) (cause : Nat) : Prop :=
  (noModuleStep b → b.mayReset = true → Ordered c 5 5 ∧ c.sb.waiting = b.keepSeven ∧ c.rd R.SB.RESET_CAUSE.CAUSE = cause
      ∧ Field.rises b c R.SB.COUNTS.FULL_RESETS 1)
  ∧ (noModuleStep b → b.mayReset = false → Field.rises b c R.SB.LADDER_COUNTS.IGNORED 1 ∧ c.sb.module = none ∧ c.sb.phase = b.sb.phase)
  ∧ (∀ t, b.sb.module = some (5, t) → Field.rises b c R.SB.LADDER_COUNTS.MERGED 1 ∧ c.sb.module = b.sb.module ∧ c.sb.phase = b.sb.phase)
  ∧ (∀ k t, b.sb.module = some (k, t) → k ≠ 5 → Field.rises b c R.SB.LADDER_COUNTS.IGNORED 1 ∧ c.sb.module = b.sb.module
      ∧ c.sb.phase = b.sb.phase)

/-- Step `step` runs on island i, whose straits are closed (R418). -/
def StepRuns (c : Body) (i step : Nat) : Prop := (∃ t, ⟨i, step, t⟩ ∈ c.sb.steps) ∧ c.inService i = false

/-- The module restarts (R421): every domain is on and boot has run. -/
def Restarted (c : Body) : Prop := c.sb.phase = 7 ∧ ∀ d, isDomain d = true → bit (c.rd R.SB.DOMAIN_ON.ON) d = true

end Sys2Proof.Machine

/-- R24, R414, R415, R417 to R420: MG and CT order an island's reset and power cycle, which merge, yield or supersede one another, and
switch domains; an island that reports in service ends its step; a step that takes too long escalates to the next. -/
def Obligations.IslandStepRows : Prop :=
  ∀ (s : State),
    let b := s.body
    let ctl := R.SB.ISL_CTRL.DOMAIN.key
    (∀ (m : Master) (i : Fin 100),
      let may := m = .mg ∨ m = .ct
      let laddered := 2 ≤ i.val ∧ isIsland i = true
      (¬may → Gives (.islandReset m i) s (UpToDb b) ∧ Gives (.islandPowerCycle m i) s (UpToDb b))
      ∧ (may → ¬laddered → Gives (.islandReset m i) s (fun c => SameRegsBut [ctl] b c ∧ SameBytes b c ∧ c.sb.steps = b.sb.steps)
          ∧ Gives (.islandPowerCycle m i) s (fun c => SameRegsBut [ctl] b c ∧ SameBytes b c ∧ c.sb.steps = b.sb.steps))
      ∧ (may → laddered → noModuleStep b →
          let mine := b.sb.steps.find? (fun l => l.island == i.val)
          (mine = none → Gives (.islandReset m i) s (fun c => StepRuns c i 3 ∧ Field.rises b c R.SB.COUNTS.ISL_RESETS 1
              ∧ (i.val < 10 → ∀ k, k / 0x10000 = i.val → domainOf k = .island → keepMask k = 0 → c.reg k = resetOf k))
            ∧ Gives (.islandPowerCycle m i) s (fun c => StepRuns c i 4 ∧ Field.rises b c R.SB.COUNTS.POWER_CYCLES 1
              ∧ (32 ≤ i.val → ∀ a, sramBase (i.val - 32) ≤ a → a < sramBase (i.val - 32) + sramSize → c.byte a = 0)))
          ∧ (∀ l, mine = some l → l.step = 3 → Gives (.islandReset m i) s (fun c => Field.rises b c R.SB.LADDER_COUNTS.MERGED 1
                ∧ c.sb.steps = b.sb.steps)
              ∧ Gives (.islandPowerCycle m i) s (fun c => Field.rises b c R.SB.LADDER_COUNTS.ABANDONED 1 ∧ StepRuns c i 4
                ∧ ∀ x ∈ c.sb.steps, x.island = i.val → x.step = 4))
          ∧ (∀ l, mine = some l → l.step = 4 → Gives (.islandReset m i) s (fun c => Field.rises b c R.SB.LADDER_COUNTS.IGNORED 1
                ∧ c.sb.steps = b.sb.steps)
              ∧ Gives (.islandPowerCycle m i) s (fun c => Field.rises b c R.SB.LADDER_COUNTS.MERGED 1 ∧ c.sb.steps = b.sb.steps)))
      ∧ (may → laddered → ¬noModuleStep b → Gives (.islandReset m i) s (fun c => Field.rises b c R.SB.LADDER_COUNTS.IGNORED 1
            ∧ c.sb.steps = b.sb.steps)
          ∧ Gives (.islandPowerCycle m i) s (fun c => Field.rises b c R.SB.LADDER_COUNTS.IGNORED 1 ∧ c.sb.steps = b.sb.steps)))
    ∧ (∀ (m : Master) (d : BitVec 7),
        let may := m = .mg ∨ m = .ct
        let dom := d.toNat
        (¬may → Gives (.domainOff m d) s (UpToDb b) ∧ Gives (.domainOn m d) s (UpToDb b))
        ∧ (dom = 0 ∨ dom = 7 → b.offRefused dom = true)
        ∧ (may → b.offRefused dom = true → Gives (.domainOff m d) s (fun c => SameRegsBut [ctl] b c ∧ SameBytes b c))
        ∧ (may → b.offRefused dom = false → Gives (.domainOff m d) s (fun c => bit (c.rd R.SB.DOMAIN_ON.ON) dom = false
            ∧ (∀ e, e ≠ dom → bit (c.rd R.SB.DOMAIN_ON.ON) e = bit (b.rd R.SB.DOMAIN_ON.ON) e)
            ∧ (dom < 100 → c.inService dom = false ∧ ∀ l ∈ c.sb.steps, l.island ≠ dom)
            ∧ (100 ≤ dom → dom < 108 → c.rd (R.M.STATUS.STATE (dom - 100)) = 0)))
        ∧ (may → isDomain dom = false → Gives (.domainOn m d) s (fun c => SameRegsBut [ctl] b c ∧ SameBytes b c))
        ∧ (may → isDomain dom = true → Gives (.domainOn m d) s (fun c => bit (c.rd R.SB.DOMAIN_ON.ON) dom = true
            ∧ (∀ e, e ≠ dom → bit (c.rd R.SB.DOMAIN_ON.ON) e = bit (b.rd R.SB.DOMAIN_ON.ON) e) ∧ SameBytes b c)))
    ∧ (∀ i : Fin 100,
        (b.mayServe i = false → Gives (.islandInService i) s (Exactly b))
        ∧ (b.mayServe i = true → Gives (.islandInService i) s (fun c => c.inService i = true ∧ (∀ l ∈ c.sb.steps, l.island ≠ i.val)
            ∧ (∀ j, j ≠ i.val → c.inService j = b.inService j) ∧ SameBytes b c))
        ∧ (b.sb.steps.find? (fun l => l.island == i.val && l.step == 3) = none → Gives (.islandResetTimeout i) s (Exactly b))
        ∧ (∀ l, b.sb.steps.find? (fun l => l.island == i.val && l.step == 3) = some l →
            Gives (.islandResetTimeout i) s (fun c => l.began + 50000 ≤ c.ns 2 ∧ Raised b c (iSB * 64)
              ∧ Field.rises b c R.SB.ESCALATE_STATUS.COUNT 1
              ∧ (i.val < 32 → StepRuns c i 4)
              ∧ (32 ≤ i.val → StepRuns c i 4 ∨ (i.val - 32 ∈ c.sb.heldTiles ∧ b.logicalOf (i.val - 32) ≠ none))
              ∧ (b.rd R.SB.ESCALATE_STATUS.VALID = 0 → c.rd R.SB.ESCALATE_STATUS.FROM = 3 ∧ c.rd R.SB.ESCALATE_STATUS.TO = 4
                  ∧ c.rd R.SB.ESCALATE_STATUS.ISLAND = i)))
        ∧ (b.sb.steps.find? (fun l => l.island == i.val && l.step == 4) = none → Gives (.powerCycleTimeout i) s (Exactly b))
        ∧ (∀ l, b.sb.steps.find? (fun l => l.island == i.val && l.step == 4) = some l →
            Gives (.powerCycleTimeout i) s (fun c => l.began + 2000000 ≤ c.ns 2 ∧ Raised b c (iSB * 64 + 1) ∧ FullOrdered b c 7
              ∧ Field.rises b c R.SB.ESCALATE_STATUS.COUNT 1)))

/-- R417, R419, R421 to R423, R436: who orders a module full reset; the reset itself, which keeps LPDDR, the capture and the ledger, and
waits for PERST#; the escalations to a cold reset and to rails off; the cold reset; and readiness. -/
def Obligations.ModuleResetRows : Prop :=
  ∀ (s : State),
    let b := s.body
    (∀ (m : Master) (key : BitVec 16),
      (b.inService iHI = false → Gives (.moduleReset m key) s (UpToDb b))
      ∧ (b.inService iHI = true → key ≠ 0xF107 → Gives (.moduleReset m key) s (fun c => SameRegsBut [R.HI.MODULE_RESET.KEY.key] b c
          ∧ SameBytes b c ∧ c.sb.module = b.sb.module))
      ∧ (b.inService iHI = true → key = 0xF107 → Gives (.moduleReset m key) s (fun c => FullOrdered b c 1)))
    ∧ Gives .hotReset s (fun c => FullOrdered b c 3) ∧ Gives .secondaryBusReset s (fun c => FullOrdered b c 4)
    ∧ Gives .perstAssert s (fun c => FullOrdered b c 2 ∧ c.sb.perst = true ∧ c.rd R.SB.STATUS.PERST = 1)
    ∧ Gives .perstDeassert s (fun c => c.sb.perst = false ∧ c.rd R.SB.STATUS.PERST = 0
        ∧ (∀ t, b.sb.module = some (5, t) → c.sb.module = some (5, b.ns 2) ∧ (b.sb.phase = 6 → Restarted c)
            ∧ (b.sb.phase ≠ 6 → c.sb.phase = b.sb.phase)))
    ∧ (∀ t, b.sb.module = some (5, t) →
        (b.sb.phase = 5 → b.hangDumps = false → Gives .moduleFullReset s (fun c =>
          (b.obs.dump ≠ none → c.rd R.DB.DUMP_STATUS.STATE = 3) ∧ c.obs.dump = none ∧ (b.sb.perst = false → Restarted c) ∧ (b.sb.perst = true → c.sb.phase = 6)
          ∧ (∀ i, c.inService i = (isIsland i && decide (i < 2))) ∧ c.sb.module = b.sb.module
          ∧ (∀ a, c.byte a = if a < lpddrEnd then b.byte a else 0) ∧ c.time = b.time ∧ c.cont.cap.map (·.rep) = b.cont.cap.map (·.rep)
          ∧ c.cont.fsrs = b.cont.fsrs ∧ c.disp.ledger = b.disp.ledger ∧ c.obs.evLog = b.obs.evLog ∧ c.job = .init
          ∧ c.hi.pci = .init ∧ c.rd R.SB.STATUS.READY = 0))
        ∧ (b.sb.phase ≠ 5 ∨ b.hangDumps = true → Gives .moduleFullReset s (Exactly b)))
    ∧ (∀ src, noModuleStep b → b.mayReset = false → b.sb.phase ≠ 5 → b.sb.waiting = some (6, src) → Gives .moduleFullReset s (fun c =>
        Field.rises b c R.SB.LADDER_COUNTS.IGNORED 1 ∧ c.sb.waiting = none ∧ c.sb.module = none ∧ SameBytes b c))
    ∧ (∀ src, noModuleStep b → b.mayReset = true → b.sb.waiting = some (6, src) → Gives .moduleFullReset s (fun c =>
        c.rd R.SB.RESET_CAUSE.CAUSE = (if src = 3 then 6 else 5) ∧ Field.rises b c R.SB.COUNTS.FULL_RESETS 1
        ∧ ∃ t, c.sb.module = some (5, t)))
    ∧ (∀ t, b.sb.module = some (5, t) → b.sb.perst = false → Gives .fullResetTimeout s (fun c => t + 250000000 ≤ c.ns 2 ∧ Ordered c 6 8
        ∧ Raised b c (iSB * 64 + 2) ∧ c.rd R.SB.RESET_CAUSE.CAUSE = 8 ∧ Field.rises b c R.SB.COUNTS.COLD_RESETS 1
        ∧ Field.rises b c R.SB.ESCALATE_STATUS.COUNT 1))
    ∧ (b.sb.perst = true ∨ (∀ t, b.sb.module ≠ some (5, t)) → Gives .fullResetTimeout s (Exactly b))
    ∧ (∀ t, b.sb.module = some (6, t) → Gives .coldResetTimeout s (fun c => t + 500000000 ≤ c.ns 2 ∧ Ordered c 7 9
        ∧ Field.rises b c R.SB.ESCALATE_STATUS.COUNT 1))
    ∧ ((∀ t, b.sb.module ≠ some (6, t)) → Gives .coldResetTimeout s (Exactly b))
    ∧ (b.sb.phase ≠ 8 → Gives .moduleColdReset s (Exactly b))
    ∧ (b.sb.phase = 8 → Gives .moduleColdReset s (fun c => c.sb.phase = 2 ∧ c.sb.module = b.sb.module
        ∧ (∀ i, c.inService i = (isIsland i && decide (i < 2))) ∧ (∀ a, c.byte a = 0) ∧ c.time = b.time
        ∧ c.rd R.SB.STATUS.READY = 0 ∧ c.rd R.SB.DOMAIN_ON.ON = 1 ∧ .pin "VAUX_EN" true ∈ c.out
        ∧ ∀ k, 0x10000 ≤ k → domainOf k ≠ .always → flashMask k = 0 → k ≠ R.MG.DSP_PLACE.PLACE.key → c.reg k = resetOf k))
    ∧ (b.mayBeReady = false → Gives .readiness s (Exactly b))
    ∧ (b.mayBeReady = true → Gives .readiness s (fun c => c.rd R.HI.STATUS.READY = 1 ∧ c.rd R.SB.STATUS.READY = 1
        ∧ c.sb.module = none ∧ c.sb.phase = 3 ∧ bit (c.rd R.HI.IRQ_CAUSE.CAUSE) 0 = true ∧ SameBytes b c))

/-- R23, R31, R221, R224, R432 to R434, R437, R439: the aperture reads and writes LPDDR only, through J0 or J2, with poisoned data where a
unit is lost, and a request waits behind those before it and for its sub-channels; the configuration header shows the module's
identifiers; the two links go up and down with their sources; MG answers ARP and ICMP echo for its own address.  What a read completes
with where a closed island lies on its way is free (log 3). -/
def Obligations.HostRows : Prop :=
  ∀ (s : State),
    let b := s.body
    let hiStatus := R.HI.STATUS.READY.key
    (∀ (off : BitVec 36) (n : BitVec 13),
      let a := b.rd R.HI.APERTURE.BASE * 2 ^ 30 + off.toNat
      let len := n.toNat
      let inside := a < lpddrEnd ∧ a + len ≤ lpddrEnd
      let waits := b.hi.waiting ≠ [] ∨ (b.bar2Reach a len = true ∧ b.memWaits a len = true)
      (b.bar2Reach a len = true → (b.inService (iJ 0) = true ∨ b.inService (iJ 2) = true) ∧ b.reachable a len = true)
      ∧ (b.inService iHI = false → Gives (.bar2Read off n) s (Exactly b))
      ∧ (b.inService iHI = true →
          (¬inside → Gives (.bar2Read off n) s (fun c => c.out = .completion [] false true :: b.out ∧ SameRegsBut [] b c ∧ SameBytes b c))
          ∧ (inside → waits → Gives (.bar2Read off n) s (Exactly { b with hi := { b.hi with
              waiting := b.hi.waiting ++ [{ addr := a, n := len, data := none }] } }))
          ∧ (inside → ¬waits → b.bar2Reach a len = true → b.anyLost a len = false →
              Gives (.bar2Read off n) s (Exactly ((b.activateRange a len).emit (.completion (b.bytes a len) false false))))
          ∧ (inside → ¬waits → b.bar2Reach a len = true → b.anyLost a len = true → Gives (.bar2Read off n) s (fun c =>
              c.out = .completion (List.replicate len 0xFF) true false :: b.out ∧ SameRegsBut [] b c ∧ SameBytes b c
              ∧ ∃ k, k < 8 ∧ Raised b c (iM k * 64 + 2)))
          ∧ (inside → ¬waits → b.bar2Reach a len = false → Gives (.bar2Read off n) s (fun c => SameBytes b c ∧ OnlyRegs [] b c
              ∧ ∃ bs poisoned, bs.length = len ∧ c.out = .completion bs poisoned false :: b.out))))
    ∧ (∀ (off : BitVec 36) (data : Bytes),
        let a := b.rd R.HI.APERTURE.BASE * 2 ^ 30 + off.toNat
        let inside := a < lpddrEnd ∧ a + data.length ≤ lpddrEnd
        let taken (y : Nat) : Prop := b.isLost y = false ∨ (a ≤ unitOf y ∧ unitOf y + 32 ≤ a + data.length)
        let reaches (y : Nat) : Prop := taken y ∨ b.copyOnly y = true
        let waits := b.hi.waiting ≠ [] ∨ (b.bar2Reach a data.length = true ∧ b.memWaits a data.length = true)
        (b.inService iHI = false → Gives (.bar2Write off data) s (Exactly b))
        ∧ (b.inService iHI = true →
            (¬inside → Gives (.bar2Write off data) s (fun c => bit c.hi.pci.aerUncorrectable 20 = true
              ∧ UpToDb { b with hi := { b.hi with pci := c.hi.pci } } c))
            ∧ (inside → waits → Gives (.bar2Write off data) s (Exactly { b with hi := { b.hi with
                waiting := b.hi.waiting ++ [{ addr := a, n := data.length, data := some data }] } }))
            ∧ (inside → ¬waits → b.bar2Reach a data.length = false → Gives (.bar2Write off data) s (Exactly b))
            ∧ (inside → ¬waits → b.bar2Reach a data.length = true → Gives (.bar2Write off data) s (fun c =>
                SameRegsBut [(R.SN.HALF.VALID 0).key, (R.SN.HALF.VALID 1).key, (R.SN.BUDDY_HALF.VALID 0).key, (R.SN.BUDDY_HALF.VALID 1).key] b c
                ∧ c.out = b.out
                ∧ (∀ h, h < 2 → let base := b.halfBase 0 h
                    (a < base + 4096 ∧ base < a + data.length →
                      (c.rd (R.SN.HALF.VALID h) = 1 ↔ c.leAt (base + 4092) 4 = validMark)
                      ∧ (c.leAt (base + 4092) 4 = validMark → Field.holds c (R.SN.HALF.STEP h) (c.leAt (base + 8) 8)))
                    ∧ (¬(a < base + 4096 ∧ base < a + data.length) → c.rd (R.SN.HALF.VALID h) = b.rd (R.SN.HALF.VALID h)
                      ∧ c.rd (R.SN.HALF.STEP h) = b.rd (R.SN.HALF.STEP h)))
                ∧ (∀ i x, data[i]? = some x → (reaches (a + i) → c.byte (a + i) = x)
                    ∧ (¬reaches (a + i) → c.byte (a + i) = b.byte (a + i)))
                ∧ (∀ y, Apart y 1 a data.length → c.byte y = b.byte y)
                ∧ (∀ i, i < data.length → taken (a + i) → c.isLost (a + i) = false)
                ∧ ((∃ i, i < data.length ∧ ¬taken (a + i)) → ∃ k, k < 8 ∧ Raised b c (iM k * 64 + 2))))))
    ∧ (let p := PciSpace.init
       p.header.device = 0xF107 ∧ p.header.revision = 0xB0 ∧ p.header.classCode = 0x120000 ∧ p.header.subsystem = 0x0001
        ∧ p.header.subsystemVendor = p.header.vendor ∧ p.bars.map (fun r => (r.number, r.size, r.prefetchable)) = [(0, 2 ^ 23, false), (2, 2 ^ 36, true)]
        ∧ p.flr = false ∧ p.payloadLimit = 512 ∧ p.readRequestLimit = 4096 ∧ p.resetTime = 100
        ∧ p.capabilities = [.powerManagement, .pciExpress, .msix, .advancedErrorReporting, .deviceSerialNumber, .dataLinkFeature,
            .physicalLayer16, .physicalLayer32, .physicalLayer64, .laneMargining, .readinessTimeReporting])
    ∧ (∀ (lanes : BitVec 4) (speed : BitVec 3) (flit : Bool), Gives (.pciExpressLinkUp lanes speed flit) s (fun c =>
        c.hi = { b.hi with linkUp := true } ∧ c.rd R.HI.STATUS.WIDTH = lanes.toNat ∧ c.rd R.HI.STATUS.SPEED = speed.toNat
        ∧ c.rd R.HI.STATUS.FLIT = b2n flit ∧ OnlyRegs [hiStatus] b c ∧ SameBytes b c))
    ∧ (b.hi.linkUp = false → Gives .pcieLinkDown s (Exactly b))
    ∧ (b.hi.linkUp = true → Gives .pcieLinkDown s (fun c => c.hi = { b.hi with linkUp := false } ∧ c.rd R.HI.STATUS.WIDTH = 0
        ∧ Raised b c (iHI * 64 + 2) ∧ SameRegsBut [hiStatus] b c ∧ SameBytes b c ∧ c.job = b.job))
    ∧ (∀ uncorrectable : Bool, Gives (.pciExpressError uncorrectable) s (fun c => Raised b c (iHI * 64 + b2n uncorrectable)
        ∧ SameRegsBut [] b c ∧ SameBytes b c))
    ∧ (b.inService iMG = false ∨ b.rd R.MG.PORT_STATUS.LINK = 0 → Gives .managementPortLinkDown s (Exactly b))
    ∧ (b.inService iMG = true → b.rd R.MG.PORT_STATUS.LINK = 1 → Gives .managementPortLinkDown s (fun c =>
        c.rd R.MG.PORT_STATUS.LINK = 0 ∧ c.rd R.MG.PORT_STATUS.FEC = 0 ∧ Raised b c (iMG * 64 + 1)
        ∧ SameRegsBut [R.MG.PORT_STATUS.LINK.key] b c ∧ SameBytes b c))
    ∧ (∀ fec : Bool,
        (b.inService iMG = false → Gives (.managementPortLinkUp fec) s (Exactly b))
        ∧ (b.inService iMG = true → Gives (.managementPortLinkUp fec) s (fun c => c.rd R.MG.PORT_STATUS.LINK = 1
            ∧ c.rd R.MG.PORT_STATUS.FEC = b2n fec ∧ OnlyRegs [R.MG.PORT_STATUS.LINK.key] b c ∧ SameBytes b c)))
    ∧ (∀ (target sender : BitVec 32) (mac : BitVec 48) (data : Bytes),
        let up := b.inService iMG = true ∧ b.rd R.MG.PORT_STATUS.LINK = 1
        let own := b.rd R.MG.PORT_STATUS.CONFIGURED = 1 ∧ target.toNat = b.rd R.MG.PORT_IPV4.ADDR
        let answered (kind : String) (body : Bytes) (c : Body) : Prop := Field.rose b c (R.MG.PORT_CNT.COUNT 1) 1
          ∧ (own → c.out = .port kind body :: b.out ∧ Field.rose b c (R.MG.PORT_CNT.COUNT 0) 1) ∧ (¬own → c.out = b.out)
          ∧ OnlyRegs [(R.MG.PORT_CNT.COUNT 0).key, (R.MG.PORT_CNT.COUNT 1).key] b c ∧ SameBytes b c
        (¬up → Gives (.arpRequest target mac sender) s (Exactly b) ∧ Gives (.icmpEchoRequest target sender data) s (Exactly b))
        ∧ (up → Gives (.arpRequest target mac sender) s (answered "ARP" (beBytes 6 (b.rd R.MG.PORT_ADDR.MAC)
              ++ beBytes 4 (b.rd R.MG.PORT_IPV4.ADDR) ++ beBytes 6 mac.toNat ++ beBytes 4 sender.toNat))
            ∧ Gives (.icmpEchoRequest target sender data) s (answered "ICMP" (beBytes 4 sender.toNat ++ data))))

/-- R424 to R428, R443, R445: an image is staged once SC has verified it; switches take effect at once while no job runs, and are
cancelled; the MG watchdog reverts a fresh switch and else raises its source; calibration is reloaded; a counter rises 60 s after its
image became active. -/
def Obligations.LiveUpdateRows : Prop :=
  ∀ (s : State),
    let b := s.body
    let slotKey (k : Nat) : Nat := (R.SB.FW_SLOT.ACTIVE k).key
    (∀ (m : Master) (addr : BitVec 42) (kind : Fin 4) (err : Bool),
      let may := m = .host ∨ m = .mg
      let cmd := Instr.fwStage m addr kind err
      let img := b.dataFor iSC (addr.toNat * 64) (512 + le (b.dataFor iSC (addr.toNat * 64) 20) 16 4)
      let good := addr.toNat * 64 + img.length ≤ lpddrEnd ∧ imageSigned b.sec.flash.rootKey img kind = true
      let fresh := b.rollback kind ≤ le img 8 4
      let slot := 1 - b.rd (R.SB.FW_SLOT.ACTIVE kind)
      let ends (status : Nat) (c : Body) : Prop := c.rd (R.SB.FW_SLOT.STAGE_STATUS kind) = status
        ∧ c.rd (R.SB.FW_SLOT.ACTIVE kind) = b.rd (R.SB.FW_SLOT.ACTIVE kind) ∧ SameBytes b c
      (¬may → Gives cmd s (UpToDb b))
      ∧ (may → b.rd (R.SB.FW_SLOT.PENDING kind) = 1 → Gives cmd s (fun c => c.sec = b.sec ∧ SameRegsBut [R.SB.FW_STAGE.ADDR.key] b c ∧ SameBytes b c))
      ∧ (may → b.rd (R.SB.FW_SLOT.PENDING kind) = 0 →
          (b.inService iSC = false → Gives cmd s (fun c => ends 5 c ∧ c.sec = b.sec))
          ∧ (b.inService iSC = true → ¬good → Gives cmd s (fun c => ends 2 c ∧ c.sec = b.sec ∧ Raised b c (iSC * 64)))
          ∧ (b.inService iSC = true → good → ¬fresh → Gives cmd s (fun c => ends 3 c ∧ c.sec = b.sec ∧ Raised b c (iSC * 64 + 1)))
          ∧ (b.inService iSC = true → good → fresh → err = true → Gives cmd s (fun c => ends 4 c ∧ c.sec = b.sec
              ∧ c.rd (R.SB.FW_SLOT.STAGED kind) = 0 ∧ Raised b c (iSC * 64 + 2)))
          ∧ (b.inService iSC = true → good → fresh → err = false → Gives cmd s (fun c => ends 1 c ∧ c.rd (R.SB.FW_SLOT.STAGED kind) = 1
              ∧ flashImage c.sec.flash kind slot = img
              ∧ ∀ k x, k < 4 → x < 2 → (k ≠ kind.val ∨ x ≠ slot) → flashImage c.sec.flash k x = flashImage b.sec.flash k x))))
    ∧ (∀ (m : Master) (kinds : BitVec 4) (n : BitVec 64),
        let may := m = .host ∨ m = .mg
        let staged := ∀ k, k < 4 → bit kinds.toNat k = true → b.rd (R.SB.FW_SLOT.STAGED k) = 1
        let late := b.jobRuns = true ∧ n.toNat < b.period + 2
        let asked := [R.SB.FW_SWITCH.KINDS.key]
        (¬may → Gives (.fwSwitch m kinds n) s (UpToDb b) ∧ Gives (.fwSwitchCancel m) s (UpToDb b))
        ∧ (may → ¬staged ∨ late → Gives (.fwSwitch m kinds n) s (fun c => SameRegsBut asked b c ∧ c.sb.fwPending = b.sb.fwPending
            ∧ c.sec = b.sec ∧ SameBytes b c))
        ∧ (may → staged → ¬late → b.jobRuns = true → Gives (.fwSwitch m kinds n) s (fun c => c.sec = b.sec ∧ SameBytes b c
            ∧ c.sb.fwPending = b.sb.fwPending ||| kinds.toNat
            ∧ (∀ k, k < 4 → SMap.getD c.sb.fwPeriod k 0 = if bit kinds.toNat k then n.toNat else SMap.getD b.sb.fwPeriod k 0)
            ∧ ∀ k, k < 4 → c.rd (R.SB.FW_SLOT.ACTIVE k) = b.rd (R.SB.FW_SLOT.ACTIVE k)
                ∧ c.rd (R.SB.FW_SLOT.PENDING k) = if bit kinds.toNat k then 1 else b.rd (R.SB.FW_SLOT.PENDING k)))
        ∧ (may → staged → b.jobRuns = false → b.sb.fwPending = 0 → Gives (.fwSwitch m kinds n) s (fun c => c.sb.fwPending = 0
            ∧ SameBytes b c ∧ ∀ k, k < 4 →
              (bit kinds.toNat k = true → c.rd (R.SB.FW_SLOT.ACTIVE k) = 1 - b.rd (R.SB.FW_SLOT.ACTIVE k)
                ∧ c.rd (R.SB.FW_SLOT.PENDING k) = 0 ∧ c.rd (R.SB.FW_SLOT.REVERTED k) = 0
                ∧ c.rd (R.SB.FW_SLOT.VERSION k) = le (flashImage b.sec.flash k (1 - b.rd (R.SB.FW_SLOT.ACTIVE k))) 12 4)
              ∧ (bit kinds.toNat k = false → c.reg (slotKey k) = b.reg (slotKey k))))
        ∧ (may → Gives (.fwSwitchCancel m) s (fun c => c.sb.fwPending = 0 ∧ SameBytes b c ∧ c.sec = b.sec
            ∧ SameRegsBut [slotKey 0, slotKey 1, slotKey 2, slotKey 3] b c
            ∧ ∀ k, k < 4 → c.rd (R.SB.FW_SLOT.PENDING k) = 0 ∧ c.rd (R.SB.FW_SLOT.ACTIVE k) = b.rd (R.SB.FW_SLOT.ACTIVE k))))
    ∧ Gives (.kick .mg) s (fun c => c.sb.kickAt = b.ns 2 ∧ c.sb.mgSwitch = none ∧ SameRegsBut [] b c ∧ SameBytes b c)
    ∧ (∀ m : Master, m ≠ .mg → Gives (.kick m) s (UpToDb b))
    ∧ (b.inService iMG = false → Gives .watchdogExpiry s (Exactly b))
    ∧ (b.inService iMG = true →
        let due := b.sb.kickAt + b.rd R.SB.WDOG.TIMEOUT * 10 ^ 6
        (∀ old, b.sb.mgSwitch = some (old, false) → Gives .watchdogExpiry s (fun c => due ≤ c.ns 2 ∧ c.sb.mgSwitch = some (old, true)
          ∧ Field.holds c (R.SB.FW_SLOT.ACTIVE 0) old ∧ c.rd (R.SB.FW_SLOT.REVERTED 0) = 1 ∧ c.cont = b.cont ∧ SameBytes b c))
        ∧ ((∀ old, b.sb.mgSwitch ≠ some (old, false)) → Gives .watchdogExpiry s (fun c => due ≤ c.ns 2 ∧ Raised b c (iSB * 64 + 3)
            ∧ SameRegsBut [] b c ∧ SameBytes b c)))
    ∧ (∀ (m : Master) (addr : BitVec 42) (verified : Bool) (serial : BitVec 64),
        let may := m = .host ∨ m = .mg
        let cmd := Instr.calReload m addr verified serial
        let good := verified = true ∧ b.rollback 7 ≤ serial.toNat
        (¬may → Gives cmd s (UpToDb b))
        ∧ (may → verified = false → Gives cmd s (fun c => c.rd R.SB.CAL_RELOAD.RESULT = 2 ∧ Raised b c (iSC * 64) ∧ c.sec = b.sec ∧ SameBytes b c))
        ∧ (may → verified = true → ¬good → Gives cmd s (fun c => c.rd R.SB.CAL_RELOAD.RESULT = 2 ∧ Raised b c (iSC * 64 + 1)
            ∧ c.sec = b.sec ∧ SameBytes b c))
        ∧ (may → good → Gives cmd s (fun c => c.rd R.SB.CAL_RELOAD.RESULT = (if b.jobRuns then 3 else 1) ∧ c.sb.calPending = b.jobRuns
            ∧ c.rd (R.SC.ROLLBACK.VALUE 7) = serial.toNat ∧ c.sec.flash.calSerial = serial.toNat ∧ SameBytes b c)))
    ∧ (∀ kind : Fin 5,
        let reverted := kind.val < 4 ∧ b.rd (R.SB.FW_SLOT.REVERTED kind) = 1
        (SMap.find b.sec.runSince kind = none ∨ reverted → Gives (.rollbackCounterRaise kind) s (Exactly b))
        ∧ (∀ t, SMap.find b.sec.runSince kind = some t → ¬reverted → Gives (.rollbackCounterRaise kind) s (fun c =>
            t + 60 * 10 ^ 9 ≤ c.ns 2 ∧ OnlyRegs [(R.SC.ROLLBACK.VALUE kind).key] b c ∧ SameBytes b c
            ∧ c.rd (R.SC.ROLLBACK.VALUE kind) = max (b.rollback kind)
                (le (flashImage b.sec.flash kind (flashActive b.sec.flash kind)) 8 4))))

namespace Sys2Proof.Machine

/-! ## Terms of the statement about security -/

/-- The command reaches SC (R442): over the port with MG and SC in service, or by a write of `SC.CMD` that SC honours. -/
def Submitted (b : Body) (src : ScSource) : Prop :=
  match src with
  | .port bs => b.inService iMG = true ∧ b.inService iSC = true ∧ bs.length = 512
  | .reg m _ => b.inService iSC = true ∧ (m = .host ∨ m = .mg)

/-- The result goes to where the command came from, with cause bit 12 (R435, R440, R442). -/
def Told (b c : Body) (src : ScSource) (r : Nat) : Prop :=
  (b.inService iHI = true → bit (c.rd R.HI.IRQ_CAUSE.CAUSE) 12 = true)
  ∧ match src with
    | .port bs => b.rd R.MG.PORT_STATUS.LINK = 1 → ∃ hdr, hdr.length = 16
        ∧ .mgmt 0x05 (hdr ++ leBytes 8 (le bs 20 8) ++ leBytes 1 r) ∈ c.out
    | .reg _ a => c.rd R.SC.CMD.RESULT = r ∧ c.rd R.SC.CMD.ADDR = a.toNat

/-- A command that is turned away changes nothing beyond its result; a refused step of TB0 shows in `TM.RELOCK` (R374). -/
def TurnedAway (b c : Body) (src : ScSource) (r : Nat) : Prop :=
  Told b c src r ∧ c.sec = b.sec ∧ c.disp = b.disp ∧ c.job = b.job ∧ c.time = b.time ∧ c.sb.module = b.sb.module ∧ SameBytes b c
  ∧ SameRegsBut [R.SC.CMD.RESULT.key, R.HI.IRQ_CAUSE.CAUSE.key, (R.MG.PORT_CNT.COUNT 0).key, (R.MG.PORT_CNT.COUNT 1).key, R.TM.RELOCK.BASE.key] b c

/-- Checks 1 to 5 of R442 on the command's bytes, in their order: the code of the first that fails, or 0. -/
def checksTo5 (b : Body) (c : Bytes) : Nat :=
  if ¬(le c 0 4 = 0x434D4453 ∧ le c 4 2 = 0x0100) then 1
  else if ¬(le c 8 8 = b.deviceSerial ∧ (le c 16 4 = b.place ∨ le c 16 4 = 0)) then 2
  else match b.anyKey (slice c 28 32) with
    | none => 3
    | some k => if keyVerifies k (slice c 0 128) (slice c 128 384) = false then 4 else if le c 20 8 ≤ b.rollback 8 then 5 else 0

/-- The body is valid for its type and the module's state (check 6 of R442). -/
def bodyValid (b : Body) (c : Bytes) (type : Nat) : Prop :=
  if type = 1 then bits (le c 64 4) 8 2 = b.sb.straps ∧ le c 64 4 % 256 = 0 ∧ le c 64 4 / 2 ^ 10 ≠ 0
  else if type = 2 then le c 64 1 < 2 ∧ le c 65 1 < 2 ∧ ¬(le c 64 1 = 0 ∧ le c 65 1 = 1 ∧ b.jobRuns = true)
  else if type = 4 then (le c 64 1 = 1 ∨ le c 64 1 = 2) ∧ b.onRoster = true ∧ b.canSign = true
  else if type = 5 then b.requestOk c = true
  else True

end Sys2Proof.Machine

/-- R286, R300, R308, R374, R442, R445: a signed command passes six checks in order, or is answered with the first that fails; an
accepted one raises counter 8 and then assigns the place, relocks a base, orders a cold reset, casts a vote, or proposes a slice. -/
def Obligations.SignedCommandRows : Prop :=
  ∀ (s : State) (src : ScSource),
    let b := s.body
    let cmd := b.scBytes src 512
    (∀ x ∈ [(1, Instr.assignPlaceAddress src), (2, .timeRelock src), (3, .coldResetCommand src), (4, .operatorVoteOrder src),
        (5, .sliceRequest src)],
      (∀ bs, src = .port bs → b.inService iMG = true → bs.length ≠ 512 → Gives x.2 s (Exactly b.portDrop))
      ∧ (¬Submitted b src → (∀ bs, src = .port bs → b.inService iMG = true → bs.length = 512) → Gives x.2 s (UpToDb b))
      ∧ (Submitted b src → le cmd 6 1 = 0 ∨ 5 < le cmd 6 1 → b.rd R.SC.CMD.BUSY = 0 →
          Gives x.2 s (fun c => TurnedAway b c src (if checksTo5 b cmd = 0 then 6 else checksTo5 b cmd)))
      ∧ (Submitted b src → le cmd 6 1 = x.1 →
          (b.rd R.SC.CMD.BUSY = 1 → Gives x.2 s (fun c => TurnedAway b c src 7))
          ∧ (b.rd R.SC.CMD.BUSY = 0 → checksTo5 b cmd ≠ 0 → Gives x.2 s (fun c => TurnedAway b c src (checksTo5 b cmd)
              ∧ (checksTo5 b cmd = 4 → Raised b c (iSC * 64)) ∧ (checksTo5 b cmd = 5 → Raised b c (iSC * 64 + 1))))
          ∧ (b.rd R.SC.CMD.BUSY = 0 → checksTo5 b cmd = 0 → ¬bodyValid b cmd x.1 → Gives x.2 s (fun c => TurnedAway b c src 6))
          ∧ (b.rd R.SC.CMD.BUSY = 0 → checksTo5 b cmd = 0 → bodyValid b cmd x.1 → Gives x.2 s (fun c => Told b c src 0
              ∧ c.rd (R.SC.ROLLBACK.VALUE 8) = le cmd 20 8))))
    ∧ (Submitted b src → b.rd R.SC.CMD.BUSY = 0 → checksTo5 b cmd = 0 →
        (le cmd 6 1 = 1 → bodyValid b cmd 1 → Gives (.assignPlaceAddress src) s (fun c => c.place = le cmd 64 4 ∧ SameBytes b c))
        ∧ (le cmd 6 1 = 2 → bodyValid b cmd 2 → Gives (.timeRelock src) s (fun c => c.relock (le cmd 64 1) = some (le cmd 65 1)
            ∧ c.rd R.TM.RELOCK.BASE = le cmd 64 1 ∧ c.rd R.TM.RELOCK.MODE = le cmd 65 1 ∧ c.rd R.TM.RELOCK.DONE = 0
            ∧ c.rd (R.TM.TB_STATUS.REFUSED (le cmd 64 1)) = 0 ∧ SameBytes b c))
        ∧ (le cmd 6 1 = 2 → le cmd 64 1 = 0 → le cmd 65 1 = 1 → b.jobRuns = true → Gives (.timeRelock src) s (fun c =>
            TurnedAway b c src 6 ∧ c.rd R.TM.RELOCK.REFUSED = 1 ∧ c.rd R.TM.RELOCK.DONE = 0))
        ∧ (le cmd 6 1 = 3 → noModuleStep b → Gives (.coldResetCommand src) s (fun c => Ordered c 6 8 ∧ c.rd R.SB.RESET_CAUSE.CAUSE = 9
            ∧ Field.rises b c R.SB.COUNTS.COLD_RESETS 1))
        ∧ (le cmd 6 1 = 4 → bodyValid b cmd 4 →
            (b.disp.cast.filter (fun c => decide (b.ns 2 < c.2.2 + b.voteWindow))).any
              (fun c => c.1 == le cmd 64 1 && c.2.1 == le cmd 65 4) = false →
            Gives (.operatorVoteOrder src) s (fun c => (le cmd 64 1, le cmd 65 4, b.ns 2) ∈ c.disp.cast))
        ∧ (le cmd 6 1 = 5 → bodyValid b cmd 5 → Gives (.sliceRequest src) s (fun c => ∃ r ∈ c.disp.proposals, r.type = 1
            ∧ r.tag = b.newTag.1 ∧ r.epoch = b.newTag.2 ∧ r.grant = le cmd 96 2 ∧ r.body.take 24 = slice cmd 64 24)))

/-- R435, R440, R446, R447, R450: a trust list and a configuration block are staged into the copy not in use once their form, signature
and serial hold; a report of 1,536 bytes answers an attestation request. -/
def Obligations.StagingAndAttestationRows : Prop :=
  ∀ (s : State),
    let b := s.body
    (∀ (m : Master) (addr : BitVec 42),
      let may := b.inService iSC = true ∧ (m = .host ∨ m = .mg)
      let ends (c : Body) (r : Nat) : Prop := c.rd R.SC.UPDATE.RESULT = r ∧ c.rd R.SC.UPDATE.ADDR = addr.toNat ∧ SameBytes b c
      let kept (c : Body) (r : Nat) : Prop := ends c r ∧ c.sec = b.sec ∧ SameRegsBut [R.SC.UPDATE.RESULT.key] b c
      let cases_ (cmd : Instr) (n counter : Nat) (formed signedOk : Bool) (serial : Nat) (good : Body → Prop) : Prop :=
        let inside := addr.toNat * 64 + n ≤ lpddrEnd ∧ formed = true
        (¬may → Gives cmd s (UpToDb b))
        ∧ (may → b.rd R.SC.UPDATE.BUSY = 1 → Gives cmd s (fun c => kept c 5))
        ∧ (may → b.rd R.SC.UPDATE.BUSY = 0 →
            (¬inside → Gives cmd s (fun c => kept c 4))
            ∧ (inside → signedOk = false → Gives cmd s (fun c => kept c 2 ∧ Raised b c (iSC * 64)))
            ∧ (inside → signedOk = true → serial < b.rollback counter → Gives cmd s (fun c => kept c 3 ∧ Raised b c (iSC * 64 + 1)))
            ∧ (inside → signedOk = true → b.rollback counter ≤ serial → Gives cmd s (fun c => ends c 1
                ∧ c.rd (R.SC.ROLLBACK.VALUE counter) = serial ∧ good c)))
      let list := b.dataFor iSC (addr.toNat * 64) 6848
      let blk := b.dataFor iSC (addr.toNat * 64) 4096
      cases_ (.trustListStage m addr) 6848 6 (trustWf list) (trustSigned (b.sec.flash.rootKey :: b.keysOf 1) list) (le list 8 4)
        (fun c => c.sec = { b.sec with flash :=
          if b.sec.trust = 1 then { b.sec.flash with trustB := list } else { b.sec.flash with trustA := list } })
      ∧ cases_ (.configurationBlockStage m addr) 4096 5 (configWf blk) (b.configSigned blk) (le blk 8 4)
        (fun c => c.sec = { b.sec with flash :=
          if (b.rd R.SC.STATUS.CONFIG) = 1 then { b.sec.flash with configB := blk } else { b.sec.flash with configA := blk } }))
    ∧ (∀ nonce : Bytes,
        let reached := b.inService iMG = true ∧ b.inService iSC = true ∧ nonce.length = 32
        (b.inService iMG = true → nonce.length ≠ 32 → Gives (.attestationRequest (.port nonce)) s (Exactly b.portDrop))
        ∧ (b.inService iMG = false ∨ (b.inService iSC = false ∧ nonce.length = 32) → Gives (.attestationRequest (.port nonce)) s (Exactly b))
        ∧ (reached → b.rd R.SC.STATUS.IDENTITY = 0 → Gives (.attestationRequest (.port nonce)) s (fun c => c.out = b.out
            ∧ OnlyRegs [(R.MG.PORT_CNT.COUNT 1).key] b c ∧ SameBytes b c))
        ∧ (reached → b.rd R.SC.STATUS.IDENTITY = 1 → b.rd R.MG.PORT_STATUS.LINK = 1 → Gives (.attestationRequest (.port nonce)) s (fun c =>
            SameBytes b c ∧ (b.inService iHI = true → bit (c.rd R.HI.IRQ_CAUSE.CAUSE) 13 = true)
            ∧ ∃ hdr report, .mgmt 0x07 (hdr ++ report) ∈ c.out ∧ hdr.length = 16 ∧ report.length = 1536 ∧ le report 0 4 = 0x54545441
                ∧ le report 8 4 = b.place ∧ slice report 36 32 = slice nonce 0 32
                ∧ slice report 704 384 = (Config.identitySign (report.take 704)).toList)))
    ∧ (∀ (m : Master) (a : BitVec 42),
        let cmd := Instr.attestationRequest (.reg m a)
        let may := b.inService iSC = true ∧ (m = .host ∨ m = .mg)
        let turned (r : Nat) : Prop := Gives cmd s (fun c => c.rd R.SC.ATTEST.RESULT = r ∧ SameBytes b c
          ∧ SameRegsBut [R.SC.ATTEST.RESULT.key] b c)
        (¬may → Gives cmd s (UpToDb b))
        ∧ (may → b.rd R.SC.ATTEST.BUSY = 1 → turned 5)
        ∧ (may → b.rd R.SC.ATTEST.BUSY = 0 →
            (b.rd R.SC.STATUS.IDENTITY = 0 → turned 6)
            ∧ (b.rd R.SC.STATUS.IDENTITY = 1 → lpddrEnd < a.toNat * 64 + 64 + 1536 → turned 4)
            ∧ (b.rd R.SC.STATUS.IDENTITY = 1 → a.toNat * 64 + 64 + 1536 ≤ lpddrEnd → Gives cmd s (fun c =>
                c.rd R.SC.ATTEST.RESULT = 1
                ∧ (b.allPass iSC = true → b.lostIn (a.toNat * 64 + 64) 1536 = false →
                    le (c.bytes (a.toNat * 64 + 64) 1536) 0 4 = 0x54545441
                    ∧ slice (c.bytes (a.toNat * 64 + 64) 1536) 36 32 = b.dataFor iSC (a.toNat * 64) 32)
                ∧ (∀ y, Apart y 1 (a.toNat * 64 + 64) 1536 → c.byte y = b.byte y)
                ∧ (b.inService iHI = true → bit (c.rd R.HI.IRQ_CAUSE.CAUSE) 13 = true)))))
end

