-- ==== Sys2Proof/Laws/Memory.lean ====
section
/-! SUPPORT. Sparse maps and the memory: reading after writing, and the canonical form, which every memory operation keeps
(R15, R28). -/

namespace Sys2Proof.Machine

/-! ## Sparse maps -/

section maps
variable {α : Type}

theorem SMap.sorted_tail {p : Nat × α} {m : SMap α} (h : SMap.sorted (p :: m) = true) : SMap.sorted m = true := by
  cases m with
  | nil => rfl
  | cons q t =>
    simp only [SMap.sorted, Bool.and_eq_true] at h
    exact h.2

theorem SMap.sorted_head_lt {p q : Nat × α} {m : SMap α} (h : SMap.sorted (p :: m) = true) (hq : q ∈ m) : p.1 < q.1 := by
  induction m generalizing p with
  | nil => cases hq
  | cons r t ih =>
    simp only [SMap.sorted, Bool.and_eq_true, decide_eq_true_eq] at h
    rcases List.mem_cons.1 hq with rfl | hq
    · exact h.1
    · exact Nat.lt_trans h.1 (ih h.2 hq)

theorem SMap.sorted_cons {p : Nat × α} {m : SMap α} (h : SMap.sorted m = true) (hp : ∀ q ∈ m, p.1 < q.1) :
    SMap.sorted (p :: m) = true := by
  cases m with
  | nil => rfl
  | cons q t =>
    simp only [SMap.sorted, Bool.and_eq_true, decide_eq_true_eq]
    exact ⟨hp q (List.mem_cons_self ..), h⟩

theorem SMap.sorted_filter {m : SMap α} (f : Nat × α → Bool) (h : SMap.sorted m = true) :
    SMap.sorted (m.filter f) = true := by
  induction m with
  | nil => rfl
  | cons p t ih =>
    have ht := ih (SMap.sorted_tail h)
    by_cases hf : f p = true
    · rw [List.filter_cons_of_pos hf]
      exact SMap.sorted_cons ht (fun q hq => SMap.sorted_head_lt h (List.mem_filter.1 hq).1)
    · rw [List.filter_cons_of_neg hf]
      exact ht

theorem SMap.mem_insert {m : SMap α} {k : Nat} {v : α} {q : Nat × α} (h : q ∈ SMap.insert m k v) :
    q = (k, v) ∨ q ∈ m := by
  induction m with
  | nil => exact .inl (List.mem_singleton.1 h)
  | cons p t ih =>
    unfold SMap.insert at h
    split at h
    · rcases List.mem_cons.1 h with rfl | h
      · exact .inl rfl
      · exact .inr (List.mem_cons_of_mem _ h)
    · split at h
      · rcases List.mem_cons.1 h with rfl | h
        · exact .inl rfl
        · exact .inr h
      · rcases List.mem_cons.1 h with rfl | h
        · exact .inr (List.mem_cons_self ..)
        · rcases ih h with rfl | h
          · exact .inl rfl
          · exact .inr (List.mem_cons_of_mem _ h)

theorem SMap.sorted_insert {m : SMap α} (k : Nat) (v : α) (h : SMap.sorted m = true) :
    SMap.sorted (SMap.insert m k v) = true := by
  induction m with
  | nil => rfl
  | cons p t ih =>
    obtain ⟨k', v'⟩ := p
    have ht := ih (SMap.sorted_tail h)
    unfold SMap.insert
    split
    · next hk =>
      subst hk
      exact SMap.sorted_cons (SMap.sorted_tail h) (fun q hq => SMap.sorted_head_lt (p := (k', v')) h hq)
    · next hk =>
      split
      · next hl =>
        refine SMap.sorted_cons h (fun q hq => ?_)
        rcases List.mem_cons.1 hq with rfl | hq
        · exact hl
        · exact Nat.lt_trans hl (SMap.sorted_head_lt (p := (k', v')) h hq)
      · next hl =>
        refine SMap.sorted_cons ht (fun q hq => ?_)
        rcases SMap.mem_insert hq with rfl | hq
        · show k' < k
          omega
        · exact SMap.sorted_head_lt h hq

/-- What a map lists at a key after an insertion. -/
theorem SMap.find_insert (m : SMap α) (k : Nat) (v : α) (j : Nat) :
    SMap.find (SMap.insert m k v) j = if j = k then some v else SMap.find m j := by
  induction m with
  | nil =>
    simp only [SMap.insert, SMap.find]
    by_cases h : k = j
    · simp [h]
    · simp [h, Ne.symm h]
  | cons p t ih =>
    obtain ⟨k', v'⟩ := p
    unfold SMap.insert
    split
    · next hk =>
      subst hk
      simp only [SMap.find]
      by_cases h : k' = j
      · simp [h]
      · simp [h, Ne.symm h]
    · next hk =>
      split
      · next hl =>
        simp only [SMap.find]
        by_cases h : k = j
        · simp [h]
        · simp [h, Ne.symm h]
      · next hl =>
        simp only [SMap.find, ih]
        by_cases h : k' = j
        · subst h
          simp [hk]
        · simp [h]

/-- What a map lists at a key after another key was erased, and at the erased key. -/
theorem SMap.find_erase (m : SMap α) (k j : Nat) :
    SMap.find (SMap.erase m k) j = if j = k then none else SMap.find m j := by
  induction m with
  | nil => simp [SMap.erase, SMap.find]
  | cons p t ih =>
    obtain ⟨k', v'⟩ := p
    simp only [SMap.erase] at ih
    by_cases hk : k' = k
    · subst hk
      have : SMap.erase ((k', v') :: t) k' = t.filter (fun e => e.1 != k') := by simp [SMap.erase]
      rw [this, ih]
      by_cases h : j = k'
      · simp [h]
      · simp [h, SMap.find, Ne.symm h]
    · have : SMap.erase ((k', v') :: t) k = (k', v') :: t.filter (fun e => e.1 != k) := by simp [SMap.erase, hk]
      rw [this]
      simp only [SMap.find, ih]
      by_cases h : k' = j
      · subst h
        simp [hk]
      · simp [h]

/-- Reading after a write: the key written reads the new value, every other key reads as before. -/
theorem SMap.getD_set [DecidableEq α] (m : SMap α) (k : Nat) (v d : α) (j : Nat) :
    SMap.getD (SMap.set m k v d) j d = if j = k then v else SMap.getD m j d := by
  unfold SMap.set SMap.getD
  by_cases hv : v = d
  · subst hv
    rw [if_pos rfl, SMap.find_erase]
    by_cases h : j = k <;> simp [h]
  · rw [if_neg hv, SMap.find_insert]
    by_cases h : j = k <;> simp [h]

/-- The same for a map read with the default it was written with, where the default may depend on the key. -/
theorem SMap.getD_set_of_ne [DecidableEq α] (m : SMap α) {k j : Nat} (v d d' : α) (h : j ≠ k) :
    SMap.getD (SMap.set m k v d) j d' = SMap.getD m j d' := by
  unfold SMap.set SMap.getD
  split
  · rw [SMap.find_erase, if_neg h]
  · rw [SMap.find_insert, if_neg h]

theorem SMap.getD_insert (m : SMap α) (k : Nat) (v d : α) (j : Nat) :
    SMap.getD (SMap.insert m k v) j d = if j = k then v else SMap.getD m j d := by
  unfold SMap.getD
  rw [SMap.find_insert]
  by_cases h : j = k <;> simp [h]

end maps

/-! ## The canonical form of memory -/

theorem memWf_iff (m : List Host.Cell) : memWf m = true ↔ SMap.sorted m = true ∧ ∀ c ∈ m, c.2 ≠ 0 := by
  simp [memWf]

/-- Writing one byte keeps the form. -/
theorem memWf_set {m : List Host.Cell} (a : Nat) (x : Byte) (h : memWf m = true) : memWf (SMap.set m a x 0) = true := by
  rw [memWf_iff] at h ⊢
  unfold SMap.set
  split
  · exact ⟨SMap.sorted_filter _ h.1, fun c hc => h.2 c (List.mem_filter.1 hc).1⟩
  · next hx =>
    refine ⟨SMap.sorted_insert _ _ h.1, fun c hc => ?_⟩
    rcases SMap.mem_insert hc with rfl | hc
    · exact hx
    · exact h.2 c hc

/-- Keeping some of the entries keeps the form. -/
theorem memWf_filter {m : List Host.Cell} (f : Host.Cell → Bool) (h : memWf m = true) : memWf (m.filter f) = true := by
  rw [memWf_iff] at h ⊢
  exact ⟨SMap.sorted_filter f h.1, fun c hc => h.2 c (List.mem_filter.1 hc).1⟩

/-- Writing a byte string keeps the form. -/
theorem memWf_writeCells (bs : Bytes) : ∀ (m : List Host.Cell) (a : Nat), memWf m = true → memWf (writeCells m a bs) = true := by
  induction bs with
  | nil => exact fun m a h => h
  | cons x xs ih => exact fun m a h => ih _ _ (memWf_set a x h)

/-- `canonCells` gives the form whatever it is given. -/
theorem memWf_canonCells (m : List Host.Cell) : memWf (canonCells m) = true := by
  induction m with
  | nil => rfl
  | cons c t ih => exact memWf_set c.1 c.2 ih

/-- `canonCells` changes no byte. -/
theorem getD_canonCells (m : List Host.Cell) (a : Nat) : SMap.getD (canonCells m) a 0 = SMap.getD m a 0 := by
  induction m with
  | nil => rfl
  | cons c t ih =>
    obtain ⟨k, v⟩ := c
    show SMap.getD (SMap.set (canonCells t) k v 0) a 0 = _
    rw [SMap.getD_set, ih]
    by_cases h : a = k
    · simp [h, SMap.getD, SMap.find]
    · simp [h, SMap.getD, SMap.find, Ne.symm h]

/-- Writing one byte to a memory in canonical form, read back anywhere. -/
theorem getD_writeCells (bs : Bytes) : ∀ (m : List Host.Cell) (a j : Nat),
    SMap.getD (writeCells m a bs) j 0 = if a ≤ j ∧ j < a + bs.length then bs.getD (j - a) 0 else SMap.getD m j 0 := by
  induction bs with
  | nil =>
    intro m a j
    have : ¬(a ≤ j ∧ j < a + ([] : Bytes).length) := by
      rw [List.length_nil]
      omega
    rw [if_neg this]
    rfl
  | cons x xs ih =>
    intro m a j
    show SMap.getD (writeCells (SMap.set m a x 0) (a + 1) xs) j 0 = _
    rw [ih, SMap.getD_set]
    by_cases h0 : j = a
    · subst h0
      have h1 : ¬(j + 1 ≤ j ∧ j < j + 1 + xs.length) := by omega
      have h2 : j ≤ j ∧ j < j + (x :: xs).length := ⟨Nat.le_refl _, by simp⟩
      rw [if_neg h1, if_pos rfl, if_pos h2]
      simp
    · by_cases h1 : a + 1 ≤ j ∧ j < a + 1 + xs.length
      · have h2 : a ≤ j ∧ j < a + (x :: xs).length := by
          rw [List.length_cons]
          omega
        rw [if_pos h1, if_pos h2]
        have h3 : j - a = (j - (a + 1)) + 1 := by omega
        rw [h3, List.getD_cons_succ]
      · have h2 : ¬(a ≤ j ∧ j < a + (x :: xs).length) := by
          rw [List.length_cons]
          omega
        rw [if_neg h1, if_neg h2, if_neg h0]

/-- A byte of the module's memory after bytes were written. -/
theorem Body.byte_put (b : Body) (a : Nat) (bs : Bytes) (j : Nat) :
    (b.put a bs).byte j = if a ≤ j ∧ j < a + bs.length then bs.getD (j - a) 0 else b.byte j :=
  getD_writeCells bs b.mem a j

theorem Body.byte_put_outside (b : Body) {a : Nat} {bs : Bytes} {j : Nat} (h : ¬(a ≤ j ∧ j < a + bs.length)) :
    (b.put a bs).byte j = b.byte j := by
  rw [Body.byte_put, if_neg h]

theorem Body.put_wf {b : Body} (a : Nat) (bs : Bytes) (h : memWf b.mem = true) : memWf (b.put a bs).mem = true :=
  memWf_writeCells bs b.mem a h

theorem Body.clearRange_wf {b : Body} (a n : Nat) (h : memWf b.mem = true) : memWf (b.clearRange a n).mem = true :=
  memWf_filter _ h

theorem Body.copyRange_wf {b : Body} (src n dst : Nat) (h : memWf b.mem = true) :
    memWf (b.copyRange src n dst).mem = true := by
  unfold Body.copyRange forEach
  generalize b.mem.filter _ = cells
  have h0 : memWf (b.clearRange dst n).mem = true := Body.clearRange_wf dst n h
  generalize b.clearRange dst n = c at h0
  induction cells generalizing c with
  | nil => exact h0
  | cons x t ih => exact ih _ (memWf_set _ _ h0)

/-- The empty memory of `State.reset` has the form. -/
theorem reset_mem_wf : memWf State.reset.body.mem = true := rfl

end Sys2Proof.Machine
end

