-- ==== Sys2Proof/Laws/Registers.lean ====
section
/-! SUPPORT. Registers and fields: what a field reads after a register or a field has been written (R5 to R9). -/

namespace Sys2Proof.Machine

/-! ## Bit fields of numbers -/

theorem testBit_bits (n lo w i : Nat) : (bits n lo w).testBit i = (decide (i < w) && n.testBit (lo + i)) := by
  simp [bits, Nat.testBit_mod_two_pow, Nat.testBit_shiftRight]

theorem bits_lt (n lo w : Nat) : bits n lo w < 2 ^ w := Nat.mod_lt _ (Nat.two_pow_pos w)

/-- A number with a field replaced: what stands above, the field, and what stands below. -/
theorem setBits_eq (n lo w v : Nat) :
    setBits n lo w v = 2 ^ lo * (2 ^ w * (n / 2 ^ (lo + w)) + v % 2 ^ w) + n % 2 ^ lo := by
  have h1 : n / 2 ^ lo = 2 ^ w * (n / 2 ^ (lo + w)) + n / 2 ^ lo % 2 ^ w := by
    rw [Nat.pow_add, ← Nat.div_div_eq_div_mul]
    exact (Nat.div_add_mod _ _).symm
  have h2 : n = 2 ^ lo * (n / 2 ^ lo) + n % 2 ^ lo := (Nat.div_add_mod _ _).symm
  have h3 : bits n lo w <<< lo = 2 ^ lo * (n / 2 ^ lo % 2 ^ w) := by
    rw [Nat.shiftLeft_eq, bits, Nat.shiftRight_eq_div_pow, Nat.mul_comm]
  unfold setBits
  rw [h3, Nat.shiftLeft_eq]
  generalize n / 2 ^ lo % 2 ^ w = mid at h1
  generalize n / 2 ^ (lo + w) = hi at h1 ⊢
  generalize n % 2 ^ lo = low at h2 ⊢
  rw [h1] at h2
  rw [h2, Nat.mul_add, Nat.mul_add, Nat.mul_comm (v % 2 ^ w)]
  show 2 ^ lo * (2 ^ w * hi) + 2 ^ lo * mid + low - 2 ^ lo * mid + 2 ^ lo * (v % 2 ^ w) = _
  omega

theorem testBit_setBits (n lo w v i : Nat) :
    (setBits n lo w v).testBit i = if lo ≤ i ∧ i < lo + w then v.testBit (i - lo) else n.testBit i := by
  rw [setBits_eq, Nat.testBit_two_pow_mul_add _ (Nat.mod_lt _ (Nat.two_pow_pos lo))]
  by_cases h : i < lo
  · have h' : ¬(lo ≤ i ∧ i < lo + w) := by omega
    rw [if_pos h, if_neg h', Nat.testBit_mod_two_pow]
    simp [h]
  · rw [if_neg h, Nat.testBit_two_pow_mul_add _ (Nat.mod_lt _ (Nat.two_pow_pos w))]
    by_cases h2 : i - lo < w
    · have h' : lo ≤ i ∧ i < lo + w := by omega
      rw [if_pos h2, if_pos h', Nat.testBit_mod_two_pow]
      simp [h2]
    · have h' : ¬(lo ≤ i ∧ i < lo + w) := by omega
      rw [if_neg h2, if_neg h', Nat.testBit_div_two_pow]
      congr 1
      omega

/-- A field reads what was written to it, its low bits. -/
theorem bits_setBits_same (n lo w v : Nat) : bits (setBits n lo w v) lo w = v % 2 ^ w := by
  apply Nat.eq_of_testBit_eq
  intro i
  rw [testBit_bits, testBit_setBits, Nat.testBit_mod_two_pow]
  by_cases h : i < w
  · have h' : lo ≤ lo + i ∧ lo + i < lo + w := by omega
    rw [if_pos h']
    simp [h]
  · simp [h]

/-- A field that shares no bit with the one written reads as before. -/
theorem bits_setBits_disjoint (n v : Nat) {lo w lo' w' : Nat} (h : lo + w ≤ lo' ∨ lo' + w' ≤ lo) :
    bits (setBits n lo w v) lo' w' = bits n lo' w' := by
  apply Nat.eq_of_testBit_eq
  intro i
  rw [testBit_bits, testBit_bits, testBit_setBits]
  by_cases hi : i < w'
  · have h' : ¬(lo ≤ lo' + i ∧ lo' + i < lo + w) := by omega
    rw [if_neg h']
  · simp [hi]

/-! ## Registers -/

/-- A register after one register was written. -/
theorem Body.reg_setReg (b : Body) (k v j : Nat) : (b.setReg k v).reg j = if j = k then v else b.reg j := by
  unfold Body.reg Body.setReg
  by_cases h : j = k
  · subst h
    simp [SMap.getD_set]
  · simp only [if_neg h]
    exact SMap.getD_set_of_ne _ _ _ _ h

theorem Body.reg_setReg_same (b : Body) (k v : Nat) : (b.setReg k v).reg k = v := by
  rw [Body.reg_setReg, if_pos rfl]

theorem Body.reg_setReg_of_ne (b : Body) {k j : Nat} (v : Nat) (h : j ≠ k) : (b.setReg k v).reg j = b.reg j := by
  rw [Body.reg_setReg, if_neg h]

/-- A field reads what was written to it, its low bits. -/
theorem Body.rd_wr_same (b : Body) (f : Field) (v : Nat) : (b.wr f v).rd f = v % 2 ^ f.w := by
  unfold Body.rd Body.wr
  rw [Body.reg_setReg_same, bits_setBits_same]

/-- Two fields share no bit. -/
def Field.apart (f g : Field) : Prop := f.key ≠ g.key ∨ f.lo + f.w ≤ g.lo ∨ g.lo + g.w ≤ f.lo

/-- A field that shares no bit with the one written reads as before. -/
theorem Body.rd_wr_apart (b : Body) {f g : Field} (v : Nat) (h : f.apart g) : (b.wr f v).rd g = b.rd g := by
  unfold Body.rd Body.wr
  by_cases hk : g.key = f.key
  · rcases h with h | h
    · exact absurd hk.symm h
    · rw [hk, Body.reg_setReg_same, bits_setBits_disjoint _ _ h]
  · rw [Body.reg_setReg_of_ne _ _ hk]

/-- A field of another register than the one written reads as before. -/
theorem Body.rd_wr_of_key_ne (b : Body) {f g : Field} (v : Nat) (h : f.key ≠ g.key) : (b.wr f v).rd g = b.rd g :=
  b.rd_wr_apart v (.inl h)

/-- A register other than the one whose field was written reads as before. -/
theorem Body.reg_wr_of_ne (b : Body) {f : Field} {j : Nat} (v : Nat) (h : j ≠ f.key) : (b.wr f v).reg j = b.reg j :=
  Body.reg_setReg_of_ne _ _ h

theorem Body.rd_setReg_of_ne (b : Body) {k : Nat} {f : Field} (v : Nat) (h : f.key ≠ k) : (b.setReg k v).rd f = b.rd f := by
  unfold Body.rd
  rw [Body.reg_setReg_of_ne _ _ h]

theorem Body.rd_lt (b : Body) (f : Field) : b.rd f < 2 ^ f.w := bits_lt _ _ _

end Sys2Proof.Machine
end

