-- ==== Sys2Proof/Laws/State.lean ====
section
/-! SUPPORT. What each named update of the module leaves unchanged, one lemma per field per update, so that no proof unfolds a
record update; and what it changes. -/

namespace Sys2Proof.Machine


/-! ## `Body.setReg` -/

@[simp] theorem Body.setReg_mem (b : Body) (k v : Nat) : (b.setReg k v).mem = b.mem := rfl
@[simp] theorem Body.setReg_lost (b : Body) (k v : Nat) : (b.setReg k v).lost = b.lost := rfl
@[simp] theorem Body.setReg_tiles (b : Body) (k v : Nat) : (b.setReg k v).tiles = b.tiles := rfl
@[simp] theorem Body.setReg_time (b : Body) (k v : Nat) : (b.setReg k v).time = b.time := rfl
@[simp] theorem Body.setReg_obs (b : Body) (k v : Nat) : (b.setReg k v).obs = b.obs := rfl
@[simp] theorem Body.setReg_cont (b : Body) (k v : Nat) : (b.setReg k v).cont = b.cont := rfl
@[simp] theorem Body.setReg_sb (b : Body) (k v : Nat) : (b.setReg k v).sb = b.sb := rfl
@[simp] theorem Body.setReg_sec (b : Body) (k v : Nat) : (b.setReg k v).sec = b.sec := rfl
@[simp] theorem Body.setReg_hi (b : Body) (k v : Nat) : (b.setReg k v).hi = b.hi := rfl
@[simp] theorem Body.setReg_job (b : Body) (k v : Nat) : (b.setReg k v).job = b.job := rfl
@[simp] theorem Body.setReg_writes (b : Body) (k v : Nat) : (b.setReg k v).writes = b.writes := rfl
@[simp] theorem Body.setReg_xfers (b : Body) (k v : Nat) : (b.setReg k v).xfers = b.xfers := rfl
@[simp] theorem Body.setReg_nextXfer (b : Body) (k v : Nat) : (b.setReg k v).nextXfer = b.nextXfer := rfl
@[simp] theorem Body.setReg_reads (b : Body) (k v : Nat) : (b.setReg k v).reads = b.reads := rfl
@[simp] theorem Body.setReg_ue (b : Body) (k v : Nat) : (b.setReg k v).ue = b.ue := rfl
@[simp] theorem Body.setReg_mems (b : Body) (k v : Nat) : (b.setReg k v).mems = b.mems := rfl
@[simp] theorem Body.setReg_links (b : Body) (k v : Nat) : (b.setReg k v).links = b.links := rfl
@[simp] theorem Body.setReg_fab (b : Body) (k v : Nat) : (b.setReg k v).fab = b.fab := rfl
@[simp] theorem Body.setReg_disp (b : Body) (k v : Nat) : (b.setReg k v).disp = b.disp := rfl
@[simp] theorem Body.setReg_snap (b : Body) (k v : Nat) : (b.setReg k v).snap = b.snap := rfl
@[simp] theorem Body.setReg_out (b : Body) (k v : Nat) : (b.setReg k v).out = b.out := rfl
@[simp] theorem Body.setReg_free (b : Body) (k v : Nat) : (b.setReg k v).free = b.free := rfl
@[simp] theorem Body.setReg_byte (b : Body) (k v : Nat) (q : Nat) : (b.setReg k v).byte q = b.byte q := rfl
@[simp] theorem Body.setReg_tile (b : Body) (k v : Nat) (q : Nat) : (b.setReg k v).tile q = b.tile q := rfl
@[simp] theorem Body.setReg_lnk (b : Body) (k v : Nat) (q : Nat) : (b.setReg k v).lnk q = b.lnk q := rfl
@[simp] theorem Body.setReg_jn (b : Body) (k v : Nat) (q : Nat) : (b.setReg k v).jn q = b.jn q := rfl
@[simp] theorem Body.setReg_memi (b : Body) (k v : Nat) (q : Nat) : (b.setReg k v).memi q = b.memi q := rfl
@[simp] theorem Body.setReg_inService (b : Body) (k v : Nat) (isl : Nat) : (b.setReg k v).inService isl = b.inService isl := rfl

/-! ## `Body.wr` -/

@[simp] theorem Body.wr_mem (b : Body) (f : Field) (v : Nat) : (b.wr f v).mem = b.mem := rfl
@[simp] theorem Body.wr_lost (b : Body) (f : Field) (v : Nat) : (b.wr f v).lost = b.lost := rfl
@[simp] theorem Body.wr_tiles (b : Body) (f : Field) (v : Nat) : (b.wr f v).tiles = b.tiles := rfl
@[simp] theorem Body.wr_time (b : Body) (f : Field) (v : Nat) : (b.wr f v).time = b.time := rfl
@[simp] theorem Body.wr_obs (b : Body) (f : Field) (v : Nat) : (b.wr f v).obs = b.obs := rfl
@[simp] theorem Body.wr_cont (b : Body) (f : Field) (v : Nat) : (b.wr f v).cont = b.cont := rfl
@[simp] theorem Body.wr_sb (b : Body) (f : Field) (v : Nat) : (b.wr f v).sb = b.sb := rfl
@[simp] theorem Body.wr_sec (b : Body) (f : Field) (v : Nat) : (b.wr f v).sec = b.sec := rfl
@[simp] theorem Body.wr_hi (b : Body) (f : Field) (v : Nat) : (b.wr f v).hi = b.hi := rfl
@[simp] theorem Body.wr_job (b : Body) (f : Field) (v : Nat) : (b.wr f v).job = b.job := rfl
@[simp] theorem Body.wr_writes (b : Body) (f : Field) (v : Nat) : (b.wr f v).writes = b.writes := rfl
@[simp] theorem Body.wr_xfers (b : Body) (f : Field) (v : Nat) : (b.wr f v).xfers = b.xfers := rfl
@[simp] theorem Body.wr_nextXfer (b : Body) (f : Field) (v : Nat) : (b.wr f v).nextXfer = b.nextXfer := rfl
@[simp] theorem Body.wr_reads (b : Body) (f : Field) (v : Nat) : (b.wr f v).reads = b.reads := rfl
@[simp] theorem Body.wr_ue (b : Body) (f : Field) (v : Nat) : (b.wr f v).ue = b.ue := rfl
@[simp] theorem Body.wr_mems (b : Body) (f : Field) (v : Nat) : (b.wr f v).mems = b.mems := rfl
@[simp] theorem Body.wr_links (b : Body) (f : Field) (v : Nat) : (b.wr f v).links = b.links := rfl
@[simp] theorem Body.wr_fab (b : Body) (f : Field) (v : Nat) : (b.wr f v).fab = b.fab := rfl
@[simp] theorem Body.wr_disp (b : Body) (f : Field) (v : Nat) : (b.wr f v).disp = b.disp := rfl
@[simp] theorem Body.wr_snap (b : Body) (f : Field) (v : Nat) : (b.wr f v).snap = b.snap := rfl
@[simp] theorem Body.wr_out (b : Body) (f : Field) (v : Nat) : (b.wr f v).out = b.out := rfl
@[simp] theorem Body.wr_free (b : Body) (f : Field) (v : Nat) : (b.wr f v).free = b.free := rfl
@[simp] theorem Body.wr_byte (b : Body) (f : Field) (v : Nat) (q : Nat) : (b.wr f v).byte q = b.byte q := rfl
@[simp] theorem Body.wr_tile (b : Body) (f : Field) (v : Nat) (q : Nat) : (b.wr f v).tile q = b.tile q := rfl
@[simp] theorem Body.wr_lnk (b : Body) (f : Field) (v : Nat) (q : Nat) : (b.wr f v).lnk q = b.lnk q := rfl
@[simp] theorem Body.wr_jn (b : Body) (f : Field) (v : Nat) (q : Nat) : (b.wr f v).jn q = b.jn q := rfl
@[simp] theorem Body.wr_memi (b : Body) (f : Field) (v : Nat) (q : Nat) : (b.wr f v).memi q = b.memi q := rfl
@[simp] theorem Body.wr_inService (b : Body) (f : Field) (v : Nat) (isl : Nat) : (b.wr f v).inService isl = b.inService isl := rfl

/-! ## `Body.sat` -/

@[simp] theorem Body.sat_mem (b : Body) (f : Field) (n : Nat) : (b.sat f n).mem = b.mem := rfl
@[simp] theorem Body.sat_lost (b : Body) (f : Field) (n : Nat) : (b.sat f n).lost = b.lost := rfl
@[simp] theorem Body.sat_tiles (b : Body) (f : Field) (n : Nat) : (b.sat f n).tiles = b.tiles := rfl
@[simp] theorem Body.sat_time (b : Body) (f : Field) (n : Nat) : (b.sat f n).time = b.time := rfl
@[simp] theorem Body.sat_obs (b : Body) (f : Field) (n : Nat) : (b.sat f n).obs = b.obs := rfl
@[simp] theorem Body.sat_cont (b : Body) (f : Field) (n : Nat) : (b.sat f n).cont = b.cont := rfl
@[simp] theorem Body.sat_sb (b : Body) (f : Field) (n : Nat) : (b.sat f n).sb = b.sb := rfl
@[simp] theorem Body.sat_sec (b : Body) (f : Field) (n : Nat) : (b.sat f n).sec = b.sec := rfl
@[simp] theorem Body.sat_hi (b : Body) (f : Field) (n : Nat) : (b.sat f n).hi = b.hi := rfl
@[simp] theorem Body.sat_job (b : Body) (f : Field) (n : Nat) : (b.sat f n).job = b.job := rfl
@[simp] theorem Body.sat_writes (b : Body) (f : Field) (n : Nat) : (b.sat f n).writes = b.writes := rfl
@[simp] theorem Body.sat_xfers (b : Body) (f : Field) (n : Nat) : (b.sat f n).xfers = b.xfers := rfl
@[simp] theorem Body.sat_nextXfer (b : Body) (f : Field) (n : Nat) : (b.sat f n).nextXfer = b.nextXfer := rfl
@[simp] theorem Body.sat_reads (b : Body) (f : Field) (n : Nat) : (b.sat f n).reads = b.reads := rfl
@[simp] theorem Body.sat_ue (b : Body) (f : Field) (n : Nat) : (b.sat f n).ue = b.ue := rfl
@[simp] theorem Body.sat_mems (b : Body) (f : Field) (n : Nat) : (b.sat f n).mems = b.mems := rfl
@[simp] theorem Body.sat_links (b : Body) (f : Field) (n : Nat) : (b.sat f n).links = b.links := rfl
@[simp] theorem Body.sat_fab (b : Body) (f : Field) (n : Nat) : (b.sat f n).fab = b.fab := rfl
@[simp] theorem Body.sat_disp (b : Body) (f : Field) (n : Nat) : (b.sat f n).disp = b.disp := rfl
@[simp] theorem Body.sat_snap (b : Body) (f : Field) (n : Nat) : (b.sat f n).snap = b.snap := rfl
@[simp] theorem Body.sat_out (b : Body) (f : Field) (n : Nat) : (b.sat f n).out = b.out := rfl
@[simp] theorem Body.sat_free (b : Body) (f : Field) (n : Nat) : (b.sat f n).free = b.free := rfl
@[simp] theorem Body.sat_byte (b : Body) (f : Field) (n : Nat) (q : Nat) : (b.sat f n).byte q = b.byte q := rfl
@[simp] theorem Body.sat_tile (b : Body) (f : Field) (n : Nat) (q : Nat) : (b.sat f n).tile q = b.tile q := rfl
@[simp] theorem Body.sat_lnk (b : Body) (f : Field) (n : Nat) (q : Nat) : (b.sat f n).lnk q = b.lnk q := rfl
@[simp] theorem Body.sat_jn (b : Body) (f : Field) (n : Nat) (q : Nat) : (b.sat f n).jn q = b.jn q := rfl
@[simp] theorem Body.sat_memi (b : Body) (f : Field) (n : Nat) (q : Nat) : (b.sat f n).memi q = b.memi q := rfl
@[simp] theorem Body.sat_inService (b : Body) (f : Field) (n : Nat) (isl : Nat) : (b.sat f n).inService isl = b.inService isl := rfl

/-! ## `Body.add` -/

@[simp] theorem Body.add_mem (b : Body) (f : Field) (n : Nat) : (b.add f n).mem = b.mem := rfl
@[simp] theorem Body.add_lost (b : Body) (f : Field) (n : Nat) : (b.add f n).lost = b.lost := rfl
@[simp] theorem Body.add_tiles (b : Body) (f : Field) (n : Nat) : (b.add f n).tiles = b.tiles := rfl
@[simp] theorem Body.add_time (b : Body) (f : Field) (n : Nat) : (b.add f n).time = b.time := rfl
@[simp] theorem Body.add_obs (b : Body) (f : Field) (n : Nat) : (b.add f n).obs = b.obs := rfl
@[simp] theorem Body.add_cont (b : Body) (f : Field) (n : Nat) : (b.add f n).cont = b.cont := rfl
@[simp] theorem Body.add_sb (b : Body) (f : Field) (n : Nat) : (b.add f n).sb = b.sb := rfl
@[simp] theorem Body.add_sec (b : Body) (f : Field) (n : Nat) : (b.add f n).sec = b.sec := rfl
@[simp] theorem Body.add_hi (b : Body) (f : Field) (n : Nat) : (b.add f n).hi = b.hi := rfl
@[simp] theorem Body.add_job (b : Body) (f : Field) (n : Nat) : (b.add f n).job = b.job := rfl
@[simp] theorem Body.add_writes (b : Body) (f : Field) (n : Nat) : (b.add f n).writes = b.writes := rfl
@[simp] theorem Body.add_xfers (b : Body) (f : Field) (n : Nat) : (b.add f n).xfers = b.xfers := rfl
@[simp] theorem Body.add_nextXfer (b : Body) (f : Field) (n : Nat) : (b.add f n).nextXfer = b.nextXfer := rfl
@[simp] theorem Body.add_reads (b : Body) (f : Field) (n : Nat) : (b.add f n).reads = b.reads := rfl
@[simp] theorem Body.add_ue (b : Body) (f : Field) (n : Nat) : (b.add f n).ue = b.ue := rfl
@[simp] theorem Body.add_mems (b : Body) (f : Field) (n : Nat) : (b.add f n).mems = b.mems := rfl
@[simp] theorem Body.add_links (b : Body) (f : Field) (n : Nat) : (b.add f n).links = b.links := rfl
@[simp] theorem Body.add_fab (b : Body) (f : Field) (n : Nat) : (b.add f n).fab = b.fab := rfl
@[simp] theorem Body.add_disp (b : Body) (f : Field) (n : Nat) : (b.add f n).disp = b.disp := rfl
@[simp] theorem Body.add_snap (b : Body) (f : Field) (n : Nat) : (b.add f n).snap = b.snap := rfl
@[simp] theorem Body.add_out (b : Body) (f : Field) (n : Nat) : (b.add f n).out = b.out := rfl
@[simp] theorem Body.add_free (b : Body) (f : Field) (n : Nat) : (b.add f n).free = b.free := rfl
@[simp] theorem Body.add_byte (b : Body) (f : Field) (n : Nat) (q : Nat) : (b.add f n).byte q = b.byte q := rfl
@[simp] theorem Body.add_tile (b : Body) (f : Field) (n : Nat) (q : Nat) : (b.add f n).tile q = b.tile q := rfl
@[simp] theorem Body.add_lnk (b : Body) (f : Field) (n : Nat) (q : Nat) : (b.add f n).lnk q = b.lnk q := rfl
@[simp] theorem Body.add_jn (b : Body) (f : Field) (n : Nat) (q : Nat) : (b.add f n).jn q = b.jn q := rfl
@[simp] theorem Body.add_memi (b : Body) (f : Field) (n : Nat) (q : Nat) : (b.add f n).memi q = b.memi q := rfl
@[simp] theorem Body.add_inService (b : Body) (f : Field) (n : Nat) (isl : Nat) : (b.add f n).inService isl = b.inService isl := rfl

/-! ## `Body.put` -/

@[simp] theorem Body.put_regs (b : Body) (a : Nat) (bs : Bytes) : (b.put a bs).regs = b.regs := rfl
@[simp] theorem Body.put_lost (b : Body) (a : Nat) (bs : Bytes) : (b.put a bs).lost = b.lost := rfl
@[simp] theorem Body.put_tiles (b : Body) (a : Nat) (bs : Bytes) : (b.put a bs).tiles = b.tiles := rfl
@[simp] theorem Body.put_time (b : Body) (a : Nat) (bs : Bytes) : (b.put a bs).time = b.time := rfl
@[simp] theorem Body.put_obs (b : Body) (a : Nat) (bs : Bytes) : (b.put a bs).obs = b.obs := rfl
@[simp] theorem Body.put_cont (b : Body) (a : Nat) (bs : Bytes) : (b.put a bs).cont = b.cont := rfl
@[simp] theorem Body.put_sb (b : Body) (a : Nat) (bs : Bytes) : (b.put a bs).sb = b.sb := rfl
@[simp] theorem Body.put_sec (b : Body) (a : Nat) (bs : Bytes) : (b.put a bs).sec = b.sec := rfl
@[simp] theorem Body.put_hi (b : Body) (a : Nat) (bs : Bytes) : (b.put a bs).hi = b.hi := rfl
@[simp] theorem Body.put_job (b : Body) (a : Nat) (bs : Bytes) : (b.put a bs).job = b.job := rfl
@[simp] theorem Body.put_writes (b : Body) (a : Nat) (bs : Bytes) : (b.put a bs).writes = b.writes := rfl
@[simp] theorem Body.put_xfers (b : Body) (a : Nat) (bs : Bytes) : (b.put a bs).xfers = b.xfers := rfl
@[simp] theorem Body.put_nextXfer (b : Body) (a : Nat) (bs : Bytes) : (b.put a bs).nextXfer = b.nextXfer := rfl
@[simp] theorem Body.put_reads (b : Body) (a : Nat) (bs : Bytes) : (b.put a bs).reads = b.reads := rfl
@[simp] theorem Body.put_ue (b : Body) (a : Nat) (bs : Bytes) : (b.put a bs).ue = b.ue := rfl
@[simp] theorem Body.put_mems (b : Body) (a : Nat) (bs : Bytes) : (b.put a bs).mems = b.mems := rfl
@[simp] theorem Body.put_links (b : Body) (a : Nat) (bs : Bytes) : (b.put a bs).links = b.links := rfl
@[simp] theorem Body.put_fab (b : Body) (a : Nat) (bs : Bytes) : (b.put a bs).fab = b.fab := rfl
@[simp] theorem Body.put_disp (b : Body) (a : Nat) (bs : Bytes) : (b.put a bs).disp = b.disp := rfl
@[simp] theorem Body.put_snap (b : Body) (a : Nat) (bs : Bytes) : (b.put a bs).snap = b.snap := rfl
@[simp] theorem Body.put_out (b : Body) (a : Nat) (bs : Bytes) : (b.put a bs).out = b.out := rfl
@[simp] theorem Body.put_free (b : Body) (a : Nat) (bs : Bytes) : (b.put a bs).free = b.free := rfl
@[simp] theorem Body.put_reg (b : Body) (a : Nat) (bs : Bytes) (q : Nat) : (b.put a bs).reg q = b.reg q := rfl
@[simp] theorem Body.put_rd (b : Body) (a : Nat) (bs : Bytes) (g : Field) : (b.put a bs).rd g = b.rd g := rfl
@[simp] theorem Body.put_tile (b : Body) (a : Nat) (bs : Bytes) (q : Nat) : (b.put a bs).tile q = b.tile q := rfl
@[simp] theorem Body.put_lnk (b : Body) (a : Nat) (bs : Bytes) (q : Nat) : (b.put a bs).lnk q = b.lnk q := rfl
@[simp] theorem Body.put_jn (b : Body) (a : Nat) (bs : Bytes) (q : Nat) : (b.put a bs).jn q = b.jn q := rfl
@[simp] theorem Body.put_memi (b : Body) (a : Nat) (bs : Bytes) (q : Nat) : (b.put a bs).memi q = b.memi q := rfl
@[simp] theorem Body.put_inService (b : Body) (a : Nat) (bs : Bytes) (isl : Nat) : (b.put a bs).inService isl = b.inService isl := rfl

/-! ## `Body.clearRange` -/

@[simp] theorem Body.clearRange_regs (b : Body) (a n : Nat) : (b.clearRange a n).regs = b.regs := rfl
@[simp] theorem Body.clearRange_lost (b : Body) (a n : Nat) : (b.clearRange a n).lost = b.lost := rfl
@[simp] theorem Body.clearRange_tiles (b : Body) (a n : Nat) : (b.clearRange a n).tiles = b.tiles := rfl
@[simp] theorem Body.clearRange_time (b : Body) (a n : Nat) : (b.clearRange a n).time = b.time := rfl
@[simp] theorem Body.clearRange_obs (b : Body) (a n : Nat) : (b.clearRange a n).obs = b.obs := rfl
@[simp] theorem Body.clearRange_cont (b : Body) (a n : Nat) : (b.clearRange a n).cont = b.cont := rfl
@[simp] theorem Body.clearRange_sb (b : Body) (a n : Nat) : (b.clearRange a n).sb = b.sb := rfl
@[simp] theorem Body.clearRange_sec (b : Body) (a n : Nat) : (b.clearRange a n).sec = b.sec := rfl
@[simp] theorem Body.clearRange_hi (b : Body) (a n : Nat) : (b.clearRange a n).hi = b.hi := rfl
@[simp] theorem Body.clearRange_job (b : Body) (a n : Nat) : (b.clearRange a n).job = b.job := rfl
@[simp] theorem Body.clearRange_writes (b : Body) (a n : Nat) : (b.clearRange a n).writes = b.writes := rfl
@[simp] theorem Body.clearRange_xfers (b : Body) (a n : Nat) : (b.clearRange a n).xfers = b.xfers := rfl
@[simp] theorem Body.clearRange_nextXfer (b : Body) (a n : Nat) : (b.clearRange a n).nextXfer = b.nextXfer := rfl
@[simp] theorem Body.clearRange_reads (b : Body) (a n : Nat) : (b.clearRange a n).reads = b.reads := rfl
@[simp] theorem Body.clearRange_ue (b : Body) (a n : Nat) : (b.clearRange a n).ue = b.ue := rfl
@[simp] theorem Body.clearRange_mems (b : Body) (a n : Nat) : (b.clearRange a n).mems = b.mems := rfl
@[simp] theorem Body.clearRange_links (b : Body) (a n : Nat) : (b.clearRange a n).links = b.links := rfl
@[simp] theorem Body.clearRange_fab (b : Body) (a n : Nat) : (b.clearRange a n).fab = b.fab := rfl
@[simp] theorem Body.clearRange_disp (b : Body) (a n : Nat) : (b.clearRange a n).disp = b.disp := rfl
@[simp] theorem Body.clearRange_snap (b : Body) (a n : Nat) : (b.clearRange a n).snap = b.snap := rfl
@[simp] theorem Body.clearRange_out (b : Body) (a n : Nat) : (b.clearRange a n).out = b.out := rfl
@[simp] theorem Body.clearRange_free (b : Body) (a n : Nat) : (b.clearRange a n).free = b.free := rfl
@[simp] theorem Body.clearRange_reg (b : Body) (a n : Nat) (q : Nat) : (b.clearRange a n).reg q = b.reg q := rfl
@[simp] theorem Body.clearRange_rd (b : Body) (a n : Nat) (g : Field) : (b.clearRange a n).rd g = b.rd g := rfl
@[simp] theorem Body.clearRange_tile (b : Body) (a n : Nat) (q : Nat) : (b.clearRange a n).tile q = b.tile q := rfl
@[simp] theorem Body.clearRange_lnk (b : Body) (a n : Nat) (q : Nat) : (b.clearRange a n).lnk q = b.lnk q := rfl
@[simp] theorem Body.clearRange_jn (b : Body) (a n : Nat) (q : Nat) : (b.clearRange a n).jn q = b.jn q := rfl
@[simp] theorem Body.clearRange_memi (b : Body) (a n : Nat) (q : Nat) : (b.clearRange a n).memi q = b.memi q := rfl
@[simp] theorem Body.clearRange_inService (b : Body) (a n : Nat) (isl : Nat) : (b.clearRange a n).inService isl = b.inService isl := rfl

/-! ## `Body.emit` -/

@[simp] theorem Body.emit_regs (b : Body) (o : Output) : (b.emit o).regs = b.regs := rfl
@[simp] theorem Body.emit_mem (b : Body) (o : Output) : (b.emit o).mem = b.mem := rfl
@[simp] theorem Body.emit_lost (b : Body) (o : Output) : (b.emit o).lost = b.lost := rfl
@[simp] theorem Body.emit_tiles (b : Body) (o : Output) : (b.emit o).tiles = b.tiles := rfl
@[simp] theorem Body.emit_time (b : Body) (o : Output) : (b.emit o).time = b.time := rfl
@[simp] theorem Body.emit_obs (b : Body) (o : Output) : (b.emit o).obs = b.obs := rfl
@[simp] theorem Body.emit_cont (b : Body) (o : Output) : (b.emit o).cont = b.cont := rfl
@[simp] theorem Body.emit_sb (b : Body) (o : Output) : (b.emit o).sb = b.sb := rfl
@[simp] theorem Body.emit_sec (b : Body) (o : Output) : (b.emit o).sec = b.sec := rfl
@[simp] theorem Body.emit_hi (b : Body) (o : Output) : (b.emit o).hi = b.hi := rfl
@[simp] theorem Body.emit_job (b : Body) (o : Output) : (b.emit o).job = b.job := rfl
@[simp] theorem Body.emit_writes (b : Body) (o : Output) : (b.emit o).writes = b.writes := rfl
@[simp] theorem Body.emit_xfers (b : Body) (o : Output) : (b.emit o).xfers = b.xfers := rfl
@[simp] theorem Body.emit_nextXfer (b : Body) (o : Output) : (b.emit o).nextXfer = b.nextXfer := rfl
@[simp] theorem Body.emit_reads (b : Body) (o : Output) : (b.emit o).reads = b.reads := rfl
@[simp] theorem Body.emit_ue (b : Body) (o : Output) : (b.emit o).ue = b.ue := rfl
@[simp] theorem Body.emit_mems (b : Body) (o : Output) : (b.emit o).mems = b.mems := rfl
@[simp] theorem Body.emit_links (b : Body) (o : Output) : (b.emit o).links = b.links := rfl
@[simp] theorem Body.emit_fab (b : Body) (o : Output) : (b.emit o).fab = b.fab := rfl
@[simp] theorem Body.emit_disp (b : Body) (o : Output) : (b.emit o).disp = b.disp := rfl
@[simp] theorem Body.emit_snap (b : Body) (o : Output) : (b.emit o).snap = b.snap := rfl
@[simp] theorem Body.emit_free (b : Body) (o : Output) : (b.emit o).free = b.free := rfl
@[simp] theorem Body.emit_reg (b : Body) (o : Output) (q : Nat) : (b.emit o).reg q = b.reg q := rfl
@[simp] theorem Body.emit_rd (b : Body) (o : Output) (g : Field) : (b.emit o).rd g = b.rd g := rfl
@[simp] theorem Body.emit_byte (b : Body) (o : Output) (q : Nat) : (b.emit o).byte q = b.byte q := rfl
@[simp] theorem Body.emit_tile (b : Body) (o : Output) (q : Nat) : (b.emit o).tile q = b.tile q := rfl
@[simp] theorem Body.emit_lnk (b : Body) (o : Output) (q : Nat) : (b.emit o).lnk q = b.lnk q := rfl
@[simp] theorem Body.emit_jn (b : Body) (o : Output) (q : Nat) : (b.emit o).jn q = b.jn q := rfl
@[simp] theorem Body.emit_memi (b : Body) (o : Output) (q : Nat) : (b.emit o).memi q = b.memi q := rfl
@[simp] theorem Body.emit_inService (b : Body) (o : Output) (isl : Nat) : (b.emit o).inService isl = b.inService isl := rfl

/-! ## `Body.takeFree` -/

@[simp] theorem Body.takeFree_regs (b : Body) : (b.takeFree).regs = b.regs := rfl
@[simp] theorem Body.takeFree_mem (b : Body) : (b.takeFree).mem = b.mem := rfl
@[simp] theorem Body.takeFree_lost (b : Body) : (b.takeFree).lost = b.lost := rfl
@[simp] theorem Body.takeFree_tiles (b : Body) : (b.takeFree).tiles = b.tiles := rfl
@[simp] theorem Body.takeFree_time (b : Body) : (b.takeFree).time = b.time := rfl
@[simp] theorem Body.takeFree_obs (b : Body) : (b.takeFree).obs = b.obs := rfl
@[simp] theorem Body.takeFree_cont (b : Body) : (b.takeFree).cont = b.cont := rfl
@[simp] theorem Body.takeFree_sb (b : Body) : (b.takeFree).sb = b.sb := rfl
@[simp] theorem Body.takeFree_sec (b : Body) : (b.takeFree).sec = b.sec := rfl
@[simp] theorem Body.takeFree_hi (b : Body) : (b.takeFree).hi = b.hi := rfl
@[simp] theorem Body.takeFree_job (b : Body) : (b.takeFree).job = b.job := rfl
@[simp] theorem Body.takeFree_writes (b : Body) : (b.takeFree).writes = b.writes := rfl
@[simp] theorem Body.takeFree_xfers (b : Body) : (b.takeFree).xfers = b.xfers := rfl
@[simp] theorem Body.takeFree_nextXfer (b : Body) : (b.takeFree).nextXfer = b.nextXfer := rfl
@[simp] theorem Body.takeFree_reads (b : Body) : (b.takeFree).reads = b.reads := rfl
@[simp] theorem Body.takeFree_ue (b : Body) : (b.takeFree).ue = b.ue := rfl
@[simp] theorem Body.takeFree_mems (b : Body) : (b.takeFree).mems = b.mems := rfl
@[simp] theorem Body.takeFree_links (b : Body) : (b.takeFree).links = b.links := rfl
@[simp] theorem Body.takeFree_fab (b : Body) : (b.takeFree).fab = b.fab := rfl
@[simp] theorem Body.takeFree_disp (b : Body) : (b.takeFree).disp = b.disp := rfl
@[simp] theorem Body.takeFree_snap (b : Body) : (b.takeFree).snap = b.snap := rfl
@[simp] theorem Body.takeFree_out (b : Body) : (b.takeFree).out = b.out := rfl
@[simp] theorem Body.takeFree_reg (b : Body) (q : Nat) : (b.takeFree).reg q = b.reg q := rfl
@[simp] theorem Body.takeFree_rd (b : Body) (g : Field) : (b.takeFree).rd g = b.rd g := rfl
@[simp] theorem Body.takeFree_byte (b : Body) (q : Nat) : (b.takeFree).byte q = b.byte q := rfl
@[simp] theorem Body.takeFree_tile (b : Body) (q : Nat) : (b.takeFree).tile q = b.tile q := rfl
@[simp] theorem Body.takeFree_lnk (b : Body) (q : Nat) : (b.takeFree).lnk q = b.lnk q := rfl
@[simp] theorem Body.takeFree_jn (b : Body) (q : Nat) : (b.takeFree).jn q = b.jn q := rfl
@[simp] theorem Body.takeFree_memi (b : Body) (q : Nat) : (b.takeFree).memi q = b.memi q := rfl
@[simp] theorem Body.takeFree_inService (b : Body) (isl : Nat) : (b.takeFree).inService isl = b.inService isl := rfl

/-! ## `Body.ticks` -/

@[simp] theorem Body.ticks_regs (b : Body) (k : Nat) : (b.ticks k).regs = b.regs := rfl
@[simp] theorem Body.ticks_mem (b : Body) (k : Nat) : (b.ticks k).mem = b.mem := rfl
@[simp] theorem Body.ticks_lost (b : Body) (k : Nat) : (b.ticks k).lost = b.lost := rfl
@[simp] theorem Body.ticks_tiles (b : Body) (k : Nat) : (b.ticks k).tiles = b.tiles := rfl
@[simp] theorem Body.ticks_obs (b : Body) (k : Nat) : (b.ticks k).obs = b.obs := rfl
@[simp] theorem Body.ticks_cont (b : Body) (k : Nat) : (b.ticks k).cont = b.cont := rfl
@[simp] theorem Body.ticks_sec (b : Body) (k : Nat) : (b.ticks k).sec = b.sec := rfl
@[simp] theorem Body.ticks_hi (b : Body) (k : Nat) : (b.ticks k).hi = b.hi := rfl
@[simp] theorem Body.ticks_job (b : Body) (k : Nat) : (b.ticks k).job = b.job := rfl
@[simp] theorem Body.ticks_writes (b : Body) (k : Nat) : (b.ticks k).writes = b.writes := rfl
@[simp] theorem Body.ticks_xfers (b : Body) (k : Nat) : (b.ticks k).xfers = b.xfers := rfl
@[simp] theorem Body.ticks_nextXfer (b : Body) (k : Nat) : (b.ticks k).nextXfer = b.nextXfer := rfl
@[simp] theorem Body.ticks_reads (b : Body) (k : Nat) : (b.ticks k).reads = b.reads := rfl
@[simp] theorem Body.ticks_ue (b : Body) (k : Nat) : (b.ticks k).ue = b.ue := rfl
@[simp] theorem Body.ticks_mems (b : Body) (k : Nat) : (b.ticks k).mems = b.mems := rfl
@[simp] theorem Body.ticks_links (b : Body) (k : Nat) : (b.ticks k).links = b.links := rfl
@[simp] theorem Body.ticks_fab (b : Body) (k : Nat) : (b.ticks k).fab = b.fab := rfl
@[simp] theorem Body.ticks_disp (b : Body) (k : Nat) : (b.ticks k).disp = b.disp := rfl
@[simp] theorem Body.ticks_snap (b : Body) (k : Nat) : (b.ticks k).snap = b.snap := rfl
@[simp] theorem Body.ticks_out (b : Body) (k : Nat) : (b.ticks k).out = b.out := rfl
@[simp] theorem Body.ticks_free (b : Body) (k : Nat) : (b.ticks k).free = b.free := rfl
@[simp] theorem Body.ticks_reg (b : Body) (k : Nat) (q : Nat) : (b.ticks k).reg q = b.reg q := rfl
@[simp] theorem Body.ticks_rd (b : Body) (k : Nat) (g : Field) : (b.ticks k).rd g = b.rd g := rfl
@[simp] theorem Body.ticks_byte (b : Body) (k : Nat) (q : Nat) : (b.ticks k).byte q = b.byte q := rfl
@[simp] theorem Body.ticks_tile (b : Body) (k : Nat) (q : Nat) : (b.ticks k).tile q = b.tile q := rfl
@[simp] theorem Body.ticks_lnk (b : Body) (k : Nat) (q : Nat) : (b.ticks k).lnk q = b.lnk q := rfl
@[simp] theorem Body.ticks_jn (b : Body) (k : Nat) (q : Nat) : (b.ticks k).jn q = b.jn q := rfl
@[simp] theorem Body.ticks_memi (b : Body) (k : Nat) (q : Nat) : (b.ticks k).memi q = b.memi q := rfl
@[simp] theorem Body.ticks_inService (b : Body) (k : Nat) (isl : Nat) : (b.ticks k).inService isl = b.inService isl := rfl

/-! ## `Body.setRing` -/

@[simp] theorem Body.setRing_regs (b : Body) (i : Nat) (r : Ring) : (b.setRing i r).regs = b.regs := rfl
@[simp] theorem Body.setRing_mem (b : Body) (i : Nat) (r : Ring) : (b.setRing i r).mem = b.mem := rfl
@[simp] theorem Body.setRing_lost (b : Body) (i : Nat) (r : Ring) : (b.setRing i r).lost = b.lost := rfl
@[simp] theorem Body.setRing_tiles (b : Body) (i : Nat) (r : Ring) : (b.setRing i r).tiles = b.tiles := rfl
@[simp] theorem Body.setRing_time (b : Body) (i : Nat) (r : Ring) : (b.setRing i r).time = b.time := rfl
@[simp] theorem Body.setRing_cont (b : Body) (i : Nat) (r : Ring) : (b.setRing i r).cont = b.cont := rfl
@[simp] theorem Body.setRing_sb (b : Body) (i : Nat) (r : Ring) : (b.setRing i r).sb = b.sb := rfl
@[simp] theorem Body.setRing_sec (b : Body) (i : Nat) (r : Ring) : (b.setRing i r).sec = b.sec := rfl
@[simp] theorem Body.setRing_hi (b : Body) (i : Nat) (r : Ring) : (b.setRing i r).hi = b.hi := rfl
@[simp] theorem Body.setRing_job (b : Body) (i : Nat) (r : Ring) : (b.setRing i r).job = b.job := rfl
@[simp] theorem Body.setRing_writes (b : Body) (i : Nat) (r : Ring) : (b.setRing i r).writes = b.writes := rfl
@[simp] theorem Body.setRing_xfers (b : Body) (i : Nat) (r : Ring) : (b.setRing i r).xfers = b.xfers := rfl
@[simp] theorem Body.setRing_nextXfer (b : Body) (i : Nat) (r : Ring) : (b.setRing i r).nextXfer = b.nextXfer := rfl
@[simp] theorem Body.setRing_reads (b : Body) (i : Nat) (r : Ring) : (b.setRing i r).reads = b.reads := rfl
@[simp] theorem Body.setRing_ue (b : Body) (i : Nat) (r : Ring) : (b.setRing i r).ue = b.ue := rfl
@[simp] theorem Body.setRing_mems (b : Body) (i : Nat) (r : Ring) : (b.setRing i r).mems = b.mems := rfl
@[simp] theorem Body.setRing_links (b : Body) (i : Nat) (r : Ring) : (b.setRing i r).links = b.links := rfl
@[simp] theorem Body.setRing_fab (b : Body) (i : Nat) (r : Ring) : (b.setRing i r).fab = b.fab := rfl
@[simp] theorem Body.setRing_disp (b : Body) (i : Nat) (r : Ring) : (b.setRing i r).disp = b.disp := rfl
@[simp] theorem Body.setRing_snap (b : Body) (i : Nat) (r : Ring) : (b.setRing i r).snap = b.snap := rfl
@[simp] theorem Body.setRing_out (b : Body) (i : Nat) (r : Ring) : (b.setRing i r).out = b.out := rfl
@[simp] theorem Body.setRing_free (b : Body) (i : Nat) (r : Ring) : (b.setRing i r).free = b.free := rfl
@[simp] theorem Body.setRing_reg (b : Body) (i : Nat) (r : Ring) (q : Nat) : (b.setRing i r).reg q = b.reg q := rfl
@[simp] theorem Body.setRing_rd (b : Body) (i : Nat) (r : Ring) (g : Field) : (b.setRing i r).rd g = b.rd g := rfl
@[simp] theorem Body.setRing_byte (b : Body) (i : Nat) (r : Ring) (q : Nat) : (b.setRing i r).byte q = b.byte q := rfl
@[simp] theorem Body.setRing_tile (b : Body) (i : Nat) (r : Ring) (q : Nat) : (b.setRing i r).tile q = b.tile q := rfl
@[simp] theorem Body.setRing_lnk (b : Body) (i : Nat) (r : Ring) (q : Nat) : (b.setRing i r).lnk q = b.lnk q := rfl
@[simp] theorem Body.setRing_jn (b : Body) (i : Nat) (r : Ring) (q : Nat) : (b.setRing i r).jn q = b.jn q := rfl
@[simp] theorem Body.setRing_memi (b : Body) (i : Nat) (r : Ring) (q : Nat) : (b.setRing i r).memi q = b.memi q := rfl
@[simp] theorem Body.setRing_inService (b : Body) (i : Nat) (r : Ring) (isl : Nat) : (b.setRing i r).inService isl = b.inService isl := rfl

/-! ## `Body.setTile` -/

@[simp] theorem Body.setTile_regs (b : Body) (nn : Nat) (t : Tile) : (b.setTile nn t).regs = b.regs := rfl
@[simp] theorem Body.setTile_mem (b : Body) (nn : Nat) (t : Tile) : (b.setTile nn t).mem = b.mem := rfl
@[simp] theorem Body.setTile_lost (b : Body) (nn : Nat) (t : Tile) : (b.setTile nn t).lost = b.lost := rfl
@[simp] theorem Body.setTile_time (b : Body) (nn : Nat) (t : Tile) : (b.setTile nn t).time = b.time := rfl
@[simp] theorem Body.setTile_obs (b : Body) (nn : Nat) (t : Tile) : (b.setTile nn t).obs = b.obs := rfl
@[simp] theorem Body.setTile_cont (b : Body) (nn : Nat) (t : Tile) : (b.setTile nn t).cont = b.cont := rfl
@[simp] theorem Body.setTile_sb (b : Body) (nn : Nat) (t : Tile) : (b.setTile nn t).sb = b.sb := rfl
@[simp] theorem Body.setTile_sec (b : Body) (nn : Nat) (t : Tile) : (b.setTile nn t).sec = b.sec := rfl
@[simp] theorem Body.setTile_hi (b : Body) (nn : Nat) (t : Tile) : (b.setTile nn t).hi = b.hi := rfl
@[simp] theorem Body.setTile_job (b : Body) (nn : Nat) (t : Tile) : (b.setTile nn t).job = b.job := rfl
@[simp] theorem Body.setTile_writes (b : Body) (nn : Nat) (t : Tile) : (b.setTile nn t).writes = b.writes := rfl
@[simp] theorem Body.setTile_xfers (b : Body) (nn : Nat) (t : Tile) : (b.setTile nn t).xfers = b.xfers := rfl
@[simp] theorem Body.setTile_nextXfer (b : Body) (nn : Nat) (t : Tile) : (b.setTile nn t).nextXfer = b.nextXfer := rfl
@[simp] theorem Body.setTile_reads (b : Body) (nn : Nat) (t : Tile) : (b.setTile nn t).reads = b.reads := rfl
@[simp] theorem Body.setTile_ue (b : Body) (nn : Nat) (t : Tile) : (b.setTile nn t).ue = b.ue := rfl
@[simp] theorem Body.setTile_mems (b : Body) (nn : Nat) (t : Tile) : (b.setTile nn t).mems = b.mems := rfl
@[simp] theorem Body.setTile_links (b : Body) (nn : Nat) (t : Tile) : (b.setTile nn t).links = b.links := rfl
@[simp] theorem Body.setTile_fab (b : Body) (nn : Nat) (t : Tile) : (b.setTile nn t).fab = b.fab := rfl
@[simp] theorem Body.setTile_disp (b : Body) (nn : Nat) (t : Tile) : (b.setTile nn t).disp = b.disp := rfl
@[simp] theorem Body.setTile_snap (b : Body) (nn : Nat) (t : Tile) : (b.setTile nn t).snap = b.snap := rfl
@[simp] theorem Body.setTile_out (b : Body) (nn : Nat) (t : Tile) : (b.setTile nn t).out = b.out := rfl
@[simp] theorem Body.setTile_free (b : Body) (nn : Nat) (t : Tile) : (b.setTile nn t).free = b.free := rfl
@[simp] theorem Body.setTile_reg (b : Body) (nn : Nat) (t : Tile) (q : Nat) : (b.setTile nn t).reg q = b.reg q := rfl
@[simp] theorem Body.setTile_rd (b : Body) (nn : Nat) (t : Tile) (g : Field) : (b.setTile nn t).rd g = b.rd g := rfl
@[simp] theorem Body.setTile_byte (b : Body) (nn : Nat) (t : Tile) (q : Nat) : (b.setTile nn t).byte q = b.byte q := rfl
@[simp] theorem Body.setTile_lnk (b : Body) (nn : Nat) (t : Tile) (q : Nat) : (b.setTile nn t).lnk q = b.lnk q := rfl
@[simp] theorem Body.setTile_jn (b : Body) (nn : Nat) (t : Tile) (q : Nat) : (b.setTile nn t).jn q = b.jn q := rfl
@[simp] theorem Body.setTile_memi (b : Body) (nn : Nat) (t : Tile) (q : Nat) : (b.setTile nn t).memi q = b.memi q := rfl
@[simp] theorem Body.setTile_inService (b : Body) (nn : Nat) (t : Tile) (isl : Nat) : (b.setTile nn t).inService isl = b.inService isl := rfl

/-! ## `Body.setMemi` -/

@[simp] theorem Body.setMemi_regs (b : Body) (k : Nat) (m : MemIsland) : (b.setMemi k m).regs = b.regs := rfl
@[simp] theorem Body.setMemi_mem (b : Body) (k : Nat) (m : MemIsland) : (b.setMemi k m).mem = b.mem := rfl
@[simp] theorem Body.setMemi_lost (b : Body) (k : Nat) (m : MemIsland) : (b.setMemi k m).lost = b.lost := rfl
@[simp] theorem Body.setMemi_tiles (b : Body) (k : Nat) (m : MemIsland) : (b.setMemi k m).tiles = b.tiles := rfl
@[simp] theorem Body.setMemi_time (b : Body) (k : Nat) (m : MemIsland) : (b.setMemi k m).time = b.time := rfl
@[simp] theorem Body.setMemi_obs (b : Body) (k : Nat) (m : MemIsland) : (b.setMemi k m).obs = b.obs := rfl
@[simp] theorem Body.setMemi_cont (b : Body) (k : Nat) (m : MemIsland) : (b.setMemi k m).cont = b.cont := rfl
@[simp] theorem Body.setMemi_sb (b : Body) (k : Nat) (m : MemIsland) : (b.setMemi k m).sb = b.sb := rfl
@[simp] theorem Body.setMemi_sec (b : Body) (k : Nat) (m : MemIsland) : (b.setMemi k m).sec = b.sec := rfl
@[simp] theorem Body.setMemi_hi (b : Body) (k : Nat) (m : MemIsland) : (b.setMemi k m).hi = b.hi := rfl
@[simp] theorem Body.setMemi_job (b : Body) (k : Nat) (m : MemIsland) : (b.setMemi k m).job = b.job := rfl
@[simp] theorem Body.setMemi_writes (b : Body) (k : Nat) (m : MemIsland) : (b.setMemi k m).writes = b.writes := rfl
@[simp] theorem Body.setMemi_xfers (b : Body) (k : Nat) (m : MemIsland) : (b.setMemi k m).xfers = b.xfers := rfl
@[simp] theorem Body.setMemi_nextXfer (b : Body) (k : Nat) (m : MemIsland) : (b.setMemi k m).nextXfer = b.nextXfer := rfl
@[simp] theorem Body.setMemi_reads (b : Body) (k : Nat) (m : MemIsland) : (b.setMemi k m).reads = b.reads := rfl
@[simp] theorem Body.setMemi_ue (b : Body) (k : Nat) (m : MemIsland) : (b.setMemi k m).ue = b.ue := rfl
@[simp] theorem Body.setMemi_links (b : Body) (k : Nat) (m : MemIsland) : (b.setMemi k m).links = b.links := rfl
@[simp] theorem Body.setMemi_fab (b : Body) (k : Nat) (m : MemIsland) : (b.setMemi k m).fab = b.fab := rfl
@[simp] theorem Body.setMemi_disp (b : Body) (k : Nat) (m : MemIsland) : (b.setMemi k m).disp = b.disp := rfl
@[simp] theorem Body.setMemi_snap (b : Body) (k : Nat) (m : MemIsland) : (b.setMemi k m).snap = b.snap := rfl
@[simp] theorem Body.setMemi_out (b : Body) (k : Nat) (m : MemIsland) : (b.setMemi k m).out = b.out := rfl
@[simp] theorem Body.setMemi_free (b : Body) (k : Nat) (m : MemIsland) : (b.setMemi k m).free = b.free := rfl
@[simp] theorem Body.setMemi_reg (b : Body) (k : Nat) (m : MemIsland) (q : Nat) : (b.setMemi k m).reg q = b.reg q := rfl
@[simp] theorem Body.setMemi_rd (b : Body) (k : Nat) (m : MemIsland) (g : Field) : (b.setMemi k m).rd g = b.rd g := rfl
@[simp] theorem Body.setMemi_byte (b : Body) (k : Nat) (m : MemIsland) (q : Nat) : (b.setMemi k m).byte q = b.byte q := rfl
@[simp] theorem Body.setMemi_tile (b : Body) (k : Nat) (m : MemIsland) (q : Nat) : (b.setMemi k m).tile q = b.tile q := rfl
@[simp] theorem Body.setMemi_lnk (b : Body) (k : Nat) (m : MemIsland) (q : Nat) : (b.setMemi k m).lnk q = b.lnk q := rfl
@[simp] theorem Body.setMemi_jn (b : Body) (k : Nat) (m : MemIsland) (q : Nat) : (b.setMemi k m).jn q = b.jn q := rfl
@[simp] theorem Body.setMemi_inService (b : Body) (k : Nat) (m : MemIsland) (isl : Nat) : (b.setMemi k m).inService isl = b.inService isl := rfl

/-! ## `Body.setLnk` -/

@[simp] theorem Body.setLnk_regs (b : Body) (n : Nat) (l : Link) : (b.setLnk n l).regs = b.regs := rfl
@[simp] theorem Body.setLnk_mem (b : Body) (n : Nat) (l : Link) : (b.setLnk n l).mem = b.mem := rfl
@[simp] theorem Body.setLnk_lost (b : Body) (n : Nat) (l : Link) : (b.setLnk n l).lost = b.lost := rfl
@[simp] theorem Body.setLnk_tiles (b : Body) (n : Nat) (l : Link) : (b.setLnk n l).tiles = b.tiles := rfl
@[simp] theorem Body.setLnk_time (b : Body) (n : Nat) (l : Link) : (b.setLnk n l).time = b.time := rfl
@[simp] theorem Body.setLnk_obs (b : Body) (n : Nat) (l : Link) : (b.setLnk n l).obs = b.obs := rfl
@[simp] theorem Body.setLnk_cont (b : Body) (n : Nat) (l : Link) : (b.setLnk n l).cont = b.cont := rfl
@[simp] theorem Body.setLnk_sb (b : Body) (n : Nat) (l : Link) : (b.setLnk n l).sb = b.sb := rfl
@[simp] theorem Body.setLnk_sec (b : Body) (n : Nat) (l : Link) : (b.setLnk n l).sec = b.sec := rfl
@[simp] theorem Body.setLnk_hi (b : Body) (n : Nat) (l : Link) : (b.setLnk n l).hi = b.hi := rfl
@[simp] theorem Body.setLnk_job (b : Body) (n : Nat) (l : Link) : (b.setLnk n l).job = b.job := rfl
@[simp] theorem Body.setLnk_writes (b : Body) (n : Nat) (l : Link) : (b.setLnk n l).writes = b.writes := rfl
@[simp] theorem Body.setLnk_xfers (b : Body) (n : Nat) (l : Link) : (b.setLnk n l).xfers = b.xfers := rfl
@[simp] theorem Body.setLnk_nextXfer (b : Body) (n : Nat) (l : Link) : (b.setLnk n l).nextXfer = b.nextXfer := rfl
@[simp] theorem Body.setLnk_reads (b : Body) (n : Nat) (l : Link) : (b.setLnk n l).reads = b.reads := rfl
@[simp] theorem Body.setLnk_ue (b : Body) (n : Nat) (l : Link) : (b.setLnk n l).ue = b.ue := rfl
@[simp] theorem Body.setLnk_mems (b : Body) (n : Nat) (l : Link) : (b.setLnk n l).mems = b.mems := rfl
@[simp] theorem Body.setLnk_fab (b : Body) (n : Nat) (l : Link) : (b.setLnk n l).fab = b.fab := rfl
@[simp] theorem Body.setLnk_disp (b : Body) (n : Nat) (l : Link) : (b.setLnk n l).disp = b.disp := rfl
@[simp] theorem Body.setLnk_snap (b : Body) (n : Nat) (l : Link) : (b.setLnk n l).snap = b.snap := rfl
@[simp] theorem Body.setLnk_out (b : Body) (n : Nat) (l : Link) : (b.setLnk n l).out = b.out := rfl
@[simp] theorem Body.setLnk_free (b : Body) (n : Nat) (l : Link) : (b.setLnk n l).free = b.free := rfl
@[simp] theorem Body.setLnk_reg (b : Body) (n : Nat) (l : Link) (q : Nat) : (b.setLnk n l).reg q = b.reg q := rfl
@[simp] theorem Body.setLnk_rd (b : Body) (n : Nat) (l : Link) (g : Field) : (b.setLnk n l).rd g = b.rd g := rfl
@[simp] theorem Body.setLnk_byte (b : Body) (n : Nat) (l : Link) (q : Nat) : (b.setLnk n l).byte q = b.byte q := rfl
@[simp] theorem Body.setLnk_tile (b : Body) (n : Nat) (l : Link) (q : Nat) : (b.setLnk n l).tile q = b.tile q := rfl
@[simp] theorem Body.setLnk_jn (b : Body) (n : Nat) (l : Link) (q : Nat) : (b.setLnk n l).jn q = b.jn q := rfl
@[simp] theorem Body.setLnk_memi (b : Body) (n : Nat) (l : Link) (q : Nat) : (b.setLnk n l).memi q = b.memi q := rfl
@[simp] theorem Body.setLnk_inService (b : Body) (n : Nat) (l : Link) (isl : Nat) : (b.setLnk n l).inService isl = b.inService isl := rfl

/-! ## `Body.setJn` -/

@[simp] theorem Body.setJn_regs (b : Body) (k : Nat) (x : Junction) : (b.setJn k x).regs = b.regs := rfl
@[simp] theorem Body.setJn_mem (b : Body) (k : Nat) (x : Junction) : (b.setJn k x).mem = b.mem := rfl
@[simp] theorem Body.setJn_lost (b : Body) (k : Nat) (x : Junction) : (b.setJn k x).lost = b.lost := rfl
@[simp] theorem Body.setJn_tiles (b : Body) (k : Nat) (x : Junction) : (b.setJn k x).tiles = b.tiles := rfl
@[simp] theorem Body.setJn_time (b : Body) (k : Nat) (x : Junction) : (b.setJn k x).time = b.time := rfl
@[simp] theorem Body.setJn_obs (b : Body) (k : Nat) (x : Junction) : (b.setJn k x).obs = b.obs := rfl
@[simp] theorem Body.setJn_cont (b : Body) (k : Nat) (x : Junction) : (b.setJn k x).cont = b.cont := rfl
@[simp] theorem Body.setJn_sb (b : Body) (k : Nat) (x : Junction) : (b.setJn k x).sb = b.sb := rfl
@[simp] theorem Body.setJn_sec (b : Body) (k : Nat) (x : Junction) : (b.setJn k x).sec = b.sec := rfl
@[simp] theorem Body.setJn_hi (b : Body) (k : Nat) (x : Junction) : (b.setJn k x).hi = b.hi := rfl
@[simp] theorem Body.setJn_job (b : Body) (k : Nat) (x : Junction) : (b.setJn k x).job = b.job := rfl
@[simp] theorem Body.setJn_writes (b : Body) (k : Nat) (x : Junction) : (b.setJn k x).writes = b.writes := rfl
@[simp] theorem Body.setJn_xfers (b : Body) (k : Nat) (x : Junction) : (b.setJn k x).xfers = b.xfers := rfl
@[simp] theorem Body.setJn_nextXfer (b : Body) (k : Nat) (x : Junction) : (b.setJn k x).nextXfer = b.nextXfer := rfl
@[simp] theorem Body.setJn_reads (b : Body) (k : Nat) (x : Junction) : (b.setJn k x).reads = b.reads := rfl
@[simp] theorem Body.setJn_ue (b : Body) (k : Nat) (x : Junction) : (b.setJn k x).ue = b.ue := rfl
@[simp] theorem Body.setJn_mems (b : Body) (k : Nat) (x : Junction) : (b.setJn k x).mems = b.mems := rfl
@[simp] theorem Body.setJn_links (b : Body) (k : Nat) (x : Junction) : (b.setJn k x).links = b.links := rfl
@[simp] theorem Body.setJn_disp (b : Body) (k : Nat) (x : Junction) : (b.setJn k x).disp = b.disp := rfl
@[simp] theorem Body.setJn_snap (b : Body) (k : Nat) (x : Junction) : (b.setJn k x).snap = b.snap := rfl
@[simp] theorem Body.setJn_out (b : Body) (k : Nat) (x : Junction) : (b.setJn k x).out = b.out := rfl
@[simp] theorem Body.setJn_free (b : Body) (k : Nat) (x : Junction) : (b.setJn k x).free = b.free := rfl
@[simp] theorem Body.setJn_reg (b : Body) (k : Nat) (x : Junction) (q : Nat) : (b.setJn k x).reg q = b.reg q := rfl
@[simp] theorem Body.setJn_rd (b : Body) (k : Nat) (x : Junction) (g : Field) : (b.setJn k x).rd g = b.rd g := rfl
@[simp] theorem Body.setJn_byte (b : Body) (k : Nat) (x : Junction) (q : Nat) : (b.setJn k x).byte q = b.byte q := rfl
@[simp] theorem Body.setJn_tile (b : Body) (k : Nat) (x : Junction) (q : Nat) : (b.setJn k x).tile q = b.tile q := rfl
@[simp] theorem Body.setJn_lnk (b : Body) (k : Nat) (x : Junction) (q : Nat) : (b.setJn k x).lnk q = b.lnk q := rfl
@[simp] theorem Body.setJn_memi (b : Body) (k : Nat) (x : Junction) (q : Nat) : (b.setJn k x).memi q = b.memi q := rfl
@[simp] theorem Body.setJn_inService (b : Body) (k : Nat) (x : Junction) (isl : Nat) : (b.setJn k x).inService isl = b.inService isl := rfl

/-! ## What the updates change -/

@[simp] theorem Body.emit_out (b : Body) (o : Output) : (b.emit o).out = o :: b.out := rfl
@[simp] theorem Body.takeFree_free (b : Body) : b.takeFree.free = b.free + 1 := rfl

theorem Body.tile_setTile (b : Body) (nn : Nat) (t : Tile) (j : Nat) :
    (b.setTile nn t).tile j = if j = nn then t else b.tile j := SMap.getD_set b.tiles nn t Tile.init j

@[simp] theorem Body.tile_setTile_same (b : Body) (nn : Nat) (t : Tile) : (b.setTile nn t).tile nn = t := by
  rw [Body.tile_setTile, if_pos rfl]

theorem Body.tile_setTile_of_ne (b : Body) {nn j : Nat} (t : Tile) (h : j ≠ nn) : (b.setTile nn t).tile j = b.tile j := by
  rw [Body.tile_setTile, if_neg h]

theorem Body.memi_setMemi (b : Body) (k : Nat) (m : MemIsland) (j : Nat) :
    (b.setMemi k m).memi j = if j = k then m else b.memi j := SMap.getD_set b.mems k m MemIsland.init j

@[simp] theorem Body.memi_setMemi_same (b : Body) (k : Nat) (m : MemIsland) : (b.setMemi k m).memi k = m := by
  rw [Body.memi_setMemi, if_pos rfl]

theorem Body.lnk_setLnk (b : Body) (n : Nat) (l : Link) (j : Nat) :
    (b.setLnk n l).lnk j = if j = n then l else b.lnk j := SMap.getD_set b.links n l Link.init j

@[simp] theorem Body.lnk_setLnk_same (b : Body) (n : Nat) (l : Link) : (b.setLnk n l).lnk n = l := by
  rw [Body.lnk_setLnk, if_pos rfl]

theorem Body.jn_setJn (b : Body) (k : Nat) (x : Junction) (j : Nat) :
    (b.setJn k x).jn j = if j = k then x else b.jn j := SMap.getD_set b.fab.junctions k x Junction.init j

@[simp] theorem Body.jn_setJn_same (b : Body) (k : Nat) (x : Junction) : (b.setJn k x).jn k = x := by
  rw [Body.jn_setJn, if_pos rfl]

theorem Body.setRing_ring (b : Body) (i : Nat) (r : Ring) (j : Nat) :
    (b.setRing i r).ring j = if j = i then r else b.ring j := SMap.getD_insert b.obs.rings i r _ j


/-! ## Taking a sample, writing a trace entry, recording an event, raising a source: each changes registers of DB, what DB
holds, the samples taken, and, for a source, the fault tree, and nothing else (R315, R368, R388, R396) -/

/-- Two modules that differ at most in registers of DB, in what DB holds and in which islands have taken a sample. -/
structure Body.SameButDb (b c : Body) : Prop where
  reg : ∀ key, key / 65536 ≠ 6 → c.reg key = b.reg key
  rest : ∃ regs obs resumed, c = { b with regs := regs, obs := obs, sb := { b.sb with resumed := resumed } }

theorem Body.SameButDb.refl (b : Body) : b.SameButDb b := ⟨fun _ _ => rfl, b.regs, b.obs, b.sb.resumed, rfl⟩

theorem Body.SameButDb.trans {a b c : Body} (h : a.SameButDb b) (g : b.SameButDb c) : a.SameButDb c := by
  obtain ⟨hr, r1, o1, s1, rfl⟩ := h
  obtain ⟨gr, r2, o2, s2, rfl⟩ := g
  exact ⟨fun k hk => (gr k hk).trans (hr k hk), r2, o2, s2, rfl⟩

theorem Body.SameButDb.wr (b : Body) (f : Field) (v : Nat) (h : f.key / 65536 = 6) : b.SameButDb (b.wr f v) :=
  ⟨fun _ hk => Body.reg_wr_of_ne b v (fun e => hk (e ▸ h)), _, b.obs, b.sb.resumed, rfl⟩

theorem Body.SameButDb.obs (b : Body) (o : Observe) : b.SameButDb { b with obs := o } :=
  ⟨fun _ _ => rfl, b.regs, o, b.sb.resumed, rfl⟩

theorem Body.SameButDb.forEach {α : Type} (l : List α) (f : α → Body → Body) (h : ∀ a ∈ l, ∀ b : Body, b.SameButDb (f a b))
    (b : Body) : b.SameButDb (Machine.forEach l f b) := by
  induction l generalizing b with
  | nil => exact .refl b
  | cons a t ih =>
    exact (h a (List.mem_cons_self ..) b).trans (ih (fun x hx => h x (List.mem_cons_of_mem _ hx)) (f a b))

theorem Body.sampled_same (b : Body) (i : Nat) : b.SameButDb (b.sampled i) := by
  unfold Body.sampled
  split
  · split
    · exact ⟨fun _ _ => rfl, b.regs, b.obs, _, rfl⟩
    · split
      · exact .refl b
      · exact ⟨fun _ _ => rfl, b.regs, b.obs, _, rfl⟩
  · exact .refl b

/-- The registers of a ring belong to DB. -/
theorem ring_key {i : Nat} (h : i < 128) : (0x60100 + 0x8 * i) / 65536 = 6 := by omega

theorem Body.trace_same (b : Body) {i : Nat} (c u d : Nat) (g : Bool) (h : i < 128) : b.SameButDb (b.trace i c u d g) := by
  unfold Body.trace
  dsimp only
  split
  · exact (Body.SameButDb.wr b _ _ (ring_key h)).trans (Body.sampled_same _ i)
  · exact (Body.SameButDb.obs b _).trans (Body.sampled_same _ i)

theorem Body.arm_same (b : Body) {i : Nat} (h : i < 128) : b.SameButDb (b.arm i) := by
  unfold Body.arm
  split
  · exact .wr b _ _ rfl
  · exact (Body.SameButDb.obs b _).trans (.wr _ _ _ (ring_key h))

theorem islands_lt {i : Nat} (h : i ∈ islands) : i < 128 := by
  have := List.mem_range.1 (List.mem_filter.1 h).1
  omega

theorem Body.trigger_same (b : Body) {i : Nat} (h : i < 128) : b.SameButDb (b.trigger i) := by
  unfold Body.trigger
  split
  · exact .forEach _ _ (fun j hj t => t.arm_same (islands_lt hj)) b
  · exact b.arm_same h

theorem Body.enqueueRec_same (b : Body) (r : EvRec) : b.SameButDb (b.enqueueRec r) := by
  unfold Body.enqueueRec
  split
  · exact (Body.SameButDb.obs b _).trans (.wr _ _ _ rfl)
  · exact (Body.SameButDb.obs b _).trans (.wr _ _ _ rfl)

theorem Body.setCodeCount_same (b : Body) (c : Nat) (n : CodeCount) : b.SameButDb (b.setCodeCount c n) := .obs b _

theorem Body.recordEvent_same (b : Body) (r : EvRec) : b.SameButDb (b.recordEvent r) := by
  unfold Body.recordEvent
  dsimp only
  split
  · exact b.setCodeCount_same _ _
  · exact (b.setCodeCount_same _ _).trans (Body.enqueueRec_same _ _)

theorem Body.event_same (b : Body) (c : Nat) {i : Nat} (d : Bytes) (h : i < 128) : b.SameButDb (b.event c i d) :=
  (b.recordEvent_same _).trans (Body.trace_same _ _ _ _ _ h)

theorem Body.cfgEvent_same (b : Body) (m : Master) {i : Nat} (off v r : Nat) (h : i < 128) :
    b.SameButDb (b.cfgEvent m i off v r) := b.event_same _ _ h

theorem defaultLevel_island {src : Nat} {l : Nat} (h : defaultLevel src = some l) : src / 64 < 128 := by
  by_contra hc
  have e : defaultLevel src = none := by
    have hi : 100 ≤ src / 64 := by omega
    unfold defaultLevel
    dsimp only
    repeat rw [if_neg (by omega)]
  rw [e] at h
  cases h

/-- Raising a source adds at most one report to the fault tree, and changes nothing else outside DB. -/
theorem Body.raiseOcc_same (b : Body) (o : Occurrence) (u : Nat) :
    b.SameButDb (b.raiseOcc o u) ∨ ∃ r : Report, r.source = o.source ∧ r.level = b.rd (R.CT.SEVERITY.LEVEL o.source) ∧
      r.addr = o.addr ∧ r.period = b.period ∧
      ({ b with cont := { b.cont with tree := b.cont.tree ++ [r] } } : Body).SameButDb (b.raiseOcc o u) := by
  unfold Body.raiseOcc Body.raiseAs
  split
  · exact .inl (.refl b)
  · next l hl =>
    have hi := defaultLevel_island hl
    have key : ∀ (rep : Report) (c : Body), b.SameButDb c →
        ({ b with cont := { b.cont with tree := b.cont.tree ++ [rep] } } : Body).SameButDb
          { c with cont := { c.cont with tree := c.cont.tree ++ [rep] } } := by
      rintro rep c ⟨hr, r1, o1, s1, rfl⟩
      exact ⟨hr, r1, o1, s1, rfl⟩
    dsimp only
    refine .inr ⟨_, ?_, ?_, ?_, ?_, key _ _ ?_⟩
    · rfl
    · rfl
    · rfl
    · rfl
    split
    · exact (b.trace_same _ _ _ _ hi).trans (Body.trigger_same _ hi)
    · exact b.trace_same _ _ _ _ hi

theorem Body.SameButDb.mem {b c : Body} (h : b.SameButDb c) : c.mem = b.mem := by
  obtain ⟨_, _, _, _, rfl⟩ := h
  rfl

theorem Body.SameButDb.lost {b c : Body} (h : b.SameButDb c) : c.lost = b.lost := by
  obtain ⟨_, _, _, _, rfl⟩ := h
  rfl

theorem Body.SameButDb.tiles {b c : Body} (h : b.SameButDb c) : c.tiles = b.tiles := by
  obtain ⟨_, _, _, _, rfl⟩ := h
  rfl

theorem Body.SameButDb.time {b c : Body} (h : b.SameButDb c) : c.time = b.time := by
  obtain ⟨_, _, _, _, rfl⟩ := h
  rfl

theorem Body.SameButDb.cont {b c : Body} (h : b.SameButDb c) : c.cont = b.cont := by
  obtain ⟨_, _, _, _, rfl⟩ := h
  rfl

theorem Body.SameButDb.sec {b c : Body} (h : b.SameButDb c) : c.sec = b.sec := by
  obtain ⟨_, _, _, _, rfl⟩ := h
  rfl

theorem Body.SameButDb.hi {b c : Body} (h : b.SameButDb c) : c.hi = b.hi := by
  obtain ⟨_, _, _, _, rfl⟩ := h
  rfl

theorem Body.SameButDb.job {b c : Body} (h : b.SameButDb c) : c.job = b.job := by
  obtain ⟨_, _, _, _, rfl⟩ := h
  rfl

theorem Body.SameButDb.writes {b c : Body} (h : b.SameButDb c) : c.writes = b.writes := by
  obtain ⟨_, _, _, _, rfl⟩ := h
  rfl

theorem Body.SameButDb.xfers {b c : Body} (h : b.SameButDb c) : c.xfers = b.xfers := by
  obtain ⟨_, _, _, _, rfl⟩ := h
  rfl

theorem Body.SameButDb.nextXfer {b c : Body} (h : b.SameButDb c) : c.nextXfer = b.nextXfer := by
  obtain ⟨_, _, _, _, rfl⟩ := h
  rfl

theorem Body.SameButDb.reads {b c : Body} (h : b.SameButDb c) : c.reads = b.reads := by
  obtain ⟨_, _, _, _, rfl⟩ := h
  rfl

theorem Body.SameButDb.ue {b c : Body} (h : b.SameButDb c) : c.ue = b.ue := by
  obtain ⟨_, _, _, _, rfl⟩ := h
  rfl

theorem Body.SameButDb.mems {b c : Body} (h : b.SameButDb c) : c.mems = b.mems := by
  obtain ⟨_, _, _, _, rfl⟩ := h
  rfl

theorem Body.SameButDb.links {b c : Body} (h : b.SameButDb c) : c.links = b.links := by
  obtain ⟨_, _, _, _, rfl⟩ := h
  rfl

theorem Body.SameButDb.fab {b c : Body} (h : b.SameButDb c) : c.fab = b.fab := by
  obtain ⟨_, _, _, _, rfl⟩ := h
  rfl

theorem Body.SameButDb.disp {b c : Body} (h : b.SameButDb c) : c.disp = b.disp := by
  obtain ⟨_, _, _, _, rfl⟩ := h
  rfl

theorem Body.SameButDb.snap {b c : Body} (h : b.SameButDb c) : c.snap = b.snap := by
  obtain ⟨_, _, _, _, rfl⟩ := h
  rfl

theorem Body.SameButDb.out {b c : Body} (h : b.SameButDb c) : c.out = b.out := by
  obtain ⟨_, _, _, _, rfl⟩ := h
  rfl

theorem Body.SameButDb.free {b c : Body} (h : b.SameButDb c) : c.free = b.free := by
  obtain ⟨_, _, _, _, rfl⟩ := h
  rfl

theorem Body.SameButDb.closed {b c : Body} (h : b.SameButDb c) : c.sb.closed = b.sb.closed := by
  obtain ⟨_, _, _, _, rfl⟩ := h
  rfl

theorem Body.SameButDb.inService {b c : Body} (h : b.SameButDb c) (i : Nat) : c.inService i = b.inService i := by
  unfold Body.inService
  rw [h.closed]

theorem Body.SameButDb.rd {b c : Body} (h : b.SameButDb c) (f : Field) (hf : f.key / 65536 ≠ 6) : c.rd f = b.rd f := by
  unfold Body.rd
  rw [h.reg f.key hf]

theorem Body.SameButDb.byte {b c : Body} (h : b.SameButDb c) (a : Nat) : c.byte a = b.byte a := by
  unfold Body.byte
  rw [h.mem]

theorem Body.SameButDb.tile {b c : Body} (h : b.SameButDb c) (nn : Nat) : c.tile nn = b.tile nn := by
  unfold Body.tile
  rw [h.tiles]

end Sys2Proof.Machine
end

