-- ==== Sys2Proof/Laws/Exec.lean ====
section
/-! SUPPORT. What `run`, `exec` and `step` answer: `run` answers a next state, whose queue is as before, whose memory is in
canonical form and reads as the meaning left it; every meaning is a `run`. -/

namespace Sys2Proof.Machine

/-- The body after a meaning. -/
def after (f : Body → Body) (s : State) : Body := { f s.body with mem := canonCells (f s.body).mem }

theorem run_eq (f : Body → Body) (s : State) : run f s = .next { body := after f s, pending := s.pending } := rfl

theorem after_mem_wf (f : Body → Body) (s : State) : memWf (after f s).mem = true := memWf_canonCells _

@[simp] theorem after_byte (f : Body → Body) (s : State) (a : Nat) : (after f s).byte a = (f s.body).byte a :=
  getD_canonCells _ a

@[simp] theorem after_reg (f : Body → Body) (s : State) (k : Nat) : (after f s).reg k = (f s.body).reg k := rfl
@[simp] theorem after_rd (f : Body → Body) (s : State) (g : Field) : (after f s).rd g = (f s.body).rd g := rfl
@[simp] theorem after_tile (f : Body → Body) (s : State) (nn : Nat) : (after f s).tile nn = (f s.body).tile nn := rfl
@[simp] theorem after_lnk (f : Body → Body) (s : State) (n : Nat) : (after f s).lnk n = (f s.body).lnk n := rfl
@[simp] theorem after_jn (f : Body → Body) (s : State) (k : Nat) : (after f s).jn k = (f s.body).jn k := rfl
@[simp] theorem after_memi (f : Body → Body) (s : State) (k : Nat) : (after f s).memi k = (f s.body).memi k := rfl
@[simp] theorem after_regs (f : Body → Body) (s : State) : (after f s).regs = (f s.body).regs := rfl
@[simp] theorem after_lost (f : Body → Body) (s : State) : (after f s).lost = (f s.body).lost := rfl
@[simp] theorem after_tiles (f : Body → Body) (s : State) : (after f s).tiles = (f s.body).tiles := rfl
@[simp] theorem after_time (f : Body → Body) (s : State) : (after f s).time = (f s.body).time := rfl
@[simp] theorem after_obs (f : Body → Body) (s : State) : (after f s).obs = (f s.body).obs := rfl
@[simp] theorem after_cont (f : Body → Body) (s : State) : (after f s).cont = (f s.body).cont := rfl
@[simp] theorem after_sb (f : Body → Body) (s : State) : (after f s).sb = (f s.body).sb := rfl
@[simp] theorem after_sec (f : Body → Body) (s : State) : (after f s).sec = (f s.body).sec := rfl
@[simp] theorem after_hi (f : Body → Body) (s : State) : (after f s).hi = (f s.body).hi := rfl
@[simp] theorem after_job (f : Body → Body) (s : State) : (after f s).job = (f s.body).job := rfl
@[simp] theorem after_writes (f : Body → Body) (s : State) : (after f s).writes = (f s.body).writes := rfl
@[simp] theorem after_xfers (f : Body → Body) (s : State) : (after f s).xfers = (f s.body).xfers := rfl
@[simp] theorem after_nextXfer (f : Body → Body) (s : State) : (after f s).nextXfer = (f s.body).nextXfer := rfl
@[simp] theorem after_ue (f : Body → Body) (s : State) : (after f s).ue = (f s.body).ue := rfl
@[simp] theorem after_mems (f : Body → Body) (s : State) : (after f s).mems = (f s.body).mems := rfl
@[simp] theorem after_links (f : Body → Body) (s : State) : (after f s).links = (f s.body).links := rfl
@[simp] theorem after_fab (f : Body → Body) (s : State) : (after f s).fab = (f s.body).fab := rfl
@[simp] theorem after_disp (f : Body → Body) (s : State) : (after f s).disp = (f s.body).disp := rfl
@[simp] theorem after_snap (f : Body → Body) (s : State) : (after f s).snap = (f s.body).snap := rfl
@[simp] theorem after_out (f : Body → Body) (s : State) : (after f s).out = (f s.body).out := rfl
@[simp] theorem after_free (f : Body → Body) (s : State) : (after f s).free = (f s.body).free := rfl

/-- Every command's meaning is a `run`: it answers a next state. -/
theorem exec_run (c : Instr) (s : State) : ∃ f : Body → Body, exec c s = run f s := by
  unfold exec
  cases c <;> exact ⟨_, rfl⟩

/-- Every command answers a next state whose queue is as before and whose memory has the canonical form. -/
theorem exec_next (c : Instr) (s : State) :
    ∃ t, exec c s = .next t ∧ t.pending = s.pending ∧ memWf t.body.mem = true := by
  obtain ⟨f, hf⟩ := exec_run c s
  exact ⟨_, hf, rfl, after_mem_wf f s⟩

/-- A step takes the command at the front of the queue. -/
theorem step_cons (c : Instr) (cs : List Instr) (b : Body) :
    step { body := b, pending := c :: cs } = exec c { body := b, pending := cs } := rfl

end Sys2Proof.Machine
end

