-- ==== Sys2Proof/Laws/Tile.lean ====
section
/-! SUPPORT. The issue of a bundle with one instruction outside the control slot: everything it does, said once (R110 to R113,
R137). -/

namespace Sys2Proof.Machine

@[simp] theorem Body.onTile_tile_same (b : Body) (nn : Nat) (f : Tile → Tile) : (b.onTile nn f).tile nn = f (b.tile nn) :=
  Body.tile_setTile_same b nn _

theorem Body.onTile_tile_of_ne (b : Body) {nn j : Nat} (f : Tile → Tile) (h : j ≠ nn) : (b.onTile nn f).tile j = b.tile j :=
  Body.tile_setTile_of_ne b _ h

@[simp] theorem Body.onTile_reg (b : Body) (nn : Nat) (f : Tile → Tile) (k : Nat) : (b.onTile nn f).reg k = b.reg k := rfl
@[simp] theorem Body.onTile_rd (b : Body) (nn : Nat) (f : Tile → Tile) (g : Field) : (b.onTile nn f).rd g = b.rd g := rfl
@[simp] theorem Body.onTile_byte (b : Body) (nn : Nat) (f : Tile → Tile) (a : Nat) : (b.onTile nn f).byte a = b.byte a := rfl

/-- The registers after a stream's counter was set: its two halves. -/
theorem Body.setGenCtr_reg (b : Body) (nn g v k : Nat)
    (h : k ∉ [(R.T.GEN_CTR_LO.CTR nn g).key, (R.T.GEN_CTR_HI.CTR nn g).key]) : (b.setGenCtr nn g v).reg k = b.reg k := by
  simp only [List.mem_cons, List.not_mem_nil, or_false, not_or] at h
  unfold Body.setGenCtr
  rw [Body.reg_wr_of_ne _ _ h.2, Body.reg_wr_of_ne _ _ h.1]

/-- A stream's counter reads what was set, 128 bits of it. -/
theorem Body.genCtr_setGenCtr (b : Body) (nn g v : Nat) : (b.setGenCtr nn g v).genCtr nn g = v % 2 ^ 128 := by
  unfold Body.genCtr Body.setGenCtr Body.pair
  have hk : (R.T.GEN_CTR_HI.CTR nn g).key ≠ (R.T.GEN_CTR_LO.CTR nn g).key := by
    show 0x201018 + _ + _ ≠ 0x201010 + _ + _
    omega
  rw [Body.rd_wr_of_key_ne _ _ hk, Body.rd_wr_same, Body.rd_wr_same]
  show v % 2 ^ 64 + v / 2 ^ 64 % 2 ^ 64 * 2 ^ 64 = v % 2 ^ 128
  have e : (2 : Nat) ^ 128 = 2 ^ 64 * 2 ^ 64 := by norm_num
  rw [e, Nat.mod_mul, Nat.mul_comm]

theorem Body.genCtr_lt (b : Body) (nn g : Nat) : b.genCtr nn g < 2 ^ 128 := by
  unfold Body.genCtr Body.pair
  have h1 : b.rd (R.T.GEN_CTR_LO.CTR nn g) < 2 ^ 64 := Body.rd_lt b _
  have h2 : b.rd (R.T.GEN_CTR_HI.CTR nn g) < 2 ^ 64 := Body.rd_lt b _
  omega

/-- The counters of the eight streams move by what one slot drew. -/
theorem Body.advanceStreams_none (b : Body) (nn : Nat) : b.advanceStreams nn [] = b := rfl

theorem Body.advanceStreams_some (b : Body) (nn g0 n0 : Nat) (h : g0 < 8) :
    b.advanceStreams nn [(g0, n0)] = if n0 = 0 then b else b.setGenCtr nn g0 ((b.genCtr nn g0 + n0) % 2 ^ 128) := by
  have e : List.range 8 = [0, 1, 2, 3, 4, 5, 6, 7] := rfl
  unfold Body.advanceStreams
  rw [e]
  interval_cases g0 <;> simp [forEach, takenOf]

theorem pcKey_ne_busy {nn : Nat} (h : nn < 68) : (R.T.PC.BUNDLE nn).key ≠ (R.PV.ISL_BUSY.COUNT (iT nn)).key := by
  unfold R.T.PC.BUNDLE R.PV.ISL_BUSY.COUNT iT
  dsimp only
  omega

theorem genLo_ne_pc (nn g : Nat) : (R.T.PC.BUNDLE nn).key ≠ (R.T.GEN_CTR_LO.CTR nn g).key := by
  unfold R.T.PC.BUNDLE R.T.GEN_CTR_LO.CTR
  dsimp only
  omega

theorem genHi_ne_pc (nn g : Nat) : (R.T.PC.BUNDLE nn).key ≠ (R.T.GEN_CTR_HI.CTR nn g).key := by
  unfold R.T.PC.BUNDLE R.T.GEN_CTR_HI.CTR
  dsimp only
  omega

theorem genLo_ne_busy {nn : Nat} (h : nn < 68) (g : Nat) :
    (R.T.GEN_CTR_LO.CTR nn g).key ≠ (R.PV.ISL_BUSY.COUNT (iT nn)).key := by
  unfold R.T.GEN_CTR_LO.CTR R.PV.ISL_BUSY.COUNT iT
  dsimp only
  omega

theorem genHi_ne_busy {nn : Nat} (h : nn < 68) (g : Nat) :
    (R.T.GEN_CTR_HI.CTR nn g).key ≠ (R.PV.ISL_BUSY.COUNT (iT nn)).key := by
  unfold R.T.GEN_CTR_HI.CTR R.PV.ISL_BUSY.COUNT iT
  dsimp only
  omega

/-- The body after the streams have moved on by what one slot drew. -/
def Body.afterDraw (c : Body) (nn : Nat) : Option (Nat × Nat) → Body
  | none => c
  | some (g, n) => if n = 0 then c else c.setGenCtr nn g ((c.genCtr nn g + n) % 2 ^ 128)

theorem takenOf_nil (g : Nat) : takenOf [] g = 0 := rfl

theorem forEach_one {α σ : Type} (a : α) (f : α → σ → σ) (s : σ) : forEach [a] f s = f a s := rfl

/-- A register that is not one of the stream's counter keeps its value. -/
theorem Body.afterDraw_reg (c : Body) (nn k : Nat) (d : Option (Nat × Nat))
    (h : ∀ g n, d = some (g, n) → k ∉ [(R.T.GEN_CTR_LO.CTR nn g).key, (R.T.GEN_CTR_HI.CTR nn g).key]) :
    (c.afterDraw nn d).reg k = c.reg k := by
  unfold Body.afterDraw
  split
  · rfl
  · next g n =>
    split
    · rfl
    · exact Body.setGenCtr_reg c nn g _ k (h g n rfl)

theorem Body.setGenCtr_rest (c : Body) (nn g v : Nat) : ∃ regs, c.setGenCtr nn g v = { c with regs := regs } := ⟨_, rfl⟩

theorem Body.afterDraw_rest (c : Body) (nn : Nat) (d : Option (Nat × Nat)) :
    ∃ regs, c.afterDraw nn d = { c with regs := regs } := by
  unfold Body.afterDraw
  split
  · exact ⟨c.regs, rfl⟩
  · split
    · exact ⟨c.regs, rfl⟩
    · exact Body.setGenCtr_rest c nn _ _

theorem Body.afterDraw_some (c : Body) (nn g n : Nat) : c.afterDraw nn (some (g, n)) =
    if n = 0 then c else c.setGenCtr nn g ((c.genCtr nn g + n) % 2 ^ 128) := rfl

/-- The stream drawn from moves on by its blocks. -/
theorem Body.afterDraw_genCtr (c : Body) (nn g n : Nat) :
    (c.afterDraw nn (some (g, n))).genCtr nn g = (c.genCtr nn g + n) % 2 ^ 128 := by
  rw [Body.afterDraw_some]
  by_cases h : n = 0
  · rw [if_pos h, h, Nat.add_zero]
    exact (Nat.mod_eq_of_lt (Body.genCtr_lt c nn g)).symm
  · rw [if_neg h, Body.genCtr_setGenCtr, Nat.mod_mod]

/-- A stream's counter is read from its two registers alone. -/
theorem Body.genCtr_congr {b c : Body} {nn g : Nat} (h1 : b.reg (R.T.GEN_CTR_LO.CTR nn g).key = c.reg (R.T.GEN_CTR_LO.CTR nn g).key)
    (h2 : b.reg (R.T.GEN_CTR_HI.CTR nn g).key = c.reg (R.T.GEN_CTR_HI.CTR nn g).key) : b.genCtr nn g = c.genCtr nn g := by
  unfold Body.genCtr Body.pair Body.rd
  rw [h1, h2]

theorem Body.slotResults_one (c : Body) (nn u slot : Nat) (i : SInstr) (h6 : slot ≠ 6) :
    c.slotResults nn u [(slot, some i)] [] [] =
      ((c.execSlot nn u i (c.draw0 nn)).writes, (c.execSlot nn u i (c.draw0 nn)).draw.toList) := by
  have hdraw : (fun g e => drawAt (c.genKey nn g) (c.genCtr nn g + takenOf [] g) e) = c.draw0 nn := by
    funext g e
    rw [takenOf_nil, Nat.add_zero, Body.draw0]
  unfold Body.slotResults
  rw [hdraw]
  simp [Body.slotResults, h6]

/-- Where the sequencer goes after one instruction outside the control slot. -/
theorem Body.afterIssue_one (c : Body) (nn u slot : Nat) (t0 : Tile) (i : SInstr) (hs : slot ≠ 7) :
    ∃ m : Tile → Option Nat, c.afterIssue nn u t0 [(slot, some i)] =
      (c.wr (R.T.PC.BUNDLE nn) ((c.rd (R.T.PC.BUNDLE nn) * 32 + 32) / 32)).onTile nn
        (fun t => { t with nextIssue := u + 1, offEnd := decide (0x100000 ≤ c.rd (R.T.PC.BUNDLE nn) * 32 + 32), mul64 := m t }) := by
  refine ⟨fun t => if ([(slot, some i)] : List (Nat × Option SInstr)).any
    (fun s => match s.2 with | some i => i.mul64 | none => false) then some u else t.mul64, ?_⟩
  have e : ([(slot, some i)] : List (Nat × Option SInstr)).findSome? (fun s => if s.1 = 7 then s.2 else none) = none := by
    simp [hs]
  unfold Body.afterIssue
  dsimp only
  rw [e]
  rfl

/-- The slots of a bundle that holds one instruction outside the control slot, in closed form. -/
theorem Body.issueSlots_one (c : Body) (nn u slot : Nat) (i : SInstr) (hs : slot ≠ 7) (h6 : slot ≠ 6) (hn : nn < 68)
    (he : ∀ c : Body, c.slotEffect nn u [] none i = c)
    (hd : ∀ g n, (c.execSlot nn u i (c.draw0 nn)).draw = some (g, n) → g < 8) :
    ∃ (k : Nat) (m : Tile → Option Nat), c.issueSlots nn u [] [] [(slot, some i)] =
      (((((c.add (R.PV.ISL_BUSY.COUNT (iT nn)) k).afterDraw nn (c.execSlot nn u i (c.draw0 nn)).draw).pendWrites nn u
        (c.execSlot nn u i (c.draw0 nn)).writes).wr (R.T.PC.BUNDLE nn) ((c.rd (R.T.PC.BUNDLE nn) * 32 + 32) / 32)).onTile nn
          (fun t => { t with nextIssue := u + 1, offEnd := decide (0x100000 ≤ c.rd (R.T.PC.BUNDLE nn) * 32 + 32), mul64 := m t })) := by
  have hpeer : ((if slot = 6 ∧ ([] : List (Option Bytes)).length = 2 then ([] : List (Option Bytes))[1]?
      else ([] : List (Option Bytes))[0]?).getD none) = none := by
    split <;> rfl
  obtain ⟨m, hm⟩ := Body.afterIssue_one
    ((((c.countBusy nn u [(slot, some i)]).afterDraw nn (c.execSlot nn u i (c.draw0 nn)).draw).pendWrites nn u
      (c.execSlot nn u i (c.draw0 nn)).writes)) nn u slot (c.tile nn) i hs
  have hadv : ∀ (d : Option (Nat × Nat)) (x : Body), (∀ g n, d = some (g, n) → g < 8) →
      x.advanceStreams nn d.toList = x.afterDraw nn d := by
    intro d x hx
    cases d with
    | none => rfl
    | some gn =>
      obtain ⟨g, n⟩ := gn
      exact Body.advanceStreams_some x nn g n (hx g n rfl)
  have hstep : c.issueSlots nn u [] [] [(slot, some i)] =
      (((c.countBusy nn u [(slot, some i)]).afterDraw nn (c.execSlot nn u i (c.draw0 nn)).draw).pendWrites nn u
        (c.execSlot nn u i (c.draw0 nn)).writes).afterIssue nn u (c.tile nn) [(slot, some i)] := by
    rw [← hadv _ _ hd]
    unfold Body.issueSlots
    rw [Body.slotResults_one _ _ _ _ _ h6]
    simp only [forEach_one]
    rw [hpeer, he]
  rw [hstep, hm]
  have hpc : ∀ (d : Option (Nat × Nat)) (ws : List (Nat × TileWrite)),
      ((((c.countBusy nn u [(slot, some i)]).afterDraw nn d).pendWrites nn u ws)).rd (R.T.PC.BUNDLE nn)
        = c.rd (R.T.PC.BUNDLE nn) := by
    intro d ws
    unfold Body.pendWrites
    rw [Body.onTile_rd]
    unfold Body.rd
    rw [Body.afterDraw_reg, Body.countBusy, Body.add, Body.reg_wr_of_ne _ _ (pcKey_ne_busy hn)]
    intro g n _
    simp only [List.mem_cons, List.not_mem_nil, or_false, not_or]
    exact ⟨genLo_ne_pc nn g, genHi_ne_pc nn g⟩
  rw [hpc]
  exact ⟨_, m, rfl⟩

/-- The issue of a bundle that holds one instruction outside the control slot and does nothing beside its writes. -/
theorem Body.issueBundle_one {b : Body} {nn slot : Nat} {i : SInstr} (h : b.canIssue nn slot i) (hs : slot ≠ 7)
    (h6 : slot ≠ 6)
    (he : ∀ c : Body, c.slotEffect nn (b.nextCycle nn) [] none i = c) (hn : nn < 68)
    (hd : ∀ g n, ((b.atIssue nn).execSlot nn (b.nextCycle nn) i ((b.atIssue nn).draw0 nn)).draw = some (g, n) → g < 8) :
    Issued b (b.issueBundle nn [] [] [(slot, some i)]) nn
      ((b.atIssue nn).execSlot nn (b.nextCycle nn) i ((b.atIssue nn).draw0 nn)).writes
      ((b.atIssue nn).execSlot nn (b.nextCycle nn) i ((b.atIssue nn).draw0 nn)).draw := by
  obtain ⟨hm, hb⟩ := h
  have key : b.issueBundle nn [] [] [(slot, some i)]
      = (b.atIssue nn).issueSlots nn (b.nextCycle nn) [] [] [(slot, some i)] := by
    unfold Body.issueBundle
    rw [hm]
    simp only [Bool.not_true, Bool.false_eq_true, if_false]
    unfold Body.atIssue Body.nextCycle at hb
    rw [hb]
    rfl
  obtain ⟨k, m, hk⟩ := Body.issueSlots_one (b.atIssue nn) nn (b.nextCycle nn) slot i hs h6 hn he hd
  rw [key, hk]
  clear key hk
  generalize ho : (b.atIssue nn).execSlot nn (b.nextCycle nn) i ((b.atIssue nn).draw0 nn) = o at *
  obtain ⟨ws, d⟩ := o
  dsimp only at hd ⊢
  obtain ⟨rg, hr⟩ := Body.afterDraw_rest ((b.atIssue nn).add (R.PV.ISL_BUSY.COUNT (iT nn)) k) nn d
  have htile : ∀ n, (((b.atIssue nn).add (R.PV.ISL_BUSY.COUNT (iT nn)) k).afterDraw nn d).tile n = (b.atIssue nn).tile n := by
    intro n
    rw [hr]
    rfl
  refine ⟨?_, ?_, ?_, ?_, ?_, ?_, ?_, ?_⟩
  · rw [Body.onTile_tile_same, Body.wr_tile, Body.pendWrites, Body.onTile_tile_same, htile]
  · rw [Body.onTile_tile_same, Body.wr_tile, Body.pendWrites, Body.onTile_tile_same, htile]
  · intro n hnn
    rw [Body.onTile_tile_of_ne _ _ hnn, Body.wr_tile, Body.pendWrites, Body.onTile_tile_of_ne _ _ hnn, htile]
  · rw [Body.onTile_rd, Body.rd_wr_same]
    have : ((b.atIssue nn).rd (R.T.PC.BUNDLE nn) * 32 + 32) / 32 = (b.atIssue nn).rd (R.T.PC.BUNDLE nn) + 1 := by omega
    rw [this]
    rfl
  · intro q hq
    unfold issueKeys at hq
    simp only [List.mem_append, List.mem_cons, List.not_mem_nil, or_false, not_or] at hq
    rw [Body.onTile_reg, Body.reg_wr_of_ne _ _ hq.1.1, Body.pendWrites, Body.onTile_reg, Body.afterDraw_reg,
      Body.add, Body.reg_wr_of_ne _ _ hq.1.2]
    intro g n hg
    subst hg
    simpa using hq.2
  · intro g n hg
    subst hg
    rw [← Body.genCtr_congr (b := (b.atIssue nn).add (R.PV.ISL_BUSY.COUNT (iT nn)) k) (c := b.atIssue nn)
      (Body.reg_wr_of_ne _ _ (genLo_ne_busy hn g)) (Body.reg_wr_of_ne _ _ (genHi_ne_busy hn g)), ← Body.afterDraw_genCtr]
    refine Body.genCtr_congr ?_ ?_
    · rw [Body.onTile_reg, Body.reg_wr_of_ne _ _ (genLo_ne_pc nn g).symm, Body.pendWrites, Body.onTile_reg]
    · rw [Body.onTile_reg, Body.reg_wr_of_ne _ _ (genHi_ne_pc nn g).symm, Body.pendWrites, Body.onTile_reg]
  · intro a
    rw [Body.onTile_byte, Body.wr_byte, Body.pendWrites, Body.onTile_byte, hr]
    rfl
  · rw [hr]
    rfl

theorem Issued.after {b c : Body} {nn : Nat} {ws : List (Nat × TileWrite)} {draw : Option (Nat × Nat)}
    (h : Issued b c nn ws draw) (s : State) (f : Body → Body) (hf : f s.body = c) : Issued b (after f s) nn ws draw := by
  subst hf
  obtain ⟨h1, h2, h3, h4, h5, h6, h7, h8⟩ := h
  refine ⟨h1, h2, h3, h4, h5, h6, ?_, ?_⟩
  · intro a
    rw [after_byte]
    exact h7 a
  · unfold Sys2Proof.Machine.after
    conv_lhs => rw [h8]

/-- A tile command outside the control slot whose instruction does nothing beside its writes and its draw. -/
theorem issues_of {c : Instr} {t : Fin 68} {slot : Nat} {i : SInstr} {ws : Body → List (Nat × TileWrite)}
    {draw : Option (Nat × Nat)} (hx : ∀ s, exec c s = run (issueOne t i) s) (hsl : i.slot = slot) (hs : slot ≠ 7) (h6 : slot ≠ 6)
    (he : ∀ u (c : Body), c.slotEffect t u [] none i = c)
    (hw : ∀ (s : State), s.body.canIssue t slot i → (s.body.atIssue t).execSlot t (s.body.nextCycle t) i
      ((s.body.atIssue t).draw0 t) = { writes := ws (s.body.atIssue t), draw := draw })
    (hd : ∀ g n, draw = some (g, n) → g < 8) : Issues c t slot i ws draw := by
  intro s hc
  refine ⟨{ body := Sys2Proof.Machine.after (issueOne t i) s, pending := s.pending }, by rw [hx]; exact run_eq _ s, rfl, ?_⟩
  have h := Body.issueBundle_one hc hs h6 (he _) t.isLt (by rw [hw s hc]; exact hd)
  rw [hw s hc] at h
  refine Issued.after h s _ ?_
  unfold issueOne
  rw [hsl]

end Sys2Proof.Machine
end

