-- ==== Sys2Proof/WellFormed.lean ====
section
/-! DEFINITION. When a command is well formed: what the types of its operands do not already say.  A command that is not
names a message, a frame or an access that the spec gives no form. -/

namespace Sys2Proof

/-- A physical fault of the array acts inside its 128 rows and 128 columns, or in the lane's column (R91, R99). -/
def arrayFaultOk (f : ArrayFault) : Bool := decide (f.row < 128) && decide (f.col ≤ 128)

/-- A source of a signed command or request: over the port its bytes have the length of the message. -/
def sourceOk (n : Nat) : ScSource → Bool
  | .port bytes => bytes.length == n
  | .reg _ _ => true

/-- A flash content holds a key of 388 bytes, copies of their lengths and 16 counters, where it holds them. -/
def flashOk (f : FlashContent) : Bool :=
  (f.rootKey.isEmpty || f.rootKey.length == 388) && (f.configA.isEmpty || f.configA.length == 4096)
    && (f.configB.isEmpty || f.configB.length == 4096) && decide (f.counters.length ≤ 16) && decide (f.active < 32)

/-- A well-formed command. -/
def Instr.wellFormed : Instr → Bool
  | .registerWrite _ i off _ => decide (i.toNat < 100) && off.toNat % 4 == 0
  | .droopStretch _ => true
  | .departure => true
  | .verdictFaultDecide => true
  | .conservationClose => true
  | .sealSend => true
  | .sealReceive _ pl => pl.length == 128
  | .sealWindowExpiry => true
  | .tileRestoreComplete _ _ => true
  | .departureImageCapture _ _ => true
  | .tilePeriodStart _ => true
  | .jobDepart _ _ => true
  | .tmStop _ => true
  | .load _ => true
  | .unload _ => true
  | .verdictLeafSend => true
  | .verdictChildReceive _ _ => true
  | .verdictNodeTimeout => true
  | .combinedVerdictReceive _ => true
  | .stage _ _ _ digest _ => digest.length == 32
  | .ack _ _ _ => true
  | .ackDeadline => true
  | .announce _ _ _ => true
  | .cancel _ _ => true
  | .stageExpiry => true
  | .bundleIssue _ faults peers => faults.all arrayFaultOk && decide (peers.length ≤ 2)
  | .add _ _ _ _ => true
  | .sub _ _ _ _ => true
  | .and _ _ _ _ => true
  | .or _ _ _ _ => true
  | .xor _ _ _ _ => true
  | .shl _ _ _ _ => true
  | .shr _ _ _ _ => true
  | .sra _ _ _ _ => true
  | .slt _ _ _ _ => true
  | .sltu _ _ _ _ => true
  | .seq _ _ _ _ => true
  | .min _ _ _ _ => true
  | .max _ _ _ _ => true
  | .minu _ _ _ _ => true
  | .maxu _ _ _ _ => true
  | .mul _ _ _ _ => true
  | .mulh _ _ _ _ => true
  | .mulhu _ _ _ _ => true
  | .div _ _ _ _ => true
  | .divu _ _ _ _ => true
  | .rem _ _ _ _ => true
  | .remu _ _ _ _ => true
  | .addi _ _ _ _ => true
  | .andi _ _ _ _ => true
  | .ori _ _ _ _ => true
  | .xori _ _ _ _ => true
  | .shli _ _ _ _ => true
  | .shri _ _ _ _ => true
  | .srai _ _ _ _ => true
  | .lui _ _ _ _ => true
  | .sget _ _ _ => true
  | .sputFlags _ _ => true
  | .sputBounds _ _ k => k != 0
  | .sputBoundsCtrl _ _ k => k != 0
  | .qadv _ _ _ => true
  | .vadd _ _ _ _ _ _ _ => true
  | .vsub _ _ _ _ _ _ _ => true
  | .vmul _ _ _ _ _ _ _ => true
  | .vfma _ _ _ _ _ _ _ => true
  | .vfms _ _ _ _ _ _ _ => true
  | .vdiv _ _ _ _ _ _ _ => true
  | .vsqrt _ _ _ _ _ _ _ => true
  | .vrem _ _ _ _ _ _ _ => true
  | .vmin _ _ _ _ _ _ _ => true
  | .vmax _ _ _ _ _ _ _ => true
  | .vminn _ _ _ _ _ _ _ => true
  | .vmaxn _ _ _ _ _ _ _ => true
  | .vabs _ _ _ _ _ _ _ => true
  | .vneg _ _ _ _ _ _ _ => true
  | .vcsgn _ _ _ _ _ _ _ => true
  | .vrint _ _ _ _ _ _ _ => true
  | .vrintx _ _ _ _ _ _ _ => true
  | .vscaleb _ _ _ _ _ _ _ => true
  | .vlogb _ _ _ _ _ _ _ => true
  | .vcmp _ _ _ _ _ _ _ _ => true
  | .vclass _ _ _ _ _ _ _ => true
  | .vexp2 _ _ _ _ _ _ _ => true
  | .vexp _ _ _ _ _ _ _ => true
  | .vlog2 _ _ _ _ _ _ _ => true
  | .vlog _ _ _ _ _ _ _ => true
  | .vsinpi _ _ _ _ _ _ _ => true
  | .vcospi _ _ _ _ _ _ _ => true
  | .vtanh _ _ _ _ _ _ _ => true
  | .vsigm _ _ _ _ _ _ _ => true
  | .vrsqrt _ _ _ _ _ _ _ => true
  | .vrcpe _ _ _ _ _ _ _ => true
  | .vradd _ _ _ _ _ _ _ => true
  | .vrmax _ _ _ _ _ _ _ => true
  | .viadd _ _ _ _ _ _ => true
  | .visub _ _ _ _ _ _ => true
  | .vimul _ _ _ _ _ _ => true
  | .vand _ _ _ _ _ _ => true
  | .vor _ _ _ _ _ _ => true
  | .vxor _ _ _ _ _ _ => true
  | .vandn _ _ _ _ _ _ => true
  | .vshl _ _ _ _ _ _ => true
  | .vshr _ _ _ _ _ _ => true
  | .vsra _ _ _ _ _ _ => true
  | .vimin _ _ _ _ _ _ => true
  | .vimax _ _ _ _ _ _ => true
  | .viminu _ _ _ _ _ _ => true
  | .vimaxu _ _ _ _ _ _ => true
  | .vsel _ _ _ _ _ _ => true
  | .vbc32 _ _ _ _ _ _ => true
  | .vbc64 _ _ _ _ _ _ => true
  | .vrot _ _ _ _ _ _ => true
  | .vperm _ _ _ _ _ _ => true
  | .pk6 _ _ _ _ _ _ => true
  | .up6 _ _ _ _ _ _ => true
  | .vicmp _ _ _ _ _ _ _ _ => true
  | .predAnd _ _ _ _ => true
  | .predOr _ _ _ _ => true
  | .predXor _ _ _ _ => true
  | .predAndn _ _ _ _ => true
  | .predNot _ _ _ _ => true
  | .predZeros _ _ _ _ => true
  | .predOnes _ _ _ _ => true
  | .predLowest _ _ _ _ => true
  | .vrdacc _ _ _ _ => true
  | .vwracc _ _ _ _ => true
  | .convertToBinary32 _ _ _ _ _ _ _ => true
  | .convertToBinary16 _ _ _ _ _ _ _ => true
  | .convertToBinary64 _ _ _ _ _ _ _ => true
  | .convertToW16 _ _ _ _ _ _ _ => true
  | .convertToN8 _ _ _ _ _ _ _ => true
  | .convertToG8 _ _ _ _ _ _ _ => true
  | .convertToN6 _ _ _ _ _ _ _ => true
  | .convertToN4 _ _ _ _ _ _ _ => true
  | .convertToI8 _ _ _ _ _ _ _ => true
  | .convertToI4 _ _ _ _ _ _ _ => true
  | .convertToU8 _ _ _ _ _ _ _ => true
  | .convertToI32 _ _ _ _ _ _ _ => true
  | .mx _ _ _ _ _ _ _ _ _ _ faults => faults.all arrayFaultOk
  | .mxz _ _ => true
  | .mxRelease _ _ => true
  | .lds _ _ _ _ _ _ => true
  | .ldu _ _ _ _ _ _ => true
  | .sts _ _ _ _ _ _ => true
  | .ldv _ _ _ _ _ _ => true
  | .stv _ _ _ _ _ _ => true
  | .ldp _ _ _ _ _ _ => true
  | .stp _ _ _ _ _ _ => true
  | .lda _ _ _ _ _ _ _ _ _ => true
  | .sta _ _ _ _ _ _ _ _ _ => true
  | .xferCopy _ _ _ _ _ => true
  | .xferReduceBinary32 _ _ _ _ _ => true
  | .xferReduceI32 _ _ _ _ _ => true
  | .xsig _ _ _ _ => true
  | .br _ _ _ => true
  | .bz _ _ _ => true
  | .bnz _ _ _ => true
  | .bpa _ _ _ => true
  | .bpn _ _ _ => true
  | .jal _ _ _ => true
  | .jr _ _ _ => true
  | .lp _ _ _ => true
  | .wait _ _ _ => true
  | .waiti _ _ _ => true
  | .waitSatisfied _ _ => true
  | .arrive _ => true
  | .arrival _ => true
  | .ccset _ _ _ => true
  | .ccadd _ _ _ => true
  | .ccget _ _ _ => true
  | .gdraw _ _ _ => true
  | .gdraws _ _ _ => true
  | .gsetKey _ _ _ _ => true
  | .gsetCounter _ _ _ _ => true
  | .gsetAnchor _ _ _ _ => true
  | .gget _ _ _ _ => true
  | .recover _ _ => true
  | .recoveryComplete _ _ => true
  | .recoveryTimeout _ => true
  | .transferWriteAccept _ => true
  | .transferLeavesFlight _ => true
  | .ueListStart => true
  | .ueGateSatisfied => true
  | .ueNothing => true
  | .layerUpdate _ => true
  | .chartBatch => true
  | .ueCommandComplete => true
  | .memoryRead _ _ _ _ _ _ => true
  | .lineTestComplete _ _ _ _ => true
  | .retire _ _ _ => true
  | .spareFreed _ => true
  | .copyUnit _ es => es.length == 8
  | .copyComplete _ => true
  | .retrainInterval _ => true
  | .retrainNow _ _ _ => true
  | .retrainingDone _ _ _ => true
  | .refresh _ _ _ => true
  | .temperatureReadout _ _ _ => true
  | .memoryInit _ => true
  | .memoryTrainingComplete _ _ => true
  | .zeroFillComplete _ => true
  | .memoryResume _ _ => true
  | .recalibrationDone _ _ => true
  | .lightDetected _ => true
  | .trainingComplete _ => true
  | .trainingTimeout _ => true
  | .identityFrame _ body => body.length == 1308
  | .identityTimeout _ => true
  | .qualificationComplete _ => true
  | .retrainDelayExpiry _ => true
  | .frameReceive _ _ => true
  | .nack _ _ => true
  | .linkFailure _ => true
  | .timeExchangeStart _ => true
  | .timeRequest _ _ _ => true
  | .timeResponse _ _ _ _ _ => true
  | .timeExchangeAbandoned _ => true
  | .laserLoss _ => true
  | .drainEngine _ _ => true
  | .enableEngine _ _ => true
  | .disableEngine _ _ => true
  | .linkDisable _ _ _ => true
  | .linkRelease _ _ => true
  | .linkRetrain _ _ => true
  | .recalibrationStart _ => true
  | .recalibrationEnd _ => true
  | .packetIngress _ bs => decide (36 ≤ bs.length) && decide (bs.length ≤ 548)
  | .duplicateHoldExpiry _ => true
  | .packetInject _ _ => true
  | .slotTick _ => true
  | .tokenReturn _ _ _ _ _ => true
  | .tokenReturnFlush _ => true
  | .sliceEntryWrite _ _ _ => true
  | .sliceDrain _ _ => true
  | .drainComplete _ => true
  | .drainTimeout _ => true
  | .routeEntryWrite _ _ _ => true
  | .saturationInterval _ _ => true
  | .saturationWindow _ => true
  | .podCharter bytes => bytes.length == 512
  | .discover _ _ _ _ => true
  | .report _ msg => msg.farEnds.length == 64
  | .discoveryEnd => true
  | .mapHead _ header => header.length == 448
  | .mapChunk _ _ entries => entries.length % 32 == 0 && decide (entries.length ≤ 480)
  | .mapAck _ _ _ => true
  | .pull _ _ => true
  | .portState _ _ _ => true
  | .mapBatchExpiry => true
  | .heartbeatSend => true
  | .heartbeat _ _ _ => true
  | .chiefTimeout => true
  | .chiefRequest v => v.length == 480
  | .chiefGrant v => v.length == 480
  | .electionTimeout => true
  | .record _ bytes => bytes.length == 128
  | .recordAck _ _ => true
  | .commit _ bytes => bytes.length == 128
  | .sliceAck _ _ _ _ _ => true
  | .suspect _ _ _ _ => true
  | .cons _ _ => true
  | .consSend => true
  | .key _ off data => decide (off + data.length ≤ 836)
  | .vote _ v => v.length == 480
  | .sliceRequest src => sourceOk 512 src
  | .operatorVoteOrder src => sourceOk 512 src
  | .faultOccurrence ext => match ext with | some o => decide (o.source < 6400) && decide (o.reqType < 16) && decide (o.access < 16) && decide (o.unit < 10) | none => true
  | .release _ => true
  | .diagnosisComplete _ _ _ _ => true
  | .substitutionComplete _ => true
  | .tileMapWrite _ _ _ _ => true
  | .beaconSend => true
  | .beacon _ pl => pl.length == 32
  | .beaconWindow => true
  | .wearUpdate => true
  | .fsrEmit => true
  | .fsrAcknowledgement _ => true
  | .fsrResend => true
  | .snapshotStart => true
  | .snapshotCopyComplete => true
  | .snapshotSigned => true
  | .mirrorStart => true
  | .mirrorComplete => true
  | .mirrorTimeout => true
  | .mirrorAcknowledgement _ => true
  | .ferryStart _ _ => true
  | .ferrySlotFill => true
  | .ferryStall => true
  | .loadReceive _ _ => true
  | .loadSend _ _ _ => true
  | .unpack _ _ => true
  | .loadAbandon _ => true
  | .receiveTimeout => true
  | .unpackComplete => true
  | .restoreDecision _ => true
  | .tb0Sample => true
  | .holdover _ => true
  | .timeAnnounceSend => true
  | .timeAnnounce _ pl => pl.length == 32
  | .relockSlew _ _ => true
  | .relockStep _ _ => true
  | .tb3Set _ _ => true
  | .sync _ => true
  | .followUp _ => true
  | .delayReqSend => true
  | .delayResp _ => true
  | .ptpAnnounce _ => true
  | .announceReceiptTimeout => true
  | .thermalSample temps => temps.length == 302
  | .supplySample mv => mv.length == 98
  | .processSample cycles => cycles.length == 98
  | .secondSummary cycles _ => cycles.all (fun c => decide (c.1 < 100))
  | .ringFreeze _ => true
  | .ringRelease _ _ _ => true
  | .eventRecordWrite => true
  | .evrSecondBoundary => true
  | .evrRead _ _ _ => true
  | .evrReadComplete _ _ => true
  | .eventRecordRead _ _ => true
  | .evrClear _ => true
  | .dump _ => true
  | .dumpComplete _ => true
  | .dumpAck _ => true
  | .powerUp _ _ flash => match flash with | some f => flashOk f | none => true
  | .strapResample _ _ => true
  | .powerGood _ _ => true
  | .railTimeout _ => true
  | .readiness => true
  | .pwrEnFall => true
  | .powerGoodLoss => true
  | .railOff => true
  | .smbalert _ => true
  | .pmbusPoll _ _ _ => true
  | .forecast => true
  | .heartbeatFrame => true
  | .target _ _ => true
  | .ackFrame _ => true
  | .nackFrame _ => true
  | .ackTimeout => true
  | .telemetry _ => true
  | .alert _ => true
  | .islandReset _ _ => true
  | .islandPowerCycle _ _ => true
  | .domainOff _ _ => true
  | .domainOn _ _ => true
  | .islandInService _ => true
  | .islandResetTimeout _ => true
  | .powerCycleTimeout _ => true
  | .substitutionTimeout _ => true
  | .moduleFullReset => true
  | .moduleReset _ _ => true
  | .perstAssert => true
  | .perstDeassert => true
  | .hotReset => true
  | .secondaryBusReset => true
  | .fullResetTimeout => true
  | .moduleColdReset => true
  | .coldResetTimeout => true
  | .pcieLinkDown => true
  | .kick _ => true
  | .watchdogExpiry => true
  | .fwStage _ _ _ _ => true
  | .fwSwitch _ _ _ => true
  | .fwSwitchCancel _ => true
  | .calReload _ _ _ _ => true
  | .rollbackCounterRaise _ => true
  | .bar2Read off n => decide (off.toNat + n.toNat ≤ 2 ^ 36)
  | .bar2Write off data => decide (data.length ≤ 4096) && decide (off.toNat + data.length ≤ 2 ^ 36)
  | .assignPlaceAddress src => sourceOk 512 src
  | .timeRelock src => sourceOk 512 src
  | .coldResetCommand src => sourceOk 512 src
  | .attestationRequest src => sourceOk 32 src
  | .configurationBlockStage _ _ => true
  | .trustListStage _ _ => true
  | .laserInputRestored _ => true
  | .ueGateOverrun => true
  | .fullTrainingComplete _ _ => true
  | .selfFenceWindowExpiry => true
  | .managementPortLinkDown => true
  | .managementPortLinkUp _ => true
  | .pciExpressLinkUp lanes speed _ => (lanes == 1 || lanes == 2 || lanes == 4 || lanes == 8) && speed != 0
  | .pciExpressError _ => true
  | .arpRequest _ _ _ => true
  | .icmpEchoRequest _ _ _ => true
  | .timeBaseSecondsRead _ _ => true
  | .dumpTimeout => true
  | .boardPeerRead _ _ _ => true

end Sys2Proof
end

