-- ==== Sys2Proof/Tests/Slice0.lean ====
section
/-! SUPPORT. Tests: states and operands that meet the hypotheses of each statement, a few single commands with results taken from
the rules, instruction words written out from R133, and ill-formed commands. -/

open Sys2Proof Sys2Proof.Machine

section
set_option Elab.async false

namespace Sys2Proof.Tests

/-- The module with every island in service and no job. -/
def up : Body := { Body.reset with sb := ({ SignalBox.init with closed := 0, phase := 3 } : SignalBox) }

/-- The module with every memory island ready. -/
def memUp (b : Body) : Body := forEach (List.range 8) (fun k t => t.wr (R.M.STATUS.STATE k) 2) b

/-- A timetable with one period type, which has every flag. -/
def oneType : Image :=
  { serial := 1, window := 0, replayLimit := 0, tag := 1, epoch := 0,
    types := [{ length := 100000, policy := 0, flags := 0x3F, cursor := 0, stride := 0, segFirst := 0, segCount := 0, slots := [] }],
    seq := [0], entries := [], code := [], edges := [], platforms := [], segments := [], vtree := none, wide := false,
    digest := [] }

/-- A module in service whose tile 0 runs: a job runs, its period type has every flag, and the tile has entered its period. -/
def running : Body :=
  let b0 : Body := { Body.reset with sb := ({ SignalBox.init with closed := 0 } : SignalBox) }
  let b1 := ((b0.wr R.TM.TT_STATUS.STATE 2).wr (R.T.TILE_STATUS.STATE 0) 1).setTile 0
    { Tile.init with entered := true, lastEntry := some 0, s := [(2, 0x300000), (4, 32), (5, 8)] }
  { b1 with job := { Job.init with departed := true, active := some oneType } }

/-- That module as a machine with no command waiting. -/
def runs : State := { body := running, pending := [] }

/-- Tile 0 may issue the instruction. -/
def issuable (slot : Nat) (i : SInstr) : Bool :=
  running.mayIssue 0 && decide ((running.atIssue 0).bundleStop 0 (running.nextCycle 0) [(slot, some i)] = none)

theorem canIssue_of {slot : Nat} {i : SInstr} (h : issuable slot i = true) : running.canIssue 0 slot i := by
  unfold issuable at h
  simpa [Body.canIssue] using h

theorem test_scalar_rows_issue : scalarRows.all (fun r => issuable 0 (.sr r.2.1 1 2 0)) = true := by decide +kernel
theorem test_immediate_rows_issue : immediateRows.all (fun r => issuable 0 (.si r.2.1 1 0 63)) = true := by decide +kernel
theorem test_sget_issues : (sgetRows (running.atIssue 0) 0 (running.nextCycle 0)).all
    (fun r => issuable 0 (.sx .sget 1 (BitVec.ofNat 8 r.1))) = true := by decide +kernel
theorem test_sput_issues : issuable 0 (.sx .sput 2 1) = true ∧ issuable 0 (.sx .sput 2 0x11) = true
    ∧ issuable 0 (.sx .sput 2 0x1F) = true ∧ issuable 0 (.sx .qadv 2 1) = true := by decide +kernel
/-- RG = 0x300000 is accepted as bounds 0 … 0 apart from its LO, which exceeds HI: refused; and as MAX_OUT it is refused too. -/
theorem test_sput_bounds_both : (running.atIssue 0).boundsAccepted 0 1 0 = true
    ∧ (running.atIssue 0).boundsAccepted 0 1 0x300000 = false ∧ (running.atIssue 0).boundsCtrlAccepted 0 7 8 = true
    ∧ (running.atIssue 0).boundsCtrlAccepted 0 7 0x7FFF = false := by decide +kernel
theorem test_element_rows_issue : elementRows.all (fun r => issuable 2 (.va r.2.1 3 4 0 0 0 0)) = true := by decide +kernel
theorem test_element_rows_draw : issuable 2 (.va .vadd 3 4 5 7 2 4) = true := by decide +kernel
theorem test_function_rows_issue : functionRows.all (fun r => issuable 2 (.va r.2.1 3 4 0 0 1 0)) = true := by decide +kernel
theorem test_reduction_rows_issue : issuable 2 (.va .vradd 3 4 0 0 2 3) = true ∧ issuable 2 (.va .vrmax 3 4 0 1 1 0) = true := by
  decide +kernel
theorem test_lane_rows_issue : laneRows.all (fun r => issuable 2 (.vint r.2.1 3 4 5 1 0)) = true := by decide +kernel
theorem test_data_rows_issue : dataRows.all (fun r => issuable 2 (.vdata r.2.1 3 4 0 0 0)) = true := by decide +kernel
theorem test_predicate_rows_issue : predicateRows.all (fun r => issuable 2 (.vp r.2.1 3 0 0)) = true := by decide +kernel
theorem test_compare_issues : issuable 2 (.vk true 0 3 4 5 0 0xC 5) = true ∧ issuable 2 (.vk false 1 3 4 5 0 1 7) = true := by
  decide +kernel
theorem test_accumulator_issues : issuable 2 (.vq false 3 1 15) = true ∧ issuable 2 (.vq true 3 1 15) = true := by decide +kernel
theorem test_convert_rows_issue : convertRows.all (fun r => issuable 2 (.vc r.2 3 4 1 0 0 0)) = true := by decide +kernel
/-- The record of registers s2 to s5: A at 0x300000, M = N = K = 0. -/
theorem test_matrix_issues : issuable 4 (.mx 1 8 8 2 0 0 0 0 0) = true ∧ issuable 4 (.mxz 1) = true := by decide +kernel
theorem test_moves_issue : issuable 5 (.ml 0 1 2 0 3 0) = true ∧ issuable 5 (.ml 1 1 2 0 3 0) = true ∧ issuable 5 (.ml 2 1 2 0 3 0) = true
    ∧ issuable 5 (.mv false 1 2 0 0 0) = true ∧ issuable 5 (.mv true 1 2 0 1 0) = true ∧ issuable 5 (.mp false 1 2 0 0 0) = true
    ∧ issuable 5 (.mp true 1 2 0 0 0) = true := by decide +kernel
theorem test_accumulator_moves_issue : issuable 5 (.ma false 1 15 0 0 2 0 0 0) = true ∧ issuable 5 (.ma true 1 15 4 4 2 0 7 0) = true := by
  decide +kernel
theorem test_branches_issue : issuable 7 (.cb .br 0 1) = true ∧ issuable 7 (.cb .bz 0 1) = true ∧ issuable 7 (.cb .bnz 2 1) = true
    ∧ issuable 7 (.cbp false 0 1) = true ∧ issuable 7 (.cbp true 1 1) = true ∧ issuable 7 (.cb .jal 1 1) = true
    ∧ issuable 7 (.cb .jr 4 0) = true ∧ issuable 7 (.cb .lp 5 1) = true := by decide +kernel
theorem test_waits_issue : issuable 7 (.wait 1 0) = true ∧ issuable 7 (.waiti 1 5) = true ∧ issuable 7 .arrive = true := by
  decide +kernel
theorem test_counters_issue : issuable 7 (.cn 0 1 2) = true ∧ issuable 7 (.cn 1 1 2) = true ∧ issuable 7 (.cn 2 1 2) = true := by
  decide +kernel
theorem test_generator_issues : issuable 7 (.cg 0 1 7 0 0) = true ∧ issuable 7 (.cg 1 1 7 0 0) = true
    ∧ (List.range 3).all (fun i => issuable 7 (.cg 2 1 7 2 (BitVec.ofNat 3 i))) = true
    ∧ (List.range 6).all (fun i => issuable 7 (.cg 3 1 7 0 (BitVec.ofNat 3 i))) = true := by decide +kernel
/-- A tile that waits on counter 1 for 0, and one that arrives. -/
theorem test_wait_satisfied_meets : ((running.setTile 0 { Tile.init with waiting := some (1, 0) }).tile 0).waiting = some (1, 0)
    ∧ ((running.setTile 0 { Tile.init with arriving := some 9 }).tile 0).arriving = some 9 := by decide +kernel
/-- An all-zero bundle is eight no-ops; it issues.  The same tile past the end of its code region is stopped. -/
theorem test_bundle_issues : running.mayIssue 0 = true ∧ running.codeAt 0 0 = true
    ∧ (running.atIssue 0).bundleStop 0 (running.nextCycle 0) (bundleSlots (running.sram 0 0 32)) = none
    ∧ (running.wr (R.T.PC.BUNDLE 0) 0x7FFF).codeAt 0 (32 * 0x7FFF) = false := by decide +kernel
/-- Two slots that write s1 in one cycle: kind 2 in slot 0. -/
theorem test_bundle_stops : (running.atIssue 0).bundleStop 0 (running.nextCycle 0)
    [(0, some (.sr .add 1 2 2)), (1, some (.sr .sub 1 2 2))] = some (0, 2, 0, 1) := by decide +kernel
theorem test_release_meets : running.inService (iT 0) = true := by decide +kernel

end Sys2Proof.Tests

namespace Sys2Proof.Tests

/-! ## The periods, the seals and the tiles' entry -/

/-- `running` with what a departure or a seal needs of the job. -/
def jobWith (f : Job → Job) : Body := { running with job := f running.job }

def closingOf : Closing :=
  { period := 0, t0 := 0, causes := 0, laneMask := 0, plausMask := 0, lateMask := 0, tokens := 0, counts := [], closed := false,
    ctClosed := false, sent := false, stepPeriod := false, consumers := [0x100], tag := 1, epoch := 0, advance := none }

def awaitedOf : Awaited :=
  { producer := 0x200, period := 0, gate := 5, propagate := false, heard := false, resolved := false, stepPeriod := false }

theorem test_departure_meets : running.jobRuns = true ∧ running.job.active = some oneType ∧ running.cont.expelNext = false
    ∧ running.job.stopping = false ∧ running.job.staged = none ∧ running.job.departed = true
    ∧ (jobWith (fun j => { j with departed := false })).job.departed = false
    ∧ (jobWith (fun j => { j with stopping := true })).jobRuns = true := by decide +kernel
set_option maxRecDepth 100000 in
/-- A departure of a job that was told to stop ends it. -/
theorem test_departure_stops : (match exec .departure { body := jobWith (fun j => { j with stopping := true }), pending := [] } with
    | .next t => t.body.rd R.TM.TT_STATUS.STATE == 1
    | _ => false) = true := by decide +kernel
theorem test_job_rows_meet : up.jobRuns = false ∧ running.jobRuns = true ∧ up.ns 0 + 100000 ≤ 10000 * 10
    ∧ ({ up with job := { Job.init with active := some oneType } } : Body).job.active.isSome = true := by decide +kernel
/-- 0.1 ms ahead is accepted at its edge, and one unit of 10 ns less is not. -/
theorem test_depart_edge :
    let b : Body := { up with job := { Job.init with active := some oneType } }
    let st (n : Nat) : Nat := match exec (.jobDepart .mg (BitVec.ofNat 63 n)) { body := b, pending := [] } with
      | .next t => t.body.rd R.TM.TT_STATUS.STATE
      | _ => 9
    st 10000 = 2 ∧ st 9999 = 0 := by decide +kernel
/-- R465: an image length of 0 is refused with a code; nothing is loaded. -/
theorem test_load_refused : (match exec (.load .host) { body := up, pending := [] } with
    | .next t => decide (t.body.rd R.TM.LOAD_STATUS.CODE ≠ 1) && t.body.job.active.isNone
    | _ => false) = true := by decide +kernel
theorem test_staged_meets : up.inService iMG = true ∧ (up.wr R.MG.DSP_STATUS.ROLE 2).isChief = true
    ∧ oneType.serial = (1 : BitVec 32).toNat ∧ running.period = 0
    ∧ (jobWith (fun j => { j with staged := some oneType })).rd R.TM.TT_STATUS.ANNOUNCED = 0
    ∧ ((jobWith (fun j => { j with staged := some oneType })).wr R.TM.DEPART_PERIOD.PERIOD 64).period = 64 := by decide +kernel
theorem test_seal_meets : up.inService iCT = true ∧ up.rd R.CT.STATUS.EXPELLED = 0 ∧ up.firstJunction = some 0
    ∧ closingOf.closed = false ∧ closingOf.sent = false ∧ closingOf.consumers ≠ []
    ∧ (jobWith (fun j => { j with awaited := [awaitedOf] })).oldestAwaited = some 0
    ∧ (jobWith (fun j => { j with awaited := [awaitedOf], history := [(1, 5000)] })).resolveAt 0 = some (5000 + running.windowNs) := by decide +kernel
/-- A seal of the running period is held for its departure; one of a past period without an edge raises CT source 2. -/
theorem test_seal_arrives :
    let b := running.wr R.TM.DEPART_PERIOD.PERIOD 1
    let got (n : Nat) : Option (Nat × Nat) := match exec (.sealReceive 0x200 (leBytes 8 n ++ zeros 120)) { body := b, pending := [] } with
      | .next t => some (t.body.job.heldSeals.length, t.body.cont.tree.length)
      | _ => none
    got 1 = some (1, 0) ∧ got 0 = some (0, 1) := by decide +kernel
theorem test_verdict_meets :
    let im (k : Nat) : Image := { oneType with vtree := some ⟨0x200, 1, k⟩ }
    (jobWith (fun j => { j with active := some (im 0) })).vtree = some ⟨0x200, 1, 0⟩
    ∧ (jobWith (fun j => { j with active := some (im 2) })).vtree = some ⟨0x200, 1, 2⟩ ∧ running.job.combined = none
    ∧ running.job.verdictSent = false := by decide +kernel
theorem test_entry_meets : running.inService (iT 0) = true
    ∧ ((running.setTile 0 { Tile.init with entryDue := true }).tile 0).restore = none
    ∧ ((running.setTile 0 { Tile.init with capturing := true }).tile 0).entryDue = false
    ∧ ((running.setTile 0 { Tile.init with lastEntry := some 0 }).tile 0).lastEntry = some running.period
    ∧ ((running.setTile 0 { Tile.init with recovering := true, entered := true }).tile 0).recovering = true
    ∧ running.sb.module = none ∧ running.sb.steps = [] := by decide +kernel
/-- A tile captures its departure image, which is then whole (R126). -/
theorem test_capture_is_whole : (match exec (.departureImageCapture 0 .pass)
      { body := running.setTile 0 { Tile.init with capturing := true, s := [(7, 5)] }, pending := [] } with
    | .next t => t.body.imageOk 0 0 && t.body.leAt (sramBase 0 + imageHalf 0 + 0x40 + 56) 8 == 5
    | _ => false) = true := by decide +kernel

end Sys2Proof.Tests

namespace Sys2Proof.Tests

/-! ## The update engine and the memory -/

/-- A layer update over one binary32 element, without gate and completion: W at 0x1000, G at 0x2000, m at 0x3000, v at 0x4000. -/
def layerCmd : Bytes := leBytes 4 1 ++ leBytes 4 0xFFFFFFFF ++ leBytes 4 0 ++ leBytes 4 1 ++ leBytes 8 0x1000 ++ leBytes 8 0x2000
  ++ leBytes 8 0x3000 ++ leBytes 8 0x4000 ++ zeros 80
/-- A chart batch of one point at 0x1000 over a table of one channel at 0x2000. -/
def chartCmd : Bytes := leBytes 4 2 ++ leBytes 4 0xFFFFFFFF ++ leBytes 4 0 ++ leBytes 4 1 ++ leBytes 8 0x1000 ++ leBytes 8 0x2000
  ++ leBytes 8 1 ++ zeros 88
/-- UE has taken up the command: a gated list of it alone, at t = 1. -/
def ueAt (p : UePhase) (c : Bytes) : Body :=
  { running with ue := { UeRun.init with list := [c], phase := p, t := 1, gated := true, started := some 0 } }
/-- `ueAt` with the gradient 1.0. -/
def layerBody : Body := (memUp (ueAt .admitted layerCmd)).put 0x2000 (leBytes 4 0x3F800000)

theorem test_list_start_meets : running.runningType = some (oneType.types.headD ⟨0, 0, 0, 0, 0, 0, 0, []⟩)
    ∧ bit 0x3F 5 = true ∧ running.inService iUE = true ∧ running.ue.started ≠ some running.period ∧ running.ue.phase = .idle
    ∧ running.leAt 8 4 = 0 ∧ (running.put 0 (leBytes 8 64 ++ leBytes 4 1)).leAt 8 4 = 1
    ∧ (running.put 0 (leBytes 8 8 ++ leBytes 4 1)).leAt 0 8 % 64 ≠ 0
    ∧ running.gateOpen layerCmd = true ∧ running.gateOpen (leBytes 4 1 ++ leBytes 4 0x0005FFFF ++ leBytes 4 1) = false := by decide +kernel
theorem test_command_meets : (ueAt .gate layerCmd).ue.list[(ueAt .gate layerCmd).ue.idx]? = some layerCmd
    ∧ ({ ueAt .gate layerCmd with job := { running.job with nextAt := 100000 } } : Body).ueFits layerCmd = true
    ∧ running.cont.substs = [] ∧ idsOk (zeros 4 ++ leBytes 4 0xFFFFFFFF) = true ∧ idsOk (zeros 4 ++ leBytes 4 0xFFFF1000) = false
    ∧ running.physOf 0 = some 0 := by decide +kernel
/-- R191: a command of OP 0 runs, and its completion counts counter 5 of tile 0; UE goes idle at the end of its list. -/
theorem test_nothing_completes :
    let c : Bytes := leBytes 4 0 ++ leBytes 4 0xFFFF0005 ++ zeros 120
    (match exec .ueNothing { body := ueAt .admitted c, pending := [] } with
     | .next t =>
       match exec .ueCommandComplete t with
       | .next u => decide (u.body.ue.phase = .idle) && (u.body.tile 0).getCC 5 == 1
       | _ => false
     | _ => false) = true := by decide +kernel
theorem test_layer_meets : layerBody.layerValid layerCmd = true ∧ (ueAt .admitted chartCmd).layerValid chartCmd = false
    ∧ cmdCount layerCmd = 1 ∧ layerBody.elemLost ((layerBody.layer layerCmd).run 0).1 0 = false
    ∧ ((layerBody.passOne layerCmd ((layerBody.layer layerCmd).run 0).1).run ((layerBody.layer layerCmd).run 0).2).1.isSome = true
    ∧ (((layerBody.put 0x2000 (leBytes 4 0x7F800000)).passOne layerCmd ((layerBody.layer layerCmd).run 0).1).run 0).1 = none
    ∧ bit (le layerCmd 1 1) 2 = false := by decide +kernel
/-- With g = 1.0 the moments become 1 − β1 and 1 − β2 (R197): of 0.9 and 0.999 in binary32, 0x3DCC_CCD0 and 0x3A83_1200. -/
theorem test_layer_stores : (match exec (.layerUpdate 1) { body := layerBody, pending := [] } with
    | .next t => t.body.leAt 0x3000 4 == 0x3DCCCCD0 && t.body.leAt 0x4000 4 == 0x3A831200 && t.body.rd R.UE.LAYERS_DONE.COUNT == 1
    | _ => false) = true := by decide +kernel
/-- λ = 1.0 and every other field zero, enabled. -/
def chartRecord : Bytes := leBytes 4 0x3F800000 ++ zeros 24 ++ leBytes 4 1
def chartBody : Body := (memUp (ueAt .admitted chartCmd)).put 0x2000 chartRecord
theorem test_chart_meets : chartValid chartCmd = true ∧ cmdCount chartCmd = 1 ∧ chartBody.pointLost chartCmd 0 = none
    ∧ chartRecordOk chartRecord = true ∧ bit (le chartRecord 28 1) 0 = true ∧ isFinite32 0x3F800000 = true
    ∧ chartRecordOk (zeros 32) = false ∧ chartValid (leBytes 4 0x102) = false
    ∧ chartRecordOk (leBytes 4 0x3F800000 ++ zeros 28) = true := by decide +kernel
/-- The point 1.0 at λ = 1 gives z = 1.0, beyond the limits 0: without a list the alarm is dropped, and t is 1 (R208, R209). -/
theorem test_chart_point : (match exec .chartBatch { body := chartBody.put 0x1004 (leBytes 4 0x3F800000), pending := [] } with
    | .next t => t.body.leAt 0x2010 4 == 0x3F800000 && t.body.leAt 0x2018 4 == 1 && t.body.rd R.UE.ALARM_DROPPED.VALUE == 1
        && t.body.rd R.UE.POINTS_DONE.COUNT == 1
    | _ => false) = true := by decide +kernel
/-- R216: a whole burst decodes clean; with one byte of it wrong it is corrected. -/
theorem test_burst :
    let stored := zeros 32 ++ (rsCheck ((codeword 7 (zeros 32)).take 34)).map (BitVec.ofNat 8)
    decodeBurst 0 7 stored = .clean (zeros 32) ∧ decodeBurst 0 7 (overlay stored 35 [stored.getD 35 0 ^^^ 0xFF]) = .correctable (zeros 32) := by
  decide +kernel
def memReady : Body := up.wr (R.M.STATUS.STATE 0) 2
theorem test_memory_read_meets : memReady.rd (R.M.STATUS.STATE (memReady.subChannel 0).1) = 2 ∧ (memReady.memi 0).held = []
    ∧ (memReady.memi 0).training = [] ∧ (memReady.readBurst 0 0 0).2.1 = .clean (zeros 32)
    ∧ (memReady.readBurst 0 0 1).2.1 = .correctable (zeros 32) ∧ (memReady.readBurst 0 0 (0x010203 * 2 ^ 100)).2.1 = .uncorrectable := by
  decide +kernel
theorem test_line_test_meets :
    let h : HeldRead := ⟨3, 0, 0, 0, zeros 36⟩
    ((memReady.setMemi 0 { MemIsland.init with held := [h] }).memi 0).held.filter (fun x => x.sc == 3) = [h] := by decide +kernel
theorem test_copy_meets : memReady.rd (R.M.COPY_STATUS.ACTIVE 0) = 0 ∧ memReady.slotOf 0 0 = some 0 ∧ memReady.spareOf 0 = some 120
    ∧ memReady.rd (R.M.SC.STATE 0 0) = 0 ∧ memReady.inService (iM 0) = true
    ∧ ((memReady.wr (R.M.COPY_STATUS.ACTIVE 0) 1).wr (R.M.COPY_STATUS.POINTER 0) copyEnd).rd (R.M.COPY_STATUS.POINTER 0) = copyEnd
    ∧ (memReady.wr (R.M.RETRAIN_CTRL.INTERVAL 0) 1).rd (R.M.RETRAIN_CTRL.INTERVAL 0) ≠ 0
    ∧ (memReady.wr (R.M.SC.STATE 0 5) 4).rd (R.M.SC.STATE 0 5) = 4 := by decide +kernel
/-- R225, R226: a retirement starts a copy of sub-channel 5 to the lowest spare, 120. -/
theorem test_retire : (match exec (.retire .mg 0 5) { body := memReady, pending := [] } with
    | .next t => t.body.rd (R.M.COPY_STATUS.SRC 0) == 5 && t.body.rd (R.M.COPY_STATUS.DST 0) == 120 && t.body.rd (R.M.COPY_STATUS.ACTIVE 0) == 1
    | _ => false) = true := by decide +kernel
theorem test_memory_start_meets : up.rd (R.M.STATUS.STATE 0) = 0 ∧ up.rd (R.M.SC.STATE 0 0) ≤ 2
    ∧ ((up.wr (R.M.STATUS.STATE 0) 1).wr (R.M.STATUS.FSP 0) 1).rd (R.M.STATUS.FSP 0) = 1
    ∧ ((up.wr (R.M.STATUS.STATE 0) 3).rd (R.M.STATUS.STATE 0)) = 3
    ∧ ((up.setMemi 0 { MemIsland.init with training := [(5, .resume)] }).memi 0).training = [((5 : Fin 128).val, .resume)] := by
  decide +kernel

/-! ## Links and packets -/

theorem test_link_states_meet : (List.range 10).all (fun st => (up.wr (R.L.LINK_STATUS.STATE 0 0) st).linkState 0 == st) = true
    ∧ (up.wr R.MG.DSP_STATUS.MAP_STATE 2).rd R.MG.DSP_STATUS.MAP_STATE = 2 ∧ bit up.sb.lasers (engineOf 0) = false
    ∧ bit ({ up with sb := { up.sb with lasers := 1 } } : Body).sb.lasers (engineOf 0) = true
    ∧ (List.range 64).any (fun far => cabledRight 0 far) = true ∧ (List.range 64).any (fun far => !cabledRight 0 far) = true := by decide +kernel
/-- R245: light takes link 3 from state 1 to training; 50 ms without an end of it fail the link. -/
theorem test_link_trains : (match exec (.lightDetected 3) { body := up.wr (R.L.LINK_STATUS.STATE 0 3) 1, pending := [] } with
    | .next t =>
      match exec (.trainingTimeout 3) t with
      | .next u => t.body.linkState 3 == 2 && u.body.linkState 3 == 7
      | _ => false
    | _ => false) = true := by decide +kernel
set_option maxRecDepth 100000 in
/-- The words of an all-zero frame decode without a correction. -/
theorem test_frame_meets : up.inService (iL 0) = true
    ∧ (rsDecode (frameWord (List.replicate 1088 0) 0)).map (·.2) = some 0 ∧ up.rd (R.L.TIME_CTRL.INTERVAL 0) ≠ 0 ∧ (up.lnk 0).replay = []
    ∧ up.rd (R.L.TIME_ASYM.ASYM 0 0) = 0 := by decide +kernel
def nackBody : Body :=
  (up.wr (R.L.LINK_STATUS.STATE 0 0) 6).setLnk 0 ({ Link.init with replay := [⟨10, 1, noFirst, [], [], 1⟩], txNext := 11 } : Link)
/-- A NACK that acknowledges nothing has the one frame sent again (R242). -/
theorem test_nack : (match exec (.nack 0 9) { body := nackBody, pending := [] } with
    | .next t => (t.body.lnk 0).replay == [⟨10, 1, noFirst, [], [], 2⟩] && t.body.out.length == 1
    | _ => false) = true := by decide +kernel
theorem test_link_control_meets : up.inService (iL 0) = true ∧ up.jobRuns = false ∧ running.jobRuns = true
    ∧ (up.wr (R.L.LINK_STATUS.STATE 0 0) 6).linkState 0 = 6 ∧ bit up.sb.drained 0 = false
    ∧ (up.wr (R.L.LINK_STATUS.STATE 0 0) 6).recalTurn 0 = some 0 := by decide +kernel
/-- A management packet of no payload to place 0. -/
def aPacket : Packet :=
  { dest := 0, source := 0x100, tag := 0, epoch := 0, cls := 0, flags := 0, defl := 0, seq := 1, counter := 0xFFFF, addr := 0, period := 0,
    op := 7, payload := [] }
theorem test_packet_round_trip : aPacket.InRange ∧ parsePacket (packetBytes aPacket) = aPacket ∧ headerCrcOk (packetBytes aPacket) = true := by
  unfold Packet.InRange
  decide +kernel
/-- Junction 0 with link 0 in service. -/
def linked : Body := up.wr (R.L.LINK_STATUS.STATE 0 0) 6
theorem test_ingress_meets : linked.linkUp (0 : Fin 64) = true ∧ linked.inService (iJ 0) = true ∧ aPacket.wellFormed 0 = true
    ∧ linked.isFenced 0 0x100 = false ∧ linked.entryOf 0 0 = some 0 ∧ linked.entryOf 0 77 = none ∧ linked.place = 0
    ∧ linked.rd (R.J.SLICE.EPOCH 0 0) = 0 ∧ linked.rd (R.J.SLICE.STATE 0 0) ≠ 3 ∧ headerCrcOk (leBytes 36 1) = false := by decide +kernel
/-- A packet with a wrong header CRC is dropped with counter 0; a right one for this place is taken in. -/
theorem test_ingress :
    let got (bs : Bytes) : Option (Nat × Nat) := match exec (.packetIngress 0 bs) { body := linked, pending := [] } with
      | .next t => some (t.body.rd (R.J.DROP.COUNT 0 0), t.body.fab.inbox.length)
      | _ => none
    got (leBytes 36 1) = some (1, 0) ∧ got (packetBytes aPacket) = some (0, 1) := by decide +kernel
def waitingOf (p : Packet) : Waiting :=
  { pkt := p, arrived := none, xfer := none, entry := 0, period := 0, counted := false, twin := false, order := 0, margins := [] }
theorem test_junction_meets : takeAt [waitingOf aPacket] 0 = some (waitingOf aPacket, []) ∧ up.isFenced 0 0 = false
    ∧ lowest 64 (fun e => up.rd (R.J.SLICE.STATE 0 e) == 1 && up.rd (R.J.SLICE.TAG 0 e) == 0) = some 0
    ∧ up.allWaiting = [] ∧ up.held 0 = 256 ∧ up.entryOf 0 9 = none
    ∧ up.firstJunction = some 0 := by decide +kernel
theorem test_slot_ticks : (match exec (.slotTick 0) { body := up, pending := [] } with
    | .next t => (t.body.jn 0).slot == 1
    | _ => false) = true := by decide +kernel
theorem test_slice_meets : up.rd (R.J.SLICE.STATE 0 0) = 1 ∧ up.rd (R.J.SLICE.STATE 0 5) = 0
    ∧ ((up.wr (R.J.SLICE.STATE 0 5) 2).wr (R.J.SLICE.HELD 0 5) 256).drained 5 = true ∧ up.disp.installs = []
    ∧ up.grantRefused 5 0 = false := by decide +kernel
/-- A route of length 25 is refused. -/
theorem test_route_length :
    let got (len : Nat) : Nat := match exec (.routeEntryWrite .mg 9 (BitVec.ofNat 128 (setBits 0 (R.J.ROUTE.LEN 0 9).lo 5 len))) { body := up, pending := [] } with
      | .next t => t.body.rd (R.J.ROUTE.LEN 3 9)
      | _ => 99
    got 25 = 0 := by decide +kernel

end Sys2Proof.Tests

namespace Sys2Proof.Tests

/-! ## The dispatcher, continuity and the checkpoint -/

/-- A report of a tile's mismatch, at level 2. -/
def reportOf : Report :=
  { source := iT 0 * 64, level := 2, addr := 0, master := iT 0 * 64, reqType := 1, access := 0, at_ := 0, stamp := 0, period := 0,
    inJob := false, unit := 0 }
def withTree (l : List Report) : Body := { up with cont := { up.cont with tree := l } }

theorem test_discovery_meets : up.inService iMG = true ∧ up.inService iSC = true ∧ up.mapAgreed = false
    ∧ up.disp.discovery.candidate = false ∧ charterSerial [] = 0 ∧ up.disp.discovery.ranks.contains 1 = false
    ∧ (up.wr R.MG.DSP_STATUS.ROLE 2).isChief = true ∧ up.disp.incoming = none ∧ up.rd R.MG.DSP_TIMING.MAP_BATCH ≠ 0
    ∧ up.rd R.MG.DSP_EPOCHS.MAP_EPOCH < 1 := by decide +kernel
/-- A charter of 512 zero bytes has no form: it is refused with MG source 3. -/
theorem test_charter_refused : (match exec (.podCharter (zeros 512)) { body := up, pending := [] } with
    | .next t => (t.body.cont.tree.map (·.source)) == [iMG * 64 + 3] && t.body.disp.charter.isEmpty
    | _ => false) = true := by decide +kernel
theorem test_ledger_meets : (parseRecord (leBytes 8 1 ++ zeros 120)).seq = 1 ∧ up.committed = 0 ∧ up.lastSeq = 0
    ∧ slice (parseRecord (leBytes 8 1 ++ zeros 120)).prev 0 32 = up.prevDigest 1 ∧ up.rd R.MG.DSP_EPOCHS.TERM = 0 := by decide +kernel
/-- A record beyond the next one is not committed: it is pulled. -/
theorem test_commit_gap : (match exec (.commit 0x200 (leBytes 8 5 ++ zeros 120)) { body := up, pending := [] } with
    | .next t => t.body.rd R.MG.DSP_COUNTS.PULLS == 1 && t.body.committed == 0
    | _ => false) = true := by decide +kernel
theorem test_vote_meets : up.inService iCT = true ∧ (parseVote (zeros 480)).kind = 0 ∧ (parseVote (leBytes 480 0x100)).kind = 1
    ∧ up.voteValid (leBytes 480 0x100) = false ∧ up.fenceEntry 0x200 = none ∧ up.rd (R.J.FENCE.VALID 0 255) = 0 := by decide +kernel
/-- R309: an invalid expel vote is counted, and raises CT source 7. -/
theorem test_vote_invalid : (match exec (.vote 0x200 (leBytes 480 0x100)) { body := up, pending := [] } with
    | .next t => t.body.rd R.MG.DSP_COUNTS.VOTES_INVALID == 1 && (t.body.cont.tree.map (·.source)) == [iCT * 64 + 7]
    | _ => false) = true := by decide +kernel
theorem test_fault_meets : nextReport (withTree [reportOf]).cont.tree = some reportOf ∧ defaultLevel reportOf.source ≠ none
    ∧ up.rd R.CT.STATUS.CAPTURE_VALID = 0 ∧ up.cont.fenceAt = none ∧ up.sb.waiting = none
    ∧ ((up.wr R.CT.STATUS.CAPTURE_VALID 1).rd R.CT.STATUS.CAPTURE_VALID) = 1 ∧ up.cont.fsrs.length < 64 := by decide +kernel
def twoReports : Body := withTree [reportOf, ({ reportOf with source := iT 1 * 64 } : Report)]
/-- R319: the first report is captured, the second is merged. -/
theorem test_capture_and_merge : (match exec (.faultOccurrence none) { body := twoReports, pending := [] } with
    | .next t =>
      match exec (.faultOccurrence none) t with
      | .next u => u.body.rd R.CT.FIRST_ERR_INFO.SOURCE == iT 0 * 64 && u.body.rd R.CT.MERGE.COUNT == 1 && u.body.cont.tree.isEmpty
      | _ => false
    | _ => false) = true := by decide +kernel
def watchedOf : Watched :=
  { place := 0x200, misses := 9, suspected := false, bySeal := false, byNeighbour := true, voids := 0, heard := false, lastSuspect := none,
    missesSince := 0 }
def captureOf : Capture := { Capture.of reportOf with emitted := none }
theorem test_record_meets : up.firstJunction = some 0 ∧ captureOf.emitted = none ∧ up.cont.past = [] ∧ up.inService iDB = true
    ∧ (sortNat ([({ seq := 1, bytes := [], sentAt := 5 } : Fsr)].map (·.sentAt))).head? = some 5 := by decide +kernel
/-- An open capture of a source and its part. -/
def openOf (source kind part : Nat) : Capture :=
  { Capture.of { reportOf with source := source } with open_ := true, kind := kind, part := part }
/-- R332: the acknowledgement of a frame that was sent again settles the capture of link source 1 as transient. -/
theorem test_retry_settles :
    let x := openOf (iL 0 * 64 + 1) 3 0
    let b := nackBody.setLnk 0 ({ Link.init with replay := [⟨9, 1, noFirst, [], [], 2⟩], txNext := 10 } : Link)
    (match exec (.nack 0 9) { body := { b with cont := { b.cont with cap := some x } }, pending := [] } with
    | .next t => t.body.cont.cap == some x.repeated
    | _ => false) = true := by decide +kernel
/-- R332: the spare that takes a sub-channel's place is the replacement part of its open capture. -/
theorem test_replacement : let x := openOf (iM 0 * 64 + 1) 2 5
    (({ up with cont := { up.cont with cap := some x } } : Body).replaceSub 0 5 120).cont.cap = some (x.retiredFor 120) := by
  decide +kernel
/-- R332, R441: the first record carries sequence 1 and its CRC. -/
theorem test_fsr : (match exec .fsrEmit { body := { up with cont := { up.cont with cap := some captureOf } }, pending := [] } with
    | .next t => t.body.cont.fsrs.all (fun f => f.seq == 1 && f.bytes.length == 256 && le f.bytes 252 4 == crc32 (f.bytes.take 252))
        && t.body.cont.fsrs.length == 1
    | _ => false) = true := by decide +kernel
def diagOf : Diag := ⟨0, 0, 2, 0, [16]⟩
theorem test_repair_meets : [diagOf].find? (fun x => x.tile == (0 : Fin 68).val) = some diagOf ∧ diagOf.sidings = 16 :: []
    ∧ up.logicalOf 0 = some 0 ∧ up.retired 0 = false ∧ up.sb.heldTiles = [] ∧ (up.toPod 50000).pickSiding 0 [16] ≠ none
    ∧ memWf up.mem = true ∧ up.rd (R.CT.TILE_MAP.VALID 1) = 1 ∧ up.rd (R.CT.TILE_MAP.PHYS 1) = 1 := by decide +kernel
/-- R325: the tile map takes a free siding from MG; a tile that is bound already is refused. -/
theorem test_tile_map :
    let got (p : BitVec 7) : Nat := match exec (.tileMapWrite .mg 0 p 1) { body := up, pending := [] } with
      | .next t => t.body.rd (R.CT.TILE_MAP.PHYS 0)
      | _ => 99
    got 16 = 16 ∧ got 1 = 0 := by decide +kernel
def sn (f : Checkpoint → Checkpoint) : Body := { running with snap := f running.snap }
theorem test_checkpoint_meets : running.inService iSN = true ∧ running.snapshotType = true ∧ running.snap.runOpen = false
    ∧ running.snap.snap = none ∧ up.snapshotType = false ∧ running.snap.ferry = none
    ∧ running.rd R.SN.HARBOUR_SIZE.MIB * 2 ^ 20 < copySize running.sectionLen
    ∧ copySize running.sectionLen ≤ (running.wr R.SN.HARBOUR_SIZE.MIB 1000).rd R.SN.HARBOUR_SIZE.MIB * 2 ^ 20
    ∧ ((running.wr R.SN.STATUS.STATE 2).rd R.SN.STATUS.STATE) = 2 ∧ (memUp running).memWaits 0 (8192 + blockSize) = false
    ∧ running.memWaits 0 (8192 + blockSize) = true ∧ (memUp running).copyWaits 0 = false ∧ running.copyWaits 0 = true
    ∧ running.snShut 0 4096 = false ∧ running.snDenied 0 8192 = false := by decide +kernel
/-- R341, R343: of two valid halves the one that the last snapshot made current is no target, whatever step the other holds. -/
theorem test_snap_target :
    let b := (((running.wr (R.SN.HALF.VALID 0) 1).wr (R.SN.HALF.VALID 1) 1).wr (R.SN.HALF.STEP 0) 9).wr (R.SN.HALF.STEP 1) 5
    ({ b with snap := { b.snap with newest := some 1 } } : Body).snapTarget = 0 ∧ b.snapTarget = 1 := by decide +kernel
/-- R341: a harbour without room fails the snapshot, with SN source 0. -/
theorem test_snapshot_fails : (match exec .snapshotStart { body := memUp running, pending := [] } with
    | .next t => t.body.rd R.SN.COUNTS.FAILED == 1 && (t.body.cont.tree.map (·.source)) == [iSN * 64]
    | _ => false) = true := by decide +kernel
theorem test_ferry_meets : ({ running with hi := { running.hi with linkUp := true } } : Body).hi.linkUp = true
    ∧ (sn (fun x => { x with ferry := some ⟨0, 4096, false, 0, false⟩ })).snap.ferry = some ⟨0, 4096, false, 0, false⟩
    ∧ (running.wr R.SN.FERRY_CTRL.SLOTS 2).rd R.SN.FERRY_CTRL.SLOTS = 2 ∧ running.rd R.SN.FERRY_FILLED.COUNT = 0
    ∧ running.lostIn 0 4096 = false := by decide +kernel
theorem test_mirror_meets : (sn (fun x => { x with flipped := true })).snap.flipped = true ∧ running.snap.mirror = none
    ∧ (running.wr R.SN.MIRROR_CTRL.ENABLE 1).rd R.SN.MIRROR_CTRL.ENABLE = 1 ∧ (running.wr R.SN.BUDDY.PLACE 0x200).rd R.SN.BUDDY.PLACE ≠ 0
    ∧ running.rd R.SN.LOAD_STATUS.CODE ≠ 2 ∧ up.jobRuns = false ∧ (memUp running).sendWaits 0 = false ∧ running.sendWaits 0 = true ∧ (memUp running).firstJunction = some 0
    ∧ running.leAt (running.halfBase 0 0 + 4092) 4 ≠ validMark := by decide +kernel
/-- R352: of two shards at step 7 one is missing; step 5 is whole, its shards held as kinds 1 and 0, and is chosen. -/
theorem test_restore :
    let c (step shard kind : Nat) : CopyInfo := { shard := shard, kind := kind, valid := true, step := step, epoch := 1, serial := 1, count := 2 }
    (match exec (.restoreDecision [c 7 0 0, c 5 0 1, c 5 1 0]) { body := up, pending := [] } with
    | .next t => t.body.snap.chosen == some (5, [(0, 1), (1, 0)])
    | _ => false) = true := by decide +kernel

end Sys2Proof.Tests

namespace Sys2Proof.Tests

/-! ## Registers, time and observation -/

/-- The offset of `J.DUP_HOLD` has a register, offset 0xFFFC of MG has none. -/
theorem test_registers_meet : (regAt (R.J.DUP_HOLD.HOLD 0).key).isSome = true ∧ regAt (iMG * 0x10000 + 0xFFFC) = none
    ∧ up.inService (iJ 0) = true ∧ Body.reset.inService (iJ 0) = false ∧ notHonoured .mg (iJ 0) ((R.J.DUP_HOLD.HOLD 0).key % 65536) = false
    ∧ clearingBit iSB 8 = some 16 ∧ bit up.hi.masked 3 = true ∧ bit up.hi.msixPending 3 = false := by decide +kernel
/-- R9: MG writes the duplicate hold of J0, and every other register of the window stays. -/
theorem test_register_write : (match exec (.registerWrite .mg (BitVec.ofNat 7 (iJ 0)) (BitVec.ofNat 16 (R.J.DUP_HOLD.HOLD 0).key) 77)
      { body := up, pending := [] } with
    | .next t => t.body.rd (R.J.DUP_HOLD.HOLD 0) == 77 && t.body.regs.length == 1
    | _ => false) = true := by decide +kernel
/-- The queue: the front command runs with the rest behind it; an empty queue lets one TM cycle pass. -/
theorem test_queue : (match step { body := up, pending := [.holdover 0, .holdover 1] } with
    | .next t => t.pending == [.holdover 1]
    | _ => false) = true ∧
    (match step { body := up, pending := [] } with | .next t => decide (up.time.tb2 < t.body.time.tb2) | _ => false) = true := by decide +kernel
theorem test_time_meets : up.isRoot = false ∧ up.podSample = none ∧ (up.wr (R.TM.TB_STATUS.SET 1) 1).rd (R.TM.TB_STATUS.SET 1) = 1
    ∧ up.rd (R.TM.TB_STATUS.HOLDOVER 1) = 0 ∧ up.rd R.TM.PTP_STATUS.SELECTED = 0 ∧ up.time.foreign = []
    ∧ (up.wr R.TM.PTP_CTRL.ENABLE 1).rd R.TM.PTP_CTRL.ENABLE = 1 := by decide +kernel
/-- R361: 999,999,999 ns is taken, and 1,000,000,000 refused. -/
theorem test_tb3 :
    let got (n : Nat) : Nat := match exec (.tb3Set .host (BitVec.ofNat 32 n)) { body := up, pending := [] } with
      | .next t => t.body.time.tb3 / 2 ^ 40
      | _ => 7
    got 999999999 = 999999999 ∧ got 1000000000 = 0 := by decide +kernel
/-- R374: only MG orders a relock, and TB0 is not stepped while a job runs. -/
theorem test_relock :
    let got (m : Master) (b : Body) : Option Nat := match exec (.relockStep m 0) { body := b, pending := [] } with
      | .next t => t.body.relock 0
      | _ => some 9
    got .mg up = some 1 ∧ got .host up = none ∧ got .mg running = none := by decide +kernel
theorem test_monitors_meet : isIsland 10 = true ∧ isIsland 14 = false ∧ up.inService iPV = true ∧ up.obs.warnArmed = true
    ∧ (islands.zipIdx).length = 98 ∧ up.inService iDB = true := by decide +kernel
theorem test_recorder_meets : (up.ring 10).left = 0 ∧ (up.wr (R.DB.RING.ARMED 10) 1).rd (R.DB.RING.ARMED 10) = 1 ∧ up.obs.evQueue = [] ∧ up.obs.evReads = []
    ∧ up.rd R.MG.PORT_STATUS.LINK = 0 ∧ up.obs.dump = none ∧ up.rd R.DB.DUMP_STATUS.HELD = 0 ∧ up.rd R.SC.CMD.BUSY = 0
    ∧ up.rd R.DB.EVR_STATUS.HISTORY_FULL = 0 := by decide +kernel
/-- R400: a clear whose bytes carry no operator's signature ends with result 2. -/
theorem test_clear_refused : (match exec (.evrClear .host) { body := up, pending := [] } with
    | .next t => t.body.rd R.DB.EVR_CLEAR_CTRL.RESULT == 2
    | _ => false) = true := by decide +kernel

/-! ## Power, reset, host and security -/

def off : Body := Body.reset
theorem test_rails_meet : off.sb.pwrEn = false ∧ off.sb.phase = 0 ∧ off.sb.module = none
    ∧ ({ off with sb := { off.sb with phase := 1, strapsOk := false } } : Body).sb.phase = 1 ∧ bit (up.rd R.SB.RAIL_STATUS.GOOD) 2 = false
    ∧ ({ off with sb := { off.sb with module := some (7, 0), phase := 9 } } : Body).sb.module = some (7, 0) ∧ off.powerBlock = none
    ∧ up.mayReset = true ∧ off.mayReset = false ∧ up.hangDumps = false
    ∧ ({ up with obs := { up.obs with dump := some (2, 0, 0) } } : Body).hangDumps = true := by decide +kernel
/-- R404, R417: a rail's power-good that falls takes the rails off. -/
theorem test_power_falls : (match exec (.powerGood .vopt .falls) { body := up.wr R.SB.RAIL_STATUS.GOOD 127, pending := [] } with
    | .next t => t.body.rd R.SB.RESET_CAUSE.CAUSE == 10 && t.body.rd R.SB.RAIL_STATUS.GOOD == 63 && (t.body.sb.module.map (·.1)) == some 7
    | _ => false) = true := by decide +kernel
/-- Straps tied low and high give slot 1 (R458); then VAUX is awaited, and its good requests VCORE when the stage answers 1.4. -/
theorem test_power_up : (match exec (.powerUp 0 8 none) { body := off, pending := [] } with
    | .next t =>
      match exec (.powerGood .vaux (.rises true .pass)) t with
      | .next u => t.body.sb.straps == 1 && t.body.rd R.SB.RAIL_STATUS.REQ == 3 && bit (u.body.rd R.SB.RAIL_STATUS.REQ) 2
      | _ => false
    | _ => false) = true := by decide +kernel
/-- R407: 600 mV is the lowest target and goes out on the lane; 599 and 851 are refused. -/
theorem test_target :
    let got (mv : Nat) : Nat × Nat := match exec (.target .host (BitVec.ofNat 10 mv)) { body := up, pending := [] } with
      | .next t => (t.body.rd R.SB.VCORE.TARGET, t.body.out.length)
      | _ => (9, 9)
    got 600 = (600, 1) ∧ got 599 = (0, 0) ∧ got 850 = (850, 1) ∧ got 851 = (0, 0) := by decide +kernel
/-- A frame of type `n` and payload 0 with its CRC (R409). -/
def upFrame (n : Nat) : BitVec 32 := BitVec.ofNat 32 (n * 2 ^ 28 + crc8 (beBytes 3 (n * 2 ^ 20)))
theorem test_lane_meets : laneGood (upFrame 8) 8 ∧ laneGood (upFrame 11) 11 ∧ laneBad (upFrame 7) ∧ laneBad (upFrame 12)
    ∧ laneBad (upFrame 8 ^^^ 1) := by
  unfold laneGood laneBad
  decide +kernel
theorem test_island_steps_meet : up.sb.steps = [] ∧ up.sb.module = none ∧ isIsland 10 = true ∧ up.offRefused 0 = true ∧ up.offRefused 7 = true
    ∧ isDomain 32 = true ∧ up.offRefused 40 = false ∧ isDomain 127 = false := by decide +kernel
/-- R417: MG resets J0, whose straits close; the host may not. -/
theorem test_island_reset :
    let got (m : Master) : Bool := match exec (.islandReset m 10) { body := up, pending := [] } with
      | .next t => t.body.inService 10
      | _ => true
    got .mg = false ∧ got .host = true := by decide +kernel
/-- R419: PERST# orders a module full reset. -/
theorem test_perst : (match exec .perstAssert { body := up, pending := [] } with
    | .next t => (t.body.sb.module.map (·.1)) == some 5
    | _ => false) = true := by decide +kernel
theorem test_host_meets : up.inService iHI = true ∧ up.reachable 0 64 = true ∧ up.anyLost 0 64 = false
    ∧ ({ up with lost := [32] } : Body).anyLost 0 64 = true ∧ off.reachable 0 64 = false ∧ up.hi.linkUp = false
    ∧ (up.wr R.MG.PORT_STATUS.LINK 1).rd R.MG.PORT_STATUS.LINK = 1 ∧ up.rd R.MG.PORT_STATUS.CONFIGURED = 0 := by decide +kernel
/-- R434: a write through the aperture and a read of it. -/
theorem test_aperture : (match exec (.bar2Write 0x40 [1, 2, 3, 4]) { body := memUp up, pending := [] } with
    | .next t =>
      match exec (.bar2Read 0x40 4) t with
      | .next u => decide (u.body.out.head? = some (.completion [1, 2, 3, 4] false false))
      | _ => false
    | _ => false) = true := by decide +kernel
theorem test_update_meets : up.rd (R.SB.FW_SLOT.PENDING 0) = 0 ∧ ((up.wr (R.SB.FW_SLOT.STAGED 1) 1).rd (R.SB.FW_SLOT.STAGED 1)) = 1
    ∧ up.sb.fwPending = 0 ∧ up.sb.mgSwitch = none ∧ SMap.find up.sec.runSince 0 = none ∧ up.rollback 7 ≤ 0
    ∧ imageSigned up.sec.flash.rootKey (zeros 512) 0 = false ∧ up.inService iSC = true := by decide +kernel
/-- R424: an image that does not verify leaves stage status 2. -/
theorem test_stage_refused : (match exec (.fwStage .host 0 1 false) { body := up, pending := [] } with
    | .next t => t.body.rd (R.SB.FW_SLOT.STAGE_STATUS 1) == 2
    | _ => false) = true := by decide +kernel
theorem test_signed_meets : up.rd R.SC.CMD.BUSY = 0 ∧ checksTo5 up (zeros 512) = 1 ∧ le (leBytes 512 (3 * 2 ^ 48)) 6 1 = 3
    ∧ checksTo5 up (leBytes 512 (0x434D4453 + 0x0100 * 2 ^ 32)) = 3
    ∧ up.deviceSerial = 0 := by
  unfold checksTo5
  decide +kernel
/-- R442: a command of the wrong form is answered with code 1 in `SC.CMD`. -/
theorem test_command_refused : (match exec (.coldResetCommand (.reg .host 0)) { body := up.put 0 (leBytes 8 (3 * 2 ^ 48)), pending := [] } with
    | .next t => t.body.rd R.SC.CMD.RESULT == 1 && t.body.sb.module.isNone
    | _ => false) = true := by decide +kernel
theorem test_attestation_meets : up.rd R.SC.ATTEST.BUSY = 0 ∧ up.rd R.SC.STATUS.IDENTITY = 0
    ∧ (up.wr R.SC.STATUS.IDENTITY 1).rd R.SC.STATUS.IDENTITY = 1 ∧ up.rd R.SC.UPDATE.BUSY = 0 ∧ trustWf (zeros 6848) = false
    ∧ trustWf (leBytes 6848 (0x54534C54 + 0x0100 * 2 ^ 32)) = true ∧ configWf (zeros 4096) = false := by decide +kernel

/-! ## Instruction words (R133), written out bit by bit from the forms' fields -/

theorem test_words_scalar :
    -- add s1, s2, s3: opcode 000001, RD 00001, RA 00010, RB 00011, res
    decodeSlot .scalar 0b00000100001000100001100000000000 = some (.sr .add 1 2 3)
    -- addi s1, s2, −1: opcode 100000, RD 00001, RA 00010, IMM
    ∧ decodeSlot .scalar 0b10000000001000101111111111111111 = some (.si .addi 1 2 0xFFFF)
    -- sget s4, SEL 0x11: opcode 110000, RG 00100, SEL 00010001, res
    ∧ decodeSlot .scalar 0b11000000100000100010000000000000 = some (.sx .sget 4 0x11) := by decide +kernel
theorem test_words_vector :
    -- vfma v31, v1, v2: opcode 000100, VD 11111, VA 00001, VB 00010, P 0011, FMT 0010, RM 100
    decodeSlot .vector 0b00010011111000010001000110010100 = some (.va .vfma 31 1 2 3 2 4)
    -- vcmp: opcode 010100, HALF 1, PD 0010, VA 00011, VB 00100, P 0001, FMT 0001, COND 111
    ∧ decodeSlot .vector 0b01010010010000110010000010001111 = some (.vk false 1 2 3 4 1 1 7)
    -- conversion to G8: opcode 110101, VD 00010, VA 00011, SRC 0000, RM 001, PART 010, P 0100, res
    ∧ decodeSlot .vector 0b11010100010000110000001010010000 = some (.vc 5 2 3 0 1 2 4)
    -- pred xor: opcode 100101, PD 0001, PA 0010, PB 0011, SUB 0010, res
    ∧ decodeSlot .vector 0b10010100010010001100100000000000 = some (.vp .xor 1 2 3)
    -- vwracc: opcode 100111, VD 00101, ACC 10, BLK 1111, res
    ∧ decodeSlot .vector 0b10011100101101111000000000000000 = some (.vq true 5 2 15) := by decide +kernel
theorem test_words_matrix_and_move :
    -- the example of spec/06: opcode 000001, ACC 00, FA 0100, FB 0100, RR 01000, BND 010, ADD 0, AT 00, SA 1, SB 1, res
    decodeSlot .matrix 0x04444218 = some (.mx 0 4 4 8 2 0 0 1 1)
    -- mxz a3: opcode 000010, ACC 11, res
    ∧ decodeSlot .matrix 0b00001011000000000000000000000000 = some (.mxz 3)
    -- lds s1 from s2: opcode 000001, RD 00001, RA 00010, BASE 01, W 11, IMM 000000001000
    ∧ decodeSlot .move 0b00000100001000100111000000001000 = some (.ml 0 1 2 1 3 8)
    -- stp p6: opcode 000111, 0, PD 0110, RA 00010, BASE 00, P 0000, IMM 0000000001
    ∧ decodeSlot .move 0b00011100110000100000000000000001 = some (.mp true 6 2 0 0 1)
    -- sta: opcode 001001, ACC 01, BLK 1111, FMT 0100, RM 100, RS 00010, SC 1, STR 111, SRCI 0, res
    ∧ decodeSlot .move 0b00100101111101001000001011110000 = some (.ma true 1 15 4 4 2 1 7 0)
    -- xfer: opcode 001010, RA 00101, Q 10, IMM 0000000000000001, res
    ∧ decodeSlot .move 0b00101000101100000000000000001000 = some (.xfer 5 2 1) := by decide +kernel
theorem test_words_control :
    -- br −1: opcode 000001, RA 00000, OFF
    decodeSlot .control 0b00000100000111111111111111111111 = some (.cb .br 0 0x1FFFFF)
    -- bpn p9: opcode 000101, PA 1001, 0, OFF
    ∧ decodeSlot .control 0b00010110010000000000000000000011 = some (.cbp true 9 3)
    -- waiti: opcode 010001, CC 000001, IMM
    ∧ decodeSlot .control 0b01000100000100000000000000000101 = some (.waiti 1 5)
    -- ccadd: opcode 011001, CC 111111, RG 00010, res
    ∧ decodeSlot .control 0b01100111111100010000000000000000 = some (.cn 1 63 2)
    -- gget s1: opcode 100011, RG 00001, G 111, RB 00000, SEL 101, res
    ∧ decodeSlot .control 0b10001100001111000001010000000000 = some (.cg 3 1 7 0 5) := by decide +kernel
/-- R133: a reserved opcode, a nonzero reserved field and opcode 0 with another bit set are no instruction; the zero word is one. -/
theorem test_words_refused : decodeSlot .scalar 0b11111100000000000000000000000000 = none
    ∧ decodeSlot .scalar 0b00000100001000100001100000000001 = none ∧ decodeSlot .control 1 = none ∧ decodeSlot .matrix 0x04444219 = none
    ∧ decodeSlot .move 0b00011110110000100000000000000001 = none ∧ decodeSlot .vector 0 = some .nop := by decide +kernel

/-! ## Well-formedness: an ill-formed command for each check -/

theorem test_ill_formed_messages : ([
    Instr.sealReceive 0 (zeros 127), .stage 0 0 0 (zeros 31) 0, .identityFrame 0 (zeros 1307), .packetIngress 0 (zeros 35),
    .packetIngress 0 (zeros 549), .podCharter (zeros 511), .mapHead 0 (zeros 447), .mapChunk 0 0 (zeros 31), .mapChunk 0 0 (zeros 512),
    .chiefRequest (zeros 479), .chiefGrant (zeros 481), .record 0 (zeros 127), .commit 0 (zeros 129), .key 0 800 (zeros 37),
    .report 0 ⟨0, 0, [], 0⟩, .vote 0 (zeros 479), .beacon 0 (zeros 31), .timeAnnounce 0 (zeros 33)].all (fun c => !c.wellFormed)) = true := by decide +kernel
theorem test_ill_formed_commands : ([
    Instr.registerWrite .host 100 0 0, .registerWrite .host 0 2 0, .bundleIssue 0 [⟨.product, 128, 0, 0, 0, 0⟩] [], .bundleIssue 0 [] [none, none, none],
    .mx 0 0 0 0 0 0 0 0 0 0 [⟨.lane, 0, 0, 129, 0, 0⟩], .sputBounds 0 0 0, .sputBoundsCtrl 0 0 0, .copyUnit 0 [], .faultOccurrence (some ⟨6400, 0, 0, 0, 0, 0⟩), .faultOccurrence (some ⟨0, 0, 0, 0, 0, 10⟩), .thermalSample [],
    .powerUp 0 0 (some { emptyFlash with active := 32 }), .supplySample [], .processSample [], .secondSummary [(100, 0, 0, 0)] false, .bar2Read 0xFFFFFFFFF 2, .bar2Write 0 (zeros 4097),
    .pciExpressLinkUp 3 1 false, .pciExpressLinkUp 4 0 false, .sliceRequest (.port (zeros 511)), .operatorVoteOrder (.port []),
    .assignPlaceAddress (.port []), .timeRelock (.port []), .coldResetCommand (.port []), .attestationRequest (.port (zeros 31))].all
      (fun c => !c.wellFormed)) = true := by decide +kernel

end Sys2Proof.Tests

namespace Sys2Proof.Tests

/-! ## Witnesses of the clauses on ways that are open, closed or kept waiting -/

/-- Every memory island ready and tile 0 running, with a transfer descriptor at SRAM offset 0x300000: OP and class, from LPDDR
0x1000 to LPDDR 0x2000, `n` bytes in one row. -/
def xferBody (op n : Nat) : Body :=
  (memUp running).put (sramBase 0 + 0x300000) (leBytes 1 (op + 16 * (if op = 0 then 1 else 3)) ++ [0] ++ leBytes 2 5 ++ leBytes 2 0xFFFF
    ++ zeros 10 ++ leBytes 8 0x1000 ++ leBytes 8 0x2000 ++ leBytes 4 n ++ leBytes 4 1 ++ zeros 24)
def issuesIn (b : Body) (slot : Nat) (i : SInstr) : Bool :=
  b.mayIssue 0 && decide ((b.atIssue 0).bundleStop 0 (b.nextCycle 0) [(slot, some i)] = none)
/-- Each OP issues, with data and with none; the source can be read; and an `xsig` of counter 32 × … issues with class 1 to this module. -/
theorem test_transfer_meets : [0, 1, 2].all (fun op => issuesIn (xferBody op 64) 5 (.xfer 2 0 0) && issuesIn (xferBody op 0) 5 (.xfer 2 0 0)
      && le (((xferBody op 64).atIssue 0).sram 0 0x300000 1) 0 1 % 16 == op) = true
    ∧ issuesIn running 5 (.xsig 9 4 1) = true ∧ running.inService (iJ (junctionOfTile 0)) = true
    ∧ ((xferBody 0 64).descr 0 0 ((xferBody 0 64).sram 0 0x300000 64)).place = none
    ∧ ((xferBody 0 64).descr 0 0 ((xferBody 0 64).sram 0 0x300000 64)).isZero = false
    ∧ ((xferBody 0 0).descr 0 0 ((xferBody 0 0).sram 0 0x300000 64)).isZero = true
    ∧ (xferBody 0 64).resolveRow 0x1000 0 64 = some 0x1000 ∧ (xferBody 0 64).reachable 0x1000 64 = true := by decide +kernel
/-- R178, R182: the copy goes into flight as one write of the 64 bytes that stand at its source. -/
theorem test_transfer_flies : (match exec (.xferCopy 0 2 0 0 none) { body := (xferBody 0 64).put 0x1000 [9], pending := [] } with
    | .next t => t.body.writes.map (fun w => (w.addr, w.data.length, w.data.headD 0)) == [(0x2000, 64, 9)] && (t.body.tile 0).inFlight == 1
    | _ => false) = true := by decide +kernel
/-- A write of this module's own transfer 7 to LPDDR 0x2000 that counts counter 5 of logical tile 0. -/
def writeOf (op : Nat) (zero : Bool) (addr : Nat) : Write :=
  { xfer := some 7, source := 0, counter := 5, addr := addr, op := op, cls := 1, period := 0, data := if zero then [] else [1, 2, 3, 4],
    zero := zero, seq := 0, doubled := false, link := 0, tag := 1, epoch := 0 }
def xferOf : Xfer := { id := 7, tile := 0, logical := 0, sent := 0xFFFF, left := 0, period := 0, path := 0 }
def writing (w : Write) (b : Body) : Body := { b with writes := [w], xfers := [xferOf] }
/-- The way is open: the write lands on a ready sub-channel, waits on one that is not, and has no address at 2^47; with tile 0 or an
island closed it is fenced. -/
theorem test_write_meets :
    let w := writeOf 0 false 0x2000
    takeAt (writing w (memUp running)).writes 0 = some (w, []) ∧ running.physOf (w.counter / 64 % 64) = some 0
    ∧ running.inService (iT 0) = true ∧ running.inService (iJ (junctionOfTile 0)) = true ∧ running.addressTest w = some 0x2000
    ∧ running.reachable 0x2000 4 = true ∧ (memUp running).memWaits 0x2000 4 = false ∧ running.memWaits 0x2000 4 = true
    ∧ running.anyLost 0x2000 4 = false ∧ running.addressTest (writeOf 0 false (2 ^ 47)) = none
    ∧ [xferOf].find? (fun y => some y.id == w.xfer) = some xferOf
    ∧ ({ running with sb := { running.sb with closed := 2 ^ iT 0 } } : Body).inService (iT 0) = false
    ∧ ({ running with sb := { running.sb with closed := 2 ^ iM 0 } } : Body).reachable (addrOf 0 0) 4 = false := by decide +kernel
/-- R183, R185: such a write lands and counts once; one that moves no byte only counts. -/
theorem test_write_lands :
    let got (z : Bool) : Option (Nat × Nat) :=
      match exec (.transferWriteAccept 0) { body := writing (writeOf 0 z 0x2000) (memUp running), pending := [] } with
      | .next t => some (t.body.leAt 0x2000 4, (t.body.tile 0).getCC 5)
      | _ => none
    got false = some (0x04030201, 1) ∧ got true = some (0, 1) := by decide +kernel
theorem test_flight_meets : [xferOf].find? (fun y => y.id == 7) = some xferOf ∧ xferOf.left = 0 ∧ up.ownSlot = 0 ∧ peerMapped 0x2000 32 = true
    ∧ up.resolve 0x2000 32 = some 0x2000 ∧ peerMapped (2 ^ 47) 1 = false := by decide +kernel
theorem test_ack_meets :
    let b := ({ jobWith (fun j => { j with change := some (1, [], 0, false) }) with cont := running.cont } : Body).wr R.MG.DSP_STATUS.ROLE 2
    b.isChief = true ∧ b.job.change = some (1, [], 0, false) ∧ 0 ≤ b.period ∧ b.inService iMG = true := by decide +kernel
theorem test_verdict_late_meets :
    let b := jobWith (fun j => { j with active := some ({ oneType with vtree := some ⟨0x200, 1, 2⟩ } : Image), verdictSent := true, combined := some true })
    b.job.combined = some true ∧ b.job.verdictSent = true ∧ SMap.find b.job.children 0x300 = none ∧ b.firstJunction = some 0 := by decide +kernel
/-- Period entry: a tile that acted on this departure and has not entered, one whose restore is due from an image that is not whole,
and one that was reset before. -/
theorem test_period_entry_meets :
    let a := running.setTile 0 { Tile.init with began := some 0 }
    let r := running.setTile 0 { Tile.init with entryDue := true, restore := some 0 }
    let again := running.setTile 0 { Tile.init with entryDue := true, restore := some 0, wasReset := true }
    (a.tile 0).began = some a.period ∧ (a.tile 0).entered = false ∧ (a.tile 0).out = false ∧ a.jobRuns = true
    ∧ (r.tile 0).restore = some 0 ∧ r.imageOk 0 0 = false ∧ (r.tile 0).restoreFailed = false ∧ (again.tile 0).wasReset = true := by decide +kernel
/-- R126, R467: the first failed restore resets the tile, the next puts it out. -/
theorem test_restore_fails :
    let got (was : Bool) : Option (Bool × Bool) :=
      match exec (.tileRestoreComplete 0 .fail)
          { body := running.setTile 0 { Tile.init with entryDue := true, restore := some 0, wasReset := was }, pending := [] } with
      | .next t => some ((t.body.tile 0).out, t.body.inService (iT 0))
      | _ => none
    got false = some (false, false) ∧ got true = some (true, true) := by decide +kernel
/-- The list of one layer update at 0x40, named by the table at 0; an open gate, and room for it or none. -/
def listBody : Body :=
  let b := (memUp running).put 0 (leBytes 8 64 ++ leBytes 4 1)
  (({ b with job := { b.job with nextAt := 10 ^ 7 } } : Body).put 64 layerCmd)
theorem test_list_good : listBody.memWaits 0 16 = false ∧ listBody.memWaits 64 128 = false ∧ listBody.leAt 8 4 = 1 ∧ listBody.leAt 0 8 = 64
    ∧ listBody.anyLost 0 16 = false ∧ listBody.anyLost 64 128 = false ∧ listBody.gateOpen (listBody.bytes 64 128) = true
    ∧ (listBody.toPod 1500).ueFits (listBody.bytes 64 128) = true ∧ running.memWaits 0 16 = true
    ∧ ((({ listBody with job := { listBody.job with nextAt := 0 } } : Body).toPod 1500).ueFits (listBody.bytes 64 128)) = false
    ∧ ({ listBody with lost := [0] } : Body).anyLost 0 16 = true := by decide +kernel
theorem test_layer_calm : (layerBody.layerReads layerCmd).any (fun r => layerBody.memWaits r.1 r.2) = false
    ∧ ((ueAt .admitted layerCmd).layerReads layerCmd).any (fun r => (ueAt .admitted layerCmd).memWaits r.1 r.2) = true
    ∧ chartBody.memWaits 0x1000 8 = false ∧ (ueAt .admitted chartCmd).memWaits 0x1000 8 = true
    ∧ ({ layerBody with lost := [0x2000] } : Body).elemLost ((layerBody.layer layerCmd).run 0).1 0 = true := by decide +kernel
/-- A burst read from a sub-channel of another line shows a tag mismatch; a read past the end of LPDDR is none. -/
theorem test_memory_read_more :
    let other := zeros 32 ++ (rsCheck ((codeword (lineTag 32) (zeros 32)).take 34)).map (BitVec.ofNat 8)
    let mine := zeros 32 ++ (rsCheck ((codeword (lineTag 0) (zeros 32)).take 34)).map (BitVec.ofNat 8)
    decodeBurst 0 (lineTag 0) other = .tagMismatch ∧ other.length = 36 ∧ mine.length = 36
    ∧ lpddrEnd ≤ unitOf (2 ^ 42 - 1) ∧ (memReady.setMemi 0 { MemIsland.init with training := [(0, .resume)] }).memWaits 0 1 = true := by
  decide +kernel
theorem test_copy_more : (memReady.memi 0).held.any (fun h => h.sc == memReady.rd (R.M.COPY_STATUS.SRC 0)) = false
    ∧ ((memReady.setMemi 0 { MemIsland.init with requests := [5] }).memi 0).requests = [(5 : Fin 128).val]
    ∧ memReady.slotOf 0 5 = some 5 ∧ memReady.spareOf 0 = some 120
    ∧ ((memReady.setMemi 0 { MemIsland.init with retrains := [5] }).memi 0).retrains = [5]
    ∧ ((memReady.setMemi 0 { MemIsland.init with training := [(5, .retrain)] }).memi 0).training.contains (5, .retrain) = true := by decide +kernel
/-- A retirement of sub-channel 5 copies 256 bytes a unit; each unit moves the pointer on (R226). -/
theorem test_copy_unit : (match exec (.retire .mg 0 5) { body := memReady, pending := [] } with
    | .next t =>
      match exec (.copyUnit 0 (List.replicate 8 0)) t with
      | .next u => u.body.rd (R.M.COPY_STATUS.POINTER 0) == 1 && u.body.lost.isEmpty
      | _ => false
    | _ => false) = true := by decide +kernel
theorem test_memory_resume_meets : ((up.wr (R.M.STATUS.STATE 0) 3).storeOk 0) = true
    ∧ ((up.setMemi 0 { MemIsland.init with training := [(5, .powerUp)] }).memi 0).training.any (fun t => t.2 == .powerUp) = true := by decide +kernel
/-- A link whose far end the map knows and that was in service, one that never was, one whose far end is fenced. -/
theorem test_link_known :
    let k := (up.wr R.MG.DSP_STATUS.MAP_STATE 2).setLnk 0 { Link.init with wasInService := true, known := some (up.farEnd 0) }
    (k.lnk 0).known = some (k.farEnd 0) ∧ k.farFenced 0 = false ∧ k.farAgrees 0 = false ∧ k.linkState 0 = 0
    ∧ ((up.wr (R.J.FENCE.VALID 0 0) 1).wr (R.J.FENCE.PLACE 0 0) 2).isFenced 0 0x200 = true := by decide +kernel
/-- R246: the end of the qualification run takes such a link into service while no job runs. -/
theorem test_link_enters :
    let b := (up.wr R.MG.DSP_STATUS.MAP_STATE 2).wr (R.L.LINK_STATUS.STATE 0 0) 4
    let b := b.setLnk 0 { Link.init with wasInService := true, known := some (up.farEnd 0) }
    (match exec (.qualificationComplete 0) { body := b, pending := [] } with
    | .next t => t.body.linkState 0 == 6
    | _ => false) = true := by decide +kernel
/-- A NACK at the retry limit fails the link. -/
theorem test_nack_limit :
    let b := nackBody.setLnk 0 ({ Link.init with replay := [⟨10, 1, noFirst, [], [], 255⟩], txNext := 11 } : Link)
    (match exec (.nack 0 9) { body := b, pending := [] } with
    | .next t => t.body.linkState 0 == 7
    | _ => false) = true := by decide +kernel
/-- A packet to place 0x300 on a route by port 0: with link 0 up it goes on, with no link it has none. -/
def routed : Body := (((linked.wr (R.J.ROUTE.VALID 0 0) 1).wr (R.J.ROUTE.LEN 0 0) 0).wr (R.J.ROUTE.PORTS_A 0 0) 1).wr (R.J.ROUTE.HOPS_A 0 0) 1
def onward : Packet := { aPacket with dest := 0x300 }
theorem test_route_meets : routed.productive 0 onward = [0] ∧ linked.productive 0 onward = [] ∧ routed.railLinks 0 0x300 false ≠ []
    ∧ routed.railLinks 0 0x300 true = [] ∧ routed.entryOf 0 0 = some 0 ∧ routed.held 0 ≠ 0 ∧ onward.wellFormed 0 = true := by decide +kernel
/-- R264, R269: such a packet of local origin enters the transit buffer with its number; the slot that serves it sends it. -/
theorem test_inject : (match exec (.packetInject 0 0) { body := routed.setJn 0 { routed.jn 0 with local_ := [waitingOf onward] }, pending := [] } with
    | .next t =>
      match exec (.slotTick 0) t with
      | .next u => (t.body.jn 0).transit.length == 1 && (t.body.jn 0).local_.isEmpty && (u.body.jn 0).transit.isEmpty
          && u.body.out.any (fun o => match o with | .packet 0 _ => true | _ => false)
      | _ => false
    | _ => false) = true := by decide +kernel
theorem test_slice_drain_meets : (up.wr (R.J.SLICE.STATE 0 5) 1).rd (R.J.SLICE.STATE (up.jRep) 5) = 1 ∧ up.entryRefused 5 0 = true
    ∧ up.entryRefused 5 (setBits (setBits 0 (R.J.SLICE.TAG 0 5).lo 16 9) (R.J.SLICE.STATE 0 5).lo (R.J.SLICE.STATE 0 5).w 1) = false
    ∧ fieldOf (setBits 0 (R.J.SLICE.STATE 0 5).lo (R.J.SLICE.STATE 0 5).w 2) (R.J.SLICE.STATE 0 5) = 2
    ∧ ((up.wr (R.J.SLICE.STATE 0 5) 2).rd (R.J.SLICE.STATE up.jRep 5)) = 2 := by decide +kernel
theorem test_unfenced_meets : (List.range 4).all (fun k => !up.isFenced k up.place) = true
    ∧ ({ up with disp := { up.disp with incoming := some (zeros 448, []) } } : Body).disp.incoming = some (zeros 448, [])
    ∧ (up.wr R.MG.DSP_STATUS.MAP_STATE 2).mapAgreed = true ∧ charterWf [] = false ∧ up.operatorKey (zeros 32) = none := by decide +kernel
/-- A committed record again under a newer term (R289). -/
theorem test_new_term_meets :
    let r := parseRecord (leBytes 8 1 ++ zeros 120)
    let b : Body := { up with disp := { up.disp with ledger := [r] } }
    b.sameUnderNewTerm { r with term := 1 } = true ∧ b.sameUnderNewTerm r = false := by decide +kernel
theorem test_slice_state_meets :
    let x : SliceState := { tag := 1, epoch := 0, state := 2, acked := [], fenced := 0, timedOut := 0 }
    let b : Body := { up.wr R.MG.DSP_STATUS.ROLE 2 with disp := { up.disp with slices := [x] } }
    b.isChief = true ∧ b.disp.slices = [x] ∧ b.disp.proposals = [] ∧ (b.sliceModules 1).all (fun p => x.acked.contains p) = true := by decide +kernel
/-- A stopped clock, a running one, and a capture whose record has been emitted (R30, R321). -/
theorem test_release_capture_meets : up.clockStopped (iT 16) = true ∧ up.clockStopped (iT 0) = false
    ∧ ({ captureOf with emitted := some (1, []) } : Capture).emitted ≠ none ∧ up.clockStopped (iM 0) = false := by decide +kernel
/-- R321: MG's release before the record has been emitted changes nothing. -/
theorem test_release_early :
    let c (e : Option (Nat × Bytes)) : Body :=
      ({ up with cont := { up.cont with cap := some { captureOf with emitted := e } } } : Body).wr R.CT.STATUS.CAPTURE_VALID 1
    let got (e : Option (Nat × Bytes)) : Nat := match exec (.release .mg) { body := c e, pending := [] } with
      | .next t => t.body.rd R.CT.STATUS.CAPTURE_VALID
      | _ => 9
    got none = 1 ∧ got (some (1, [])) = 0 := by decide +kernel
/-- A harbour half of lost units, and a drain whose slot is whole. -/
theorem test_lost_meets : ({ running with lost := [0x40] } : Body).lostIn 0 4096 = true ∧ running.lostIn 0 4096 = false
    ∧ up.harbourUp = true ∧ ({ up with sb := { up.sb with closed := 2 ^ iJ 1 } } : Body).harbourUp = false := by decide +kernel
theorem test_vaon_meets : off.sb.phase = 0 ∧ flashMask (R.SC.ROLLBACK.VALUE 0).key = 2 ^ 64 - 1
    ∧ flashMask (R.SB.FW_SLOT.STAGED 0).key ≠ 0 ∧ flashMask R.SB.RAIL_STATUS.GOOD.key = 0
    ∧ ({ off with sb := { off.sb with waiting := some (7, 5) } } : Body).sb.waiting = some (7, 5) := by decide +kernel
/-- R10, R406: VAON reapplied leaves what the flash holds of a counter and takes a register of the always-on domain to its reset value. -/
theorem test_vaon : (match exec (.powerGood .vaon (.rises false .pass)) { body := (off.wr (R.SC.ROLLBACK.VALUE 3) 7).wr R.SB.RAIL_STATUS.FAILED 5, pending := [] } with
    | .next t => t.body.rd (R.SC.ROLLBACK.VALUE 3) == 7 && t.body.rd R.SB.RAIL_STATUS.FAILED == 0
    | _ => false) = true := by decide +kernel
/-- R434: a write beyond LPDDR is dropped and logged as Unsupported Request. -/
theorem test_unsupported : (match exec (.bar2Write 0 [1]) { body := up.wr R.HI.APERTURE.BASE 1500, pending := [] } with
    | .next t => bit t.body.hi.pci.aerUncorrectable 20 && t.body.hi.pci.bars.length == 2
    | _ => false) = true := by decide +kernel
/-- R396: a master other than the host that writes the MSI-X table leaves a configuration event. -/
theorem test_msix_refused : (match exec (.registerWrite .mg 7 0x8000 5) { body := up, pending := [] } with
    | .next t => t.body.obs.evQueue.length == 1 && t.body.hi.msixTable == []
    | _ => false) = true := by decide +kernel
theorem test_aperture_meets : (memUp up).bar2Reach 0 64 = true ∧ (memUp up).memWaits 0 64 = false ∧ up.memWaits 0 64 = true
    ∧ up.hi.waiting = [] ∧ ({ up with sb := { up.sb with closed := 2 ^ iJ 0 + 2 ^ iJ 2 } } : Body).bar2Reach 0 64 = false := by decide +kernel
/-- R221: a read of an island that is not ready waits, and completes when the island is. -/
theorem test_aperture_waits : (match exec (.bar2Read 0x40 4) { body := up, pending := [] } with
    | .next t => t.body.out.isEmpty && t.body.hi.waiting.length == 1
    | _ => false) = true := by decide +kernel
/-- R173: a place whose hall, row, rack and tray are all zero is refused; one with a tray is valid. -/
theorem test_place_meets : bodyValid up (zeros 64 ++ leBytes 4 0x400 ++ zeros 444) 1 ∧ ¬bodyValid up (zeros 512) 1 := by
  unfold bodyValid
  decide +kernel

end Sys2Proof.Tests

end
end

section
/-! PROOFS. What bars a tile from its next bundle, and that no write which takes effect changes it (R111, R120, R121). -/

namespace Sys2Proof.Machine

/-- What bars a tile from its next bundle beside its schedule: the wait and the arrival that stand (R120, R121). -/
def Body.barred (b : Body) (nn : Nat) : Option (Nat × Nat) × Option Nat := ((b.tile nn).waiting, (b.tile nn).arriving)

/-- A tile whose data are as before is barred as before. -/
theorem Body.barred_congr {b c : Body} {nn : Nat} (h : c.tile nn = b.tile nn) : c.barred nn = b.barred nn := by
  unfold Body.barred
  rw [h]

@[simp] theorem Body.barred_setReg (b : Body) (k v nn : Nat) : (b.setReg k v).barred nn = b.barred nn :=
  Body.barred_congr (b.setReg_tile k v nn)
@[simp] theorem Body.barred_wr (b : Body) (f : Field) (v nn : Nat) : (b.wr f v).barred nn = b.barred nn :=
  Body.barred_congr (b.wr_tile f v nn)
@[simp] theorem Body.barred_sat (b : Body) (f : Field) (n nn : Nat) : (b.sat f n).barred nn = b.barred nn :=
  Body.barred_congr (b.sat_tile f n nn)
@[simp] theorem Body.barred_put (b : Body) (a : Nat) (bs : Bytes) (nn : Nat) : (b.put a bs).barred nn = b.barred nn :=
  Body.barred_congr (b.put_tile a bs nn)

/-- A change of a tile's data that leaves its wait and its arrival alone. -/
theorem Body.barred_onTile (b : Body) (nn : Nat) {f : Tile → Tile} (hw : ∀ t, (f t).waiting = t.waiting)
    (ha : ∀ t, (f t).arriving = t.arriving) : (b.onTile nn f).barred nn = b.barred nn := by
  unfold Body.barred
  rw [Body.onTile_tile_same, hw, ha]

/-- Raising a source changes no tile's data. -/
theorem Body.raiseT_tile (b : Body) (nn n addr access : Nat) (move : Bool) (slot j : Nat) :
    (b.raiseT nn n addr access move slot).tile j = b.tile j := by
  unfold Body.raiseT
  obtain h | ⟨_, _, _, _, _, h⟩ := b.raiseOcc_same _ slot
  · exact h.tile j
  · exact h.tile j

@[simp] theorem Body.barred_raiseT (b : Body) (nn n addr access : Nat) (move : Bool) (slot j : Nat) :
    (b.raiseT nn n addr access move slot).barred j = b.barred j :=
  Body.barred_congr (b.raiseT_tile nn n addr access move slot j)

@[simp] theorem Body.barred_ite (c : Prop) [Decidable c] (x y : Body) (nn : Nat) :
    (if c then x else y).barred nn = if c then x.barred nn else y.barred nn := apply_ite (Body.barred · nn) c x y

@[simp] theorem Body.barred_captureMismatch (b : Body) (nn : Nat) (f : MxFlight) (kind row chunk col : Nat) :
    (b.captureMismatch nn f kind row chunk col).barred nn = b.barred nn := by
  unfold Body.captureMismatch
  extract_lets fa fb cap b1 head b2
  have h2 : b2.barred nn = b.barred nn := by simp only [b2, b1, barred_wr, barred_put, barred_setReg]
  rw [← h2]
  exact b2.barred_onTile nn (fun _ => rfl) (fun _ => rfl)

/-- What an operation's checks record ends no wait and no arrival: stage by stage. -/
theorem Body.barred_mxReport (b : Body) (nn : Nat) (f : MxFlight) (whole : Bool) :
    (b.mxReport nn f whole).barred nn = b.barred nn := by
  unfold Body.mxReport
  extract_lets b0 b1 b2 b3 b4 first b5 b6 acc b7 fa at_ c0 c1 c2
  clear_value at_ first
  have h0 : b0.barred nn = b.barred nn := b.barred_onTile nn (fun _ => rfl) (fun _ => rfl)
  have h1 : b1.barred nn = b0.barred nn := by simp only [b1, barred_ite, barred_wr, ite_self]
  have h2 : b2.barred nn = b1.barred nn := by simp only [b2, barred_ite, barred_wr, ite_self]
  have h4 : b4.barred nn = b2.barred nn := by simp only [b4, b3, barred_sat, barred_ite, barred_wr, ite_self]
  have h5 : b5.barred nn = b4.barred nn := by
    unfold b5
    split
    · rfl
    · simp only [barred_ite, barred_sat, barred_captureMismatch, ite_self]
  have h6 : b6.barred nn = b5.barred nn := by
    unfold b6
    split
    · simp only [barred_ite, barred_wr, ite_self]
    · rfl
  have h7 : b7.barred nn = b6.barred nn := by
    unfold b7
    split
    · rfl
    · simp only [barred_ite, barred_wr, ite_self]
  simp only [c2, c1, c0, barred_ite, barred_raiseT, ite_self, h7, h6, h5, h4, h2, h1, h0]

theorem Body.barred_mxDone (b : Body) (nn op : Nat) : (b.mxDone nn op).barred nn = b.barred nn := by
  unfold Body.mxDone
  split
  · rfl
  · rw [Body.barred_mxReport]
    exact b.barred_onTile nn (fun _ => rfl) (fun _ => rfl)

theorem Tile.putS_bars (t : Tile) (i v : Nat) : (t.putS i v).waiting = t.waiting ∧ (t.putS i v).arriving = t.arriving := by
  unfold Tile.putS
  split <;> exact ⟨rfl, rfl⟩

theorem Tile.putP_bars (t : Tile) (i v m : Nat) :
    (t.putP i v m).waiting = t.waiting ∧ (t.putP i v m).arriving = t.arriving := by
  unfold Tile.putP
  split <;> exact ⟨rfl, rfl⟩

/-- A write that takes effect neither ends nor begins a wait or an arrival. -/
theorem Body.barred_applyWrite (b : Body) (nn : Nat) (w : TileWrite) : (b.applyWrite nn w).barred nn = b.barred nn := by
  cases w with
  | s i v => exact b.barred_onTile nn (fun t => (t.putS_bars i v).1) (fun t => (t.putS_bars i v).2)
  | p i v m => exact b.barred_onTile nn (fun t => (t.putP_bars i v m).1) (fun t => (t.putP_bars i v m).2)
  | mxDone op => exact b.barred_mxDone nn op
  | v | a | ccset | ccadd => exact b.barred_onTile nn (fun _ => rfl) (fun _ => rfl)
  | flags | putFlags | reg | qadd | store | storeM1 => rfl

/-- What every pass of a loop keeps, the loop keeps. -/
theorem forEach_keeps {α σ β : Type} (g : σ → β) {f : α → σ → σ} (h : ∀ a s, g (f a s) = g s) (l : List α) (s : σ) :
    g (forEach l f s) = g s := by
  induction l generalizing s with
  | nil => rfl
  | cons a l ih => exact (ih (f a s)).trans (h a s)

theorem Body.barred_commitTo (b : Body) (nn u : Nat) : (b.commitTo nn u).barred nn = b.barred nn := by
  unfold Body.commitTo
  extract_lets t due b1
  have h1 : b1.barred nn = b.barred nn := by
    unfold b1 Body.barred
    rw [Body.tile_setTile_same]
  exact (forEach_keeps (Body.barred · nn) (fun w c => Body.barred_applyWrite c nn w.2) due b1).trans h1

/-- A tile that may issue neither waits nor arrives in the cycle in which it does. -/
theorem Body.canIssue.not_barred {b : Body} {nn slot : Nat} {i : SInstr} (h : b.canIssue nn slot i) :
    ((b.atIssue nn).tile nn).waiting = none ∧ ((b.atIssue nn).tile nn).arriving = none := by
  obtain ⟨hm, -⟩ := h
  have hb : (b.atIssue nn).barred nn = b.barred nn := b.barred_commitTo nn (b.nextCycle nn)
  simp only [Body.barred, Prod.mk.injEq] at hb
  simp only [Body.mayIssue, Bool.and_eq_true, Option.isNone_iff_eq_none] at hm
  rw [hb.1, hb.2]
  tauto

end Sys2Proof.Machine
end

section
/-! PROOFS. Where the sequencer goes after the control slot (R120, R121, R164 to R166). -/

namespace Sys2Proof.Machine

/-! ## The control slot: where the sequencer goes, what the tile waits for, when it arrives -/

/-- The counter and value that an instruction has the tile wait for, where the counter has not reached it (R166). -/
def SInstr.waits (t : Tile) : SInstr → Option (Nat × Nat)
  | .wait cc ra =>
    if t.getCC cc.toNat < t.getS ra.toNat % 2 ^ 32 then some (cc.toNat, t.getS ra.toNat % 2 ^ 32) else none
  | .waiti cc imm => if t.getCC cc.toNat < imm.toNat then some (cc.toNat, imm.toNat) else none
  | _ => none

/-- The cycle in which the tile arrives, where the instruction that issues in cycle `u` is `arrive` (R121). -/
def SInstr.arrives (t : Tile) (u : Nat) : SInstr → Option Nat
  | .arrive => some (t.pend.foldl (fun m w => max m w.1) (max u t.arrayEnd))
  | _ => none

/-- The bundle after the one at `pc`, where `tgt` is the offset of the branch that is taken (R165). -/
def nextBundle (pc : Nat) (tgt : Option Int) : Nat :=
  match tgt with
  | some x => x.toNat / 32
  | none => pc + 1

/-- The sequencer has moved on from `c`: the next bundle is `next` and may issue in cycle `at_`, and the tile may wait or
arrive.  Nothing else changes but `T.PC` and, for a wait, the tile's state. -/
structure Sequenced (c d : Body) (nn next at_ : Nat) (wait : Option (Nat × Nat)) (arrive : Option Nat) : Prop where
  tile : d.tile nn = { c.tile nn with
    nextIssue := at_, offEnd := (d.tile nn).offEnd, waiting := wait, arriving := arrive }
  others : ∀ n, n ≠ nn → d.tile n = c.tile n
  pc : d.rd (R.T.PC.BUNDLE nn) = next % 2 ^ 15
  regs : ∀ k, k ≠ (R.T.PC.BUNDLE nn).key → d.reg k = (if wait.isSome then c.setTileState nn 3 else c).reg k
  rest : d = { c with regs := d.regs, tiles := d.tiles }

/-- A tile that neither waits nor arrives moves on. -/
theorem Sequenced.move (c : Body) (nn next at_ : Nat) (off : Bool) (hw : (c.tile nn).waiting = none)
    (ha : (c.tile nn).arriving = none) :
    Sequenced c ((c.wr (R.T.PC.BUNDLE nn) next).onTile nn (fun t => { t with nextIssue := at_, offEnd := off })) nn next at_
      none none where
  tile := by rw [Body.onTile_tile_same, Body.wr_tile, ← hw, ← ha]
  others n hn := by rw [Body.onTile_tile_of_ne _ _ hn, Body.wr_tile]
  pc := by rw [Body.onTile_rd, Body.rd_wr_same]; rfl
  regs k hk := by rw [Body.onTile_reg, Body.reg_wr_of_ne _ _ hk]; rfl
  rest := rfl

/-- It then arrives, in the cycle that `f` reads from the tile's data. -/
theorem Sequenced.arrive {c d : Body} {nn next at_ : Nat} (h : Sequenced c d nn next at_ none none) (f : Tile → Nat) :
    Sequenced c (d.onTile nn (fun t => { t with arriving := some (f t) })) nn next at_ none (some (f (d.tile nn))) where
  tile := by rw [Body.onTile_tile_same, h.tile]
  others n hn := by rw [Body.onTile_tile_of_ne _ _ hn, h.others n hn]
  pc := by rw [Body.onTile_rd, h.pc]
  regs k hk := by rw [Body.onTile_reg, h.regs k hk]
  rest := by
    obtain ⟨-, -, -, -, hr⟩ := h
    rw [hr]
    rfl

theorem pcKey_ne_status (nn : Nat) : (R.T.TILE_STATUS.STATE nn).key ≠ (R.T.PC.BUNDLE nn).key := by
  unfold R.T.TILE_STATUS.STATE R.T.PC.BUNDLE
  dsimp only
  omega

/-- Registers that read the same read the same after one register's field is written in both. -/
theorem Body.reg_wr_congr {b c : Body} (f : Field) (v : Nat) {k : Nat} (hf : b.reg f.key = c.reg f.key)
    (hk : b.reg k = c.reg k) : (b.wr f v).reg k = (c.wr f v).reg k := by
  unfold Body.wr
  rw [Body.reg_setReg, Body.reg_setReg, hf, hk]

/-- Or it then waits, in state 3 (R166). -/
theorem Sequenced.wait {c d : Body} {nn next at_ : Nat} (h : Sequenced c d nn next at_ none none) (w : Nat × Nat) :
    Sequenced c ((d.onTile nn (fun t => { t with waiting := some w })).setTileState nn 3) nn next at_ (some w) none where
  tile := by rw [Body.setTileState, Body.wr_tile, Body.onTile_tile_same, h.tile]
  others n hn := by rw [Body.setTileState, Body.wr_tile, Body.onTile_tile_of_ne _ _ hn, h.others n hn]
  pc := by rw [Body.setTileState, Body.rd_wr_of_key_ne _ _ (pcKey_ne_status nn), Body.onTile_rd, h.pc]
  regs k hk := Body.reg_wr_congr _ _ (h.regs _ (pcKey_ne_status nn)) (h.regs k hk)
  rest := by
    obtain ⟨-, -, -, -, hr⟩ := h
    rw [hr]
    rfl

/-- It waits where the condition holds. -/
theorem Sequenced.wait_if {c d : Body} {nn next at_ : Nat} (h : Sequenced c d nn next at_ none none) (w : Nat × Nat)
    (p : Prop) [Decidable p] :
    Sequenced c (if decide p then (d.onTile nn (fun t => { t with waiting := some w })).setTileState nn 3 else d) nn next at_
      (if p then some w else none) none := by
  by_cases hp : p
  · simp only [hp, decide_true, if_true]
    exact h.wait w
  · simp only [hp, decide_false, Bool.false_eq_true, if_false]
    exact h

theorem nextBundle_eq (pc : Nat) (tgt : Option Int) :
    (match tgt with | some x => x.toNat | none => pc * 32 + 32) / 32 = nextBundle pc tgt := by
  cases tgt with
  | some x => rfl
  | none =>
    show (pc * 32 + 32) / 32 = pc + 1
    omega

/-- Where the sequencer goes after one instruction in the control slot (R120, R121, R165, R166). -/
theorem Body.afterIssue_control (c : Body) (nn u : Nat) (t0 : Tile) {i : SInstr} (hi : i.section_ = .control)
    (hw : (c.tile nn).waiting = none) (ha : (c.tile nn).arriving = none) :
    Sequenced c (c.afterIssue nn u t0 [(7, some i)]) nn
      (nextBundle (c.rd (R.T.PC.BUNDLE nn)) (i.branch t0 (c.rd (R.T.PC.BUNDLE nn) * 32)))
      (if (i.branch t0 (c.rd (R.T.PC.BUNDLE nn) * 32)).isSome then u + 2 else u + 1)
      (i.waits t0) (i.arrives (c.tile nn) u) := by
  have hmove := fun off => Sequenced.move c nn
    (nextBundle (c.rd (R.T.PC.BUNDLE nn)) (i.branch t0 (c.rd (R.T.PC.BUNDLE nn) * 32)))
    (if (i.branch t0 (c.rd (R.T.PC.BUNDLE nn) * 32)).isSome then u + 2 else u + 1) off hw ha
  rw [← nextBundle_eq] at hmove ⊢
  cases i with
  | cb | cbp | cn | cg => exact hmove _
  | arrive =>
    have h := (hmove (decide (0x100000 ≤ c.rd (R.T.PC.BUNDLE nn) * 32 + 32))).arrive
      (fun t => t.pend.foldl (fun m w => max m w.1) (max u t.arrayEnd))
    rw [(hmove _).tile] at h
    exact h
  | wait cc ra => exact (hmove _).wait_if _ _
  | waiti cc imm => exact (hmove _).wait_if _ _
  | _ => cases hi

end Sys2Proof.Machine
end

section
/-! PROOFS. The issue of a bundle with one instruction in the control slot: everything it does, said once (R110 to R113, R137). -/

namespace Sys2Proof.Machine

/-! ## A bundle that holds one instruction in the control slot -/

/-- An instruction of the control section acts through its writes, its draw and the sequencer alone. -/
theorem SInstr.slotEffect_control {i : SInstr} (hi : i.section_ = .control) (c : Body) (nn u : Nat)
    (faults : List ArrayFault) (peer : Option Bytes) : c.slotEffect nn u faults peer i = c := by
  cases i with
  | cb | cbp | wait | waiti | arrive | cn | cg => rfl
  | _ => cases hi

/-- `arrive` writes nothing, so what the bundle has written does not move the cycle in which the tile arrives. -/
theorem SInstr.arrives_pend (i : SInstr) (c : Body) (t : Tile) (nn u : Nat) (draw : Nat → Nat → Nat) :
    i.arrives { t with pend := t.pend ++ (c.execSlot nn u i draw).writes.map (fun w => (u + w.1, w.2)) } u
      = i.arrives t u := by
  cases i with
  | arrive => exact congrArg (fun p => SInstr.arrives { t with pend := p } u .arrive) (List.append_nil t.pend)
  | _ => rfl

/-- The module after the one slot of a bundle has issued, before the sequencer moves on: the busy count, the stream drawn
from and the pending writes. -/
def Body.slotDone (c : Body) (nn u k : Nat) (o : SlotOut) : Body :=
  ((c.add (R.PV.ISL_BUSY.COUNT (iT nn)) k).afterDraw nn o.draw).pendWrites nn u o.writes

section slotDone
variable (c : Body) (nn u k : Nat) (o : SlotOut)

theorem Body.slotDone_rest : ∃ regs, c.slotDone nn u k o = { c with regs := regs }.pendWrites nn u o.writes := by
  obtain ⟨rg, hr⟩ := Body.afterDraw_rest (c.add (R.PV.ISL_BUSY.COUNT (iT nn)) k) nn o.draw
  unfold Body.slotDone
  rw [hr]
  exact ⟨rg, rfl⟩

theorem Body.slotDone_tile_same : (c.slotDone nn u k o).tile nn =
    { c.tile nn with pend := (c.tile nn).pend ++ o.writes.map (fun w => (u + w.1, w.2)) } := by
  obtain ⟨rg, hr⟩ := c.slotDone_rest nn u k o
  rw [hr, Body.pendWrites, Body.onTile_tile_same]
  rfl

theorem Body.slotDone_tile_of_ne {n : Nat} (h : n ≠ nn) : (c.slotDone nn u k o).tile n = c.tile n := by
  obtain ⟨rg, hr⟩ := c.slotDone_rest nn u k o
  rw [hr, Body.pendWrites, Body.onTile_tile_of_ne _ _ h]
  rfl

/-- Only the busy count and the counter of the stream drawn from change. -/
theorem Body.slotDone_reg {q : Nat} (hb : q ≠ (R.PV.ISL_BUSY.COUNT (iT nn)).key)
    (hd : ∀ g n, o.draw = some (g, n) → q ∉ [(R.T.GEN_CTR_LO.CTR nn g).key, (R.T.GEN_CTR_HI.CTR nn g).key]) :
    (c.slotDone nn u k o).reg q = c.reg q := by
  unfold Body.slotDone
  rw [Body.pendWrites, Body.onTile_reg, Body.afterDraw_reg _ _ _ _ hd, Body.add, Body.reg_wr_of_ne _ _ hb]

theorem Body.slotDone_genCtr (hn : nn < 68) {g n : Nat} (hd : o.draw = some (g, n)) :
    (c.slotDone nn u k o).genCtr nn g = (c.genCtr nn g + n) % 2 ^ 128 := by
  have hbusy : (c.add (R.PV.ISL_BUSY.COUNT (iT nn)) k).genCtr nn g = c.genCtr nn g :=
    Body.genCtr_congr (Body.reg_wr_of_ne _ _ (genLo_ne_busy hn g)) (Body.reg_wr_of_ne _ _ (genHi_ne_busy hn g))
  rw [← hbusy, ← Body.afterDraw_genCtr, ← hd]
  rfl

end slotDone

/-- The slots of a bundle that holds one instruction of the control section. -/
theorem Body.issueSlots_control (c : Body) (nn u : Nat) {i : SInstr} (hi : i.section_ = .control)
    (hd : ∀ g n, (c.execSlot nn u i (c.draw0 nn)).draw = some (g, n) → g < 8) :
    ∃ k, c.issueSlots nn u [] [] [(7, some i)] =
      (c.slotDone nn u k (c.execSlot nn u i (c.draw0 nn))).afterIssue nn u (c.tile nn) [(7, some i)] := by
  have hadv : ∀ x : Body, x.advanceStreams nn (c.execSlot nn u i (c.draw0 nn)).draw.toList
      = x.afterDraw nn (c.execSlot nn u i (c.draw0 nn)).draw := by
    intro x
    generalize (c.execSlot nn u i (c.draw0 nn)).draw = d at hd
    cases d with
    | none => rfl
    | some gn => exact Body.advanceStreams_some x nn gn.1 gn.2 (hd _ _ rfl)
  unfold Body.issueSlots
  rw [Body.slotResults_one _ _ _ _ _ (by decide)]
  simp only [forEach_one, hadv, SInstr.slotEffect_control hi]
  exact ⟨_, rfl⟩

/-- A bundle that a tile can issue issues its slots. -/
theorem Body.canIssue.issueBundle_eq {b : Body} {nn slot : Nat} {i : SInstr} (h : b.canIssue nn slot i) :
    b.issueBundle nn [] [] [(slot, some i)] = (b.atIssue nn).issueSlots nn (b.nextCycle nn) [] [] [(slot, some i)] := by
  obtain ⟨hm, hb⟩ := h
  unfold Body.atIssue Body.nextCycle at hb
  unfold Body.issueBundle
  simp only [hm, hb, Bool.not_true, Bool.false_eq_true, if_false]
  rfl

theorem statusKey_ne_busy {nn : Nat} (h : nn < 68) :
    (R.T.TILE_STATUS.STATE nn).key ≠ (R.PV.ISL_BUSY.COUNT (iT nn)).key := by
  unfold R.T.TILE_STATUS.STATE R.PV.ISL_BUSY.COUNT iT
  dsimp only
  omega

theorem statusKey_ne_genLo (nn g : Nat) : (R.T.TILE_STATUS.STATE nn).key ≠ (R.T.GEN_CTR_LO.CTR nn g).key := by
  unfold R.T.TILE_STATUS.STATE R.T.GEN_CTR_LO.CTR
  dsimp only
  omega

theorem statusKey_ne_genHi (nn g : Nat) : (R.T.TILE_STATUS.STATE nn).key ≠ (R.T.GEN_CTR_HI.CTR nn g).key := by
  unfold R.T.TILE_STATUS.STATE R.T.GEN_CTR_HI.CTR
  dsimp only
  omega

/-- Every register but `T.PC` and the tile's state reads as before the sequencer moved on. -/
theorem Sequenced.reg_of_ne {c d : Body} {nn next at_ : Nat} {wait : Option (Nat × Nat)} {arrive : Option Nat}
    (h : Sequenced c d nn next at_ wait arrive) {q : Nat} (hp : q ≠ (R.T.PC.BUNDLE nn).key)
    (hs : q ≠ (R.T.TILE_STATUS.STATE nn).key) : d.reg q = c.reg q := by
  rw [h.regs q hp]
  split
  · exact Body.reg_wr_of_ne _ _ hs
  · rfl

/-- The one slot has issued and the sequencer has moved on: the whole of what the bundle does. -/
theorem Sequenced.controlled {b d : Body} {nn k next at_ : Nat} {o : SlotOut} {wait : Option (Nat × Nat)}
    {arrive : Option Nat} (hn : nn < 68)
    (h : Sequenced ((b.atIssue nn).slotDone nn (b.nextCycle nn) k o) d nn next at_ wait arrive) :
    Controlled b d nn o.writes o.draw next at_ wait arrive where
  pend := by rw [h.tile, Body.slotDone_tile_same]
  tile := by rw [h.tile, Body.slotDone_tile_same]
  others n hne := by rw [h.others n hne, Body.slotDone_tile_of_ne _ _ _ _ _ hne]
  pc := h.pc
  regs q hq := by
    simp only [issueKeys, List.mem_append, List.mem_cons, List.not_mem_nil, or_false, not_or] at hq
    obtain ⟨⟨hpc, hbusy⟩, hgen⟩ := hq
    have hreg := (b.atIssue nn).slotDone_reg nn (b.nextCycle nn) k o hbusy (by
      intro g n hg
      rw [hg] at hgen
      simpa using hgen)
    have hstate := (b.atIssue nn).slotDone_reg nn (b.nextCycle nn) k o (statusKey_ne_busy hn) (by
      intro g n _
      simp [statusKey_ne_genLo, statusKey_ne_genHi])
    rw [h.regs q hpc]
    split
    · exact Body.reg_wr_congr _ _ hstate hreg
    · exact hreg
  draws g n hg := by
    rw [← Body.slotDone_genCtr _ _ (b.nextCycle nn) k _ hn hg]
    exact Body.genCtr_congr (h.reg_of_ne (genLo_ne_pc nn g).symm (statusKey_ne_genLo nn g).symm)
      (h.reg_of_ne (genHi_ne_pc nn g).symm (statusKey_ne_genHi nn g).symm)
  bytes a := by
    obtain ⟨rg, hr⟩ := (b.atIssue nn).slotDone_rest nn (b.nextCycle nn) k o
    rw [h.rest, hr]
    rfl
  rest := by
    obtain ⟨rg, hr⟩ := (b.atIssue nn).slotDone_rest nn (b.nextCycle nn) k o
    obtain ⟨-, -, -, -, hrest⟩ := h
    rw [hrest, hr]
    rfl

/-- The issue of a bundle that holds one instruction of the control section (R120, R121, R164 to R166). -/
theorem Body.issueBundle_control {b : Body} {nn : Nat} {i : SInstr} {o : SlotOut} (h : b.canIssue nn 7 i)
    (hi : i.section_ = .control) (hn : nn < 68)
    (ho : (b.atIssue nn).execSlot nn (b.nextCycle nn) i ((b.atIssue nn).draw0 nn) = o)
    (hd : ∀ g n, o.draw = some (g, n) → g < 8) :
    let pc := (b.atIssue nn).rd (R.T.PC.BUNDLE nn)
    let t := (b.atIssue nn).tile nn
    Controlled b (b.issueBundle nn [] [] [(7, some i)]) nn o.writes o.draw
      (nextBundle pc (i.branch t (pc * 32)))
      (if (i.branch t (pc * 32)).isSome then b.nextCycle nn + 2 else b.nextCycle nn + 1)
      (i.waits t) (i.arrives t (b.nextCycle nn)) := by
  obtain ⟨hw, ha⟩ := h.not_barred
  obtain ⟨k, hk⟩ := (b.atIssue nn).issueSlots_control nn (b.nextCycle nn) hi (by rw [ho]; exact hd)
  have harr := i.arrives_pend (b.atIssue nn) ((b.atIssue nn).tile nn) nn (b.nextCycle nn) ((b.atIssue nn).draw0 nn)
  rw [ho] at hk harr
  have htile := (b.atIssue nn).slotDone_tile_same nn (b.nextCycle nn) k o
  have hpc : ((b.atIssue nn).slotDone nn (b.nextCycle nn) k o).rd (R.T.PC.BUNDLE nn)
      = (b.atIssue nn).rd (R.T.PC.BUNDLE nn) := by
    unfold Body.rd
    rw [Body.slotDone_reg _ _ _ _ _ (pcKey_ne_busy hn)]
    intro g n _
    simp [genLo_ne_pc, genHi_ne_pc]
  have hs := ((b.atIssue nn).slotDone nn (b.nextCycle nn) k o).afterIssue_control nn (b.nextCycle nn)
    ((b.atIssue nn).tile nn) hi (by rw [htile]; exact hw) (by rw [htile]; exact ha)
  rw [h.issueBundle_eq, hk]
  rw [hpc, htile, harr] at hs
  exact hs.controlled hn

theorem Controlled.after {b c : Body} {nn next at_ : Nat} {ws : List (Nat × TileWrite)} {draw : Option (Nat × Nat)}
    {wait : Option (Nat × Nat)} {arrive : Option Nat} (h : Controlled b c nn ws draw next at_ wait arrive) (s : State)
    (f : Body → Body) (hf : f s.body = c) : Controlled b (after f s) nn ws draw next at_ wait arrive := by
  subst hf
  obtain ⟨h1, h2, h3, h4, h5, h6, h7, h8⟩ := h
  refine ⟨h1, h2, h3, h4, h5, h6, fun a => ?_, ?_⟩
  · rw [after_byte, h7 a]
  · unfold Sys2Proof.Machine.after
    conv_lhs => rw [h8]

theorem SInstr.slot_control {i : SInstr} (hi : i.section_ = .control) : i.slot = 7 := by
  unfold SInstr.slot
  rw [hi]

/-- A tile command of the control section: what the issue of its one instruction gives. -/
theorem gives_control {c : Instr} {t : Fin 68} {i : SInstr} {s : State} {o : SlotOut}
    (hx : exec c s = run (issueOne t i) s) (hi : i.section_ = .control) (hc : s.body.canIssue t 7 i)
    (ho : (s.body.atIssue t).execSlot t (s.body.nextCycle t) i ((s.body.atIssue t).draw0 t) = o)
    (hd : ∀ g n, o.draw = some (g, n) → g < 8) :
    let pc := (s.body.atIssue t).rd (R.T.PC.BUNDLE t)
    let r := (s.body.atIssue t).tile t
    Gives c s (fun m => Controlled s.body m t o.writes o.draw (nextBundle pc (i.branch r (pc * 32)))
      (if (i.branch r (pc * 32)).isSome then s.body.nextCycle t + 2 else s.body.nextCycle t + 1)
      (i.waits r) (i.arrives r (s.body.nextCycle t))) := by
  refine ⟨_, hx.trans (run_eq _ s), rfl, (Body.issueBundle_control hc hi t.isLt ho hd).after s _ ?_⟩
  unfold issueOne
  rw [SInstr.slot_control hi]

end Sys2Proof.Machine
end

section
/-! PROOFS. Branches, jumps, loops, waits and arrival. -/

namespace Sys2Proof.Machine

/-! ## Branches, waits, arrival (R120, R121, R164 to R166) -/

theorem Tile.getS_lt (t : Tile) (i : Nat) : t.getS i < 2 ^ 64 := by
  unfold Tile.getS
  split
  · decide
  · exact Nat.mod_lt _ (by decide)

theorem ones_or_mod_lt (w n : Nat) (c : Prop) [Decidable c] : (if c then 2 ^ w - 1 else n % 2 ^ w) < 2 ^ w := by
  have hpos := Nat.two_pow_pos w
  split
  · omega
  · exact Nat.mod_lt n hpos

theorem Tile.getP_lt (t : Tile) (i : Nat) : t.getP i < 2 ^ 1024 := ones_or_mod_lt 1024 _ _

@[simp] theorem Body.s64_toNat (b : Body) (t : Nat) (r : BitVec 5) : (b.s64 t r).toNat = (b.tile t).getS r.toNat :=
  Nat.mod_eq_of_lt (Tile.getS_lt _ _)

/-- The value that `lp` counts down. -/
theorem Body.s64_sub_one_toNat (b : Body) (t : Nat) (r : BitVec 5) :
    (b.s64 t r - 1).toNat = ((b.tile t).getS r.toNat + 2 ^ 64 - 1) % 2 ^ 64 := by
  rw [BitVec.toNat_sub, Body.s64_toNat]
  congr 1
  show 2 ^ 64 - 1 + _ = _
  omega

theorem Body.p1024_eq_zero (b : Body) (t : Nat) (r : BitVec 4) : b.p1024 t r = 0#1024 ↔ (b.tile t).getP r.toNat = 0 := by
  have hlt := (b.tile t).getP_lt r.toNat
  unfold Body.p1024
  simp only [← BitVec.toNat_inj, BitVec.toNat_ofNat, Nat.zero_mod, Nat.mod_eq_of_lt hlt]

theorem Body.s64_sub_one_eq_zero (b : Body) (t : Nat) (r : BitVec 5) :
    b.s64 t r - 1 = 0 ↔ ((b.tile t).getS r.toNat + 2 ^ 64 - 1) % 2 ^ 64 = 0 := by
  rw [← Body.s64_sub_one_toNat, ← BitVec.toNat_inj]
  rfl

/-- An offset counts bundles of 32 bytes from the branch's own (R165). -/
theorem relative_bundle (pc : Nat) (off : Int) : (((pc * 32 : Nat) : Int) + 32 * off).toNat / 32 = (pc + off).toNat := by
  omega

/-- A branch command: taken, it goes to its target and costs one further cycle; else the next bundle issues. -/
theorem gives_branch {c : Instr} {t : Fin 68} {i : SInstr} {s : State} {ws : List (Nat × TileWrite)} {taken : Bool}
    {x tgt : Int} (hx : exec c s = run (issueOne t i) s) (hi : i.section_ = .control)
    (hwait : i.waits ((s.body.atIssue t).tile t) = none)
    (harr : i.arrives ((s.body.atIssue t).tile t) (s.body.nextCycle t) = none)
    (ho : (s.body.atIssue t).execSlot t (s.body.nextCycle t) i ((s.body.atIssue t).draw0 t) = outs ws)
    (hbr : i.branch ((s.body.atIssue t).tile t) ((s.body.atIssue t).rd (R.T.PC.BUNDLE t) * 32)
      = if taken then some x else none)
    (htgt : x.toNat / 32 = tgt.toNat) (hc : s.body.canIssue t 7 i) :
    Gives c s (fun m => Controlled s.body m t ws none
      (if taken then tgt.toNat else (s.body.atIssue t).rd (R.T.PC.BUNDLE t) + 1)
      (if taken then s.body.nextCycle t + 2 else s.body.nextCycle t + 1) none none) := by
  have h := gives_control hx hi hc ho (fun g n hg => nomatch hg)
  simp only [hbr, hwait, harr] at h
  cases taken with
  | true =>
    rw [← htgt]
    exact h
  | false => exact h

/-- A command that comes to exactly the given module. -/
theorem gives_exactly {c : Instr} {s : State} {f : Body → Body} {b : Body} (hx : exec c s = run f s) (hf : f s.body = b) :
    Gives c s (Exactly b) := by
  subst hf
  exact ⟨_, hx.trans (run_eq f s), rfl, fun _ _ => rfl, after_byte f s, rfl⟩

theorem statusKey_ne_stall {nn : Nat} (h : nn < 68) :
    (R.T.TILE_STATUS.STATE nn).key ≠ (R.PV.ISL_STALL.COUNT (iT nn)).key := by
  unfold R.T.TILE_STATUS.STATE R.PV.ISL_STALL.COUNT iT
  dsimp only
  omega

/-- The end of a wait whose counter has reached the value (R166). -/
theorem waitSatisfied_eq {b : Body} {nn n cc v : Nat} (hn : nn < 68) (hw : (b.tile nn).waiting = some (cc, v))
    (hv : v ≤ ((b.commitTo nn (max (b.tile nn).cycle ((b.tile nn).nextIssue - 1 + n))).tile nn).getCC cc) :
    let u := (b.tile nn).nextIssue - 1 + n
    let d := b.commitTo nn (max (b.tile nn).cycle u)
    waitSatisfied nn n b = ((d.setTile nn { d.tile nn with waiting := none, nextIssue := u + 1 }).wr
      (R.T.TILE_STATUS.STATE nn) 1).wr (R.PV.ISL_STALL.COUNT (iT nn)) (d.rd (R.PV.ISL_STALL.COUNT (iT nn)) + n) := by
  intro u d
  unfold waitSatisfied
  simp only [hw, hv, if_true]
  unfold Body.add Body.setTileState
  rw [Body.rd_wr_of_key_ne _ _ (statusKey_ne_stall hn), Body.onTile_rd]
  rfl

/-- The arrival of a tile that issued `arrive` (R121). -/
theorem arrival_eq {b : Body} {nn n : Nat} (ha : (b.tile nn).arriving = some n) :
    let d := b.commitTo nn n
    arrival nn b = (((d.setTile nn { d.tile nn with arriving := none }).wr (R.T.LAST_ARRIVE.CYCLES nn)
      (min n (2 ^ 31 - 1))).wr (R.T.LAST_ARRIVE.LATE nn) 0).wr (R.T.TILE_STATUS.STATE nn) 2 := by
  intro d
  unfold arrival
  simp only [ha]
  rfl

/-- `wait` and `waiti`: the tile goes on where the counter has reached the value `v`, and waits for it otherwise (R166). -/
theorem gives_wait {c : Instr} {t : Fin 68} {i : SInstr} {s : State} {cc v : Nat}
    (hx : exec c s = run (issueOne t i) s) (hi : i.section_ = .control)
    (ho : (s.body.atIssue t).execSlot t (s.body.nextCycle t) i ((s.body.atIssue t).draw0 t) = outs [])
    (hbr : i.branch ((s.body.atIssue t).tile t) ((s.body.atIssue t).rd (R.T.PC.BUNDLE t) * 32) = none)
    (harr : i.arrives ((s.body.atIssue t).tile t) (s.body.nextCycle t) = none)
    (hwait : i.waits ((s.body.atIssue t).tile t)
      = if ((s.body.atIssue t).tile t).getCC cc < v then some (cc, v) else none)
    (hc : s.body.canIssue t 7 i) :
    Gives c s (fun m => Controlled s.body m t [] none ((s.body.atIssue t).rd (R.T.PC.BUNDLE t) + 1) (s.body.nextCycle t + 1)
      (if v ≤ ((s.body.atIssue t).tile t).getCC cc then none else some (cc, v)) none) := by
  have h := gives_control hx hi hc ho (fun g n hg => nomatch hg)
  have hflip : (if ((s.body.atIssue t).tile t).getCC cc < v then some (cc, v) else none)
      = if v ≤ ((s.body.atIssue t).tile t).getCC cc then none else some (cc, v) := by
    rw [← ite_not]
    simp only [Nat.not_lt]
  simp only [hbr, harr, hwait, hflip] at h
  exact h

end Sys2Proof.Machine

namespace Sys2Proof.Proofs
open Sys2Proof.Machine

/-- Settles O10: each control instruction is one bundle of the control section, whose branch, wait and arrival the sequencer
follows; the end of a wait and the arrival are the model's own equations. -/
theorem controlRows : Obligations.ControlRows := by
  unfold Obligations.ControlRows
  refine ⟨?branches, ?waits, ?satisfied, ?arrive, ?arrival⟩
  case branches =>
    intro t ra pa off s
    refine ⟨?br, ?bz, ?bnz, ?bpa, ?bpn, ?jal, ?jr, ?lp⟩
    case br => exact gives_branch rfl rfl rfl rfl rfl rfl (relative_bundle _ _)
    case bz => exact gives_branch rfl rfl rfl rfl rfl (by simp [SInstr.branch]) (relative_bundle _ _)
    case bnz => exact gives_branch rfl rfl rfl rfl rfl (by simp [SInstr.branch]) (relative_bundle _ _)
    case bpa => exact gives_branch rfl rfl rfl rfl rfl (by simp [SInstr.branch, Body.p1024_eq_zero]) (relative_bundle _ _)
    case bpn => exact gives_branch rfl rfl rfl rfl rfl (by simp [SInstr.branch, Body.p1024_eq_zero]) (relative_bundle _ _)
    case jal =>
      refine gives_branch rfl rfl rfl rfl ?_ rfl (relative_bundle _ _)
      rw [Nat.mul_comm]
      rfl
    case jr => exact gives_branch rfl rfl rfl rfl rfl rfl (by rw [Body.s64_toNat]; rfl)
    case lp =>
      refine gives_branch rfl rfl rfl rfl ?_ ?_ (relative_bundle _ _)
      · rw [Body.s64_sub_one_toNat]
        rfl
      · simp only [SInstr.branch, ne_eq, Body.s64_sub_one_eq_zero, decide_eq_true_eq]
  case waits =>
    rintro t cc s c i v b u pc (⟨ra, rfl, rfl, rfl⟩ | ⟨imm, rfl, rfl, rfl⟩)
    · exact gives_wait rfl rfl rfl rfl rfl (by simp [SInstr.waits, b])
    · exact gives_wait rfl rfl rfl rfl rfl rfl
  case satisfied =>
    intro t n cc v s hw u b hv
    exact gives_exactly rfl (waitSatisfied_eq t.isLt hw hv)
  case arrive =>
    intro t s hc
    exact gives_control rfl rfl hc rfl (fun g n hg => nomatch hg)
  case arrival =>
    intro t n s ha
    exact gives_exactly rfl (arrival_eq ha)

end Sys2Proof.Proofs
end

section
/-! PROOFS. The scalar section's results. -/

namespace Sys2Proof.Machine

/-! ## Two's complement: the model's numbers and the words that they stand for -/

theorem signed_toNat {w : Nat} (x : BitVec w) (hw : 0 < w) : signed x.toNat w = x.toInt := by
  have hp : 2 ^ w = 2 * 2 ^ (w - 1) := by rw [← Nat.pow_succ', Nat.succ_eq_add_one, Nat.sub_add_cancel hw]
  unfold signed
  rw [BitVec.toInt_eq_toNat_cond, Nat.mod_eq_of_lt x.isLt]
  refine if_congr ?_ rfl rfl
  omega

theorem unsigned_eq_ofInt (i : Int) (w : Nat) : unsigned i w = (BitVec.ofInt w i).toNat := (BitVec.toNat_ofInt i).symm

theorem sdiv_eq_ofInt (x y : BitVec 64) : x.sdiv y = BitVec.ofInt 64 (x.toInt.tdiv y.toInt) := by
  rw [← BitVec.toInt_inj, BitVec.toInt_sdiv, BitVec.toInt_ofInt]

theorem srem_eq_ofInt (x y : BitVec 64) : x.srem y = BitVec.ofInt 64 (x.toInt.tmod y.toInt) := by
  rw [← BitVec.toInt_srem, BitVec.ofInt_toInt]

/-- A slot that no condition of R113 stops has operands that raise nothing: theirs is the last but one of the
eight checks. -/
theorem Body.operandKind_of_slotStop {b : Body} {nn u slot : Nat} {slots : List (Nat × Option SInstr)} {i : SInstr}
    (h : b.slotStop nn u slots slot i = none) : b.operandKind nn i = 0 := by
  unfold Body.slotStop at h
  dsimp only at h
  iterate 6
    split at h
    · exact absurd h (Option.some_ne_none _)
  split at h
  · exact absurd h (Option.some_ne_none _)
  · next hk => exact not_not.1 hk

theorem Body.canIssue.operandKind_eq {b : Body} {nn slot : Nat} {i : SInstr} (h : b.canIssue nn slot i) :
    (b.atIssue nn).operandKind nn i = 0 := by
  obtain ⟨-, hb⟩ := h
  simp only [Body.bundleStop, List.findSome?_cons, List.findSome?_nil] at hb
  split at hb
  · cases hb
  · next hs => exact Body.operandKind_of_slotStop (Option.map_eq_none_iff.1 hs)

/-- An immediate shift issues by less than 64 places only. -/
theorem Body.canIssue.shift_lt {b : Body} {nn slot : Nat} {op : SiOp} {rd ra : BitVec 5} {imm : BitVec 16}
    (h : b.canIssue nn slot (.si op rd ra imm)) (hop : op = .shli ∨ op = .shri ∨ op = .srai) : imm.toNat < 64 := by
  have hk := h.operandKind_eq
  by_contra hlt
  rcases hop with rfl | rfl | rfl <;> simp [Body.operandKind, Nat.le_of_not_lt hlt] at hk

/-! ## What the scalar instructions compute (R138, R139) -/

section results
variable (x y : BitVec 64)

theorem SrOp.result_add : SrOp.add.result x.toNat y.toNat = (x + y).toNat := rfl

theorem SrOp.result_sub : SrOp.sub.result x.toNat y.toNat = (x - y).toNat := by
  rw [BitVec.toNat_sub]
  unfold SrOp.result
  dsimp only
  have := y.isLt
  congr 1
  omega

theorem SrOp.result_and : SrOp.and_.result x.toNat y.toNat = (x &&& y).toNat := rfl
theorem SrOp.result_or : SrOp.or_.result x.toNat y.toNat = (x ||| y).toNat := rfl
theorem SrOp.result_xor : SrOp.xor.result x.toNat y.toNat = (x ^^^ y).toNat := rfl

theorem SrOp.result_shl (n : Nat) : SrOp.shl.result x.toNat n = (x <<< (n % 64)).toNat := by
  rw [BitVec.toNat_shiftLeft, Nat.shiftLeft_eq]
  rfl

theorem SrOp.result_shr (n : Nat) : SrOp.shr.result x.toNat n = (x >>> (n % 64)).toNat := by
  rw [BitVec.toNat_ushiftRight, Nat.shiftRight_eq_div_pow]
  rfl

theorem SrOp.result_sra (n : Nat) : SrOp.sra.result x.toNat n = (x.sshiftRight (n % 64)).toNat := by
  unfold SrOp.result
  dsimp only
  rw [signed_toNat x (by decide), unsigned_eq_ofInt, BitVec.sshiftRight, Int.shiftRight_eq_div_pow]

theorem SrOp.result_slt : SrOp.slt.result x.toNat y.toNat = (if x.toInt < y.toInt then 1 else 0 : BitVec 64).toNat := by
  unfold SrOp.result b2n
  dsimp only
  rw [signed_toNat x (by decide), signed_toNat y (by decide), apply_ite BitVec.toNat]
  simp only [decide_eq_true_eq]
  rfl

theorem SrOp.result_sltu : SrOp.sltu.result x.toNat y.toNat = (if x.toNat < y.toNat then 1 else 0 : BitVec 64).toNat := by
  unfold SrOp.result b2n
  dsimp only
  rw [apply_ite BitVec.toNat]
  simp only [decide_eq_true_eq]
  rfl

theorem SrOp.result_seq : SrOp.seq.result x.toNat y.toNat = (if x = y then 1 else 0 : BitVec 64).toNat := by
  unfold SrOp.result b2n
  dsimp only
  rw [apply_ite BitVec.toNat]
  simp only [beq_iff_eq, BitVec.toNat_inj]
  rfl

theorem SrOp.result_min : SrOp.min_.result x.toNat y.toNat = (if x.toInt ≤ y.toInt then x else y).toNat := by
  unfold SrOp.result
  dsimp only
  rw [signed_toNat x (by decide), signed_toNat y (by decide), apply_ite BitVec.toNat]

theorem SrOp.result_max : SrOp.max_.result x.toNat y.toNat = (if x.toInt ≤ y.toInt then y else x).toNat := by
  unfold SrOp.result
  dsimp only
  rw [signed_toNat x (by decide), signed_toNat y (by decide), apply_ite BitVec.toNat]

theorem SrOp.result_minu : SrOp.minu.result x.toNat y.toNat = (if x.toNat ≤ y.toNat then x else y).toNat := by
  rw [apply_ite BitVec.toNat]
  exact Nat.min_def

theorem SrOp.result_maxu : SrOp.maxu.result x.toNat y.toNat = (if x.toNat ≤ y.toNat then y else x).toNat := by
  rw [apply_ite BitVec.toNat]
  exact Nat.max_def

theorem SrOp.result_mul : SrOp.mul.result x.toNat y.toNat = (x * y).toNat := rfl

theorem SrOp.result_mulh :
    SrOp.mulh.result x.toNat y.toNat = (BitVec.ofInt 64 (x.toInt * y.toInt / 2 ^ 64)).toNat := by
  unfold SrOp.result
  dsimp only
  rw [signed_toNat x (by decide), signed_toNat y (by decide), unsigned_eq_ofInt]
  rfl

theorem SrOp.result_mulhu :
    SrOp.mulhu.result x.toNat y.toNat = (BitVec.ofNat 64 (x.toNat * y.toNat / 2 ^ 64)).toNat := by
  have hlt : x.toNat * y.toNat / 2 ^ 64 < 2 ^ 64 := by
    rw [Nat.div_lt_iff_lt_mul (by decide)]
    exact Nat.mul_lt_mul'' x.isLt y.isLt
  rw [BitVec.toNat_ofNat, Nat.mod_eq_of_lt hlt]
  rfl

/-- A zero divisor is a divisor that reads 0. -/
theorem toNat_ite_zero (v w : BitVec 64) :
    (if y = 0 then v else w).toNat = if y.toNat = 0 then v.toNat else w.toNat := by
  rw [apply_ite BitVec.toNat]
  refine if_congr ?_ rfl rfl
  rw [← BitVec.toNat_inj]
  rfl

theorem SrOp.result_div :
    SrOp.div.result x.toNat y.toNat = (if y = 0 then BitVec.allOnes 64 else x.sdiv y).toNat := by
  rw [toNat_ite_zero, sdiv_eq_ofInt, ← unsigned_eq_ofInt, ← signed_toNat x (by decide), ← signed_toNat y (by decide)]
  rfl

theorem SrOp.result_divu :
    SrOp.divu.result x.toNat y.toNat = (if y = 0 then BitVec.allOnes 64 else x.udiv y).toNat := by
  rw [toNat_ite_zero]
  rfl

theorem SrOp.result_rem : SrOp.rem_.result x.toNat y.toNat = (if y = 0 then x else x.srem y).toNat := by
  rw [toNat_ite_zero, srem_eq_ofInt, ← unsigned_eq_ofInt, ← signed_toNat x (by decide), ← signed_toNat y (by decide)]
  rfl

theorem SrOp.result_remu : SrOp.remu.result x.toNat y.toNat = (if y = 0 then x else x.umod y).toNat := by
  rw [toNat_ite_zero]
  rfl

end results

section immediates
variable (x : BitVec 64) (n : BitVec 16)

/-- The sign-extended immediate of R138. -/
theorem sext_eq_signExtend : unsigned (signed n.toNat 16) 64 = (n.signExtend 64).toNat := by
  rw [signed_toNat n (by decide), unsigned_eq_ofInt]
  rfl

/-- The zero-extended immediate of the logic instructions. -/
theorem zext_eq_setWidth : n.toNat = (n.setWidth 64).toNat := by
  rw [BitVec.toNat_setWidth, Nat.mod_eq_of_lt (by omega)]

theorem SiOp.result_addi : SiOp.addi.result x.toNat n.toNat = (x + n.signExtend 64).toNat := by
  unfold SiOp.result
  rw [sext_eq_signExtend]
  exact SrOp.result_add _ _

theorem SiOp.result_andi : SiOp.andi.result x.toNat n.toNat = (x &&& n.setWidth 64).toNat := by
  conv_lhs => rw [zext_eq_setWidth n]
  exact SrOp.result_and _ _

theorem SiOp.result_ori : SiOp.ori.result x.toNat n.toNat = (x ||| n.setWidth 64).toNat := by
  conv_lhs => rw [zext_eq_setWidth n]
  exact SrOp.result_or _ _

theorem SiOp.result_xori : SiOp.xori.result x.toNat n.toNat = (x ^^^ n.setWidth 64).toNat := by
  conv_lhs => rw [zext_eq_setWidth n]
  exact SrOp.result_xor _ _

theorem SiOp.result_lui : SiOp.lui.result x.toNat n.toNat = (n.signExtend 64 <<< 16).toNat := by
  unfold SiOp.result
  rw [sext_eq_signExtend, BitVec.toNat_shiftLeft, Nat.shiftLeft_eq]

variable {n} (h : n.toNat < 64)
include h

theorem SiOp.result_shli : SiOp.shli.result x.toNat n.toNat = (x <<< n.toNat).toNat := by
  conv_rhs => rw [← Nat.mod_eq_of_lt h]
  exact SrOp.result_shl x n.toNat

theorem SiOp.result_shri : SiOp.shri.result x.toNat n.toNat = (x >>> n.toNat).toNat := by
  conv_rhs => rw [← Nat.mod_eq_of_lt h]
  exact SrOp.result_shr x n.toNat

theorem SiOp.result_srai : SiOp.srai.result x.toNat n.toNat = (x.sshiftRight n.toNat).toNat := by
  conv_rhs => rw [← Nat.mod_eq_of_lt h]
  exact SrOp.result_sra x n.toNat

end immediates

/-! ## The rows -/

/-- What a row of form SR says of the model: its command issues its sub-op, which has its latency and computes its result. -/
structure SrRowMeant (row : (Fin 68 → BitVec 5 → BitVec 5 → BitVec 5 → Instr) × SrOp × Nat × (BitVec 64 → BitVec 64 → BitVec 64)) :
    Prop where
  exec_eq : ∀ t rd ra rb s, exec (row.1 t rd ra rb) s = run (issueOne t (.sr row.2.1 rd ra rb)) s
  latency : row.2.1.latency = row.2.2.1
  result : ∀ x y : BitVec 64, row.2.1.result x.toNat y.toNat = (row.2.2.2 x y).toNat

/-- What a row of form SI says of the model; the shifts compute its result for the immediates that issue. -/
structure SiRowMeant (row : (Fin 68 → BitVec 5 → BitVec 5 → BitVec 16 → Instr) × SiOp × (BitVec 64 → BitVec 16 → BitVec 64)) :
    Prop where
  exec_eq : ∀ t rd ra imm s, exec (row.1 t rd ra imm) s = run (issueOne t (.si row.2.1 rd ra imm)) s
  result : ∀ (x : BitVec 64) (n : BitVec 16), (row.2.1 = .shli ∨ row.2.1 = .shri ∨ row.2.1 = .srai → n.toNat < 64) →
    row.2.1.result x.toNat n.toNat = (row.2.2 x n).toNat

theorem srRows_meant : ∀ row ∈ scalarRows, SrRowMeant row := by
  simp only [scalarRows, List.forall_mem_cons, List.not_mem_nil, false_implies, implies_true, and_true]
  exact ⟨⟨fun _ _ _ _ _ => rfl, rfl, SrOp.result_add⟩,
    ⟨fun _ _ _ _ _ => rfl, rfl, SrOp.result_sub⟩,
    ⟨fun _ _ _ _ _ => rfl, rfl, SrOp.result_and⟩,
    ⟨fun _ _ _ _ _ => rfl, rfl, SrOp.result_or⟩,
    ⟨fun _ _ _ _ _ => rfl, rfl, SrOp.result_xor⟩,
    ⟨fun _ _ _ _ _ => rfl, rfl, fun x y => SrOp.result_shl x y.toNat⟩,
    ⟨fun _ _ _ _ _ => rfl, rfl, fun x y => SrOp.result_shr x y.toNat⟩,
    ⟨fun _ _ _ _ _ => rfl, rfl, fun x y => SrOp.result_sra x y.toNat⟩,
    ⟨fun _ _ _ _ _ => rfl, rfl, SrOp.result_slt⟩,
    ⟨fun _ _ _ _ _ => rfl, rfl, SrOp.result_sltu⟩,
    ⟨fun _ _ _ _ _ => rfl, rfl, SrOp.result_seq⟩,
    ⟨fun _ _ _ _ _ => rfl, rfl, SrOp.result_min⟩,
    ⟨fun _ _ _ _ _ => rfl, rfl, SrOp.result_max⟩,
    ⟨fun _ _ _ _ _ => rfl, rfl, SrOp.result_minu⟩,
    ⟨fun _ _ _ _ _ => rfl, rfl, SrOp.result_maxu⟩,
    ⟨fun _ _ _ _ _ => rfl, rfl, SrOp.result_mul⟩,
    ⟨fun _ _ _ _ _ => rfl, rfl, SrOp.result_mulh⟩,
    ⟨fun _ _ _ _ _ => rfl, rfl, SrOp.result_mulhu⟩,
    ⟨fun _ _ _ _ _ => rfl, rfl, SrOp.result_div⟩,
    ⟨fun _ _ _ _ _ => rfl, rfl, SrOp.result_divu⟩,
    ⟨fun _ _ _ _ _ => rfl, rfl, SrOp.result_rem⟩,
    ⟨fun _ _ _ _ _ => rfl, rfl, SrOp.result_remu⟩⟩

theorem siRows_meant : ∀ row ∈ immediateRows, SiRowMeant row := by
  simp only [immediateRows, List.forall_mem_cons, List.not_mem_nil, false_implies, implies_true, and_true]
  exact ⟨⟨fun _ _ _ _ _ => rfl, fun x n _ => SiOp.result_addi x n⟩,
    ⟨fun _ _ _ _ _ => rfl, fun x n _ => SiOp.result_andi x n⟩,
    ⟨fun _ _ _ _ _ => rfl, fun x n _ => SiOp.result_ori x n⟩,
    ⟨fun _ _ _ _ _ => rfl, fun x n _ => SiOp.result_xori x n⟩,
    ⟨fun _ _ _ _ _ => rfl, fun x _ h => SiOp.result_shli x (h (.inl rfl))⟩,
    ⟨fun _ _ _ _ _ => rfl, fun x _ h => SiOp.result_shri x (h (.inr (.inl rfl)))⟩,
    ⟨fun _ _ _ _ _ => rfl, fun x _ h => SiOp.result_srai x (h (.inr (.inr rfl)))⟩,
    ⟨fun _ _ _ _ _ => rfl, fun x n _ => SiOp.result_lui x n⟩⟩

end Sys2Proof.Machine

namespace Sys2Proof.Proofs
open Sys2Proof.Machine

/-- Settles O1: each row's command is one instruction of the scalar section, whose writes are its row's; an immediate shift
issues by less than 64 places only. -/
theorem scalarRows : Obligations.ScalarRows := by
  unfold Obligations.ScalarRows
  constructor
  · intro row hrow t rd ra rb
    obtain ⟨hx, hl, hr⟩ := srRows_meant row hrow
    refine issues_of (hx t rd ra rb) rfl (by decide) (by decide) (fun _ _ => rfl) (fun s _ => ?_) (fun _ _ hg => nomatch hg)
    show execSr ((s.body.atIssue t).tile t) row.2.1 rd.toNat ra.toNat rb.toNat = _
    rw [execSr, ← Body.s64_toNat, ← Body.s64_toNat, hr, hl]
    rfl
  · intro row hrow t rd ra imm
    obtain ⟨hx, hr⟩ := siRows_meant row hrow
    refine issues_of (hx t rd ra imm) rfl (by decide) (by decide) (fun _ _ => rfl) (fun s hc => ?_) (fun _ _ hg => nomatch hg)
    show execSi ((s.body.atIssue t).tile t) row.2.1 rd.toNat ra.toNat imm.toNat = _
    rw [execSi, ← Body.s64_toNat, hr _ _ hc.shift_lt]
    rfl

end Sys2Proof.Proofs
end

section
/-! PROOFS. What a command answers, the cause bits of the host interface, a source raised, the observation of a register write,
and the passing of time: what each changes and what it leaves (R21, R315, R361, R389, R435). -/

namespace Sys2Proof.Machine

/-! ## What a command answers -/

/-- A command answers what its meaning leaves, with the memory in canonical form. -/
theorem gives_run {c : Instr} {s : State} {f : Body → Body} {P : Body → Prop} (hx : exec c s = run f s)
    (hP : P (after f s)) : Gives c s P :=
  ⟨_, hx.trans (run_eq f s), rfl, hP⟩

/-- A command that leaves nothing behind but its observation. -/
theorem gives_upToDb {c : Instr} {s : State} {f : Body → Body} {b : Body} {n : Nat} (hx : exec c s = run f s)
    (h : ({ b with free := n } : Body).SameButDb (f s.body)) : Gives c s (UpToDb b) := by
  refine gives_run hx ⟨fun k _ hk => h.reg k hk, fun a => (after_byte f s a).trans (h.byte a), ?_⟩
  obtain ⟨-, regs, obs, resumed, hr⟩ := h
  unfold after
  rw [hr]

/-! ## Fields that share no bit, as a test that `decide` evaluates -/

/-- Two fields share no bit. -/
def Field.clear (f g : Field) : Bool := f.key != g.key || decide (f.lo + f.w ≤ g.lo) || decide (g.lo + g.w ≤ f.lo)

theorem Field.apart_of_clear {f g : Field} (h : f.clear g = true) : f.apart g := by
  simpa [Field.clear, Field.apart, or_assoc] using h

theorem Body.rd_wr_clear (b : Body) {f g : Field} (v : Nat) (h : f.clear g = true) : (b.wr f v).rd g = b.rd g :=
  b.rd_wr_apart v (Field.apart_of_clear h)

/-- A field reads a value that fits it. -/
theorem Body.rd_wr_fits (b : Body) {f : Field} {v : Nat} (h : v < 2 ^ f.w) : (b.wr f v).rd f = v := by
  rw [Body.rd_wr_same, Nat.mod_eq_of_lt h]

theorem Body.rd_congr {b c : Body} {g : Field} (h : c.reg g.key = b.reg g.key) : c.rd g = b.rd g := by
  unfold Body.rd
  rw [h]

/-! ## Registers outside a list -/

section sameRegs
variable {ks : List Nat} {a b c : Body}

theorem SameRegsBut.trans (h : SameRegsBut ks a b) (g : SameRegsBut ks b c) : SameRegsBut ks a c :=
  fun k hk h6 => (g k hk h6).trans (h k hk h6)

theorem SameRegsBut.wr {f : Field} (h : SameRegsBut ks a b) (v : Nat) (hf : f.key ∈ ks) : SameRegsBut ks a (b.wr f v) :=
  fun k hk h6 => (b.reg_wr_of_ne v (ne_of_mem_of_not_mem hf hk).symm).trans (h k hk h6)

theorem OnlyRegs.wr {f : Field} (h : OnlyRegs ks a b) (v : Nat) (hf : f.key ∈ ks) : OnlyRegs ks a (b.wr f v) :=
  fun k hk => (b.reg_wr_of_ne v (ne_of_mem_of_not_mem hf hk).symm).trans (h k hk)

theorem SameRegsBut.db (h : SameRegsBut ks a b) (g : b.SameButDb c) : SameRegsBut ks a c :=
  fun k hk h6 => (g.reg k h6).trans (h k hk h6)

theorem SameRegsBut.rd (h : SameRegsBut ks b c) {g : Field} (hk : g.key ∉ ks) (h6 : g.key / 65536 ≠ 6) : c.rd g = b.rd g :=
  Body.rd_congr (h _ hk h6)

theorem OnlyRegs.rd (h : OnlyRegs ks b c) {g : Field} (hk : g.key ∉ ks) : c.rd g = b.rd g := Body.rd_congr (h _ hk)

end sameRegs

/-! ## Cause bits (R435) -/

/-- A cause bit changes the cause register, the pending vectors and what is sent. -/
theorem Body.irq_rest (b : Body) (v : Nat) : ∃ regs hi out, b.irq v = { b with regs := regs, hi := hi, out := out } := by
  unfold Body.irq
  split
  · exact ⟨_, _, _, rfl⟩
  · dsimp only
    split <;> exact ⟨_, _, _, rfl⟩

theorem Body.irq_reg (b : Body) (v : Nat) {k : Nat} (h : k ≠ R.HI.IRQ_CAUSE.CAUSE.key) : (b.irq v).reg k = b.reg k := by
  unfold Body.irq
  split
  · rfl
  · dsimp only
    split <;> exact b.reg_wr_of_ne _ h

/-! ## A source raised (R315) -/

theorem Body.raise_reg (b : Body) (src : Nat) {k : Nat} (h : k / 65536 ≠ 6) : (b.raise src).reg k = b.reg k := by
  obtain hs | ⟨_, _, _, _, _, hs⟩ := b.raiseOcc_same (occ src) 0 <;> exact hs.reg k h

theorem Body.rd_raiseN (b : Body) (i n : Nat) {g : Field} (h : g.key / 65536 ≠ 6) : (b.raiseN i n).rd g = b.rd g :=
  Body.rd_congr (b.raise_reg _ h)

theorem Body.raise_mem (b : Body) (src : Nat) : (b.raise src).mem = b.mem := by
  obtain hs | ⟨_, _, _, _, _, hs⟩ := b.raiseOcc_same (occ src) 0 <;> exact hs.mem

theorem Body.raise_time (b : Body) (src : Nat) : (b.raise src).time = b.time := by
  obtain hs | ⟨_, _, _, _, _, hs⟩ := b.raiseOcc_same (occ src) 0 <;> exact hs.time

/-- A source that is not reserved stands on the fault tree once it is raised. -/
theorem Body.raise_raised (b : Body) {src : Nat} (h : defaultLevel src ≠ none) : Raised b (b.raise src) src := by
  obtain ⟨l, hl⟩ := Option.ne_none_iff_exists'.1 h
  have hi := defaultLevel_island hl
  unfold Body.raise Body.raiseOcc Body.raiseAs
  have e : defaultLevel (occ src).source = some l := hl
  rw [e]
  dsimp only
  have hc : ∀ d : Body, b.SameButDb d → ∀ r : Report, r ∈ (d.cont.tree ++ [r]).drop b.cont.tree.length := by
    intro d hd r
    rw [hd.cont, List.drop_left]
    exact List.mem_singleton_self r
  refine ⟨_, ?_, hc _ ?_ _⟩
  · rfl
  split
  · exact (b.trace_same _ _ _ _ hi).trans (Body.trigger_same _ hi)
  · exact b.trace_same _ _ _ _ hi

theorem Raised.of_cont {a b c : Body} {src : Nat} (h : Raised a c src) (hc : a.cont = b.cont) : Raised b c src := by
  unfold Raised at h ⊢
  rwa [hc] at h

/-! ## The observation of a register write (R389, R390) -/

theorem Body.writtenAt_same (b : Body) (off : Nat) {i : Nat} (hi : i < 128) :
    ∃ n, ({ b with free := n } : Body).SameButDb (b.writtenAt off i) := by
  unfold Body.writtenAt
  split
  · exact ⟨b.free, .refl b⟩
  · extract_lets trig code data b1
    have h1 : ∃ n, ({ b with free := n } : Body).SameButDb b1 := by
      unfold b1
      split
      · exact ⟨b.free + 2, Body.trace_same _ code 0 data trig hi⟩
      · exact ⟨b.free, .refl b⟩
    obtain ⟨n, hn⟩ := h1
    split
    · exact ⟨n, hn.trans (b1.trigger_same hi)⟩
    · exact ⟨n, hn⟩

/-! ## The passing of time (R361) -/

/-- Time has passed: the bases have advanced and no clock is stretching. -/
def Body.Later (b c : Body) : Prop :=
  ∃ t0 t1 t2 t3 st, c = { b with time := { b.time with tb0 := t0, tb1 := t1, tb2 := t2, tb3 := t3 },
                                  sb := { b.sb with stretching := st } }

theorem Body.ticks_later (b : Body) (k : Nat) : b.Later (b.ticks k) := ⟨_, _, _, _, _, rfl⟩

theorem Body.Later.refl (b : Body) : b.Later b := ⟨b.time.tb0, b.time.tb1, b.time.tb2, b.time.tb3, b.sb.stretching, rfl⟩

theorem Body.toLocal_later (b : Body) (t : Nat) : b.Later (b.toLocal t) := by
  unfold Body.toLocal
  split
  · exact .refl b
  · exact b.ticks_later _

theorem Body.toPod_later (b : Body) (t : Nat) : b.Later (b.toPod t) := by
  unfold Body.toPod
  split
  · exact .refl b
  · exact b.ticks_later _

/-- TB2 has reached the instant waited for. -/
theorem Body.le_toLocal (b : Body) (t : Nat) : t ≤ (b.toLocal t).ns 2 := by
  unfold Body.toLocal
  split
  · assumption
  · next h =>
    have e : (b.ticks (t - b.ns 2)).ns 2 = b.ns 2 + (t - b.ns 2) :=
      Nat.add_mul_div_right b.time.tb2 _ (Nat.two_pow_pos 40)
    omega

theorem le_ceilDiv_mul (n : Nat) {d : Nat} (hd : 0 < d) : n ≤ ceilDiv n d * d := by
  unfold ceilDiv
  have h := Nat.div_add_mod' (n + d - 1) d
  have hm := Nat.mod_lt (n + d - 1) hd
  omega

/-- A base never stands still (R361): its rate is above −1. -/
theorem Body.cycleStep_pos (b : Body) (i : Nat) : 0 < b.cycleStep i := by
  unfold Body.cycleStep signed
  extract_lets m
  split <;> omega

/-- Pod time has reached the instant waited for. -/
theorem Body.le_toPod (b : Body) (t : Nat) : t ≤ (b.toPod t).ns 0 := by
  unfold Body.toPod
  split
  · next h => exact (Nat.le_div_iff_mul_le (Nat.two_pow_pos 40)).2 h
  · next h =>
    refine (Nat.le_div_iff_mul_le (Nat.two_pow_pos 40)).2 ?_
    have := le_ceilDiv_mul (t * 2 ^ 40 - b.time.tb0) (b.cycleStep_pos 0)
    show t * 2 ^ 40 ≤ b.time.tb0 + ceilDiv (t * 2 ^ 40 - b.time.tb0) (b.cycleStep 0) * b.cycleStep 0
    omega

end Sys2Proof.Machine
end

section
/-! PROOFS. The servo: what one sample changes, and what it leaves unchanged (R369, R371, R373, R374). -/

namespace Sys2Proof.Machine

/-! ## The synchronised flag -/

theorem Body.setSync_rest (b : Body) (i v : Nat) :
    ∃ regs hi out, b.setSync i v = { b with regs := regs, hi := hi, out := out } := by
  unfold Body.setSync
  split
  · exact ⟨_, _, _, rfl⟩
  · exact Body.irq_rest _ 10

theorem Body.setSync_cont (b : Body) (i v : Nat) : (b.setSync i v).cont = b.cont := by
  obtain ⟨_, _, _, e⟩ := b.setSync_rest i v
  rw [e]

theorem Body.setSync_mem (b : Body) (i v : Nat) : (b.setSync i v).mem = b.mem := by
  obtain ⟨_, _, _, e⟩ := b.setSync_rest i v
  rw [e]

theorem Body.setSync_time (b : Body) (i v : Nat) : (b.setSync i v).time = b.time := by
  obtain ⟨_, _, _, e⟩ := b.setSync_rest i v
  rw [e]

theorem Body.setSync_reg (b : Body) (i v : Nat) {k : Nat} (hs : k ≠ (R.TM.TB_STATUS.SYNC i).key)
    (hc : k ≠ R.HI.IRQ_CAUSE.CAUSE.key) : (b.setSync i v).reg k = b.reg k := by
  unfold Body.setSync
  split
  · rfl
  · rw [Body.irq_reg _ _ hc, Body.reg_wr_of_ne _ _ hs]

theorem Body.rd_irq (b : Body) (v : Nat) {g : Field} (h : g.key ≠ R.HI.IRQ_CAUSE.CAUSE.key) : (b.irq v).rd g = b.rd g :=
  Body.rd_congr (b.irq_reg v h)

/-- A field beside the flag reads as before. -/
theorem Body.rd_setSync_clear (b : Body) (i v : Nat) {g : Field} (hs : (R.TM.TB_STATUS.SYNC i).clear g = true)
    (hc : g.key ≠ R.HI.IRQ_CAUSE.CAUSE.key) : (b.setSync i v).rd g = b.rd g := by
  unfold Body.setSync
  split
  · rfl
  · rw [Body.rd_irq _ _ hc, Body.rd_wr_clear _ _ hs]

theorem syncKey_ne_cause {i : Nat} (hi : i < 2) : (R.TM.TB_STATUS.SYNC i).key ≠ R.HI.IRQ_CAUSE.CAUSE.key := by
  show 0x10120 + 0x40 * i ≠ 0x70020
  omega

/-- Two fields of a base's status share no bit where their positions are apart. -/
theorem Field.clear_of_bits {f g : Field} (h : (decide (f.lo + f.w ≤ g.lo) || decide (g.lo + g.w ≤ f.lo)) = true) :
    f.clear g = true := by
  rw [Field.clear, Bool.or_assoc, h, Bool.or_true]

/-- The flag reads the value it was given. -/
theorem Body.rd_setSync_same (b : Body) {i v : Nat} (hi : i < 2) (hv : v < 2) :
    (b.setSync i v).rd (R.TM.TB_STATUS.SYNC i) = v := by
  unfold Body.setSync
  split
  · assumption
  · rw [Body.rd_irq _ _ (syncKey_ne_cause hi), Body.rd_wr_same]
    exact Nat.mod_eq_of_lt hv

/-! ## What the servo holds beside its registers -/

section held
variable (b : Body) (i : Nat) (theta v : Int) (m : Option Nat)

theorem Body.baseTotal_congr {b c : Body} (h : c.time = b.time) (i : Nat) : c.baseTotal i = b.baseTotal i := by
  unfold Body.baseTotal
  rw [h]

theorem Body.integ_congr {b c : Body} (h : c.time = b.time) (i : Nat) : c.integ i = b.integ i := by
  unfold Body.integ
  rw [h]

theorem Body.relock_congr {b c : Body} (h : c.time = b.time) (i : Nat) : c.relock i = b.relock i := by
  unfold Body.relock
  rw [h]

@[simp] theorem Body.baseTotal_wr (f : Field) (n : Nat) : (b.wr f n).baseTotal i = b.baseTotal i := rfl
@[simp] theorem Body.integ_wr (f : Field) (n : Nat) : (b.wr f n).integ i = b.integ i := rfl
@[simp] theorem Body.relock_wr (f : Field) (n : Nat) : (b.wr f n).relock i = b.relock i := rfl

/-- A sample is added to a base, which does not fall below 0. -/
@[simp] theorem Body.baseTotal_addBase :
    ((b.addBase i theta).baseTotal i : Int) = max ((b.baseTotal i : Int) + theta * (2 ^ 32 : Nat)) 0 := by
  rw [← Int.toNat_eq_max]
  unfold Body.addBase Body.baseTotal
  split <;> rfl

@[simp] theorem Body.integ_addBase : (b.addBase i theta).integ i = b.integ i := by
  unfold Body.addBase Body.integ
  split <;> rfl

@[simp] theorem Body.relock_addBase : (b.addBase i theta).relock i = b.relock i := by
  unfold Body.addBase Body.relock
  split <;> rfl

@[simp] theorem Body.rd_addBase (g : Field) : (b.addBase i theta).rd g = b.rd g := by
  unfold Body.addBase
  split <;> rfl

@[simp] theorem Body.baseTotal_setInteg : (b.setInteg i v).baseTotal i = b.baseTotal i := by
  unfold Body.setInteg Body.baseTotal
  split <;> rfl

@[simp] theorem Body.integ_setInteg : (b.setInteg i v).integ i = v := by
  unfold Body.setInteg Body.integ
  split <;> rfl

@[simp] theorem Body.relock_setInteg : (b.setInteg i v).relock i = b.relock i := by
  unfold Body.setInteg Body.relock
  split <;> rfl

@[simp] theorem Body.rd_setInteg (g : Field) : (b.setInteg i v).rd g = b.rd g := by
  unfold Body.setInteg
  split <;> rfl

@[simp] theorem Body.baseTotal_setRelock : (b.setRelock i m).baseTotal i = b.baseTotal i := by
  unfold Body.setRelock Body.baseTotal
  split <;> rfl

@[simp] theorem Body.integ_setRelock : (b.setRelock i m).integ i = b.integ i := by
  unfold Body.setRelock Body.integ
  split <;> rfl

@[simp] theorem Body.relock_setRelock : (b.setRelock i m).relock i = m := by
  unfold Body.setRelock Body.relock
  split <;> rfl

@[simp] theorem Body.rd_setRelock (g : Field) : (b.setRelock i m).rd g = b.rd g := by
  unfold Body.setRelock
  split <;> rfl

@[simp] theorem Body.reg_setRelock (k : Nat) : (b.setRelock i m).reg k = b.reg k := by
  unfold Body.setRelock
  split <;> rfl

@[simp] theorem Body.mem_setRelock : (b.setRelock i m).mem = b.mem := by
  unfold Body.setRelock
  split <;> rfl

/-- A relock of one base leaves the other base's relock. -/
theorem Body.relock_setRelock_other {i : Nat} (hi : i < 2) : (b.setRelock i m).relock (1 - i) = b.relock (1 - i) := by
  interval_cases i <;> rfl

end held

/-! ## A relock settled, a sample accepted -/

theorem Body.recordRelock_same (b : Body) (i mode res : Nat) (theta : Int) :
    b.SameButDb (b.recordRelock i mode res theta) :=
  b.event_same _ _ (by decide)

section settled
variable (b : Body) (i mode : Nat) (theta : Int)

theorem Body.settleRelock_same :
    ((b.setRelock i none).wr R.TM.RELOCK.DONE 1).SameButDb (b.settleRelock i mode theta) :=
  Body.recordRelock_same _ i mode 0 theta

@[simp] theorem Body.baseTotal_settleRelock : (b.settleRelock i mode theta).baseTotal i = b.baseTotal i := by
  rw [Body.baseTotal_congr (b.settleRelock_same i mode theta).time]
  simp

@[simp] theorem Body.integ_settleRelock : (b.settleRelock i mode theta).integ i = b.integ i := by
  rw [Body.integ_congr (b.settleRelock_same i mode theta).time]
  simp

@[simp] theorem Body.relock_settleRelock : (b.settleRelock i mode theta).relock i = none := by
  rw [Body.relock_congr (b.settleRelock_same i mode theta).time]
  simp

theorem Body.rd_settleRelock_clear {g : Field} (hd : R.TM.RELOCK.DONE.clear g = true) (h6 : g.key / 65536 ≠ 6) :
    (b.settleRelock i mode theta).rd g = b.rd g := by
  rw [(b.settleRelock_same i mode theta).rd g h6, Body.rd_wr_clear _ _ hd, Body.rd_setRelock]

@[simp] theorem Body.rd_settleRelock_done : (b.settleRelock i mode theta).rd R.TM.RELOCK.DONE = 1 := by
  rw [(b.settleRelock_same i mode theta).rd _ (by decide), Body.rd_wr_same]
  rfl

end settled

section accepted
variable (b : Body) (i : Nat)

/-- A sample accepted at an instant of TB2: holdover ends, then the base counts as synchronised. -/
theorem Body.accepted_eq : ∃ t0 t1, b.accepted i =
    (({ b with time := { b.time with accepted0 := t0, accepted1 := t1 } } : Body).wr (R.TM.TB_STATUS.HOLDOVER i) 0).setSync i 1 := by
  unfold Body.accepted
  by_cases h : i = 0
  · exact ⟨b.ns 2, b.time.accepted1, by simp only [h, if_true]⟩
  · exact ⟨b.time.accepted0, b.ns 2, by simp only [h, if_false]⟩

theorem Body.accepted_time : ∃ t0 t1, (b.accepted i).time = { b.time with accepted0 := t0, accepted1 := t1 } := by
  obtain ⟨t0, t1, h⟩ := b.accepted_eq i
  obtain ⟨_, _, _, hs⟩ := Body.setSync_rest
    (({ b with time := { b.time with accepted0 := t0, accepted1 := t1 } } : Body).wr (R.TM.TB_STATUS.HOLDOVER i) 0) i 1
  exact ⟨t0, t1, by rw [h, hs]; rfl⟩

@[simp] theorem Body.baseTotal_accepted (j : Nat) : (b.accepted i).baseTotal j = b.baseTotal j := by
  obtain ⟨_, _, h⟩ := b.accepted_time i
  unfold Body.baseTotal
  rw [h]

@[simp] theorem Body.integ_accepted (j : Nat) : (b.accepted i).integ j = b.integ j := by
  obtain ⟨_, _, h⟩ := b.accepted_time i
  unfold Body.integ
  rw [h]

@[simp] theorem Body.relock_accepted (j : Nat) : (b.accepted i).relock j = b.relock j := by
  obtain ⟨_, _, h⟩ := b.accepted_time i
  unfold Body.relock
  rw [h]

variable {i}

theorem Body.rd_accepted_clear {g : Field} (hh : (R.TM.TB_STATUS.HOLDOVER i).clear g = true)
    (hs : (R.TM.TB_STATUS.SYNC i).clear g = true) (hc : g.key ≠ R.HI.IRQ_CAUSE.CAUSE.key) :
    (b.accepted i).rd g = b.rd g := by
  obtain ⟨_, _, h⟩ := b.accepted_eq i
  rw [h, Body.rd_setSync_clear _ _ _ hs hc, Body.rd_wr_clear _ _ hh]
  rfl

/-- A base whose sample was accepted counts as synchronised and is in no holdover. -/
theorem Body.accepted_good (hi : i < 2) :
    (b.accepted i).rd (R.TM.TB_STATUS.SYNC i) = 1 ∧ (b.accepted i).rd (R.TM.TB_STATUS.HOLDOVER i) = 0 := by
  obtain ⟨_, _, h⟩ := b.accepted_eq i
  rw [h]
  refine ⟨Body.rd_setSync_same _ hi (by decide), ?_⟩
  rw [Body.rd_setSync_clear _ _ _ (g := R.TM.TB_STATUS.HOLDOVER i) (Field.clear_of_bits rfl) (syncKey_ne_cause hi), Body.rd_wr_same]
  rfl

end accepted

end Sys2Proof.Machine
end

section
/-! PROOFS. One sample of the servo: an equation for each branch of R369, the registers and the part of the time state that it may
change, and what it does to the base (R369, R371, R373, R374). -/

namespace Sys2Proof.Machine

/-! ## The branches of R369 -/

/-- The sample shows in `TM.TBb_OFFSET`, which saturates. -/
def Body.shown (b : Body) (i : Nat) (theta : Int) : Body :=
  b.wr (R.TM.TB_OFFSET.THETA i) (unsigned (clampInt theta (-(2 ^ 31 : Nat)) ((2 ^ 31 - 1 : Nat))) 32)

/-- A base that was never set takes the sample, with integral and rate 0. -/
def Body.firstSet (b : Body) (i : Nat) (theta : Int) : Body :=
  (((b.addBase i theta).wr (R.TM.TB_STATUS.SET i) 1).setInteg i 0).wr (R.TM.TB_RATE.A i) 0

/-- The integral after a sample. -/
def Body.nextInteg (b : Body) (i : Nat) (theta : Int) : Int :=
  clampInt (b.integ i + gainProduct (b.rd (R.TM.TB_GAIN.KI i)) theta) (-b.maxSlew i) (b.maxSlew i)

/-- Integral and rate follow a sample. -/
def Body.followed (b : Body) (i : Nat) (theta : Int) : Body :=
  (b.setInteg i (b.nextInteg i theta)).wr (R.TM.TB_RATE.A i)
    (unsigned (clampInt (b.nextInteg i theta + gainProduct (b.rd (R.TM.TB_GAIN.KP i)) theta) (-b.maxSlew i) (b.maxSlew i)) 32)

/-- A slewing relock ends with the first sample within the threshold. -/
def Body.slewEnds (b : Body) (i : Nat) (near : Bool) : Body :=
  if near then b.wr (R.TM.TB_STATUS.RELOCK_SLEW i) 0 else b

/-- A slewing relock that waits for its sample is settled. -/
def Body.slewSettled (b : Body) (i : Nat) (theta : Int) (waits : Option Nat) : Body :=
  if waits = some 0 then b.settleRelock i 0 theta else b

/-- The relock that waits for a sample, if any, is settled. -/
def Body.settled (b : Body) (i : Nat) (theta : Int) : Option Nat → Body
  | some mode => b.settleRelock i mode theta
  | none => b

section branches
variable {b : Body} {i : Nat} (theta : Int)

theorem Body.rd_shown {g : Field} (h : g.key ≠ (R.TM.TB_OFFSET.THETA i).key) : (b.shown i theta).rd g = b.rd g :=
  b.rd_wr_of_key_ne _ h.symm

theorem thetaKey_ne (i : Nat) : (R.TM.TB_STATUS.SET i).key ≠ (R.TM.TB_OFFSET.THETA i).key ∧
    (R.TM.TB_LIMITS.STEP_THRESH i).key ≠ (R.TM.TB_OFFSET.THETA i).key ∧
    (R.TM.TB_GAIN.KI i).key ≠ (R.TM.TB_OFFSET.THETA i).key := by
  refine ⟨?_, ?_, ?_⟩
  · show 0x10120 + 0x40 * i ≠ 0x10124 + 0x40 * i
    omega
  · show 0x10118 + 0x40 * i ≠ 0x10124 + 0x40 * i
    omega
  · show 0x10114 + 0x40 * i ≠ 0x10124 + 0x40 * i
    omega

theorem Body.rd_status_shown {g : Field} (h : g.key = (R.TM.TB_STATUS.SET i).key) : (b.shown i theta).rd g = b.rd g :=
  Body.rd_shown theta (h ▸ (thetaKey_ne i).1)

theorem Body.on_shown {g : Field} (h : g.key = (R.TM.TB_STATUS.SET i).key) :
    (b.shown i theta).on g = decide (b.rd g = 1) := by
  unfold Body.on
  rw [Body.rd_status_shown theta h]

theorem Body.stepThresh_shown : (b.shown i theta).stepThresh i = b.stepThresh i := by
  unfold Body.stepThresh
  rw [Body.rd_shown theta (thetaKey_ne i).2.1]

theorem Body.maxSlew_shown : (b.shown i theta).maxSlew i = b.maxSlew i := by
  unfold Body.maxSlew
  rw [Body.rd_shown theta (g := R.TM.TB_LIMITS.MAX_SLEW i) (thetaKey_ne i).2.1]

theorem Body.rd_gain_shown {g : Field} (h : g.key = (R.TM.TB_GAIN.KI i).key) : (b.shown i theta).rd g = b.rd g :=
  Body.rd_shown theta (h ▸ (thetaKey_ne i).2.2)

theorem Body.nextInteg_shown : (b.shown i theta).nextInteg i theta = b.nextInteg i theta := by
  unfold Body.nextInteg
  rw [Body.maxSlew_shown, Body.rd_gain_shown (i := i) theta rfl]
  rfl

theorem Body.servo_unset (hs : b.rd (R.TM.TB_STATUS.SET i) ≠ 1) :
    b.servo i theta = (((b.shown i theta).firstSet i theta).settled i theta (b.relock i)).accepted i := by
  have h1 : (b.shown i theta).on (R.TM.TB_STATUS.SET i) = false := by
    rw [b.on_shown (i := i) theta rfl]
    simpa using hs
  unfold Body.servo
  change (if !(b.shown i theta).on (R.TM.TB_STATUS.SET i) then _ else _) = _
  rw [h1]
  change Body.accepted (match b.relock i with | some mode => _ | none => _) i = _
  cases b.relock i <;> rfl

variable (hs : b.rd (R.TM.TB_STATUS.SET i) = 1)
include hs

theorem Body.servo_refused (hr : b.rd (R.TM.TB_STATUS.REFUSED i) = 1) : b.servo i theta = b.shown i theta := by
  have h1 : (b.shown i theta).on (R.TM.TB_STATUS.SET i) = true := by
    rw [b.on_shown (i := i) theta rfl]
    simpa using hs
  have h2 : (b.shown i theta).on (R.TM.TB_STATUS.REFUSED i) = true := by
    rw [b.on_shown theta (g := R.TM.TB_STATUS.REFUSED i) rfl]
    simpa using hr
  unfold Body.servo
  change (if !(b.shown i theta).on (R.TM.TB_STATUS.SET i) then _ else if (b.shown i theta).on (R.TM.TB_STATUS.REFUSED i) then _ else _) = _
  rw [h1, h2]
  rfl

variable (hr : b.rd (R.TM.TB_STATUS.REFUSED i) ≠ 1)
include hr

/-- What the servo does with a sample of a base that is set and holds no refusal. -/
theorem Body.servo_set : b.servo i theta =
    if b.relock i = some 1 then (((b.shown i theta).addBase i theta).settleRelock i 1 theta).accepted i
    else if b.stepThresh i < (theta.natAbs : Int) ∧ b.rd (R.TM.TB_STATUS.RELOCK_SLEW i) ≠ 1 then
      ((b.shown i theta).wr (R.TM.TB_STATUS.REFUSED i) 1).raiseN iTM 1
    else ((((b.shown i theta).followed i theta).slewEnds i ((theta.natAbs : Int) ≤ b.stepThresh i)).slewSettled i theta
      (b.relock i)).accepted i := by
  have h1 : (b.shown i theta).on (R.TM.TB_STATUS.SET i) = true := by
    rw [b.on_shown (i := i) theta rfl]
    simpa using hs
  have h2 : (b.shown i theta).on (R.TM.TB_STATUS.REFUSED i) = false := by
    rw [b.on_shown theta (g := R.TM.TB_STATUS.REFUSED i) rfl]
    simpa using hr
  have h3 := b.on_shown theta (i := i) (g := R.TM.TB_STATUS.RELOCK_SLEW i) rfl
  unfold Body.servo
  change (if !(b.shown i theta).on (R.TM.TB_STATUS.SET i) then _ else if (b.shown i theta).on (R.TM.TB_STATUS.REFUSED i) then _
    else if b.relock i = some 1 then _
    else if (b.shown i theta).stepThresh i < (theta.natAbs : Int) && !(b.shown i theta).on (R.TM.TB_STATUS.RELOCK_SLEW i) then _
    else _) = _
  rw [h1, h2, h3, ← b.stepThresh_shown theta]
  have hf : ((decide ((b.shown i theta).stepThresh i < (theta.natAbs : Int))
      && !(decide (b.rd (R.TM.TB_STATUS.RELOCK_SLEW i) = 1))) = true)
      ↔ (b.shown i theta).stepThresh i < (theta.natAbs : Int) ∧ b.rd (R.TM.TB_STATUS.RELOCK_SLEW i) ≠ 1 := by
    rw [Bool.and_eq_true, decide_eq_true_eq, Bool.not_eq_true', decide_eq_false_iff_not]
  simp only [Bool.not_true, Bool.false_eq_true, if_false]
  exact if_congr Iff.rfl rfl (if_congr hf rfl rfl)

end branches
end Sys2Proof.Machine
end

section
/-! PROOFS. What one sample of the servo leaves unchanged, and that it does to its base what R369, R371, R373 and R374 say. -/

namespace Sys2Proof.Machine

/-! ## The frame of the servo -/

/-- At most the listed registers, registers of DB, the bases and the servos' state differ, and what is not memory or time. -/
structure Body.Steered (ks : List Nat) (b c : Body) : Prop where
  regs : SameRegsBut ks b c
  mem : c.mem = b.mem
  time : ∃ t0 t1 i0 i1 a0 a1 r0 r1, c.time =
    { b.time with tb0 := t0, tb1 := t1, integ0 := i0, integ1 := i1, accepted0 := a0, accepted1 := a1,
                  relock0 := r0, relock1 := r1 }

namespace Body.Steered
variable {ks : List Nat} {a b c : Body}

theorem of_time (hr : SameRegsBut ks b c) (hm : c.mem = b.mem) (ht : c.time = b.time) : b.Steered ks c :=
  ⟨hr, hm, b.time.tb0, b.time.tb1, b.time.integ0, b.time.integ1, b.time.accepted0, b.time.accepted1, b.time.relock0,
    b.time.relock1, ht⟩

theorem refl (ks : List Nat) (b : Body) : b.Steered ks b := of_time (fun _ _ _ => rfl) rfl rfl

theorem trans (h : a.Steered ks b) (g : b.Steered ks c) : a.Steered ks c := by
  obtain ⟨hr, hm, _, _, _, _, _, _, _, _, ht⟩ := h
  obtain ⟨gr, gm, t0, t1, i0, i1, a0, a1, r0, r1, gt⟩ := g
  exact ⟨hr.trans gr, gm.trans hm, t0, t1, i0, i1, a0, a1, r0, r1, by rw [gt, ht]⟩

theorem wr (h : a.Steered ks b) (f : Field) (v : Nat) (hf : f.key ∈ ks) : a.Steered ks (b.wr f v) :=
  h.trans (of_time (SameRegsBut.wr (fun _ _ _ => rfl) v hf) rfl rfl)

theorem db (h : a.Steered ks b) (g : b.SameButDb c) : a.Steered ks c :=
  h.trans (of_time (fun k _ h6 => g.reg k h6) g.mem g.time)

theorem raise (h : a.Steered ks b) (src : Nat) : a.Steered ks (b.raise src) :=
  h.trans (of_time (fun _ _ h6 => b.raise_reg src h6) (b.raise_mem src) (b.raise_time src))

theorem setSync (h : a.Steered ks b) (i v : Nat) (hs : (R.TM.TB_STATUS.SYNC i).key ∈ ks)
    (hc : R.HI.IRQ_CAUSE.CAUSE.key ∈ ks) : a.Steered ks (b.setSync i v) := by
  obtain ⟨_, _, _, e⟩ := b.setSync_rest i v
  refine h.trans (of_time (fun k hk _ => b.setSync_reg i v ?_ ?_) (by rw [e]) (by rw [e]))
  · exact (ne_of_mem_of_not_mem hs hk).symm
  · exact (ne_of_mem_of_not_mem hc hk).symm

theorem addBase (h : a.Steered ks b) (i : Nat) (theta : Int) : a.Steered ks (b.addBase i theta) := by
  refine h.trans ?_
  unfold Body.addBase
  split <;> exact ⟨fun _ _ _ => rfl, rfl, _, _, _, _, _, _, _, _, rfl⟩

theorem setInteg (h : a.Steered ks b) (i : Nat) (v : Int) : a.Steered ks (b.setInteg i v) := by
  refine h.trans ?_
  unfold Body.setInteg
  split <;> exact ⟨fun _ _ _ => rfl, rfl, _, _, _, _, _, _, _, _, rfl⟩

theorem setRelock (h : a.Steered ks b) (i : Nat) (m : Option Nat) : a.Steered ks (b.setRelock i m) := by
  refine h.trans ?_
  unfold Body.setRelock
  split <;> exact ⟨fun _ _ _ => rfl, rfl, _, _, _, _, _, _, _, _, rfl⟩

theorem settleRelock (h : a.Steered ks b) (i mode : Nat) (theta : Int) (hd : R.TM.RELOCK.DONE.key ∈ ks) :
    a.Steered ks (b.settleRelock i mode theta) :=
  ((h.setRelock i none).wr _ 1 hd).db (b.settleRelock_same i mode theta)

theorem accepted (h : a.Steered ks b) (i : Nat) (hs : (R.TM.TB_STATUS.SYNC i).key ∈ ks)
    (hc : R.HI.IRQ_CAUSE.CAUSE.key ∈ ks) : a.Steered ks (b.accepted i) := by
  obtain ⟨t0, t1, e⟩ := b.accepted_eq i
  rw [e]
  refine ((h.trans ?_).wr (R.TM.TB_STATUS.HOLDOVER i) 0 hs).setSync i 1 hs hc
  exact ⟨fun _ _ _ => rfl, rfl, _, _, _, _, _, _, _, _, rfl⟩

end Body.Steered

/-- The registers that a sample of base `i` may change beside `TM.TBb_OFFSET`. -/
def servoKeys (i : Nat) : List Nat :=
  [(R.TM.TB_STATUS.SET i).key, (R.TM.TB_RATE.A i).key, R.TM.RELOCK.DONE.key, R.HI.IRQ_CAUSE.CAUSE.key]

section keys
variable (i : Nat)

theorem status_mem_servoKeys : (R.TM.TB_STATUS.SET i).key ∈ servoKeys i := List.mem_cons_self ..
theorem rate_mem_servoKeys : (R.TM.TB_RATE.A i).key ∈ servoKeys i := by simp [servoKeys]
theorem relock_mem_servoKeys : R.TM.RELOCK.DONE.key ∈ servoKeys i := by simp [servoKeys]
theorem cause_mem_servoKeys : R.HI.IRQ_CAUSE.CAUSE.key ∈ servoKeys i := by simp [servoKeys]

end keys

/-- A sample, once it shows, changes nothing but the registers of its base and of the relock, the base and its servo. -/
theorem Body.servo_steered (b : Body) (i : Nat) (theta : Int) :
    (b.shown i theta).Steered (servoKeys i) (b.servo i theta) := by
  have st := status_mem_servoKeys i
  have ra := rate_mem_servoKeys i
  have re := relock_mem_servoKeys i
  have ca := cause_mem_servoKeys i
  have d0 := Body.Steered.refl (servoKeys i) (b.shown i theta)
  by_cases hs : b.rd (R.TM.TB_STATUS.SET i) = 1
  · by_cases hr : b.rd (R.TM.TB_STATUS.REFUSED i) = 1
    · rw [b.servo_refused theta hs hr]
      exact d0
    · rw [b.servo_set theta hs hr]
      split
      · exact ((d0.addBase i theta).settleRelock i 1 theta re).accepted i st ca
      · split
        · exact (d0.wr (R.TM.TB_STATUS.REFUSED i) 1 st).raise _
        · have d1 : (b.shown i theta).Steered (servoKeys i) (((b.shown i theta).followed i theta).slewEnds i
              (decide ((theta.natAbs : Int) ≤ b.stepThresh i))) := by
            unfold Body.slewEnds
            split
            · exact ((d0.setInteg i _).wr _ _ ra).wr (R.TM.TB_STATUS.RELOCK_SLEW i) 0 st
            · exact (d0.setInteg i _).wr _ _ ra
          unfold Body.slewSettled
          split
          · exact (d1.settleRelock i 0 theta re).accepted i st ca
          · exact d1.accepted i st ca
  · rw [b.servo_unset theta hs]
    have d1 : (b.shown i theta).Steered (servoKeys i) ((b.shown i theta).firstSet i theta) :=
      (((d0.addBase i theta).wr _ 1 st).setInteg i 0).wr _ 0 ra
    unfold Body.settled
    split
    · exact (d1.settleRelock i _ theta re).accepted i st ca
    · exact d1.accepted i st ca

/-! ## What one sample does -/

/-- The registers that decide what a sample does to base `i`. -/
def steerKeys (i : Nat) : List Nat :=
  [(R.TM.TB_STATUS.SET i).key, (R.TM.TB_LIMITS.STEP_THRESH i).key, (R.TM.TB_GAIN.KI i).key, (R.TM.TB_RATE.A i).key]

/-- What a sample does to a base depends on the base, its servo, four registers and the fault tree. -/
theorem Served.congr {a b c : Body} {i : Nat} {theta : Int} (hr : ∀ k ∈ steerKeys i, b.reg k = a.reg k)
    (h0 : b.baseTotal i = a.baseTotal i) (h1 : b.integ i = a.integ i) (h2 : b.relock i = a.relock i) (hc : b.cont = a.cont)
    (h : Served b c i theta) : Served a c i theta := by
  have e : ∀ g : Field, g.key ∈ steerKeys i → b.rd g = a.rd g := fun g hg => Body.rd_congr (hr _ hg)
  have st : (R.TM.TB_STATUS.SET i).key ∈ steerKeys i := by simp [steerKeys]
  have li : (R.TM.TB_LIMITS.STEP_THRESH i).key ∈ steerKeys i := by simp [steerKeys]
  have ga : (R.TM.TB_GAIN.KI i).key ∈ steerKeys i := by simp [steerKeys]
  have ra : (R.TM.TB_RATE.A i).key ∈ steerKeys i := by simp [steerKeys]
  unfold Served Raised at h ⊢
  rwa [e (R.TM.TB_STATUS.SET i) st, e (R.TM.TB_STATUS.REFUSED i) st, e (R.TM.TB_STATUS.RELOCK_SLEW i) st,
    e (R.TM.TB_LIMITS.STEP_THRESH i) li, e (R.TM.TB_LIMITS.MAX_SLEW i) li, e (R.TM.TB_GAIN.KI i) ga, e (R.TM.TB_GAIN.KP i) ga,
    e (R.TM.TB_RATE.A i) ra, h0, h1, h2, hc] at h

end Sys2Proof.Machine
end

section
/-! PROOFS. One sample does to its base what R369, R371, R373 and R374 say, branch by branch. -/

namespace Sys2Proof.Machine

section sample
variable (b : Body) {i : Nat} (theta : Int)

@[simp] theorem Body.baseTotal_shown (j : Nat) : (b.shown i theta).baseTotal j = b.baseTotal j := rfl
@[simp] theorem Body.integ_shown (j : Nat) : (b.shown i theta).integ j = b.integ j := rfl
@[simp] theorem Body.relock_shown (j : Nat) : (b.shown i theta).relock j = b.relock j := rfl

@[simp] theorem Body.baseTotal_slewEnds (near : Bool) (j : Nat) : (b.slewEnds i near).baseTotal j = b.baseTotal j := by
  unfold Body.slewEnds
  split <;> rfl

@[simp] theorem Body.integ_slewEnds (near : Bool) (j : Nat) : (b.slewEnds i near).integ j = b.integ j := by
  unfold Body.slewEnds
  split <;> rfl

theorem Body.rd_slewEnds_clear (near : Bool) {g : Field} (h : (R.TM.TB_STATUS.RELOCK_SLEW i).clear g = true) :
    (b.slewEnds i near).rd g = b.rd g := by
  unfold Body.slewEnds
  split
  · exact b.rd_wr_clear 0 h
  · rfl

@[simp] theorem Body.baseTotal_slewSettled (m : Option Nat) : (b.slewSettled i theta m).baseTotal i = b.baseTotal i := by
  unfold Body.slewSettled
  split <;> simp

@[simp] theorem Body.integ_slewSettled (m : Option Nat) : (b.slewSettled i theta m).integ i = b.integ i := by
  unfold Body.slewSettled
  split <;> simp

theorem Body.rd_slewSettled_clear (m : Option Nat) {g : Field} (h : R.TM.RELOCK.DONE.clear g = true)
    (h6 : g.key / 65536 ≠ 6) : (b.slewSettled i theta m).rd g = b.rd g := by
  unfold Body.slewSettled
  split
  · exact b.rd_settleRelock_clear i 0 theta h h6
  · rfl

/-- The low bits of a number are all of it. -/
theorem unsigned_mod (v : Int) (w : Nat) : unsigned v w % 2 ^ w = unsigned v w := by
  rw [unsigned_eq_ofInt]
  exact Nat.mod_eq_of_lt (BitVec.isLt _)

variable (hi : i < 2)
include hi

theorem Body.rd_servo_theta : (b.servo i theta).rd (R.TM.TB_OFFSET.THETA i) =
    unsigned (clampInt theta (-(2 ^ 31 : Nat)) ((2 ^ 31 - 1 : Nat))) 32 := by
  have hk : (R.TM.TB_OFFSET.THETA i).key ∉ servoKeys i ∧ (R.TM.TB_OFFSET.THETA i).key / 65536 ≠ 6 := by
    interval_cases i <;> decide
  rw [(b.servo_steered i theta).regs.rd hk.1 hk.2, Body.shown, Body.rd_wr_same]
  exact unsigned_mod _ 32

/-- The first sample sets the base (R369). -/
theorem Body.servo_unset_sets (hs : b.rd (R.TM.TB_STATUS.SET i) ≠ 1) :
    (((b.servo i theta).baseTotal i : Nat) : Int) = max ((b.baseTotal i : Int) + theta * (2 ^ 32 : Nat)) 0
    ∧ (b.servo i theta).rd (R.TM.TB_STATUS.SET i) = 1 ∧ (b.servo i theta).integ i = 0
    ∧ (b.servo i theta).rd (R.TM.TB_RATE.A i) = 0
    ∧ (b.relock i ≠ none → (b.servo i theta).relock i = none ∧ (b.servo i theta).rd R.TM.RELOCK.DONE = 1) := by
  rw [b.servo_unset theta hs]
  cases hm : b.relock i <;> interval_cases i <;>
    simp (disch := decide) [Body.settled, Body.firstSet, Body.rd_accepted_clear, Body.rd_settleRelock_clear,
      Body.rd_wr_clear, Body.rd_wr_same]

/-- A stepping relock applies the sample and is settled (R374). -/
theorem Body.servo_steps (hs : b.rd (R.TM.TB_STATUS.SET i) = 1) (hr : b.rd (R.TM.TB_STATUS.REFUSED i) ≠ 1)
    (hm : b.relock i = some 1) :
    (((b.servo i theta).baseTotal i : Nat) : Int) = max ((b.baseTotal i : Int) + theta * (2 ^ 32 : Nat)) 0
    ∧ (b.servo i theta).relock i = none ∧ (b.servo i theta).rd R.TM.RELOCK.DONE = 1 := by
  rw [b.servo_set theta hs hr, if_pos hm]
  interval_cases i <;> simp (disch := decide) [Body.rd_accepted_clear]

/-- A sample beyond the threshold is refused with TM's source 1, and leaves base, integral and rate (R373). -/
theorem Body.servo_refuses (hs : b.rd (R.TM.TB_STATUS.SET i) = 1) (hr : b.rd (R.TM.TB_STATUS.REFUSED i) ≠ 1)
    (hm : b.relock i ≠ some 1) (hf : b.stepThresh i < (theta.natAbs : Int))
    (hl : b.rd (R.TM.TB_STATUS.RELOCK_SLEW i) ≠ 1) :
    (b.servo i theta).baseTotal i = b.baseTotal i ∧ (b.servo i theta).rd (R.TM.TB_STATUS.REFUSED i) = 1
    ∧ Raised b (b.servo i theta) (iTM * 64 + 1) ∧ (b.servo i theta).rd (R.TM.TB_RATE.A i) = b.rd (R.TM.TB_RATE.A i)
    ∧ (b.servo i theta).integ i = b.integ i := by
  rw [b.servo_set theta hs hr, if_neg hm, if_pos ⟨hf, hl⟩]
  have ht : ∀ d : Body, (d.raiseN iTM 1).time = d.time := fun d => d.raise_time _
  refine ⟨Body.baseTotal_congr (ht _) i, ?_, ((b.shown i theta).wr (R.TM.TB_STATUS.REFUSED i) 1).raise_raised (by decide), ?_,
    Body.integ_congr (ht _) i⟩ <;>
    interval_cases i <;>
    simp (disch := decide) [Body.rd_raiseN, Body.rd_shown, Body.rd_wr_same, Body.rd_wr_clear]

/-- Any other sample sets integral and rate; a slewing relock ends within the threshold (R369, R374). -/
theorem Body.servo_follows (hs : b.rd (R.TM.TB_STATUS.SET i) = 1) (hr : b.rd (R.TM.TB_STATUS.REFUSED i) ≠ 1)
    (hm : b.relock i ≠ some 1)
    (hf : (theta.natAbs : Int) ≤ b.stepThresh i ∨ b.rd (R.TM.TB_STATUS.RELOCK_SLEW i) = 1) :
    (b.servo i theta).baseTotal i = b.baseTotal i ∧ (b.servo i theta).integ i = b.nextInteg i theta
    ∧ (b.servo i theta).rd (R.TM.TB_RATE.A i) = unsigned (clampInt (b.nextInteg i theta
        + gainProduct (b.rd (R.TM.TB_GAIN.KP i)) theta) (-b.maxSlew i) (b.maxSlew i)) 32
    ∧ ((theta.natAbs : Int) ≤ b.stepThresh i → (b.servo i theta).rd (R.TM.TB_STATUS.RELOCK_SLEW i) = 0)
    ∧ (b.relock i = some 0 → (b.servo i theta).relock i = none ∧ (b.servo i theta).rd R.TM.RELOCK.DONE = 1) := by
  have hc : ¬(b.stepThresh i < (theta.natAbs : Int) ∧ b.rd (R.TM.TB_STATUS.RELOCK_SLEW i) ≠ 1) :=
    fun h => hf.elim (Int.not_le.2 h.1) h.2
  rw [b.servo_set theta hs hr, if_neg hm, if_neg hc]
  refine ⟨?_, ?_, ?_, fun hnear => ?_, fun h0 => ?_⟩
  · rw [Body.baseTotal_accepted, Body.baseTotal_slewSettled, Body.baseTotal_slewEnds, Body.followed, Body.baseTotal_wr,
      Body.baseTotal_setInteg, Body.baseTotal_shown]
  · rw [Body.integ_accepted, Body.integ_slewSettled, Body.integ_slewEnds, Body.followed, Body.integ_wr,
      Body.integ_setInteg, Body.nextInteg_shown]
  · rw [Body.rd_accepted_clear, Body.rd_slewSettled_clear, Body.rd_slewEnds_clear, Body.followed, Body.rd_wr_same,
      Body.nextInteg_shown, Body.maxSlew_shown, Body.rd_gain_shown (g := R.TM.TB_GAIN.KP i) theta rfl]
    · exact unsigned_mod _ 32
    all_goals interval_cases i <;> decide
  · rw [Body.rd_accepted_clear, Body.rd_slewSettled_clear, Body.slewEnds, if_pos (decide_eq_true hnear), Body.rd_wr_same]
    · rfl
    all_goals interval_cases i <;> decide
  · rw [Body.slewSettled, if_pos h0, Body.relock_accepted, Body.relock_settleRelock, Body.rd_accepted_clear,
      Body.rd_settleRelock_done]
    · exact ⟨rfl, rfl⟩
    all_goals interval_cases i <;> decide

/-- The base counts as synchronised, and is in no holdover, after a sample that was not refused (R371). -/
theorem Body.servo_good (h : b.rd (R.TM.TB_STATUS.SET i) = 1 → b.rd (R.TM.TB_STATUS.REFUSED i) ≠ 1 ∧ (b.relock i = some 1
      ∨ (theta.natAbs : Int) ≤ b.stepThresh i ∨ b.rd (R.TM.TB_STATUS.RELOCK_SLEW i) = 1)) :
    (b.servo i theta).rd (R.TM.TB_STATUS.SYNC i) = 1 ∧ (b.servo i theta).rd (R.TM.TB_STATUS.HOLDOVER i) = 0 := by
  by_cases hs : b.rd (R.TM.TB_STATUS.SET i) = 1
  · obtain ⟨hr, hf⟩ := h hs
    rw [b.servo_set theta hs hr]
    split
    · exact Body.accepted_good _ hi
    · next hm =>
      rw [if_neg (fun h => (hf.resolve_left hm).elim (Int.not_le.2 h.1) h.2)]
      exact Body.accepted_good _ hi
  · rw [b.servo_unset theta hs]
    exact Body.accepted_good _ hi

/-- One sample does to its base what R369, R371, R373 and R374 say. -/
theorem Body.servo_served : Served b (b.servo i theta) i theta := by
  refine ⟨b.rd_servo_theta theta hi, fun hs => ?_, fun hs hr => ?_, fun hs hr hm => ?_, fun hs hr hm hf hl => ?_,
    fun hs hr hm hf => ?_⟩
  · obtain ⟨h1, h2, h3, h4, h5⟩ := b.servo_unset_sets theta hi hs
    exact ⟨h1, h2, h3, h4, b.servo_good theta hi (fun h => absurd h hs), h5⟩
  · rw [b.servo_refused theta hs hr]
    exact ⟨rfl, b.rd_shown theta (by interval_cases i <;> decide), rfl⟩
  · obtain ⟨h1, h2, h3⟩ := b.servo_steps theta hi hs hr hm
    exact ⟨h1, h2, h3, b.servo_good theta hi (fun _ => ⟨hr, .inl hm⟩)⟩
  · exact b.servo_refuses theta hi hs hr hm (Int.not_le.1 hf) hl
  · obtain ⟨h1, h2, h3, h4, h5⟩ := b.servo_follows theta hi hs hr hm hf
    refine ⟨h1, b.servo_good theta hi (fun _ => ⟨hr, .inr hf⟩), h2, ?_, h4, h5⟩
    rw [h2, h3]
    rfl

end sample
end Sys2Proof.Machine
end

section
/-! PROOFS. The time parent: the best of the neighbours that may be it, and what choosing it changes (R371, R375 to R377). -/

namespace Sys2Proof.Machine

/-! ## The best parent (R377) -/

/-- One port's neighbour against the best so far. -/
def Body.betterParent (b : Body) (best : Option Nat) (p : Nat) : Option Nat :=
  if !b.parentOk p then best
  else
    match best with
    | none => some p
    | some q => if b.announcedStratum p < b.announcedStratum q then some p else best

theorem Body.bestParent_eq (b : Body) : b.bestParent = (List.range 6).foldl b.betterParent none := rfl

/-- The best of the ports below `n`: of the lowest stratum, ties in port order; none where no neighbour may be the parent. -/
def Body.BestBelow (b : Body) (n : Nat) : Option Nat → Prop
  | none => ∀ p, p < n → b.parentOk p = false
  | some q => q < n ∧ b.parentOk q = true ∧ ∀ p, p < n → b.parentOk p = true →
      b.announcedStratum q < b.announcedStratum p ∨ (b.announcedStratum q = b.announcedStratum p ∧ q ≤ p)

theorem Body.betterParent_best {b : Body} {n : Nat} {best : Option Nat} (h : b.BestBelow n best) :
    b.BestBelow (n + 1) (b.betterParent best n) := by
  unfold Body.betterParent
  cases hok : b.parentOk n with
  | false =>
    rw [if_pos (by rfl)]
    cases best with
    | none =>
      intro p hp
      obtain hp | rfl := Nat.lt_succ_iff_lt_or_eq.1 hp
      · exact h p hp
      · exact hok
    | some q =>
      obtain ⟨hq, hqok, hbest⟩ := h
      refine ⟨Nat.lt_succ_of_lt hq, hqok, fun p hp hpok => ?_⟩
      obtain hp | rfl := Nat.lt_succ_iff_lt_or_eq.1 hp
      · exact hbest p hp hpok
      · rw [hok] at hpok
        cases hpok
  | true =>
    rw [if_neg (by decide)]
    cases best with
    | none =>
      refine ⟨Nat.lt_succ_self n, hok, fun p hp hpok => ?_⟩
      obtain hp | rfl := Nat.lt_succ_iff_lt_or_eq.1 hp
      · rw [h p hp] at hpok
        cases hpok
      · exact .inr ⟨rfl, Nat.le_refl _⟩
    | some q =>
      obtain ⟨hq, hqok, hbest⟩ := h
      dsimp only
      split
      · next hlt =>
        refine ⟨Nat.lt_succ_self n, hok, fun p hp hpok => ?_⟩
        obtain hp | rfl := Nat.lt_succ_iff_lt_or_eq.1 hp
        · have := hbest p hp hpok
          omega
        · exact .inr ⟨rfl, Nat.le_refl _⟩
      · next hge =>
        refine ⟨Nat.lt_succ_of_lt hq, hqok, fun p hp hpok => ?_⟩
        obtain hp | rfl := Nat.lt_succ_iff_lt_or_eq.1 hp
        · exact hbest p hp hpok
        · omega

theorem Body.foldl_betterParent_best (b : Body) (n : Nat) : b.BestBelow n ((List.range n).foldl b.betterParent none) := by
  induction n with
  | zero => exact fun p hp => absurd hp (Nat.not_lt_zero p)
  | succ n ih =>
    rw [List.range_succ, List.foldl_append]
    exact Body.betterParent_best ih

theorem Body.bestParent_best (b : Body) : b.BestBelow 6 b.bestParent := by
  rw [Body.bestParent_eq]
  exact b.foldl_betterParent_best 6

/-! ## What the choice depends on -/

/-- Root, announces, instant and links are the same: the same neighbours may be the time parent. -/
structure Body.SameTree (b c : Body) : Prop where
  reg : ∀ k, k / 65536 ∉ [iTM, iDB, iHI] → c.reg k = b.reg k
  root : c.rd R.TM.TB0_TREE.ROOT = b.rd R.TM.TB0_TREE.ROOT
  announce : c.rd R.TM.TB0_TREE_CTRL.ANNOUNCE = b.rd R.TM.TB0_TREE_CTRL.ANNOUNCE
  heard : c.time.announces = b.time.announces
  tb2 : c.time.tb2 = b.time.tb2

namespace Body.SameTree
variable {a b c : Body}

theorem trans (h : a.SameTree b) (g : b.SameTree c) : a.SameTree c :=
  ⟨fun k hk => (g.reg k hk).trans (h.reg k hk), g.root.trans h.root, g.announce.trans h.announce, g.heard.trans h.heard,
    g.tb2.trans h.tb2⟩

theorem isRoot (h : b.SameTree c) : c.isRoot = b.isRoot := by
  have hp : c.place = b.place := Body.rd_congr (h.reg _ (by decide))
  unfold Body.isRoot
  rw [h.root, hp]

theorem announcedStratum (h : b.SameTree c) (p : Nat) : c.announcedStratum p = b.announcedStratum p := by
  unfold Body.announcedStratum
  rw [h.heard]

theorem linkUp (h : b.SameTree c) : c.linkUp = b.linkUp := by
  funext n
  have hk : (R.L.LINK_STATUS.STATE (n / 8) (n % 8)).key / 65536 ∉ [iTM, iDB, iHI] := by
    have hb : 24 ≤ (0x181000 + 0x10000 * (n / 8) + 0x100 * (n % 8)) / 65536 := by omega
    intro hm
    have hl : ∀ x ∈ [iTM, iDB, iHI], x < 24 := by decide
    exact absurd (hl _ hm) (Nat.not_lt.2 hb)
  unfold Body.linkUp Body.linkState
  rw [Body.rd_congr (h.reg _ hk)]

theorem parentOk (h : b.SameTree c) (p : Nat) : c.parentOk p = b.parentOk p := by
  have hn : c.ns 2 = b.ns 2 := congrArg (· / 2 ^ 40) h.tb2
  unfold Body.parentOk Body.portUp
  rw [h.heard, hn, h.announce, h.root, h.linkUp]

end Body.SameTree

/-- A choice stands while the tree and its outcome stand. -/
theorem ParentChosen.of_sameTree {b c : Body} (h : ParentChosen b) (st : b.SameTree c)
    (hp : c.rd R.TM.TB0_TREE.PARENT_PORT = b.rd R.TM.TB0_TREE.PARENT_PORT)
    (hs : c.rd R.TM.TB0_TREE.STRATUM = b.rd R.TM.TB0_TREE.STRATUM)
    (hroot : c.isRoot = true → c.rd (R.TM.TB_STATUS.SET 0) = 1 →
      c.rd (R.TM.TB_STATUS.SYNC 0) = 1 ∧ c.rd (R.TM.TB_STATUS.HOLDOVER 0) = 0)
    (hfree : c.rd R.TM.TB0_TREE.ROOT = 0 → c.isRoot = false → c.rd (R.TM.TB_STATUS.SYNC 0) = 0) : ParentChosen c := by
  obtain ⟨h1, h2, h3, -⟩ := h
  refine ⟨fun hr => ?_, ?_, ?_, hfree⟩
  · obtain ⟨g1, g2, -⟩ := h1 (st.isRoot ▸ hr)
    exact ⟨hs.trans g1, hp.trans g2, hroot hr⟩
  · simpa only [st.isRoot, st.root, st.parentOk, st.announcedStratum, hp, hs] using h2
  · simpa only [st.isRoot, st.root, st.parentOk, hp, hs] using h3

/-! ## What the choice changes -/

theorem Body.rootSync_rest (b : Body) : ∃ regs hi out, b.rootSync = { b with regs := regs, hi := hi, out := out } := by
  unfold Body.rootSync
  split
  · obtain ⟨r, h, o, e⟩ := (b.wr (R.TM.TB_STATUS.HOLDOVER 0) 0).setSync_rest 0 1
    exact ⟨r, h, o, e⟩
  · exact ⟨_, _, _, rfl⟩

theorem Body.wr_wr_rest (b : Body) (f g : Field) (v w : Nat) : ∃ regs, (b.wr f v).wr g w = { b with regs := regs } := ⟨_, rfl⟩

theorem Body.chooseParent_rest (b : Body) :
    ∃ regs hi out, b.chooseParent = { b with regs := regs, hi := hi, out := out } := by
  have h (s p : Nat) : ∃ regs, (b.wr R.TM.TB0_TREE.STRATUM s).wr R.TM.TB0_TREE.PARENT_PORT p = { b with regs := regs } :=
    b.wr_wr_rest _ _ s p
  unfold Body.chooseParent
  split
  · obtain ⟨r, e⟩ := h 0 15
    rw [e]
    exact Body.rootSync_rest { b with regs := r }
  · split
    · obtain ⟨r, e⟩ := h 255 15
      rw [e]
      exact Body.setSync_rest { b with regs := r } 0 0
    · split
      · next p _ =>
        obtain ⟨r, e⟩ := h (b.announcedStratum p + 1) p
        exact ⟨r, b.hi, b.out, e⟩
      · obtain ⟨r, e⟩ := h 255 15
        exact ⟨r, b.hi, b.out, e⟩

theorem Body.chooseParent_mem (b : Body) : b.chooseParent.mem = b.mem := by
  obtain ⟨_, _, _, e⟩ := b.chooseParent_rest
  rw [e]

theorem Body.chooseParent_time (b : Body) : b.chooseParent.time = b.time := by
  obtain ⟨_, _, _, e⟩ := b.chooseParent_rest
  rw [e]

/-- The registers that choosing the parent may change. -/
def chooseKeys : List Nat := [R.TM.TB0_TREE.STRATUM.key, (R.TM.TB_STATUS.SET 0).key, R.HI.IRQ_CAUSE.CAUSE.key]

theorem OnlyRegs.setSync {b c : Body} (h : OnlyRegs chooseKeys b c) (v : Nat) : OnlyRegs chooseKeys b (c.setSync 0 v) :=
  fun k hk => (c.setSync_reg 0 v (ne_of_mem_of_not_mem (by decide) hk).symm
    (ne_of_mem_of_not_mem (by decide) hk).symm).trans (h k hk)

theorem OnlyRegs.rootSync {b c : Body} (h : OnlyRegs chooseKeys b c) : OnlyRegs chooseKeys b c.rootSync := by
  unfold Body.rootSync
  split
  · exact (h.wr (f := R.TM.TB_STATUS.HOLDOVER 0) 0 (by decide)).setSync 1
  · exact h

theorem Body.chooseParent_onlyRegs (b : Body) : OnlyRegs chooseKeys b b.chooseParent := by
  have h (s p : Nat) : OnlyRegs chooseKeys b ((b.wr R.TM.TB0_TREE.STRATUM s).wr R.TM.TB0_TREE.PARENT_PORT p) :=
    (OnlyRegs.wr (fun _ _ => rfl) s (by decide)).wr p (by decide)
  unfold Body.chooseParent
  split
  · exact (h 0 15).rootSync
  · split
    · exact (h 255 15).setSync 0
    · split <;> exact h _ _

theorem Body.rd_rootSync_clear (b : Body) {g : Field} (hh : (R.TM.TB_STATUS.HOLDOVER 0).clear g = true)
    (hs : (R.TM.TB_STATUS.SYNC 0).clear g = true) (hc : g.key ≠ R.HI.IRQ_CAUSE.CAUSE.key) : b.rootSync.rd g = b.rd g := by
  unfold Body.rootSync
  split
  · rw [Body.rd_setSync_clear _ _ _ hs hc, Body.rd_wr_clear _ _ hh]
  · rfl

/-- TB0 of the root counts as synchronised once it is set, and is in no holdover (R371). -/
theorem Body.rootSync_good (b : Body) (h : b.rootSync.rd (R.TM.TB_STATUS.SET 0) = 1) :
    b.rootSync.rd (R.TM.TB_STATUS.SYNC 0) = 1 ∧ b.rootSync.rd (R.TM.TB_STATUS.HOLDOVER 0) = 0 := by
  rw [Body.rd_rootSync_clear _ (by decide) (by decide) (by decide)] at h
  have hon : b.on (R.TM.TB_STATUS.SET 0) = true := decide_eq_true h
  rw [Body.rootSync, if_pos hon]
  refine ⟨Body.rd_setSync_same _ (by decide) (by decide), ?_⟩
  rw [Body.rd_setSync_clear _ _ _ (by decide) (by decide), Body.rd_wr_same]
  rfl

/-- The root register stands when the parent is chosen. -/
theorem Body.rd_root_chooseParent (b : Body) : b.chooseParent.rd R.TM.TB0_TREE.ROOT = b.rd R.TM.TB0_TREE.ROOT := by
  unfold Body.chooseParent
  split
  · simp (disch := decide) only [Body.rd_rootSync_clear, Body.rd_wr_clear]
  · split
    · simp (disch := decide) only [Body.rd_setSync_clear, Body.rd_wr_clear]
    · split <;> simp (disch := decide) only [Body.rd_wr_clear]

theorem Body.chooseParent_sameTree (b : Body) : b.SameTree b.chooseParent := by
  refine ⟨fun k hk => b.chooseParent_onlyRegs k fun hm => hk ?_, b.rd_root_chooseParent,
    b.chooseParent_onlyRegs.rd (by decide), by rw [b.chooseParent_time], by rw [b.chooseParent_time]⟩
  have hl : ∀ k ∈ chooseKeys, k / 65536 ∈ [iTM, iDB, iHI] := by decide
  exact hl k hm

/-- Parent and stratum are those of R375 to R377 once they are chosen. -/
theorem Body.chooseParent_chosen (b : Body) : ParentChosen b.chooseParent := by
  have st := b.chooseParent_sameTree
  have hroot : b.isRoot = true → b.chooseParent =
      ((b.wr R.TM.TB0_TREE.STRATUM 0).wr R.TM.TB0_TREE.PARENT_PORT 15).rootSync := fun h => by
    rw [Body.chooseParent, if_pos h]
  have hnone : b.isRoot = false → b.rd R.TM.TB0_TREE.ROOT = 0 → b.chooseParent =
      ((b.wr R.TM.TB0_TREE.STRATUM 255).wr R.TM.TB0_TREE.PARENT_PORT 15).setSync 0 0 := fun h h0 => by
    rw [Body.chooseParent, h, if_neg Bool.false_ne_true, if_pos h0]
  have hsome (q : Nat) : b.isRoot = false → b.rd R.TM.TB0_TREE.ROOT ≠ 0 → b.bestParent = some q → b.chooseParent =
      (b.wr R.TM.TB0_TREE.STRATUM (b.announcedStratum q + 1)).wr R.TM.TB0_TREE.PARENT_PORT q := fun h h0 hq => by
    rw [Body.chooseParent, h, if_neg Bool.false_ne_true, if_neg h0, hq]
  have hfar : b.isRoot = false → b.rd R.TM.TB0_TREE.ROOT ≠ 0 → b.bestParent = none → b.chooseParent =
      (b.wr R.TM.TB0_TREE.STRATUM 255).wr R.TM.TB0_TREE.PARENT_PORT 15 := fun h h0 hq => by
    rw [Body.chooseParent, h, if_neg Bool.false_ne_true, if_neg h0, hq]
  have best := b.bestParent_best
  unfold ParentChosen
  simp only [st.isRoot, st.root, st.parentOk, st.announcedStratum]
  refine ⟨fun h => ?_, fun h h0 hex => ?_, fun h hno => ?_, fun h0 h => ?_⟩
  · rw [hroot h]
    refine ⟨?_, ?_, Body.rootSync_good _⟩ <;>
      simp (disch := decide) only [Body.rd_rootSync_clear, Body.rd_wr_clear, Body.rd_wr_fits]
  · obtain ⟨p, hp, hok⟩ := hex
    cases hq : b.bestParent with
    | none =>
      rw [hq] at best
      exact absurd hok (by simp [best p hp])
    | some q =>
      rw [hsome q h h0 hq]
      rw [hq] at best
      obtain ⟨hq6, hqok, hmin⟩ := best
      have hport : ((b.wr R.TM.TB0_TREE.STRATUM (b.announcedStratum q + 1)).wr R.TM.TB0_TREE.PARENT_PORT q).rd
          R.TM.TB0_TREE.PARENT_PORT = q :=
        Body.rd_wr_fits _ (Nat.lt_trans hq6 (by decide))
      rw [hport, Body.rd_wr_clear _ _ (by decide), Body.rd_wr_same]
      exact ⟨hq6, hqok, rfl, hmin⟩
  · by_cases h0 : b.rd R.TM.TB0_TREE.ROOT = 0
    · rw [hnone h h0]
      constructor <;> simp (disch := decide) only [Body.rd_setSync_clear, Body.rd_wr_clear, Body.rd_wr_fits]
    · cases hq : b.bestParent with
      | none =>
        rw [hfar h h0 hq]
        constructor <;> simp (disch := decide) only [Body.rd_wr_clear, Body.rd_wr_fits]
      | some q =>
        rw [hq] at best
        obtain ⟨hq6, hqok, -⟩ := best
        exact absurd hqok (by simp [hno.resolve_left h0 q hq6])
  · rw [hnone h h0]
    exact Body.rd_setSync_same _ (by decide) (by decide)

end Sys2Proof.Machine
end

section
/-! PROOFS. The closing of a TB0 sample and the beginning of holdover (R371, R375 to R379). -/

namespace Sys2Proof.Machine

/-! ## The memory's form is no part of a base's state -/

theorem Served.after {a : Body} {f : Body → Body} {s : State} {i : Nat} {theta : Int} (h : Served a (f s.body) i theta) :
    Served a (after f s) i theta := h

theorem ParentChosen.after {f : Body → Body} {s : State} (h : ParentChosen (f s.body)) : ParentChosen (after f s) := h

theorem SameBytes.after {b : Body} {f : Body → Body} {s : State} (h : (f s.body).mem = b.mem) : SameBytes b (after f s) := by
  intro a
  rw [after_byte, Body.byte, Body.byte, h]

theorem OnlyRegs.mono {ks ls : List Nat} {b c : Body} (h : OnlyRegs ks b c) (hs : ∀ k ∈ ks, k ∈ ls) : OnlyRegs ls b c :=
  fun k hk => h k fun hm => hk (hs k hm)

theorem OnlyRegs.trans {ks : List Nat} {a b c : Body} (h : OnlyRegs ks a b) (g : OnlyRegs ks b c) : OnlyRegs ks a c :=
  fun k hk => (g k hk).trans (h k hk)

theorem Body.Later.onlyRegs {b c : Body} (h : b.Later c) (ks : List Nat) : OnlyRegs ks b c := by
  obtain ⟨_, _, _, _, _, rfl⟩ := h
  exact fun _ _ => rfl

theorem Body.Later.rd {b c : Body} (h : b.Later c) (g : Field) : c.rd g = b.rd g := by
  obtain ⟨_, _, _, _, _, rfl⟩ := h
  rfl

theorem Body.Later.mem {b c : Body} (h : b.Later c) : c.mem = b.mem := by
  obtain ⟨_, _, _, _, _, rfl⟩ := h
  rfl

theorem Body.Later.cont {b c : Body} (h : b.Later c) : c.cont = b.cont := by
  obtain ⟨_, _, _, _, _, rfl⟩ := h
  rfl

theorem Body.Later.integ {b c : Body} (h : b.Later c) (i : Nat) : c.integ i = b.integ i := by
  obtain ⟨_, _, _, _, _, rfl⟩ := h
  rfl

/-! ## What a sample leaves -/

section frame
variable (b : Body) (i : Nat) (theta : Int)

theorem Body.servo_regs : SameRegsBut ((R.TM.TB_OFFSET.THETA i).key :: servoKeys i) b (b.servo i theta) := by
  intro k hk h6
  obtain ⟨hk1, hk2⟩ := not_or.1 (fun h => hk (List.mem_cons.2 h))
  exact ((b.servo_steered i theta).regs k hk2 h6).trans (b.reg_wr_of_ne _ hk1)

theorem Body.servo_mem : (b.servo i theta).mem = b.mem := (b.servo_steered i theta).mem

theorem Body.servo_sameTree {i : Nat} (hi : i < 2) : b.SameTree (b.servo i theta) := by
  have hkeys : ∀ k ∈ (R.TM.TB_OFFSET.THETA i).key :: servoKeys i, k / 65536 ∈ [iTM, iDB, iHI] := by
    interval_cases i <;> decide
  obtain ⟨_, _, _, _, _, _, _, _, ht⟩ := (b.servo_steered i theta).time
  have hr := b.servo_regs i theta
  refine ⟨fun k hk => hr k (fun hm => hk (hkeys k hm)) (fun h6 => hk (h6 ▸ by decide)), hr.rd ?_ (by decide),
    hr.rd ?_ (by decide), by rw [ht]; rfl, by rw [ht]; rfl⟩ <;> interval_cases i <;> decide

/-- A base that counts as synchronised whenever it is set keeps to that, whatever the sample. -/
theorem Body.servo_keeps_sync {i : Nat} (hi : i < 2) (h : b.rd (R.TM.TB_STATUS.SET i) = 1 →
      b.rd (R.TM.TB_STATUS.SYNC i) = 1 ∧ b.rd (R.TM.TB_STATUS.HOLDOVER i) = 0) :
    (b.servo i theta).rd (R.TM.TB_STATUS.SYNC i) = 1 ∧ (b.servo i theta).rd (R.TM.TB_STATUS.HOLDOVER i) = 0 := by
  by_cases hs : b.rd (R.TM.TB_STATUS.SET i) = 1
  · by_cases hr : b.rd (R.TM.TB_STATUS.REFUSED i) = 1
    · rw [b.servo_refused theta hs hr, Body.rd_status_shown (g := R.TM.TB_STATUS.SYNC i) _ rfl,
        Body.rd_status_shown (g := R.TM.TB_STATUS.HOLDOVER i) _ rfl]
      exact h hs
    · rw [b.servo_set theta hs hr]
      split
      · exact Body.accepted_good _ hi
      · split
        · rw [Body.rd_raiseN, Body.rd_raiseN, Body.rd_wr_clear _ _ (Field.clear_of_bits rfl),
            Body.rd_wr_clear _ _ (Field.clear_of_bits rfl), Body.rd_status_shown (g := R.TM.TB_STATUS.SYNC i) _ rfl,
            Body.rd_status_shown (g := R.TM.TB_STATUS.HOLDOVER i) _ rfl]
          · exact h hs
          all_goals interval_cases i <;> decide
        · exact Body.accepted_good _ hi
  · exact b.servo_good theta hi (fun h => absurd h hs)

end frame

/-! ## The sample that closes (R378, R379) -/

/-- The sample that TB0 takes: TB1 against TB0 on a root that follows TB1, the mean of the parent's offsets elsewhere. -/
def Body.sampleOf (b : Body) : Option (Int × Nat) :=
  if b.isRoot then
    (if b.on (R.TM.TB_CTRL.FOLLOW_TB1 0) && b.synced 1 then
      some (((b.time.tb1 : Int) - (b.time.tb0 : Int)).fdiv ((2 ^ 32 : Nat) : Int), 0) else none)
  else b.podSample

/-- The offsets to neighbours of the last second, and the largest to another than the parent (`TM.TB0_NEIGH`). -/
def Body.recentOffsets (b : Body) : List (Nat × Nat × Nat) :=
  b.time.neighbours.filter (fun n => decide (b.ns 2 ≤ n.2.2 + 10 ^ 9))
def Body.mostOffset (b : Body) : Nat :=
  min ((b.recentOffsets.filter (fun n => n.1 != b.rd R.TM.TB0_TREE.PARENT_PORT)).foldl (fun m n => max m n.2.1) 0) (2 ^ 32 - 1)

/-- The largest offset of other neighbours shows in `TM.TB0_NEIGH`. -/
def Body.neighShown (b : Body) : Body := b.wr R.TM.TB0_NEIGH.MAX b.mostOffset

/-- The module ready for its sample: the offsets are taken, and the count of those used shows. -/
def Body.sampleReady (b : Body) (n : Nat) : Body :=
  ({ b.neighShown with time := { b.neighShown.time with offsets := [], neighbours := b.recentOffsets } } : Body).wr
    R.TM.TB0_TREE.LINKS_USED n

theorem Body.podSample_congr {b c : Body} (hp : c.rd R.TM.TB0_TREE.PARENT_PORT = b.rd R.TM.TB0_TREE.PARENT_PORT)
    (hg : c.rd R.TM.TB0_TREE_CTRL.RTT_GATE = b.rd R.TM.TB0_TREE_CTRL.RTT_GATE) (ht : c.time.offsets = b.time.offsets) :
    c.podSample = b.podSample := by
  unfold Body.podSample
  rw [hp, hg, ht]

theorem Body.sampleOf_wr_neigh (b : Body) (v : Nat) : (b.wr R.TM.TB0_NEIGH.MAX v).sampleOf = b.sampleOf := by
  have rd : ∀ g : Field, R.TM.TB0_NEIGH.MAX.clear g = true → (b.wr R.TM.TB0_NEIGH.MAX v).rd g = b.rd g :=
    fun g hg => b.rd_wr_clear v hg
  have hr : (b.wr R.TM.TB0_NEIGH.MAX v).isRoot = b.isRoot := by
    unfold Body.isRoot Body.place
    rw [rd R.TM.TB0_TREE.ROOT (by decide), rd R.MG.DSP_PLACE.PLACE (by decide)]
  unfold Body.sampleOf Body.synced Body.on
  rw [hr, rd (R.TM.TB_CTRL.FOLLOW_TB1 0) (by decide), rd (R.TM.TB_STATUS.SYNC 1) (by decide),
    Body.podSample_congr (rd _ (by decide)) (rd _ (by decide)) rfl]
  rfl

/-- The module at the closing of a sample: at the next millisecond of pod time, with the parent of that instant (R378). -/
def Body.atSample (b : Body) : Body := (b.toPod ((b.ns 0 / 10 ^ 6 + 1) * 10 ^ 6)).chooseParent

theorem tb0Sample_eq (b : Body) : tb0Sample b =
    match b.atSample.sampleOf with
    | none => b.atSample.sampleReady 0
    | some (theta, n) => (b.atSample.sampleReady n).servo 0 theta := by
  -- The kernel would evaluate the `match` of the unfolded meaning; so the meaning is replaced as a function, unapplied.
  obtain ⟨f, hf⟩ : ∃ f, tb0Sample = f := ⟨_, rfl⟩
  rw [hf]
  delta tb0Sample at hf
  rw [← hf]
  beta_reduce
  clear hf
  extract_lets +onlyGivenNames _ a recent others a1 sample
  have hs : sample = b.atSample.sampleOf := a.sampleOf_wr_neigh _
  rw [hs]
  generalize b.atSample.sampleOf = o
  cases o with
  | none => rfl
  | some => rfl

section ready
variable (a : Body) (n : Nat)

theorem Body.wr_time_wr_rest (b : Body) (f g : Field) (v w : Nat) (t : Time) :
    ∃ regs, ({ b.wr f v with time := t } : Body).wr g w = { b with regs := regs, time := t } := ⟨_, rfl⟩

/-- Getting ready changes registers, and takes the offsets. -/
theorem Body.sampleReady_rest : ∃ regs, a.sampleReady n =
    { a with regs := regs, time := { a.time with offsets := [], neighbours := a.recentOffsets } } :=
  a.wr_time_wr_rest R.TM.TB0_NEIGH.MAX R.TM.TB0_TREE.LINKS_USED a.mostOffset n _

theorem Body.sampleReady_offsets : (a.sampleReady n).time.offsets = [] := by
  obtain ⟨_, e⟩ := a.sampleReady_rest n
  rw [e]

theorem Body.sampleReady_mem : (a.sampleReady n).mem = a.mem := by
  obtain ⟨_, e⟩ := a.sampleReady_rest n
  rw [e]

theorem Body.baseTotal_sampleReady (i : Nat) : (a.sampleReady n).baseTotal i = a.baseTotal i := by
  obtain ⟨_, e⟩ := a.sampleReady_rest n
  rw [e]
  rfl

theorem Body.sampleReady_onlyRegs :
    OnlyRegs [R.TM.TB0_TREE.LINKS_USED.key, R.TM.TB0_NEIGH.MAX.key] a (a.sampleReady n) := by
  refine OnlyRegs.wr ?_ n (by decide)
  exact OnlyRegs.wr (b := a) (fun _ _ => rfl) a.mostOffset (by decide)

theorem Body.rd_sampleReady {g : Field} (hl : R.TM.TB0_TREE.LINKS_USED.clear g = true)
    (hm : R.TM.TB0_NEIGH.MAX.clear g = true) : (a.sampleReady n).rd g = a.rd g := by
  unfold Body.sampleReady
  rw [Body.rd_wr_clear _ _ hl]
  exact a.rd_wr_clear a.mostOffset hm

theorem Body.sampleReady_sameTree : a.SameTree (a.sampleReady n) := by
  have hkeys : ∀ k ∈ [R.TM.TB0_TREE.LINKS_USED.key, R.TM.TB0_NEIGH.MAX.key], k / 65536 ∈ [iTM, iDB, iHI] := by decide
  exact ⟨fun k hk => a.sampleReady_onlyRegs n k fun hm => hk (hkeys k hm),
    a.rd_sampleReady n (by decide) (by decide), a.rd_sampleReady n (by decide) (by decide), rfl, rfl⟩

/-- Where no sample closes, the choice of the parent stands. -/
theorem ParentChosen.sampleReady {a : Body} (h : ParentChosen a) : ParentChosen (a.sampleReady n) := by
  have rd := fun g => Body.rd_sampleReady a n (g := g)
  have st := a.sampleReady_sameTree n
  obtain ⟨h1, -, -, h4⟩ := id h
  refine h.of_sameTree st (rd _ (by decide) (by decide)) (rd _ (by decide) (by decide)) ?_ ?_
  · rw [st.isRoot, rd _ (by decide) (by decide), rd _ (by decide) (by decide), rd _ (by decide) (by decide)]
    exact fun hr hs => (h1 hr).2.2 hs
  · rw [st.isRoot, st.root, rd _ (by decide) (by decide)]
    exact h4

/-- A sample steers TB0 as the module stood when it closed. -/
theorem Body.sampleReady_served (theta : Int) :
    Served a ((a.sampleReady n).servo 0 theta) 0 theta := by
  have h := (a.sampleReady n).servo_served theta (i := 0) (by decide)
  obtain ⟨_, e⟩ := a.sampleReady_rest n
  refine Served.congr (b := a.sampleReady n) (fun k hk => ?_) (by rw [e]; rfl) (by rw [e]; rfl) (by rw [e]; rfl) (by rw [e]) h
  have hkeys : ∀ k ∈ steerKeys 0, k ∉ [R.TM.TB0_TREE.LINKS_USED.key, R.TM.TB0_NEIGH.MAX.key] := by decide
  exact a.sampleReady_onlyRegs n k (hkeys k hk)

/-- A sample leaves the choice of the parent: on the root TB0 stays synchronised, elsewhere there is a root. -/
theorem ParentChosen.servo {a : Body} (h : ParentChosen a) (theta : Int)
    (hroot : a.isRoot = false → a.rd R.TM.TB0_TREE.ROOT ≠ 0) :
    ParentChosen ((a.sampleReady n).servo 0 theta) := by
  have hd := h.sampleReady n
  have hst := a.sampleReady_sameTree n
  generalize a.sampleReady n = d at hd hst
  have st := d.servo_sameTree theta (i := 0) (by decide)
  have hr := d.servo_regs 0 theta
  refine hd.of_sameTree st (hr.rd (by decide) (by decide)) (hr.rd (by decide) (by decide)) (fun h1 _ => ?_) (fun h0 h1 => ?_)
  · rw [st.isRoot] at h1
    exact d.servo_keeps_sync theta (by decide) (hd.1 h1).2.2
  · rw [st.isRoot, hst.isRoot] at h1
    rw [st.root, hst.root] at h0
    exact absurd h0 (hroot h1)

end ready

/-- Without a parent there is no sample (R378). -/
theorem Body.podSample_none {b : Body} (h : b.rd R.TM.TB0_TREE.PARENT_PORT = 15) : b.podSample = none := by
  unfold Body.podSample
  rw [h]
  simp

/-- A module that takes a sample of pod time has a root. -/
theorem ParentChosen.root_ne_zero {a : Body} (h : ParentChosen a) {x : Int × Nat} (hs : a.podSample = some x)
    (hr : a.isRoot = false) : a.rd R.TM.TB0_TREE.ROOT ≠ 0 := by
  intro h0
  obtain ⟨-, -, h3, -⟩ := h
  rw [Body.podSample_none (h3 hr (.inl h0)).2] at hs
  cases hs

end Sys2Proof.Machine
end

section
/-! PROOFS. What `TB0_SAMPLE` and `HOLDOVER` answer (R371, R375 to R379). -/

namespace Sys2Proof.Machine

/-! ## Flags -/

theorem Body.on_eq_true {b : Body} {f : Field} (h : b.rd f = 1) : b.on f = true := decide_eq_true h

theorem Body.on_eq_false {b : Body} {f : Field} (h : b.rd f ≠ 1) : b.on f = false := decide_eq_false h

theorem Body.synced_one (b : Body) : b.synced 1 = b.on (R.TM.TB_STATUS.SYNC 1) := Bool.false_or _

theorem Body.ns_congr {b c : Body} (h : c.time = b.time) (i : Nat) : c.ns i = b.ns i := by
  unfold Body.ns
  rw [h]

/-! ## `TB0_SAMPLE` -/

section sample
variable (b : Body)

theorem Body.atSample_chosen : ParentChosen b.atSample := Body.chooseParent_chosen _

theorem Body.atSample_onlyRegs : OnlyRegs chooseKeys b b.atSample :=
  ((b.toPod_later _).onlyRegs _).trans (Body.chooseParent_onlyRegs _)

theorem Body.atSample_mem : b.atSample.mem = b.mem := (Body.chooseParent_mem _).trans (b.toPod_later _).mem

/-- The sample closes at a whole millisecond of pod time (R378). -/
theorem Body.le_atSample : (b.ns 0 / 10 ^ 6 + 1) * 10 ^ 6 ≤ b.atSample.ns 0 :=
  (b.le_toPod _).trans_eq (Body.ns_congr (Body.chooseParent_time _) 0).symm

variable {b}

/-- The root that follows TB1 takes TB1 − TB0 as its sample (R379). -/
theorem Body.sampleOf_root (hr : b.isRoot = true)
    (hf : b.rd (R.TM.TB_CTRL.FOLLOW_TB1 0) = 1 ∧ b.rd (R.TM.TB_STATUS.SYNC 1) = 1) :
    b.sampleOf = some (((b.time.tb1 : Int) - (b.time.tb0 : Int)).fdiv ((2 ^ 32 : Nat) : Int), 0) := by
  unfold Body.sampleOf
  rw [hr, Body.synced_one, Body.on_eq_true hf.1, Body.on_eq_true hf.2]
  rfl

/-- The root that does not follow TB1, or whose TB1 is not synchronised, runs free (R379). -/
theorem Body.sampleOf_root_none (hr : b.isRoot = true)
    (hf : ¬(b.rd (R.TM.TB_CTRL.FOLLOW_TB1 0) = 1 ∧ b.rd (R.TM.TB_STATUS.SYNC 1) = 1)) : b.sampleOf = none := by
  unfold Body.sampleOf
  rw [hr, Body.synced_one]
  by_cases h : b.rd (R.TM.TB_CTRL.FOLLOW_TB1 0) = 1
  · rw [Body.on_eq_false (f := R.TM.TB_STATUS.SYNC 1) fun h1 => hf ⟨h, h1⟩, Bool.and_false]
    rfl
  · rw [Body.on_eq_false h]
    rfl

theorem Body.sampleOf_other (hr : b.isRoot = false) : b.sampleOf = b.podSample := by
  unfold Body.sampleOf
  rw [hr, if_neg Bool.false_ne_true]

end sample

/-- A sample that closes steers TB0, and leaves the choice of the parent. -/
theorem gives_tb0Sample_some (s : State) {theta : Int} {n : Nat} (h : s.body.atSample.sampleOf = some (theta, n)) :
    Gives .tb0Sample s (fun c => Served s.body.atSample c 0 theta ∧ ParentChosen c
      ∧ Field.holds c R.TM.TB0_TREE.LINKS_USED n ∧ c.time.offsets = [] ∧ SameBytes s.body c) := by
  have e : tb0Sample s.body = (s.body.atSample.sampleReady n).servo 0 theta := by rw [tb0Sample_eq, h]
  have hroot : s.body.atSample.isRoot = false → s.body.atSample.rd R.TM.TB0_TREE.ROOT ≠ 0 := fun hr =>
    s.body.atSample_chosen.root_ne_zero (Body.sampleOf_other hr ▸ h) hr
  refine gives_run (f := tb0Sample) rfl ⟨Served.after ?_, ParentChosen.after ?_, ?_, ?_, SameBytes.after ?_⟩
  · rw [e]
    exact s.body.atSample.sampleReady_served n theta
  · rw [e]
    exact s.body.atSample_chosen.servo n theta hroot
  · rw [Field.holds, after_rd, e, (Body.servo_regs _ 0 theta).rd (by decide) (by decide)]
    exact Body.rd_wr_same _ _ n
  · obtain ⟨_, _, _, _, _, _, _, _, ht⟩ := (Body.servo_steered (s.body.atSample.sampleReady n) 0 theta).time
    rw [after_time, e, ht]
    exact s.body.atSample.sampleReady_offsets n
  · rw [e, Body.servo_mem, Body.sampleReady_mem, Body.atSample_mem]

/-- Where no sample closes, TB0 runs on. -/
theorem gives_tb0Sample_none (s : State) (h : s.body.atSample.sampleOf = none) :
    Gives .tb0Sample s (fun c => ParentChosen c ∧ c.rd R.TM.TB0_TREE.LINKS_USED = 0 ∧ c.time.offsets = []
      ∧ c.baseTotal 0 = s.body.atSample.baseTotal 0
      ∧ OnlyRegs [R.TM.TB0_TREE.LINKS_USED.key, R.TM.TB0_NEIGH.MAX.key, (R.TM.TB_STATUS.SET 0).key, R.HI.IRQ_CAUSE.CAUSE.key]
        s.body c
      ∧ SameBytes s.body c) := by
  have e : tb0Sample s.body = s.body.atSample.sampleReady 0 := by rw [tb0Sample_eq, h]
  refine gives_run (f := tb0Sample) rfl ⟨ParentChosen.after ?_, ?_, ?_, ?_, ?_, SameBytes.after ?_⟩
  · rw [e]
    exact s.body.atSample_chosen.sampleReady 0
  · rw [after_rd, e]
    exact Body.rd_wr_fits _ (by decide)
  · rw [after_time, e]
    exact s.body.atSample.sampleReady_offsets 0
  · rw [Body.baseTotal_congr (after_time _ s), e]
    exact s.body.atSample.baseTotal_sampleReady 0 0
  · have hr : OnlyRegs [R.TM.TB0_TREE.LINKS_USED.key, R.TM.TB0_NEIGH.MAX.key, (R.TM.TB_STATUS.SET 0).key,
        R.HI.IRQ_CAUSE.CAUSE.key] s.body (s.body.atSample.sampleReady 0) :=
      (s.body.atSample_onlyRegs.mono (by decide)).trans ((s.body.atSample.sampleReady_onlyRegs 0).mono (by decide))
    intro k hk
    rw [after_reg, e]
    exact hr k hk
  · rw [e, Body.sampleReady_mem, Body.atSample_mem]

/-! ## `HOLDOVER` -/

/-- The TB2 instant of the last accepted sample of a base. -/
def Body.lastAccepted (b : Body) (i : Nat) : Nat := if i = 0 then b.time.accepted0 else b.time.accepted1

/-- Holdover begins: the integral becomes the rate, the base counts as unsynchronised, and its source is raised. -/
def Body.heldOver (b : Body) (i : Nat) : Body :=
  (((b.wr (R.TM.TB_RATE.A i) (unsigned (b.integ i) 32)).wr (R.TM.TB_STATUS.HOLDOVER i) 1).setSync i 0).raiseN iTM
    (if i = 0 then 0 else 2)

/-- The base is set, in no holdover, and not the time root's TB0 (R371). -/
def Body.holdoverDue (b : Body) (i : Nat) : Prop :=
  b.rd (R.TM.TB_STATUS.SET i) = 1 ∧ b.rd (R.TM.TB_STATUS.HOLDOVER i) = 0 ∧ ¬(i = 0 ∧ b.isRoot = true)

section holdover
variable {b : Body} {i : Nat}

theorem holdover_due (h : b.holdoverDue i) :
    holdover i b = (b.toLocal (b.lastAccepted i + b.rd (R.TM.TB_HOLD.LOST i) * 10 ^ 6)).heldOver i := by
  obtain ⟨hs, hh, hr⟩ := h
  have hroot : (decide (i = 0) && b.isRoot) = false := by simpa using hr
  unfold holdover
  rw [Body.on_eq_true hs, Body.on_eq_false (f := R.TM.TB_STATUS.HOLDOVER i) (by rw [hh]; decide), hroot]
  rfl

theorem holdover_idle (h : ¬b.holdoverDue i) : holdover i b = b := by
  unfold holdover
  rw [if_pos]
  by_contra hc
  simp only [Bool.or_eq_true, Bool.not_eq_true', Bool.and_eq_true, decide_eq_true_eq, not_or, Bool.not_eq_false] at hc
  obtain ⟨⟨hs, hh⟩, hr⟩ := hc
  have h0 : b.rd (R.TM.TB_STATUS.HOLDOVER i) ≠ 1 := fun h1 => hh (Body.on_eq_true h1)
  have hlt : b.rd (R.TM.TB_STATUS.HOLDOVER i) < 2 := b.rd_lt _
  exact h ⟨of_decide_eq_true hs, by omega, hr⟩

variable (b) (hi : i < 2)
include hi

/-- What holdover shows of its base. -/
theorem Body.heldOver_shows : (b.heldOver i).rd (R.TM.TB_STATUS.HOLDOVER i) = 1
    ∧ (b.heldOver i).rd (R.TM.TB_STATUS.SYNC i) = 0 ∧ (b.heldOver i).rd (R.TM.TB_RATE.A i) = unsigned (b.integ i) 32 := by
  unfold Body.heldOver
  have h6 : (R.TM.TB_STATUS.SYNC i).key / 65536 ≠ 6 ∧ (R.TM.TB_RATE.A i).key / 65536 ≠ 6 := by
    interval_cases i <;> decide
  refine ⟨?_, ?_, ?_⟩
  · rw [Body.rd_raiseN _ _ _ (g := R.TM.TB_STATUS.HOLDOVER i) h6.1, Body.rd_setSync_clear _ _ _
      (g := R.TM.TB_STATUS.HOLDOVER i) (Field.clear_of_bits rfl) (syncKey_ne_cause hi)]
    exact Body.rd_wr_fits _ (show 1 < 2 ^ 1 by decide)
  · rw [Body.rd_raiseN _ _ _ h6.1]
    exact Body.rd_setSync_same _ hi (by decide)
  · rw [Body.rd_raiseN _ _ _ h6.2, Body.rd_setSync_clear, Body.rd_wr_clear, Body.rd_wr_same]
    · exact unsigned_mod _ 32
    all_goals interval_cases i <;> decide

theorem Body.heldOver_raised : Raised b (b.heldOver i) (iTM * 64 + if i = 0 then 0 else 2) :=
  (Body.raise_raised _ (by interval_cases i <;> decide)).of_cont (Body.setSync_cont _ i 0)

omit hi in
theorem Body.heldOver_mem (i : Nat) : (b.heldOver i).mem = b.mem := (Body.raise_mem _ _).trans (Body.setSync_mem _ i 0)

omit hi in
theorem Body.heldOver_time (i : Nat) : (b.heldOver i).time = b.time := (Body.raise_time _ _).trans (Body.setSync_time _ i 0)

end holdover

/-- A base without a recent sample takes its integral as its rate and counts as unsynchronised, with the source of its base
(R371). -/
theorem gives_holdover {s : State} {i : Fin 2} (h : s.body.holdoverDue i) :
    Gives (.holdover i) s (fun c => s.body.lastAccepted i + s.body.rd (R.TM.TB_HOLD.LOST i) * 10 ^ 6 ≤ c.ns 2
      ∧ c.rd (R.TM.TB_STATUS.HOLDOVER i) = 1 ∧ c.rd (R.TM.TB_STATUS.SYNC i) = 0
      ∧ c.rd (R.TM.TB_RATE.A i) = unsigned (s.body.integ i) 32
      ∧ Raised s.body c (iTM * 64 + if (i : Nat) = 0 then 0 else 2) ∧ SameBytes s.body c) := by
  have later := s.body.toLocal_later (s.body.lastAccepted i + s.body.rd (R.TM.TB_HOLD.LOST i) * 10 ^ 6)
  have due := s.body.le_toLocal (s.body.lastAccepted i + s.body.rd (R.TM.TB_HOLD.LOST i) * 10 ^ 6)
  have e := holdover_due h
  generalize s.body.toLocal (s.body.lastAccepted i + s.body.rd (R.TM.TB_HOLD.LOST i) * 10 ^ 6) = d at later due e
  obtain ⟨h1, h2, h3⟩ := d.heldOver_shows i.isLt
  refine gives_run (f := holdover i) rfl ⟨?_, ?_, ?_, ?_, ?_, SameBytes.after ?_⟩
  · rw [Body.ns_congr (after_time _ s), e, Body.ns_congr (d.heldOver_time i)]
    exact due
  · rw [after_rd, e, h1]
  · rw [after_rd, e, h2]
  · rw [after_rd, e, h3, later.integ]
  · rw [Raised, after_cont, e]
    exact (d.heldOver_raised i.isLt).of_cont later.cont
  · rw [e, Body.heldOver_mem, later.mem]

theorem gives_holdover_idle {s : State} {i : Fin 2} (h : ¬s.body.holdoverDue i) : Gives (.holdover i) s (Exactly s.body) :=
  gives_exactly (f := holdover i) rfl (holdover_idle h)

end Sys2Proof.Machine
end

section
/-! PROOFS. What the arrival of a time announce, the relocks, `TB3_SET` and a read of the seconds answer (R361, R374, R376, R377,
R403). -/

namespace Sys2Proof.Machine

/-! ## `TIME_ANNOUNCE` -/

section announce
variable (s : State) {link : Fin 64} {pl : Bytes}

/-- The announce that a payload spells, heard at this instant of TB2 (R376). -/
def Body.announceOf (b : Body) (pl : Bytes) : TimeAnnounce :=
  { stratum := le pl 1 1, flags := le pl 2 1, root := le pl 4 4, sender := le pl 8 4, epoch := le pl 12 4, at_ := b.ns 2 }

/-- The neighbour on a torus port has announced. -/
def Body.announced (b : Body) (port : Nat) (pl : Bytes) : Body :=
  { b with time := { b.time with announces := SMap.insert b.time.announces port (b.announceOf pl) } }

theorem timeAnnounce_unknown {n : Nat} (b : Body) (h : le pl 0 1 ≠ 1) :
    timeAnnounce n pl b = (b.served (le pl 8 4) 6 pl).event 0x6144 iTM (leBytes 4 (le pl 8 4)) := by
  rw [timeAnnounce, if_pos h]

theorem timeAnnounce_torus {n : Nat} (b : Body) (h : le pl 0 1 = 1) (hn : n % 8 < 6) :
    timeAnnounce n pl b = ((b.served (le pl 8 4) 6 pl).announced (n % 8) pl).chooseParent := by
  rw [timeAnnounce, if_neg (not_not.2 h), if_pos hn]
  rfl

theorem timeAnnounce_other {n : Nat} (b : Body) (h : le pl 0 1 = 1) (hn : 6 ≤ n % 8) :
    timeAnnounce n pl b = b.served (le pl 8 4) 6 pl := by
  rw [timeAnnounce, if_neg (not_not.2 h), if_neg (Nat.not_lt.2 hn)]

/-- An announce of another version is recorded. -/
theorem gives_timeAnnounce_unknown (h : le pl 0 1 ≠ 1) :
    Gives (.timeAnnounce link pl) s (UpToDb (s.body.served (le pl 8 4) 6 pl)) := by
  refine gives_upToDb (f := timeAnnounce link pl) (n := s.body.free) rfl ?_
  rw [timeAnnounce_unknown _ h]
  exact Body.event_same _ _ _ (by decide)

/-- An announce on a torus link is kept for its port, and the parent is chosen anew. -/
theorem gives_timeAnnounce_torus (h : le pl 0 1 = 1) (hn : link.val % 8 < 6) :
    Gives (.timeAnnounce link pl) s (fun c => ParentChosen c ∧ OnlyRegs chooseKeys s.body c ∧ SameBytes s.body c
      ∧ c.fab = (s.body.served (le pl 8 4) 6 pl).fab
      ∧ SMap.find c.time.announces (link.val % 8) = some (s.body.announceOf pl)) := by
  have e := timeAnnounce_torus s.body h hn
  have hfab := ((s.body.served (le pl 8 4) 6 pl).announced (link.val % 8) pl).chooseParent_rest
  refine gives_run (f := timeAnnounce link pl) rfl ⟨ParentChosen.after ?_, fun k hk => ?_, SameBytes.after ?_, ?_, ?_⟩
  · rw [e]
    exact Body.chooseParent_chosen _
  · rw [after_reg, e]
    exact Body.chooseParent_onlyRegs _ k hk
  · rw [e, Body.chooseParent_mem]
    rfl
  · obtain ⟨_, _, _, ec⟩ := hfab
    rw [after_fab, e, ec]
    rfl
  · rw [after_time, e, Body.chooseParent_time]
    exact (SMap.find_insert ..).trans (if_pos rfl)

theorem gives_timeAnnounce_other (h : le pl 0 1 = 1) (hn : 6 ≤ link.val % 8) :
    Gives (.timeAnnounce link pl) s (Exactly (s.body.served (le pl 8 4) 6 pl)) :=
  gives_exactly (f := timeAnnounce link pl) rfl (timeAnnounce_other s.body h hn)

end announce

/-! ## Relocks (R374) -/

theorem Body.written_one (i off : Nat) (f : Body → Body) (b : Body) : Body.written [i] off f b = f (b.writtenAt off i) := rfl

section relock
variable {m : Master} {base : Fin 2}

/-- A relock by a master other than MG has no effect and is recorded. -/
theorem Body.relockHonoured_other (b : Body) (v : Nat) (f : Body → Body) (h : m ≠ .mg) :
    ∃ n, ({ b with free := n } : Body).SameButDb (Body.written [iTM] 0x30 (fun b => b.relockHonoured m v f) b) := by
  obtain ⟨n, hn⟩ := b.writtenAt_same 0x30 (i := iTM) (by decide)
  refine ⟨n, hn.trans ?_⟩
  rw [Body.written_one, Body.relockHonoured, if_neg h]
  exact Body.cfgEvent_same _ _ _ _ _ (by decide)

theorem gives_relock_other (s : State) (h : m ≠ .mg) :
    Gives (.relockSlew m base) s (UpToDb s.body) ∧ Gives (.relockStep m base) s (UpToDb s.body) := by
  constructor
  · obtain ⟨_, hn⟩ := s.body.relockHonoured_other (base.val + 4) _ h
    exact gives_upToDb (f := Body.written [iTM] 0x30 (relockSlew m base.val)) rfl hn
  · obtain ⟨_, hn⟩ := s.body.relockHonoured_other (base.val + 2 + 4) _ h
    exact gives_upToDb (f := Body.written [iTM] 0x30 (relockStep m base.val)) rfl hn

/-- The relock of a base is ordered: its mode shows, and the base refuses no more samples. -/
def Body.relockOrdered (b : Body) (i mode : Nat) : Body :=
  ((((b.wr R.TM.RELOCK.BASE i).wr R.TM.RELOCK.MODE mode).wr R.TM.RELOCK.DONE 0).wr R.TM.RELOCK.REFUSED 0).wr
    (R.TM.TB_STATUS.REFUSED i) 0

/-- A stepping relock of TB0 is refused while a job runs. -/
def Body.stepRefused (b : Body) : Body :=
  ((((b.wr R.TM.RELOCK.BASE 0).wr R.TM.RELOCK.MODE 1).wr R.TM.RELOCK.DONE 0).wr R.TM.RELOCK.REFUSED 1).recordRelock 0 1 1 0

theorem relockSlew_mg (b : Body) (i : Nat) : Body.written [iTM] 0x30 (relockSlew .mg i) b =
    (((b.writtenAt 0x30 iTM).relockOrdered i 0).wr (R.TM.TB_STATUS.RELOCK_SLEW i) 1).setRelock i (some 0) := rfl

theorem Body.jobRuns_congr {b c : Body} (h : c.rd R.TM.TT_STATUS.STATE = b.rd R.TM.TT_STATUS.STATE) : c.jobRuns = b.jobRuns := by
  unfold Body.jobRuns
  rw [h]

theorem Body.jobRuns_relocking (b : Body) (i : Nat) :
    ((b.wr R.TM.RELOCK.BASE i).wr R.TM.RELOCK.MODE 1).jobRuns = b.jobRuns :=
  Body.jobRuns_congr ((Body.rd_wr_clear _ _ (by decide)).trans (Body.rd_wr_clear _ _ (by decide)))

theorem relockStep_refused (b : Body) (h : (b.writtenAt 0x30 iTM).jobRuns = true) :
    Body.written [iTM] 0x30 (relockStep .mg 0) b = (b.writtenAt 0x30 iTM).stepRefused := by
  rw [Body.written_one]
  generalize b.writtenAt 0x30 iTM = d at h ⊢
  rw [relockStep, Body.relockHonoured, if_pos rfl]
  exact if_pos ⟨rfl, (d.jobRuns_relocking 0).trans h⟩

theorem relockStep_mg (b : Body) {i : Nat} (h : ¬(i = 0 ∧ (b.writtenAt 0x30 iTM).jobRuns = true)) :
    Body.written [iTM] 0x30 (relockStep .mg i) b = ((b.writtenAt 0x30 iTM).relockOrdered i 1).setRelock i (some 1) := by
  rw [Body.written_one]
  generalize b.writtenAt 0x30 iTM = d at h ⊢
  rw [relockStep, Body.relockHonoured, if_pos rfl]
  exact if_neg (d.jobRuns_relocking i ▸ h)

section ordered
variable (b : Body) (mode : Nat)

/-- What an ordered relock shows. -/
theorem Body.relockOrdered_shows (hm : mode < 2) : (b.relockOrdered base mode).rd R.TM.RELOCK.BASE = base
    ∧ (b.relockOrdered base mode).rd R.TM.RELOCK.MODE = mode ∧ (b.relockOrdered base mode).rd R.TM.RELOCK.DONE = 0
    ∧ (b.relockOrdered base mode).rd R.TM.RELOCK.REFUSED = 0
    ∧ (b.relockOrdered base mode).rd (R.TM.TB_STATUS.REFUSED base) = 0 := by
  have apart : ∀ g ∈ [R.TM.RELOCK.BASE, R.TM.RELOCK.MODE, R.TM.RELOCK.DONE, R.TM.RELOCK.REFUSED],
      (R.TM.TB_STATUS.REFUSED base).clear g = true := by
    fin_cases base <;> decide
  unfold Body.relockOrdered
  refine ⟨?_, ?_, ?_, ?_, Body.rd_wr_fits _ (show 0 < 2 ^ 1 by decide)⟩
  · rw [Body.rd_wr_clear _ _ (apart _ (by simp))]
    simp (disch := decide) only [Body.rd_wr_clear]
    exact Body.rd_wr_fits _ (show base.val < 2 ^ 1 from base.isLt)
  · rw [Body.rd_wr_clear _ _ (apart _ (by simp))]
    simp (disch := decide) only [Body.rd_wr_clear]
    exact Body.rd_wr_fits _ (show mode < 2 ^ 1 from hm)
  · rw [Body.rd_wr_clear _ _ (apart _ (by simp)), Body.rd_wr_clear _ _ (by decide)]
    exact Body.rd_wr_fits _ (by decide)
  · rw [Body.rd_wr_clear _ _ (apart _ (by simp))]
    exact Body.rd_wr_fits _ (by decide)

theorem Body.relockOrdered_regs (i : Nat) :
    SameRegsBut [R.TM.RELOCK.BASE.key, (R.TM.TB_STATUS.SET i).key] b (b.relockOrdered i mode) := by
  have hr : R.TM.RELOCK.BASE.key ∈ [R.TM.RELOCK.BASE.key, (R.TM.TB_STATUS.SET i).key] := by simp
  have hs : (R.TM.TB_STATUS.SET i).key ∈ [R.TM.RELOCK.BASE.key, (R.TM.TB_STATUS.SET i).key] := by simp
  have h0 : SameRegsBut [R.TM.RELOCK.BASE.key, (R.TM.TB_STATUS.SET i).key] b b := fun _ _ _ => rfl
  exact ((((h0.wr i hr).wr (f := R.TM.RELOCK.MODE) mode hr).wr (f := R.TM.RELOCK.DONE) 0 hr).wr (f := R.TM.RELOCK.REFUSED) 0 hr).wr
    (f := R.TM.TB_STATUS.REFUSED i) 0 hs

end ordered

/-- A slewing relock of MG's waits for the base's next sample. -/
theorem gives_relockSlew (s : State) (base : Fin 2) :
    Gives (.relockSlew .mg base) s (fun c => c.relock base = some 0 ∧ c.relock (1 - base.val) = s.body.relock (1 - base.val)
      ∧ c.rd R.TM.RELOCK.BASE = base ∧ c.rd R.TM.RELOCK.MODE = 0 ∧ c.rd R.TM.RELOCK.DONE = 0 ∧ c.rd R.TM.RELOCK.REFUSED = 0
      ∧ c.rd (R.TM.TB_STATUS.REFUSED base) = 0 ∧ c.rd (R.TM.TB_STATUS.RELOCK_SLEW base) = 1
      ∧ SameRegsBut [R.TM.RELOCK.BASE.key, (R.TM.TB_STATUS.SET base).key] s.body c ∧ SameBytes s.body c) := by
  obtain ⟨n, hn⟩ := s.body.writtenAt_same 0x30 (i := iTM) (by decide)
  have e := relockSlew_mg s.body base
  generalize s.body.writtenAt 0x30 iTM = d at hn e
  obtain ⟨hb, hm, hd, hr, hs⟩ := d.relockOrdered_shows (base := base) 0 (by decide)
  have regs := SameRegsBut.trans (fun k _ h6 => hn.reg k h6) (d.relockOrdered_regs 0 base)
  have rd : ∀ g : Field, (R.TM.TB_STATUS.RELOCK_SLEW base).clear g = true →
      (after (Body.written [iTM] 0x30 (relockSlew .mg base)) s).rd g = (d.relockOrdered base 0).rd g := fun g hg => by
    rw [after_rd, e, Body.rd_setRelock, Body.rd_wr_clear _ _ hg]
  refine gives_run (f := Body.written [iTM] 0x30 (relockSlew .mg base)) rfl
    ⟨?_, ?_, (rd _ ?_).trans hb, (rd _ ?_).trans hm, (rd _ ?_).trans hd, (rd _ ?_).trans hr,
      (rd _ (Field.clear_of_bits rfl)).trans hs, ?_, fun k hk h6 => ?_, SameBytes.after ?_⟩
  · rw [Body.relock_congr (after_time _ s), e, Body.relock_setRelock]
  · rw [Body.relock_congr (after_time _ s), e, Body.relock_setRelock_other _ _ base.isLt]
    exact Body.relock_congr hn.time _
  iterate 4 fin_cases base <;> decide
  · rw [after_rd, e, Body.rd_setRelock, Body.rd_wr_same]
    rfl
  · rw [after_reg, e, Body.reg_setRelock]
    exact regs.wr (f := R.TM.TB_STATUS.RELOCK_SLEW base) 1 (List.mem_cons_of_mem _ (List.mem_singleton_self _)) k hk h6
  · rw [e, Body.mem_setRelock]
    exact hn.mem

/-- A stepping relock of MG's waits for the base's next sample, of TB0 while no job runs. -/
theorem gives_relockStep (s : State) (base : Fin 2) (hj : ¬(base = 0 ∧ s.body.jobRuns = true)) :
    Gives (.relockStep .mg base) s (fun c => c.relock base = some 1 ∧ c.relock (1 - base.val) = s.body.relock (1 - base.val)
      ∧ c.rd R.TM.RELOCK.BASE = base ∧ c.rd R.TM.RELOCK.MODE = 1 ∧ c.rd R.TM.RELOCK.DONE = 0 ∧ c.rd R.TM.RELOCK.REFUSED = 0
      ∧ c.rd (R.TM.TB_STATUS.REFUSED base) = 0
      ∧ SameRegsBut [R.TM.RELOCK.BASE.key, (R.TM.TB_STATUS.SET base).key] s.body c ∧ SameBytes s.body c) := by
  obtain ⟨n, hn⟩ := s.body.writtenAt_same 0x30 (i := iTM) (by decide)
  have hrun : (s.body.writtenAt 0x30 iTM).jobRuns = s.body.jobRuns := Body.jobRuns_congr (hn.rd _ (by decide))
  have e := relockStep_mg s.body (i := base) fun h => hj ⟨Fin.ext h.1, hrun ▸ h.2⟩
  generalize s.body.writtenAt 0x30 iTM = d at hn e
  obtain ⟨hb, hm, hd, hr, hs⟩ := d.relockOrdered_shows (base := base) 1 (by decide)
  have regs := SameRegsBut.trans (fun k _ h6 => hn.reg k h6) (d.relockOrdered_regs 1 base)
  have rd : ∀ g : Field, (after (Body.written [iTM] 0x30 (relockStep .mg base)) s).rd g = (d.relockOrdered base 1).rd g := fun g => by
    rw [after_rd, e, Body.rd_setRelock]
  refine gives_run (f := Body.written [iTM] 0x30 (relockStep .mg base)) rfl
    ⟨?_, ?_, (rd _).trans hb, (rd _).trans hm, (rd _).trans hd, (rd _).trans hr, (rd _).trans hs, fun k hk h6 => ?_,
      SameBytes.after ?_⟩
  · rw [Body.relock_congr (after_time _ s), e, Body.relock_setRelock]
  · rw [Body.relock_congr (after_time _ s), e, Body.relock_setRelock_other _ _ base.isLt]
    exact Body.relock_congr hn.time _
  · rw [after_reg, e, Body.reg_setRelock]
    exact regs k hk h6
  · rw [e, Body.mem_setRelock]
    exact hn.mem

/-- A stepping relock of TB0 while a job runs is refused and recorded. -/
theorem gives_relockStep_refused (s : State) (hj : s.body.jobRuns = true) :
    Gives (.relockStep .mg 0) s (fun c => c.time = s.body.time ∧ c.rd R.TM.RELOCK.REFUSED = 1 ∧ c.rd R.TM.RELOCK.DONE = 0
      ∧ SameRegsBut [R.TM.RELOCK.BASE.key] s.body c ∧ SameBytes s.body c) := by
  obtain ⟨n, hn⟩ := s.body.writtenAt_same 0x30 (i := iTM) (by decide)
  have hrun : (s.body.writtenAt 0x30 iTM).jobRuns = s.body.jobRuns := Body.jobRuns_congr (hn.rd _ (by decide))
  have e := relockStep_refused s.body (hrun.trans hj)
  generalize s.body.writtenAt 0x30 iTM = d at hn e
  have same : Body.SameButDb _ d.stepRefused := Body.recordRelock_same _ 0 1 1 0
  have h0 : SameRegsBut [R.TM.RELOCK.BASE.key] s.body d := fun k _ h6 => hn.reg k h6
  refine gives_run (f := Body.written [iTM] 0x30 (relockStep .mg 0)) rfl ⟨?_, ?_, ?_, fun k hk h6 => ?_, SameBytes.after ?_⟩
  · rw [after_time, e, same.time]
    exact hn.time
  · rw [after_rd, e, same.rd _ (by decide)]
    exact Body.rd_wr_fits _ (by decide)
  · rw [after_rd, e, same.rd _ (by decide)]
    simp (disch := decide) only [Body.rd_wr_clear, Body.rd_wr_fits]
  · rw [after_reg, e]
    refine SameRegsBut.db ?_ same k hk h6
    have hm : R.TM.RELOCK.BASE.key ∈ [R.TM.RELOCK.BASE.key] := List.mem_singleton_self _
    exact (((h0.wr 0 hm).wr (f := R.TM.RELOCK.MODE) 1 hm).wr (f := R.TM.RELOCK.DONE) 0 hm).wr (f := R.TM.RELOCK.REFUSED) 1 hm
  · rw [e, same.mem]
    exact hn.mem

end relock

/-! ## `TB3_SET` and the latch of the nanoseconds (R361, R403) -/

/-- TB3 is not set by a tile, nor by a value of a second or more; the write is recorded. -/
theorem gives_tb3Set_refused (s : State) (m : Master) (v : BitVec 32) (h : 10 ^ 9 ≤ v.toNat % 2 ^ 30 ∨ m = .tile) :
    Gives (.tb3Set m v) s (UpToDb s.body) := by
  obtain ⟨n, hn⟩ := s.body.writtenAt_same 0x40 (i := iTM) (by decide)
  have hev : ∃ r, tb3Set m v.toNat (s.body.writtenAt 0x40 iTM) = (s.body.writtenAt 0x40 iTM).cfgEvent m iTM 0x40 v.toNat r := by
    rw [tb3Set]
    by_cases hm : m = .tile
    · exact ⟨2, if_pos hm⟩
    · exact ⟨0, (if_neg hm).trans (if_pos (h.resolve_right hm))⟩
  obtain ⟨r, hr⟩ := hev
  refine gives_upToDb (f := Body.written [iTM] 0x40 (tb3Set m v.toNat)) (n := n) rfl (hn.trans ?_)
  rw [Body.written_one, hr]
  exact Body.cfgEvent_same _ _ _ _ _ (by decide)

/-- TB3 is set to the seconds and nanoseconds of its registers. -/
def Body.tb3At (b : Body) (n : Nat) : Body :=
  { b with time := { b.time with tb3 := (b.rd R.TM.TB3_SET_SEC.SEC * 10 ^ 9 + n) * 2 ^ 40 } }

theorem tb3Set_sets {m : Master} {v : Nat} (b : Body) (hv : v % 2 ^ 30 < 10 ^ 9) (hm : m ≠ .tile) :
    tb3Set m v b = (b.wr R.TM.TB3_SET_NS.NS (v % 2 ^ 30)).tb3At (v % 2 ^ 30) := by
  rw [tb3Set]
  exact (if_neg hm).trans (if_neg (Nat.not_le.2 hv))

section tb3
variable {b d : Body} {n : Nat}

/-- Setting TB3 changes the time alone. -/
theorem Body.tb3At_rest (b : Body) (n : Nat) : ∃ t, b.tb3At n = { b with time := t } := ⟨_, rfl⟩

theorem Body.tb3At_rd (hn : n < 2 ^ 30) : ((b.wr R.TM.TB3_SET_NS.NS n).tb3At n).rd R.TM.TB3_SET_NS.NS = n := by
  obtain ⟨_, e⟩ := (b.wr R.TM.TB3_SET_NS.NS n).tb3At_rest n
  rw [e]
  exact b.rd_wr_fits (f := R.TM.TB3_SET_NS.NS) hn

theorem Body.tb3At_time (hd : b.SameButDb d) : ((d.wr R.TM.TB3_SET_NS.NS n).tb3At n).time =
    { b.time with tb3 := (b.rd R.TM.TB3_SET_SEC.SEC * 10 ^ 9 + n) * 2 ^ 40 } := by
  unfold Body.tb3At
  rw [Body.rd_wr_clear _ _ (by decide), Body.wr_time, hd.time, hd.rd _ (by decide)]

theorem Body.tb3At_regs (hd : b.SameButDb d) :
    SameRegsBut [R.TM.TB3_SET_NS.NS.key] b ((d.wr R.TM.TB3_SET_NS.NS n).tb3At n) := by
  obtain ⟨_, e⟩ := (d.wr R.TM.TB3_SET_NS.NS n).tb3At_rest n
  rw [e]
  exact SameRegsBut.wr (f := R.TM.TB3_SET_NS.NS) (fun k _ h6 => hd.reg k h6) n (List.mem_singleton_self _)

end tb3

theorem gives_tb3Set (s : State) {m : Master} {v : BitVec 32} (hv : v.toNat % 2 ^ 30 < 10 ^ 9) (hm : m ≠ .tile) :
    Gives (.tb3Set m v) s (fun c => c.rd R.TM.TB3_SET_NS.NS = v.toNat % 2 ^ 30
      ∧ SameRegsBut [R.TM.TB3_SET_NS.NS.key] s.body c ∧ SameBytes s.body c
      ∧ c.time = { s.body.time with
                    tb3 := (s.body.rd R.TM.TB3_SET_SEC.SEC * 10 ^ 9 + v.toNat % 2 ^ 30) * 2 ^ 40 }) := by
  obtain ⟨n, hn⟩ := s.body.writtenAt_same 0x40 (i := iTM) (by decide)
  have e : Body.written [iTM] 0x40 (tb3Set m v.toNat) s.body =
      ((s.body.writtenAt 0x40 iTM).wr R.TM.TB3_SET_NS.NS (v.toNat % 2 ^ 30)).tb3At (v.toNat % 2 ^ 30) := by
    rw [Body.written_one, tb3Set_sets _ hv hm]
  have hlt : v.toNat % 2 ^ 30 < 2 ^ 30 := Nat.mod_lt _ (Nat.two_pow_pos 30)
  generalize v.toNat % 2 ^ 30 = t at e hlt ⊢
  refine gives_run (f := Body.written [iTM] 0x40 (tb3Set m v.toNat)) rfl ⟨?_, fun k hk h6 => ?_, SameBytes.after ?_, ?_⟩
  · rw [after_rd, e, Body.tb3At_rd hlt]
  · rw [after_reg, e]
    exact Body.tb3At_regs hn k hk h6
  · rw [e]
    exact hn.mem
  · rw [after_time, e, Body.tb3At_time hn]
    rfl

/-- A read of a base's seconds latches the same instant's nanoseconds for its master, and nothing else. -/
theorem gives_timeBaseSecondsRead (s : State) (m : Master) (i : Fin 4) :
    Gives (.timeBaseSecondsRead m i) s (fun c =>
      SMap.find c.time.latched (masterNo m * 4 + i) = some (s.body.ns i % 10 ^ 9)
      ∧ (∀ k, k ≠ masterNo m * 4 + i.val → SMap.find c.time.latched k = SMap.find s.body.time.latched k)
      ∧ Exactly { s.body with time := { s.body.time with latched := c.time.latched } } c) := by
  have hx : exec (.timeBaseSecondsRead m i) s = run (timeBaseSecondsRead m i) s := rfl
  refine gives_run hx ⟨?_, fun k hk => ?_, fun _ _ => rfl, fun a => after_byte _ s a, rfl⟩
  · rw [after_time]
    exact (SMap.find_insert ..).trans (if_pos rfl)
  · rw [after_time]
    exact (SMap.find_insert ..).trans (if_neg hk)

end Sys2Proof.Machine
end

section
/-! PROOFS. The 1588 exchanges (R381, R382): the messages of a pair and the sample that it gives, and the choice of the master. -/

namespace Sys2Proof.Machine

/-! ## The messages of a pair (R382) -/

section pair
variable {s : State} {m : PtpMsg}

theorem sync_unheeded (h : s.body.ptpHeeds m = false) : sync m s.body = s.body := by
  rw [sync, h]
  rfl

theorem followUp_unheeded (h : s.body.ptpHeeds m = false) : followUp m s.body = s.body := by
  rw [followUp, h]
  rfl

theorem delayResp_unheeded (h : s.body.ptpHeeds m = false) : delayResp m s.body = s.body := by
  rw [delayResp, h]
  rfl

variable (hm : s.body.ptpHeeds m = true)
include hm

/-- A two-step Sync waits for its Follow_Up. -/
theorem gives_sync_twoStep (h : m.twoStep = true) : Gives (.sync m) s (Exactly
    { s.body with time := { s.body.time with syncWait := some (m.seq, s.body.tb1Fine, m.correction) } }) := by
  refine gives_exactly (f := sync m) rfl ?_
  rw [sync, hm, if_neg (by decide), if_pos h]

/-- A one-step Sync carries its origin. -/
theorem gives_sync_oneStep (h : m.twoStep = false) : Gives (.sync m) s (Exactly
    { s.body with time := { s.body.time with syncDiff := some (ptpTime m.origin m.correction - s.body.tb1Fine), syncWait := none } }) := by
  refine gives_exactly (f := sync m) rfl ?_
  rw [sync, hm, if_neg (by decide), h, if_neg (by decide)]

section follow
variable {q : Nat} {t2 corr : Int} (hw : s.body.time.syncWait = some (q, t2, corr))
include hw

theorem gives_followUp (hq : q = m.seq) : Gives (.followUp m) s (Exactly
    { s.body with time := { s.body.time with
        syncDiff := some (ptpTime m.origin (corr + m.correction) - t2), syncWait := none } }) := by
  refine gives_exactly (f := followUp m) rfl ?_
  rw [followUp, hm, if_neg (by decide), hw]
  exact if_pos hq

theorem gives_followUp_other (hq : q ≠ m.seq) : Gives (.followUp m) s (Exactly s.body) := by
  refine gives_exactly (f := followUp m) rfl ?_
  rw [followUp, hm, if_neg (by decide), hw]
  exact if_neg hq

end follow

section delay
variable {q : Nat} {t3 : Int} (hw : s.body.time.delayWait = some (q, t3))
include hw

theorem gives_delayResp_other (hq : q ≠ m.seq) : Gives (.delayResp m) s (Exactly s.body) := by
  refine gives_exactly (f := delayResp m) rfl ?_
  rw [delayResp, hm, if_neg (by decide), hw]
  exact if_neg hq

/-- Without a Sync's difference the answer completes no pair. -/
theorem gives_delayResp_alone (hq : q = m.seq) (hd : s.body.time.syncDiff = none) : Gives (.delayResp m) s (Exactly
    { s.body with time := { s.body.time with delayWait := none, delayInterval := m.logInterval } }) := by
  refine gives_exactly (f := delayResp m) rfl ?_
  rw [delayResp, hm, if_neg (by decide), hw]
  refine (if_pos hq).trans ?_
  rw [hd]

omit hm hw in
/-- The pair is complete: nothing waits any more. -/
def Body.paired (b : Body) (m : PtpMsg) : Body :=
  { b with time := { b.time with delayWait := none, delayInterval := m.logInterval, syncDiff := none } }

theorem delayResp_pair {d : Int} (hq : q = m.seq) (hd : s.body.time.syncDiff = some d) : delayResp m s.body =
    (s.body.paired m).servo 1 ((d + (ptpTime m.origin (-m.correction) - t3)).fdiv 2) := by
  rw [delayResp, hm, if_neg (by decide), hw]
  refine (if_pos hq).trans ?_
  rw [hd]
  rfl

/-- A complete pair gives one sample to TB1's servo. -/
theorem gives_delayResp {d : Int} (hq : q = m.seq) (hd : s.body.time.syncDiff = some d) : Gives (.delayResp m) s (fun c =>
    c.time.delayWait = none ∧ c.time.syncDiff = none
    ∧ Served s.body c 1 ((d + (ptpTime m.origin (-m.correction) - t3)).fdiv 2) ∧ SameBytes s.body c) := by
  have e := delayResp_pair hm hw hq hd
  generalize (d + (ptpTime m.origin (-m.correction) - t3)).fdiv 2 = theta at e ⊢
  obtain ⟨_, _, _, _, _, _, _, _, ht⟩ := ((s.body.paired m).servo_steered 1 theta).time
  refine gives_run (f := delayResp m) rfl ⟨?_, ?_, Served.after ?_, SameBytes.after ?_⟩
  · rw [after_time, e, ht]
    rfl
  · rw [after_time, e, ht]
    rfl
  · rw [e]
    exact Served.congr (fun _ _ => rfl) rfl rfl rfl rfl ((s.body.paired m).servo_served theta (by decide))
  · rw [e, Body.servo_mem]
    rfl

end delay

end pair

/-! ## `DELAY_REQ_SEND` (R381) -/

section request
variable {s : State}

theorem Body.on_eq (b : Body) (f : Field) : b.on f = decide (b.rd f = 1) := rfl

/-- The slave with a master sends a request and stamps it. -/
theorem gives_delayReqSend (h : s.body.rd R.TM.PTP_CTRL.ENABLE = 1 ∧ s.body.rd R.TM.PTP_STATUS.SELECTED = 1) :
    Gives .delayReqSend s (fun c =>
      c.time = { s.body.time with
                  delaySeq := (s.body.time.delaySeq + 1) % 2 ^ 16,
                  delayWait := some ((s.body.time.delaySeq + 1) % 2 ^ 16, s.body.tb1Fine) }
      ∧ c.out = .port (if s.body.rd R.TM.PTP_CTRL.TRANSPORT = 1 then "Delay_Req (Annex E)" else "Delay_Req (Annex C)")
          (beBytes 2 ((s.body.time.delaySeq + 1) % 2 ^ 16)) :: s.body.out
      ∧ OnlyRegs [] s.body c ∧ SameBytes s.body c) := by
  have e : ∃ q, q = (s.body.time.delaySeq + 1) % 2 ^ 16 ∧ delayReqSend s.body =
      ({ s.body with time := { s.body.time with delaySeq := q, delayWait := some (q, s.body.tb1Fine) } } : Body).emit
        (.port (if s.body.rd R.TM.PTP_CTRL.TRANSPORT = 1 then "Delay_Req (Annex E)" else "Delay_Req (Annex C)") (beBytes 2 q)) := by
    refine ⟨_, rfl, ?_⟩
    rw [delayReqSend, Body.on_eq_true h.1, Body.on_eq_true h.2, if_pos (by decide), Body.on_eq]
    simp only [decide_eq_true_eq]
  obtain ⟨q, hq, e⟩ := e
  rw [← hq]
  refine gives_run (f := delayReqSend) rfl ⟨?_, ?_, fun k _ => ?_, SameBytes.after ?_⟩
  · rw [after_time, e, Body.emit_time]
  · rw [after_out, e, Body.emit_out]
  · rw [after_reg, e]
    rfl
  · rw [e]
    rfl

theorem gives_delayReqSend_idle (h : ¬(s.body.rd R.TM.PTP_CTRL.ENABLE = 1 ∧ s.body.rd R.TM.PTP_STATUS.SELECTED = 1)) :
    Gives .delayReqSend s (Exactly s.body) := by
  refine gives_exactly (f := delayReqSend) rfl (if_neg fun hc => h ?_)
  obtain ⟨he, hs⟩ := Bool.and_eq_true_iff.1 hc
  exact ⟨of_decide_eq_true he, of_decide_eq_true hs⟩

end request

/-! ## The best master (R381) -/

/-- The better of a foreign master and the best so far. -/
def betterMaster (best : Option Foreign) (f : Foreign) : Option Foreign :=
  match best with
  | none => some f
  | some g => if annBetter f.ann g.ann then some f else best

theorem bestMaster_eq (l : List Foreign) : bestMaster l = l.foldl betterMaster none := by
  unfold bestMaster
  congr 1

theorem betterMaster_some (best : Option Foreign) (f : Foreign) :
    ∃ g, betterMaster best f = some g ∧ (g = f ∨ best = some g) := by
  cases best with
  | none => exact ⟨f, rfl, .inl rfl⟩
  | some g =>
    unfold betterMaster
    dsimp only
    split
    · exact ⟨f, rfl, .inl rfl⟩
    · exact ⟨g, rfl, .inr rfl⟩

theorem foldl_betterMaster_some (l : List Foreign) (g : Foreign) :
    ∃ h, l.foldl betterMaster (some g) = some h ∧ h ∈ g :: l := by
  induction l generalizing g with
  | nil => exact ⟨g, rfl, List.mem_singleton_self g⟩
  | cons f l ih =>
    obtain ⟨k, hk, hor⟩ := betterMaster_some (some g) f
    obtain ⟨h, hh, hmem⟩ := ih k
    refine ⟨h, by rw [List.foldl_cons, hk, hh], ?_⟩
    obtain rfl | hmem := List.mem_cons.1 hmem
    · obtain rfl | hg := hor
      · simp
      · simp [Option.some.inj hg]
    · simp [hmem]

/-- Of some masters one is the best. -/
theorem bestMaster_mem {l : List Foreign} (h : l ≠ []) : ∃ g, bestMaster l = some g ∧ g ∈ l := by
  cases l with
  | nil => exact absurd rfl h
  | cons f l =>
    rw [bestMaster_eq]
    exact foldl_betterMaster_some l f

/-! ## The choice of the master (R381) -/

section select
variable (b : Body)

/-- The registers that name the selected master. -/
def masterKeys : List Nat := [R.TM.PTP_STATUS.SELECTED.key, R.TM.PTP_MASTER.IDENTITY.key]

/-- No master is selected. -/
def Body.noMaster (b : Body) : Body :=
  ((b.wr R.TM.PTP_STATUS.SELECTED 0).wr R.TM.PTP_STATUS.STEPS 0).wr R.TM.PTP_MASTER.IDENTITY 0

/-- The master is selected. -/
def Body.withMaster (b : Body) (f : Foreign) : Body :=
  (((b.wr R.TM.PTP_STATUS.SELECTED 1).wr R.TM.PTP_STATUS.STEPS f.ann.steps).wr R.TM.PTP_STATUS.UTC_OFFSET
    (unsigned f.ann.utcOffset 16)).wr R.TM.PTP_MASTER.IDENTITY f.ann.source

/-- A pair begun with another master is given up. -/
def Body.pairKept (b : Body) (f : Foreign) : Body :=
  if f.ann.source = b.rd R.TM.PTP_MASTER.IDENTITY then b
  else { b with time := { b.time with syncWait := none, syncDiff := none, delayWait := none } }

theorem Body.selectMaster_none (h : b.time.foreign.filter b.qualified = []) : b.selectMaster = b.noMaster := by
  unfold Body.selectMaster
  rw [h]
  rfl

theorem Body.selectMaster_some {f : Foreign} (h : bestMaster (b.time.foreign.filter b.qualified) = some f) :
    b.selectMaster = (b.pairKept f).withMaster f := by
  unfold Body.selectMaster
  rw [h]
  rfl

theorem Body.pairKept_rest (f : Foreign) : ∃ sw sd dw, b.pairKept f =
    { b with time := { b.time with syncWait := sw, syncDiff := sd, delayWait := dw } } := by
  unfold Body.pairKept
  split
  · exact ⟨b.time.syncWait, b.time.syncDiff, b.time.delayWait, rfl⟩
  · exact ⟨_, _, _, rfl⟩

theorem Body.noMaster_onlyRegs : OnlyRegs masterKeys b b.noMaster :=
  ((OnlyRegs.wr (fun _ _ => rfl) 0 (by decide)).wr 0 (by decide)).wr 0 (by decide)

theorem Body.withMaster_onlyRegs (f : Foreign) : OnlyRegs masterKeys b (b.withMaster f) :=
  (((OnlyRegs.wr (fun _ _ => rfl) 1 (by decide)).wr _ (by decide)).wr _ (by decide)).wr _ (by decide)

theorem Body.noMaster_rest : ∃ regs, b.noMaster = { b with regs := regs } := by
  obtain ⟨_, e⟩ := b.wr_wr_rest R.TM.PTP_STATUS.SELECTED R.TM.PTP_STATUS.STEPS 0 0
  rw [Body.noMaster, e]
  exact ⟨_, rfl⟩

theorem Body.withMaster_rest (f : Foreign) : ∃ regs, b.withMaster f = { b with regs := regs } := by
  obtain ⟨regs, e⟩ := b.wr_wr_rest R.TM.PTP_STATUS.SELECTED R.TM.PTP_STATUS.STEPS 1 f.ann.steps
  rw [Body.withMaster, e]
  exact Body.wr_wr_rest { b with regs := regs } _ _ _ _

/-- Choosing a master changes two registers and what waits of a pair. -/
theorem Body.selectMaster_rest : ∃ regs sw sd dw, b.selectMaster =
    { b with regs := regs, time := { b.time with syncWait := sw, syncDiff := sd, delayWait := dw } } := by
  by_cases h : b.time.foreign.filter b.qualified = []
  · rw [b.selectMaster_none h]
    obtain ⟨regs, e⟩ := b.noMaster_rest
    exact ⟨regs, b.time.syncWait, b.time.syncDiff, b.time.delayWait, e⟩
  · obtain ⟨f, hf, -⟩ := bestMaster_mem h
    rw [b.selectMaster_some hf]
    obtain ⟨sw, sd, dw, e⟩ := b.pairKept_rest f
    rw [e]
    obtain ⟨regs, e2⟩ := Body.withMaster_rest
      { b with time := { b.time with syncWait := sw, syncDiff := sd, delayWait := dw } } f
    exact ⟨regs, sw, sd, dw, e2⟩

theorem Body.selectMaster_onlyRegs : OnlyRegs masterKeys b b.selectMaster := by
  by_cases h : b.time.foreign.filter b.qualified = []
  · rw [b.selectMaster_none h]
    exact b.noMaster_onlyRegs
  · obtain ⟨f, hf, -⟩ := bestMaster_mem h
    rw [b.selectMaster_some hf]
    obtain ⟨_, _, _, e⟩ := b.pairKept_rest f
    refine OnlyRegs.trans ?_ ((b.pairKept f).withMaster_onlyRegs f)
    rw [e]
    exact fun _ _ => rfl

theorem Body.selectMaster_mem : b.selectMaster.mem = b.mem := by
  obtain ⟨_, _, _, _, e⟩ := b.selectMaster_rest
  rw [e]

theorem Body.selectMaster_foreign : b.selectMaster.time.foreign = b.time.foreign := by
  obtain ⟨_, _, _, _, e⟩ := b.selectMaster_rest
  rw [e]

theorem Body.selectMaster_ns : b.selectMaster.ns 2 = b.ns 2 := by
  obtain ⟨_, _, _, _, e⟩ := b.selectMaster_rest
  rw [e]
  rfl

/-- The best of the qualified masters is selected. -/
theorem Body.selectMaster_chosen : MasterChosen b.qualified b.selectMaster := by
  unfold MasterChosen
  rw [b.selectMaster_foreign]
  refine ⟨fun h => ?_, fun h => ?_⟩
  · rw [b.selectMaster_none h, Body.noMaster]
    constructor <;> simp (disch := decide) only [Body.rd_wr_clear, Body.rd_wr_fits]
  · obtain ⟨f, hf, hmem⟩ := bestMaster_mem h
    rw [b.selectMaster_some hf, Body.withMaster]
    refine ⟨?_, f, hmem, hf, Body.rd_wr_same _ _ _, ?_⟩
    · simp (disch := decide) only [Body.rd_wr_clear, Body.rd_wr_fits]
    · unfold Field.holds
      simp (disch := decide) only [Body.rd_wr_clear, Body.rd_wr_same]

end select

/-! ## `PTP_ANNOUNCE` (R381) -/

section hear
variable {s : State} {a : PtpAnn}

/-- The slave hears the Announce: it runs, in the domain and over the transport of the message, which came fewer than 255
steps. -/
def Body.hears (b : Body) (a : PtpAnn) : Prop :=
  b.rd R.TM.PTP_CTRL.ENABLE = 1 ∧ a.domain = b.rd R.TM.PTP_CTRL.DOMAIN ∧ a.steps < 255
    ∧ (a.ethernet = true ↔ b.rd R.TM.PTP_CTRL.TRANSPORT = 1)

theorem Body.announceHeard_iff (b : Body) (a : PtpAnn) : b.announceHeard a = true ↔ b.hears a := by
  unfold Body.announceHeard Body.hears
  have ht : (a.ethernet == b.on R.TM.PTP_CTRL.TRANSPORT) = true ↔ (a.ethernet = true ↔ b.rd R.TM.PTP_CTRL.TRANSPORT = 1) := by
    rw [beq_iff_eq, Bool.eq_iff_iff, Body.on_eq, decide_eq_true_iff]
  rw [Bool.and_eq_true, Bool.and_eq_true, Bool.and_eq_true, ht, Body.on_eq, decide_eq_true_iff, decide_eq_true_iff, beq_iff_eq]
  tauto

/-- The masters heard, with the one of the Announce among the first eight. -/
def Body.mastersWith (b : Body) (a : PtpAnn) : List Foreign :=
  let others := b.time.foreign.filter (fun f => f.ann.source != a.source && b.foreignFresh f)
  let prev := (b.time.foreign.find? (fun f => f.ann.source == a.source)).map (·.at_)
  if others.length < 8 then others ++ [{ ann := a, at_ := b.ns 2, prev := prev }] else others

/-- The module with the foreign masters as given. -/
def Body.withForeign (b : Body) (l : List Foreign) : Body := { b with time := { b.time with foreign := l } }

theorem ptpAnnounce_heard {b : Body} (h : b.hears a) : ptpAnnounce a b = (b.withForeign (b.mastersWith a)).selectMaster := by
  rw [ptpAnnounce, (b.announceHeard_iff a).2 h, if_neg (by decide)]
  rfl

theorem gives_ptpAnnounce_unheard (h : ¬s.body.hears a) : Gives (.ptpAnnounce a) s (Exactly s.body) := by
  refine gives_exactly (f := ptpAnnounce a) rfl ?_
  rw [ptpAnnounce, Bool.eq_false_iff.2 (mt (s.body.announceHeard_iff a).1 h)]
  rfl

theorem gives_ptpAnnounce (h : s.body.hears a) : Gives (.ptpAnnounce a) s (fun c => MasterChosen s.body.qualified c
    ∧ c.time.foreign = s.body.mastersWith a ∧ OnlyRegs masterKeys s.body c ∧ SameBytes s.body c) := by
  have e := ptpAnnounce_heard h
  generalize s.body.mastersWith a = l at e ⊢
  refine gives_run (f := ptpAnnounce a) rfl ⟨?_, ?_, fun k hk => ?_, SameBytes.after ?_⟩
  · have hc := (s.body.withForeign l).selectMaster_chosen
    rw [← e] at hc
    exact hc
  · rw [after_time, e, Body.selectMaster_foreign]
    rfl
  · rw [after_reg, e]
    exact Body.selectMaster_onlyRegs _ k hk
  · rw [e, Body.selectMaster_mem]
    rfl

end hear

/-! ## `ANNOUNCE_RECEIPT_TIMEOUT` (R382) -/

section timeout
variable {s : State}

/-- The record is of the master whose identity the register holds. -/
def Body.named (b : Body) (f : Foreign) : Bool := f.ann.source == b.rd R.TM.PTP_MASTER.IDENTITY

/-- The instant by which the selected master had to announce. -/
def Body.receiptDue (b : Body) : Nat :=
  match b.time.foreign.find? b.named with
  | some f => f.at_ + b.rd R.TM.PTP_CTRL.ANN_TIMEOUT * f.interval
  | none => b.ns 2

/-- The selected master and the records without a recent Announce are dropped. -/
def Body.masterDropped (b : Body) : Body :=
  (b.withForeign (b.time.foreign.filter (fun f => !b.named f && b.foreignFresh f))).wr R.TM.PTP_STATUS.SELECTED 0

theorem announceReceiptTimeout_due {b : Body} (h : b.rd R.TM.PTP_STATUS.SELECTED = 1) :
    announceReceiptTimeout b = (b.toLocal b.receiptDue).masterDropped.selectMaster := by
  have hn : (b.toLocal b.receiptDue).named = b.named := by
    unfold Body.named
    rw [(b.toLocal_later _).rd]
  unfold Body.masterDropped
  rw [hn, announceReceiptTimeout, Body.on_eq_true h]
  rfl

theorem gives_announceReceiptTimeout_idle (h : s.body.rd R.TM.PTP_STATUS.SELECTED = 0) :
    Gives .announceReceiptTimeout s (Exactly s.body) := by
  refine gives_exactly (f := announceReceiptTimeout) rfl ?_
  rw [announceReceiptTimeout, Body.on_eq_false (by rw [h]; decide)]
  rfl

theorem Body.named_iff (b : Body) (f : Foreign) : b.named f = true ↔ f.ann.source = b.rd R.TM.PTP_MASTER.IDENTITY := beq_iff_eq

/-- A master that is not the selected one is kept for four of its intervals. -/
theorem Body.foreignFresh_unnamed {b : Body} {f : Foreign} (h : b.named f = false) :
    b.foreignFresh f = decide (b.ns 2 ≤ f.at_ + 4 * f.interval) := by
  have hf : (f.ann.source == b.rd R.TM.PTP_MASTER.IDENTITY) = false := h
  rw [Body.foreignFresh, hf, Bool.and_false, Bool.false_or]

theorem Body.mem_masterDropped (b : Body) (f : Foreign) : f ∈ b.masterDropped.time.foreign ↔
    f ∈ b.time.foreign ∧ f.ann.source ≠ b.rd R.TM.PTP_MASTER.IDENTITY ∧ b.ns 2 ≤ f.at_ + 4 * f.interval := by
  refine List.mem_filter.trans (and_congr_right fun _ => ?_)
  rw [Ne, ← Body.named_iff]
  cases hn : b.named f with
  | true => simp
  | false => simp [Body.foreignFresh_unnamed hn]

/-- Without a selected master those qualify that have announced twice of late. -/
theorem Body.qualified_masterDropped (b : Body) : b.masterDropped.qualified = heardTwice (b.ns 2) := by
  funext f
  have hon : b.masterDropped.on R.TM.PTP_STATUS.SELECTED = false :=
    Body.on_eq_false (by rw [Body.masterDropped, Body.rd_wr_fits _ (by decide)]; decide)
  rw [Body.qualified, hon, Bool.false_and, Bool.false_or]
  rfl

theorem Body.masterDropped_onlyRegs (b : Body) : OnlyRegs masterKeys b b.masterDropped :=
  OnlyRegs.wr (f := R.TM.PTP_STATUS.SELECTED) (fun _ _ => rfl) 0 (by decide)

theorem Body.receiptDue_eq {b : Body} {f : Foreign} (h : b.time.foreign.find? b.named = some f) :
    b.receiptDue = f.at_ + b.rd R.TM.PTP_CTRL.ANN_TIMEOUT * f.interval := by
  rw [Body.receiptDue, h]

/-- Without an Announce in time the selected master is dropped, and another is chosen. -/
theorem gives_announceReceiptTimeout (h : s.body.rd R.TM.PTP_STATUS.SELECTED = 1) : Gives .announceReceiptTimeout s (fun c =>
    MasterChosen (heardTwice (c.ns 2)) c ∧ SameBytes s.body c
    ∧ (∀ f, s.body.time.foreign.find? s.body.named = some f →
        f.at_ + s.body.rd R.TM.PTP_CTRL.ANN_TIMEOUT * f.interval ≤ c.ns 2)
    ∧ (∀ f ∈ c.time.foreign, f ∈ s.body.time.foreign ∧ f.ann.source ≠ s.body.rd R.TM.PTP_MASTER.IDENTITY)
    ∧ (∀ f ∈ s.body.time.foreign, f.ann.source ≠ s.body.rd R.TM.PTP_MASTER.IDENTITY → c.ns 2 ≤ f.at_ + 4 * f.interval →
        f ∈ c.time.foreign)
    ∧ OnlyRegs masterKeys s.body c) := by
  have e := announceReceiptTimeout_due h
  have later := s.body.toLocal_later s.body.receiptDue
  have due := s.body.le_toLocal s.body.receiptDue
  have hforeign : (s.body.toLocal s.body.receiptDue).time.foreign = s.body.time.foreign := by
    obtain ⟨_, _, _, _, _, hl⟩ := later
    rw [hl]
  generalize s.body.toLocal s.body.receiptDue = d at e later due hforeign
  have hns : (after announceReceiptTimeout s).ns 2 = d.ns 2 := by
    rw [Body.ns_congr (after_time _ s), e, Body.selectMaster_ns]
    rfl
  have hmem : ∀ f, f ∈ (after announceReceiptTimeout s).time.foreign ↔
      f ∈ s.body.time.foreign ∧ f.ann.source ≠ s.body.rd R.TM.PTP_MASTER.IDENTITY ∧ d.ns 2 ≤ f.at_ + 4 * f.interval := fun f => by
    rw [after_time, e, Body.selectMaster_foreign, Body.mem_masterDropped, hforeign, later.rd]
  refine gives_run (f := announceReceiptTimeout) rfl
    ⟨?_, SameBytes.after ?_, fun f hf => ?_, fun f hf => ?_, fun f hf hn ht => ?_, fun k hk => ?_⟩
  · have hc := d.masterDropped.selectMaster_chosen
    rw [d.qualified_masterDropped, ← e] at hc
    rw [hns]
    exact hc
  · rw [e, Body.selectMaster_mem]
    exact later.mem
  · rw [hns, ← Body.receiptDue_eq hf]
    exact due
  · obtain ⟨h1, h2, -⟩ := (hmem f).1 hf
    exact ⟨h1, h2⟩
  · exact (hmem f).2 ⟨hf, hn, hns ▸ ht⟩
  · rw [after_reg, e]
    exact ((later.onlyRegs masterKeys).trans (d.masterDropped_onlyRegs.trans d.masterDropped.selectMaster_onlyRegs)) k hk

end timeout

end Sys2Proof.Machine
end

section
/-! PROOFS. The time announces that a module sends (R27, R266, R376). -/

namespace Sys2Proof.Machine

/-! ## The payload of an announce (R376) -/

theorem leNat_leBytes (n v : Nat) : leNat (leBytes n v) = v % 256 ^ n := by
  induction n generalizing v with
  | zero => exact (Nat.mod_one v).symm
  | succ n ih =>
    show (BitVec.ofNat 8 v).toNat + 256 * leNat (leBytes n (v / 256)) = _
    rw [ih, BitVec.toNat_ofNat, show 256 ^ (n + 1) = 256 * 256 ^ n from Nat.pow_succ', Nat.mod_mul]

/-- The payload of an announce from its fields. -/
def announceBytes (stratum flags root place epoch stamp : Nat) : Bytes :=
  [0x01] ++ leBytes 1 stratum ++ leBytes 1 flags ++ [0] ++ leBytes 4 root ++ leBytes 4 place ++ leBytes 4 epoch ++ leBytes 12 stamp
    ++ zeros 4

section payload
variable (stratum flags root place epoch stamp : Nat)

theorem announceBytes_length : (announceBytes stratum flags root place epoch stamp).length = 32 := rfl

theorem le_announceBytes_version : le (announceBytes stratum flags root place epoch stamp) 0 1 = 1 := rfl

theorem le_announceBytes_stratum : le (announceBytes stratum flags root place epoch stamp) 1 1 = stratum % 256 :=
  leNat_leBytes 1 stratum

theorem le_announceBytes_root : le (announceBytes stratum flags root place epoch stamp) 4 4 = root % 256 ^ 4 :=
  leNat_leBytes 4 root

theorem le_announceBytes_place : le (announceBytes stratum flags root place epoch stamp) 8 4 = place % 256 ^ 4 :=
  leNat_leBytes 4 place

end payload

/-- A payload names the module's stratum, root and place. -/
structure Body.AnnouncedBy (b : Body) (pl : Bytes) : Prop where
  length : pl.length = 32
  version : le pl 0 1 = 1
  stratum : le pl 1 1 = b.rd R.TM.TB0_TREE.STRATUM
  root : le pl 4 4 = b.rd R.TM.TB0_TREE.ROOT
  place : le pl 8 4 = b.place

theorem Body.AnnouncedBy.of_time {b : Body} {t : Time} {sb : SignalBox} {pl : Bytes}
    (h : ({ b with time := t, sb := sb } : Body).AnnouncedBy pl) : b.AnnouncedBy pl :=
  ⟨h.length, h.version, h.stratum, h.root, h.place⟩

theorem Body.announcePayload_announced (b : Body) : b.AnnouncedBy b.announcePayload := by
  have hs : b.rd R.TM.TB0_TREE.STRATUM < 256 := b.rd_lt _
  have hr : b.rd R.TM.TB0_TREE.ROOT < 256 ^ 4 := b.rd_lt _
  have hp : b.place < 256 ^ 4 := b.rd_lt _
  have e : ∃ flags epoch stamp, b.announcePayload =
      announceBytes (b.rd R.TM.TB0_TREE.STRATUM) flags (b.rd R.TM.TB0_TREE.ROOT) b.place epoch stamp := ⟨_, _, _, rfl⟩
  obtain ⟨flags, epoch, stamp, e⟩ := e
  rw [e]
  exact ⟨announceBytes_length .., le_announceBytes_version .., (le_announceBytes_stratum ..).trans (Nat.mod_eq_of_lt hs),
    (le_announceBytes_root ..).trans (Nat.mod_eq_of_lt hr), (le_announceBytes_place ..).trans (Nat.mod_eq_of_lt hp)⟩

/-! ## Hop by hop (R27, R266) -/

/-- Packets have been sent hop by hop: their counters have moved, and the outputs have grown. -/
structure Body.Hopped (b c : Body) : Prop where
  regs : OnlyRegs hopKeys b c
  mem : c.mem = b.mem
  time : c.time = b.time
  out : b.out ⊆ c.out

namespace Body.Hopped
variable {a b c : Body}

theorem refl (b : Body) : b.Hopped b := ⟨fun _ _ => rfl, rfl, rfl, fun _ h => h⟩

theorem trans (h : a.Hopped b) (g : b.Hopped c) : a.Hopped c :=
  ⟨h.regs.trans g.regs, g.mem.trans h.mem, g.time.trans h.time, fun _ ho => g.out (h.out ho)⟩

theorem rd (h : b.Hopped c) {g : Field} (hg : g.key ∉ hopKeys) : c.rd g = b.rd g := h.regs.rd hg

theorem place (h : b.Hopped c) : c.place = b.place := h.rd (by decide)

/-- The counters stand low in the junctions' registers. -/
theorem hopKeys_low : ∀ k ∈ hopKeys, k / 65536 < 14 ∧ k % 65536 < 0x1000 := by decide

theorem linkUp (h : b.Hopped c) : c.linkUp = b.linkUp := by
  funext n
  unfold Body.linkUp Body.linkState
  rw [h.rd]
  intro hm
  obtain ⟨hlow, -⟩ := hopKeys_low _ hm
  have hk : (R.L.LINK_STATUS.STATE (n / 8) (n % 8)).key = 0x181000 + 0x10000 * (n / 8) + 0x100 * (n % 8) := rfl
  omega

theorem portUp (h : b.Hopped c) (p : Nat) (railB : Bool) : c.portUp p railB = b.portUp p railB := by
  unfold Body.portUp
  rw [h.linkUp]

theorem isFenced (h : b.Hopped c) (k p : Nat) : c.isFenced k p = b.isFenced k p := by
  have hkey (e : Nat) (he : e < 256) : (R.J.FENCE.VALID k e).key ∉ hopKeys := by
    intro hm
    obtain ⟨-, hlow⟩ := hopKeys_low _ hm
    have hk : (R.J.FENCE.VALID k e).key = 0xA3000 + 0x10000 * k + 0x4 * e := rfl
    omega
  unfold Body.isFenced
  rw [Bool.eq_iff_iff, List.any_eq_true, List.any_eq_true]
  refine exists_congr fun e => and_congr_right fun he => ?_
  have hlt := List.mem_range.1 he
  rw [Body.on_eq, Body.on_eq, h.rd (hkey e hlt), h.rd (g := R.J.FENCE.PLACE k e) (hkey e hlt)]

theorem announcedBy (h : b.Hopped c) {pl : Bytes} (ha : c.AnnouncedBy pl) : b.AnnouncedBy pl :=
  ⟨ha.length, ha.version, ha.stratum.trans (h.rd (by decide)), ha.root.trans (h.rd (by decide)), ha.place.trans h.place⟩

end Body.Hopped

section hop
variable (b : Body)

theorem Body.hopped_sampled (i : Nat) : b.Hopped (b.sampled i) := by
  have e : ∃ resumed, b.sampled i = { b with sb := { b.sb with resumed := resumed } } := by
    unfold Body.sampled
    split
    · split
      · exact ⟨_, rfl⟩
      · split
        · exact ⟨b.sb.resumed, rfl⟩
        · exact ⟨_, rfl⟩
    · exact ⟨b.sb.resumed, rfl⟩
  obtain ⟨_, e⟩ := e
  rw [e]
  exact ⟨fun _ _ => rfl, rfl, rfl, fun _ h => h⟩

theorem Body.hopped_wr (f : Field) (v : Nat) (hf : f.key ∈ hopKeys) : b.Hopped (b.wr f v) :=
  ⟨OnlyRegs.wr (fun _ _ => rfl) v hf, rfl, rfl, fun _ h => h⟩

theorem Body.hopped_cons (k n c : Nat) (hf : (R.J.CONS.COUNT k n).key ∈ hopKeys) : b.Hopped (b.cons k n c) :=
  Body.Hopped.trans (b := b.setJn k _) ⟨fun _ _ => rfl, rfl, rfl, fun _ h => h⟩ (Body.hopped_wr _ (R.J.CONS.COUNT k n) _ hf)

theorem Body.hopped_pushOut (n : Nat) (bs : Bytes) : b.Hopped (b.pushOut n bs) :=
  ⟨fun _ _ => rfl, rfl, rfl, fun _ h => List.mem_cons_of_mem _ h⟩

/-- The packet as it leaves on the link. -/
def Body.onLink (b : Body) (link : Nat) (p : Packet) : Packet :=
  { p with seq := b.nextSeq p.dest p.cls, flags := if linkRailB link then p.flags ||| flRailB else p.flags }

theorem Body.sendOneHop_fenced {link : Nat} (p : Packet) (h : b.isFenced (junctionOfLink link) b.place = true) :
    b.sendOneHop link p = (b.cons (junctionOfLink link) 2 1).dropped (junctionOfLink link) 3 := if_pos h

theorem Body.sendOneHop_unfenced {link : Nat} (p : Packet) (h : b.isFenced (junctionOfLink link) b.place = false) :
    b.sendOneHop link p = (b.pushOut link (packetBytes (b.onLink link p))).cons (junctionOfLink link) 9 1 :=
  if_neg (by rw [h]; decide)

theorem hopKeys_of_link {link : Nat} (h : link < 64) : (R.J.CONS.COUNT (junctionOfLink link) 9).key ∈ hopKeys
    ∧ (R.J.CONS.COUNT (junctionOfLink link) 2).key ∈ hopKeys ∧ (R.J.DROP.COUNT (junctionOfLink link) 3).key ∈ hopKeys := by
  have hk : junctionOfLink link < 4 := Nat.div_lt_of_lt_mul h
  generalize junctionOfLink link = k at hk
  interval_cases k <;> decide

theorem Body.hopped_sendOneHop {link : Nat} (p : Packet) (hl : link < 64) : b.Hopped (b.sendOneHop link p) := by
  obtain ⟨h9, h2, h3⟩ := hopKeys_of_link hl
  cases h : b.isFenced (junctionOfLink link) b.place with
  | true =>
    rw [b.sendOneHop_fenced p h]
    exact (b.hopped_cons _ 2 1 h2).trans (Body.hopped_wr _ _ _ h3)
  | false =>
    rw [b.sendOneHop_unfenced p h]
    exact (b.hopped_pushOut _ _).trans (Body.hopped_cons _ _ 9 1 h9)

/-- A module that is not fenced sends the packet. -/
theorem Body.sendOneHop_out {link : Nat} (p : Packet) (h : b.isFenced (junctionOfLink link) b.place = false) :
    .packet link (packetBytes (b.onLink link p)) ∈ (b.sendOneHop link p).out := by
  rw [b.sendOneHop_unfenced p h]
  exact List.mem_cons_self ..

/-- A packet goes out on a link, where there is one. -/
def Body.sendOn (b : Body) (link : Option Nat) (p : Packet) : Body :=
  match link with
  | some l => b.sendOneHop l p
  | none => b

theorem portLinks_lt {port l : Nat} {railB : Bool} (h : l ∈ portLinks port railB) : l < 64 := by
  have hp : port < 10 := by
    by_contra hp
    rw [portLinks, if_neg (by omega), if_neg (by omega), if_neg (by omega), if_neg (by omega), if_neg (by omega)] at h
    exact List.not_mem_nil h
  have hall : ∀ p < 10, ∀ r : Bool, ∀ l ∈ portLinks p r, l < 64 := by decide
  exact hall port hp railB l h

theorem Body.hopped_sendOn {link : Option Nat} (p : Packet) (h : ∀ l, link = some l → l < 64) : b.Hopped (b.sendOn link p) := by
  cases link with
  | none => exact .refl b
  | some l => exact b.hopped_sendOneHop p (h l rfl)

end hop

/-! ## `TIME_ANNOUNCE_SEND` -/

/-- The announce to a neighbour as it stands before a link is chosen. -/
def Body.announcePacket (b : Body) (dest : Nat) : Packet :=
  b.plainPacket dest 5 6 0 (b.rd (R.J.SLICE.EPOCH 3 0)) b.announcePayload

/-- The first link of a torus port in service on a rail. -/
def Body.firstUp (b : Body) (port : Nat) (railB : Bool) : Option Nat := (b.portUp port railB).head?

/-- The announce to one neighbour, on one link of each rail. -/
def announceTo (n : Nat × Nat) (s : Body) : Body :=
  (((s.sampled iTM).sendOn ((s.sampled iTM).firstUp n.1 false) (s.announcePacket n.2)).sendOn ((s.sampled iTM).firstUp n.1 true)
    (s.announcePacket n.2)).stepSeq n.2 5

/-- The module announces at this instant. -/
def Body.announcing (c : Body) : Body := { c with time := { c.time with announceAt := c.ns 2 } }

/-- The module at the instant of its announces. -/
def Body.atAnnounce (b : Body) : Body :=
  (b.toLocal (b.time.announceAt + b.rd R.TM.TB0_TREE_CTRL.ANNOUNCE * 10 ^ 6)).announcing

theorem timeAnnounceSend_eq (b : Body) : timeAnnounceSend b = forEach b.atAnnounce.neighbours announceTo b.atAnnounce := rfl

theorem Body.ns_announcing (c : Body) : c.announcing.ns 2 = c.ns 2 := rfl

/-- The wait changes the time, and no clock is stretching. -/
theorem Body.atAnnounce_rest (b : Body) : ∃ t sb, b.atAnnounce = { b with time := t, sb := sb } := by
  obtain ⟨_, _, _, _, _, e⟩ := b.toLocal_later (b.time.announceAt + b.rd R.TM.TB0_TREE_CTRL.ANNOUNCE * 10 ^ 6)
  unfold Body.atAnnounce
  rw [e]
  exact ⟨_, _, rfl⟩

theorem Body.le_atAnnounce (b : Body) :
    b.time.announceAt + b.rd R.TM.TB0_TREE_CTRL.ANNOUNCE * 10 ^ 6 ≤ b.atAnnounce.ns 2 := by
  rw [Body.atAnnounce, Body.ns_announcing]
  exact b.le_toLocal _

theorem Body.announceAt_announcing (c : Body) : c.announcing.time.announceAt = c.announcing.ns 2 := rfl

/-- What an announce to the neighbour is. -/
def Body.Announces (b : Body) (n : Nat × Nat) (c : Body) : Prop :=
  ∀ (railB : Bool) (l : Nat), b.firstUp n.1 railB = some l → b.isFenced (junctionOfLink l) b.place = false →
    ∃ p : Packet, .packet l (packetBytes p) ∈ c.out ∧ p.dest = n.2 ∧ p.cls = 5 ∧ p.op = 6 ∧ b.AnnouncedBy p.payload

theorem Body.Announces.mono {b c d : Body} {n : Nat × Nat} (h : b.Announces n c) (hd : c.Hopped d) : b.Announces n d := by
  intro railB l hl hf
  obtain ⟨p, hp, rest⟩ := h railB l hl hf
  exact ⟨p, hd.out hp, rest⟩

theorem Body.hopped_stepSeq (b : Body) (dest cls : Nat) : b.Hopped (b.stepSeq dest cls) := ⟨fun _ _ => rfl, rfl, rfl, fun _ h => h⟩

theorem Body.firstUp_lt {b : Body} {port l : Nat} {railB : Bool} (h : b.firstUp port railB = some l) : l < 64 :=
  portLinks_lt (List.mem_of_mem_filter (List.mem_of_head? h))

theorem Body.Hopped.firstUp {b c : Body} (h : b.Hopped c) (port : Nat) (railB : Bool) : c.firstUp port railB = b.firstUp port railB := by
  rw [Body.firstUp, h.portUp, Body.firstUp]

theorem Body.hopped_sendFirst (b d : Body) (port : Nat) (railB : Bool) (p : Packet) : b.Hopped (b.sendOn (d.firstUp port railB) p) :=
  b.hopped_sendOn p fun _ => Body.firstUp_lt

theorem announceTo_hopped (n : Nat × Nat) (s : Body) : s.Hopped (announceTo n s) :=
  (((s.hopped_sampled iTM).trans (Body.hopped_sendFirst _ _ n.1 false _)).trans (Body.hopped_sendFirst _ _ n.1 true _)).trans
    (Body.hopped_stepSeq _ n.2 5)

/-- An announce that is not fenced off is on its link. -/
theorem Body.Hopped.sendOn_out {b c : Body} (hc : b.Hopped c) {l : Nat} (hf : b.isFenced (junctionOfLink l) b.place = false)
    (p : Packet) : .packet l (packetBytes (c.onLink l p)) ∈ (c.sendOn (some l) p).out :=
  c.sendOneHop_out p (by rw [hc.isFenced, hc.place, hf])

theorem announceTo_announces {b s : Body} (h : b.Hopped s) (n : Nat × Nat) : b.Announces n (announceTo n s) := by
  have h1 := h.trans (s.hopped_sampled iTM)
  have h2 := h1.trans (Body.hopped_sendFirst _ (s.sampled iTM) n.1 false (s.announcePacket n.2))
  have hpl := h.announcedBy s.announcePayload_announced
  intro railB l hl hf
  rw [← h1.firstUp] at hl
  cases railB with
  | false =>
    have hout := h1.sendOn_out hf (s.announcePacket n.2)
    rw [← hl] at hout
    exact ⟨_, (Body.Hopped.trans (Body.hopped_sendFirst _ _ n.1 true _) (Body.hopped_stepSeq _ n.2 5)).out hout, rfl, rfl, rfl, hpl⟩
  | true =>
    have hout := h2.sendOn_out hf (s.announcePacket n.2)
    rw [← hl] at hout
    exact ⟨_, (Body.hopped_stepSeq _ n.2 5).out hout, rfl, rfl, rfl, hpl⟩

theorem forEach_announceTo {b s : Body} (h : b.Hopped s) (l : List (Nat × Nat)) :
    s.Hopped (forEach l announceTo s) ∧ ∀ n ∈ l, b.Announces n (forEach l announceTo s) := by
  induction l generalizing s with
  | nil => exact ⟨.refl s, fun _ hn => absurd hn List.not_mem_nil⟩
  | cons m l ih =>
    have hm := announceTo_hopped m s
    obtain ⟨hh, ha⟩ := ih (h.trans hm)
    refine ⟨hm.trans hh, fun n hn => ?_⟩
    obtain rfl | hn := List.mem_cons.1 hn
    · exact (announceTo_announces h n).mono hh
    · exact ha n hn

/-- ANNOUNCE ms after the last announces each unfenced neighbour is sent one, on a link in service of each rail. -/
theorem gives_timeAnnounceSend (s : State) : Gives .timeAnnounceSend s (fun c => OnlyRegs hopKeys s.body c ∧ SameBytes s.body c
    ∧ s.body.time.announceAt + s.body.rd R.TM.TB0_TREE_CTRL.ANNOUNCE * 10 ^ 6 ≤ c.ns 2 ∧ c.time.announceAt = c.ns 2
    ∧ ∀ n ∈ s.body.neighbours, s.body.Announces n c) := by
  have e := timeAnnounceSend_eq s.body
  have hle := s.body.le_atAnnounce
  have hat : s.body.atAnnounce.time.announceAt = s.body.atAnnounce.ns 2 := Body.announceAt_announcing _
  obtain ⟨t, sb, ea⟩ := s.body.atAnnounce_rest
  rw [ea] at e hle hat
  obtain ⟨hh, ha⟩ := forEach_announceTo (.refl { s.body with time := t, sb := sb })
    (Body.neighbours { s.body with time := t, sb := sb })
  rw [← e] at hh ha
  have hns : (after timeAnnounceSend s).ns 2 = ({ s.body with time := t, sb := sb } : Body).ns 2 :=
    Body.ns_congr ((after_time _ s).trans hh.time) 2
  refine gives_run (f := timeAnnounceSend) rfl ⟨fun k hk => ?_, SameBytes.after hh.mem, hle.trans_eq hns.symm, ?_, fun n hn => ?_⟩
  · exact (after_reg _ s k).trans (hh.regs k hk)
  · rw [hns, after_time, hh.time]
    exact hat
  · intro railB l hl hf
    rw [after_out]
    obtain ⟨p, hp, hd, hc, ho, hpl⟩ := ha n hn railB l hl hf
    exact ⟨p, hp, hd, hc, ho, hpl.of_time⟩

end Sys2Proof.Machine
end

section
/-! PROOFS. The statement about time (R266, R361, R369 to R379, R381, R382, R403). -/

namespace Sys2Proof.Proofs

open Sys2Proof.Machine

theorem gives_imp {c : Instr} {s : State} {P Q : Body → Prop} (h : Gives c s P) (hpq : ∀ c, P c → Q c) : Gives c s Q := by
  obtain ⟨t, hx, hp, ht⟩ := h
  exact ⟨t, hx, hp, hpq _ ht⟩

/-- Settles O50: a clause per instruction, each by what its command leaves; a sample by the servo's cases, the choice of the parent and
of the master by induction over those among which it chooses, the announces by induction over the neighbours. -/
theorem timeRows : Obligations.TimeRows := by
  intro s b rootKeys
  refine ⟨?sample, ?holdover, ?announceSend, ?announce, ?relock, ?tb3, ?seconds, ?pair, ?request, ?noRequest, ?ptpAnnounce,
    ?timeout, ?noMaster⟩
  case sample =>
    intro a follows sampled
    refine ⟨b.le_atSample, fun hr hf => gives_tb0Sample_some s (Body.sampleOf_root hr hf),
      fun theta n hr hs => gives_tb0Sample_some s ((Body.sampleOf_other hr).trans hs), fun h => gives_tb0Sample_none s ?_⟩
    obtain ⟨hr, hf⟩ | ⟨hr, hs⟩ := h
    · exact Body.sampleOf_root_none hr hf
    · exact (Body.sampleOf_other hr).trans hs
  case holdover =>
    intro i due
    have hdue : due ↔ b.holdoverDue i := by
      show _ ∧ _ ∧ ¬(i = 0 ∧ b.isRoot = true) ↔ _
      rw [← Fin.val_eq_zero_iff]
      rfl
    rw [hdue]
    refine ⟨fun h => ?_, gives_holdover_idle⟩
    simp only [← Fin.val_eq_zero_iff]
    exact gives_holdover h
  case announceSend =>
    refine gives_imp (gives_timeAnnounceSend s) fun c hc => ?_
    obtain ⟨hr, hm, hle, hat, ha⟩ := hc
    refine ⟨hr, hm, hle, hat, fun n hn railB l hl hf => ?_⟩
    obtain ⟨p, hp, hd, hc, ho, hpl⟩ := ha n hn railB l hl hf
    exact ⟨p, hp, hd, hc, ho, hpl.length, hpl.version, hpl.stratum, hpl.root, hpl.place⟩
  case announce =>
    intro link pl heard
    refine ⟨gives_timeAnnounce_unknown s, fun h hn => gives_imp (gives_timeAnnounce_torus s h hn) fun c hc => ?_,
      gives_timeAnnounce_other s⟩
    obtain ⟨hp, hr, hm, hf, ht⟩ := hc
    exact ⟨hp, hr, hm, hf, _, ht, rfl, rfl, rfl, rfl, rfl⟩
  case relock =>
    refine fun m base => ⟨fun h => gives_relock_other s h, gives_relockSlew s base, fun h => ?_, fun h => gives_relockStep s base h⟩
    obtain ⟨rfl, hj⟩ := h
    exact gives_relockStep_refused s hj
  case tb3 =>
    exact fun m v => ⟨gives_tb3Set_refused s m v, fun hv hm => gives_tb3Set s hv hm⟩
  case seconds => exact gives_timeBaseSecondsRead s
  case pair =>
    intro m t1
    refine ⟨fun h => ⟨gives_exactly (f := sync m) rfl (sync_unheeded h), gives_exactly (f := followUp m) rfl (followUp_unheeded h),
      gives_exactly (f := delayResp m) rfl (delayResp_unheeded h)⟩, fun h => ⟨gives_sync_twoStep h, gives_sync_oneStep h,
      fun q t2 corr hw => ⟨gives_followUp h hw, gives_followUp_other h hw⟩,
      fun q t3 hw => ⟨gives_delayResp_other h hw, gives_delayResp_alone h hw, fun d => gives_delayResp h hw⟩⟩⟩
  case request => exact gives_delayReqSend
  case noRequest => exact gives_delayReqSend_idle
  case ptpAnnounce => exact fun a => ⟨gives_ptpAnnounce_unheard, gives_ptpAnnounce⟩
  case timeout => exact gives_announceReceiptTimeout
  case noMaster => exact gives_announceReceiptTimeout_idle

end Sys2Proof.Proofs
end
